-- ==== Sys2Proof/Word.lean ====
section
/-! DEFINITION. The word types of the model. -/
namespace Sys2Proof

/-- A register of the host window, and a word of a frame or of the image (R11). -/
abbrev Word := BitVec 32

/-- A byte of a flash device, of a key or of a message. -/
abbrev Byte := BitVec 8

end Sys2Proof
end

