-- ==== Sys2Proof/Syntax.lean ====
section
/-! DEFINITION. The commands of the block and the values they carry from outside it. -/
namespace Sys2Proof

/-- A byte a flash device returned wrongly during a pass: its offset within the slot and the bits that differ. -/
structure ByteErr where
  off : Nat
  flip : Byte
  deriving DecidableEq, Repr

/-- A word of a memory with check bits whose stored bits changed: the memory by its number in R406, or 32 for the
delay store; the word; and whether two bits differ. -/
structure Upset where
  mem : Nat
  word : Nat
  double : Bool
  deriving DecidableEq, Repr

/-- R48: an island's own clock gave an edge too many or too few while a tick passed: the island by its bit in
CLK_ISLAND_OK, and whether its local copy of the tick number counted twice or not at all. -/
structure Slip where
  island : Fin 15
  twice : Bool
  deriving DecidableEq, Repr

/-- What a tick brought beside its captured bits: the memory words whose stored bits changed during it (R406), and the
islands whose own clocks lost step with it (R48). -/
structure Disturb where
  upsets : List Upset
  slips : List Slip
  deriving DecidableEq, Repr

/-- R116: a frame sync that has not come: the bit clocks counted since the latest one, and the quarter-tick of the judgment. -/
structure SyncWait where
  bits : Nat
  qt : Nat
  deriving DecidableEq, Repr

/-- R271: a low of EN at a companion: the ns of companion time at which it is judged, and the ns it has lasted. -/
structure LowPulse where
  t : Nat
  lowNs : Nat
  deriving DecidableEq, Repr

/-- R277: a comparator of a companion: the ns of companion time, and its input in mV through the filter time. -/
structure TripLevel where
  t : Nat
  mv : Nat
  deriving DecidableEq, Repr

/-- R270: which way VCC of a companion crosses its lockout, and whether VDD3 is then above its power-good threshold. -/
structure Rails where
  rising : Bool
  vdd : Bool
  deriving DecidableEq, Repr

/-- The rows of the transfer table of R50. -/
inductive TransferRow where
  | fast
  | precise
  | pilotPhase
  | supervision
  | stringState
  | overrides
  | stringRequest
  | zoneFeed
  | delayed
  | equalised
  deriving DecidableEq, Repr

/-- The counting windows of R315. -/
inductive WinSrc where
  | limit
  | retry
  | audio
  | mem
  | link
  deriving DecidableEq, Repr, Inhabited

/-- The preamble that begins subframe 1 of an AES3 frame (R127). -/
inductive Preamble where
  | z
  | x
  | bad
  deriving DecidableEq, Repr

/-- One AES3 frame as received (R127 to R133): its preambles, whether a biphase violation occurred, its two subframes
(time slots 4 to 31, slot 4 in bit 0), the quarter-ticks of its own and of the next frame-start preamble, and whether
that next preamble is Z. -/
structure AesRx where
  pre : Preamble
  orderOk : Bool
  violations : Nat
  s1 : BitVec 28
  s2 : BitVec 28
  qtStart : Nat
  qtEnd : Nat
  nextZ : Bool
  deriving DecidableEq, Repr

/-- What the upstream lane of a cell link brought to a take-up (R247, R253, R256): the frame the companion last sent, whole
and in time; nothing; a frame that came too late; or the bits received from the poll up to the bound, of which 20T hold
fewer than 204. -/
inductive LinkRx where
  | asSent
  | nothing
  | late
  | bits (b : List Bool)
  deriving DecidableEq, Repr

/-- The four switches of a cell (spec file 11). -/
inductive Switch where
  | ah
  | al
  | bh
  | bl
  deriving DecidableEq, Repr, Inhabited

/-- The two legs of a cell. -/
inductive Leg where
  | a
  | b
  deriving DecidableEq, Repr, Inhabited

/-- The ECC status a NAND page read returns (R363). -/
inductive EccStatus where
  | clean
  | corrected
  | refresh
  | uncorrectable
  deriving DecidableEq, Repr, Inhabited


/-- One command of the block: one constructor for each row of spec/opcode_table.json, with the values that the
event brings from outside the block. -/
inductive Instr where
  /-- R429, R72: all rails and RESETN have held for 1.000 ms; `clksel` is the level of the CLKSEL pin. -/
  | powerOnReset (clksel : Bool)
  /-- R58, R429: a rail has stayed below its brown-out threshold for 1.0 µs. -/
  | brownOut
  /-- R58, R429: RESETN has been low for 1.0 µs. -/
  | resetnAssert
  /-- R58: the next powered domain of a shutdown is switched off. -/
  | shutdownDomainOff
  /-- R73: the main oscillator locks. -/
  | mainOscLock
  /-- R73: no lock 2.0 ms after power-on reset. -/
  | lockTimeout
  /-- R56: the next domain in order begins to ramp. -/
  | domainRampStart
  /-- R56: the ramping domain reaches RUN. -/
  | domainReachesRun
  /-- R57: the ramping domain is not in RUN 256T after its ramp began. -/
  | domainRampTimeout
  /-- R74: memory initialisation finishes. -/
  | memoryInitDone
  /-- R452: IMG starts reading the header of slot A. -/
  | imageSelectionStart
  /-- R78, R94: a header read completes; `errs` lists the bytes the NOR returned wrongly. -/
  | headerReadDone (errs : List ByteErr)
  /-- R94: the validation pass of the candidate ends. -/
  | validationPassDone (errs : List ByteErr)
  /-- R455: check 6 completes. -/
  | keyCheckDone
  /-- R93: check 7 completes. -/
  | signatureVerifyDone
  /-- R455: check 8 completes. -/
  | capabilityCheckDone
  /-- R95: the apply pass of the candidate ends. -/
  | applyPassDone (errs : List ByteErr)
  /-- R453: the next CH domain is switched off after APPLY_CRC. -/
  | applyFailDomainOff
  /-- R75: the engine islands are released and the tick number starts. -/
  | releaseTick
  /-- R98: IMG starts the standby check. -/
  | standbyCheckStart
  /-- R98: the standby check ends. -/
  | standbyCheckDone (errs : List ByteErr)
  /-- R3, R165: a tick elapses; `sd0`, `sd1` are the bits captured on its two modulator edges, `x` what disturbed
  memories and island clocks during it (R48, R406). -/
  | tick (sd0 sd1 : BitVec 20) (x : Disturb)
  /-- R183: the inner loop decides at an even tick. -/
  | decisionInstant
  /-- R231: the string whose phase the tick has may issue a command. -/
  | issueTick
  /-- R180: the outer loop runs. -/
  | outerLoopBoundary
  /-- R205: the tracker has not locked again within HOLD wraps. -/
  | mortarHoldTimeout (k : Fin 8)
  /-- R50, R52: a transfer between islands is taken up; `k` is the string for rows that lead to one string. -/
  | transferTakeup (k : Fin 8) (row : TransferRow)
  /-- R155: the audio path runs for one program sample. -/
  | programSampleBoundary
  /-- R152: the delay cross-fade of zone k ends. -/
  | delayFadeEnd (k : Fin 8)
  /-- R162: the bank cross-fade of string k ends. -/
  | firFadeEnd (k : Fin 8)
  /-- R149: the override cross-fade of zone k ends. -/
  | overrideFadeEnd (k : Fin 8)
  /-- R60: a Rack frame starts. -/
  | rackFrameStart
  /-- R370: relay r has had RLY_HOLD clear frame starts. -/
  | relayEnergise (r : Fin 4)
  /-- R369: requester p has sent no accepted HEARTBEAT for HB_T frames. -/
  | heartbeatTimeout (p : Fin 5)
  /-- R369: string k has been in SAFE for SAFE_T frames. -/
  | safeDurationExpiry (k : Fin 8)
  /-- R99: ENUM_TO frames have passed in ENUM. -/
  | enumTimeout (k : Fin 8)
  /-- R101: PRECHARGE_TO frames have passed in PRECHARGE. -/
  | prechargeTimeout (k : Fin 8)
  /-- R99: ARM_FRAMES frames have passed in ARMED. -/
  | armComplete (k : Fin 8)
  /-- R103: 4.000 s have passed in START_WAIT. -/
  | startWaitExpiry (k : Fin 8)
  /-- R329: the start test moves to its next step. -/
  | startTestStep (k : Fin 8)
  /-- R333: the start test is judged. -/
  | startTestJudgement (k : Fin 8)
  /-- R61: a Rack slot starts. -/
  | rackSlotStart
  /-- R410: the calibration round of input n closes. -/
  | senseCalRoundClose (n : Fin 20)
  /-- R411: the calibration round of cell c closes. -/
  | cellCalRoundClose (c : Fin 56)
  /-- R414: the snapshot in progress completes. -/
  | snapshotComplete
  /-- R256: the upstream frame of cell c is taken up. -/
  | telemetryTakeup (c : Fin 56) (rx : LinkRx)
  /-- R240: the oldest command of cell c is unacknowledged at its bound. -/
  | ackBoundExpiry (c : Fin 56)
  /-- R305: safe state is not confirmed in time. -/
  | confirmTimeout (k : Fin 8)
  /-- R308: string k re-enters RUN or its probe. -/
  | stringRetryEntry (k : Fin 8)
  /-- R311: the probe of string k is judged. -/
  | probeJudgement (k : Fin 8)
  /-- R315: a counting window closes. -/
  | faultWindowClose (k : Fin 8) (w : WinSrc)
  /-- R335: the DIAG window ends. -/
  | diagWindowEnd
  /-- R45: the reference is lost. -/
  | referenceLoss
  /-- R46: the reference is back. -/
  | referenceReturn
  /-- R47: the main oscillator fails. -/
  | mainOscFail
  /-- R49: an island clock fails, by its bit in CLK_ISLAND_OK. -/
  | islandClockFail (i : Fin 15)
  /-- R450: HOST is powered again. -/
  | hostDomainRestart
  /-- R116: a frame sync at quarter-tick `qt`; `sd` are the data bits of the frame it ends, one per bit clock from position 0. -/
  | tdmFrameSync (n : Fin 4) (sd : List Bool) (qt : Nat)
  /-- R116: no frame sync in time. -/
  | tdmFrameSyncMissing (n : Fin 4) (x : SyncWait)
  /-- R129: an AES3 frame ends. -/
  | aesFrame (n : Fin 2) (rx : AesRx)
  /-- R143: the master of converter n is not back within HOLD frames. -/
  | asrcHoldTimeout (n : Fin 6)
  /-- R271: EN of companion c is low. -/
  | enFall (c : Fin 56) (x : LowPulse)
  /-- R271: at `t`, companion time in ns as in every companion command, EN rises after being low for `lowNs` ns, with the CLS pin as `classH` says. -/
  | enRise (c : Fin 56) (t lowNs : Nat) (classH : Bool)
  /-- R252: a valid command frame reaches companion c. -/
  | commandFrame (c : Fin 56) (t : Nat) (cb : Byte)
  /-- R252: a valid idle frame reaches companion c. -/
  | idleFrame (c : Fin 56) (t : Nat) (cb : Byte)
  /-- R252: a frame with an error reaches companion c. -/
  | badDownstreamFrame (c : Fin 56) (t : Nat)
  /-- R274: a dead time of companion c ends. -/
  | deadTimeEnd (c : Fin 56) (t : Nat)
  /-- R278: a blanking time ends. -/
  | blankingEnd (c : Fin 56) (sw : Switch) (t : Nat)
  /-- R276: a switch-node transition is measured, its ends in quarter-nanoseconds of companion time. -/
  | switchTransitionMeasured (c : Fin 56) (leg : Leg) (tStart tEnd : Nat)
  /-- R254: companion c answers a poll. -/
  | telemetryFrameSend (c : Fin 56) (t : Nat)
  /-- R263: companion c answers a management frame. -/
  | mgmtResponseSend (c : Fin 56) (t : Nat)
  /-- R263: a management read arrives at companion c. -/
  | mgmtRead (c : Fin 56) (t : Nat) (tag : Nat) (addr : Nat)
  /-- R293: a management write arrives at companion c. -/
  | mgmtWriteCcfg (c : Fin 56) (t : Nat) (tag : Nat) (addr : Nat) (v : BitVec 16)
  /-- R264: 0x0001 is written to OPER of companion c. -/
  | operEnterOperation (c : Fin 56) (t : Nat) (tag : Nat)
  /-- R288: 0x0002 is written to OPER of companion c. -/
  | operEnterPinMode (c : Fin 56) (t : Nat) (tag : Nat)
  /-- R279: the current limit of companion c trips. -/
  | ocTrip (c : Fin 56) (x : TripLevel)
  /-- R279: its hold ends. -/
  | limitHoldEnd (c : Fin 56) (t : Nat)
  /-- R280: a desaturation comparator trips. -/
  | desatTrip (c : Fin 56) (sw : Switch) (x : TripLevel)
  /-- R280: the second over-current comparator trips on the size of V_CS. -/
  | oc2Trip (c : Fin 56) (x : TripLevel)
  /-- R284: 1.0 µs after a zero-bypass latch. -/
  | zeroBypassHoldoffEnd (c : Fin 56) (t : Nat)
  /-- R267: companion c has had no valid frame in time. -/
  | linkLossTimeout (c : Fin 56) (t : Nat)
  /-- R286: the bus of companion c is converted. -/
  | vbusConversion (c : Fin 56) (t : Nat) (code : BitVec 12)
  /-- R287: its die temperature is measured. -/
  | tempMeasurement (c : Fin 56) (t : Nat) (code : BitVec 8)
  /-- R270: VCC of companion c crosses its lockout. -/
  | vccUvlo (c : Fin 56) (t : Nat) (rails : Rails)
  /-- R272: a bootstrap supply crosses its lockout. -/
  | bootstrapThreshold (c : Fin 56) (t : Nat) (leg : Leg) (rising : Bool)
  /-- R288: the direct gate inputs of companion c change. -/
  | inPinChange (c : Fin 56) (t : Nat) (ah al bh bl : Bool)
  /-- R374: a write frame arrives on a port. -/
  | hostWriteFrame (p : Fin 5) (cmd : Word) (data : List Word) (crc : BitVec 16)
  /-- R374: a read frame arrives on a port. -/
  | hostReadFrame (p : Fin 5) (cmd : Word) (crc : BitVec 16)
  /-- R381: the arbiter grants the window; `waits` lists the waiting requesters and how long each has waited. -/
  | arbiterGrant (waits : List (Nat × Nat))
  /-- R16: requester p writes a register. -/
  | registerWrite (p : Fin 5) (addr : BitVec 20) (v : Word)
  /-- R379: the reset pin of port p has been low for 1.0 µs. -/
  | portReset (p : Fin 5)
  /-- R379: chip select rises before the CRC is complete. -/
  | linkDown (p : Fin 5)
  /-- R379: chip select has been low for more than 1.000 ms. -/
  | csLowTimeout (p : Fin 5)
  /-- R386: requester p writes HOSTIF_LOCK.OPEN. -/
  | lockOpen (p : Fin 5)
  /-- R388: it writes COMMIT. -/
  | lockCommit (p : Fin 5)
  /-- R389: it writes ABORT. -/
  | lockAbort (p : Fin 5)
  /-- R388: the committing lock is decided at a boundary. -/
  | lockCommitDecide
  /-- R390: the lease counter has reached 0. -/
  | leaseExpiry
  /-- R392: requester p reads its HOSTIF_LOCKST. -/
  | hostifLockstRead (p : Fin 5)
  /-- R59: requester p reads CLK_TICK_LO. -/
  | clkTickLoRead (p : Fin 5)
  /-- R158: requester p reads FIR_CDATA. -/
  | firCdataRead (p : Fin 5)
  /-- R157: requester p writes FIR_CDATA. -/
  | firCdataWrite (p : Fin 5) (v : Word)
  /-- R159: requester p writes FIR_COPY with GO = 1. -/
  | firCopyGo (p : Fin 5) (v : Word)
  /-- R159: a ROM copy completes. -/
  | firCopyDone
  /-- R162: requester p writes FIR_REQk.TARGET. -/
  | firBankRequest (p : Fin 5) (k : Fin 8) (target : Bool)
  /-- R190: requester p writes CHk_OL_SEL.TARGET. -/
  | olBankRequest (p : Fin 5) (k : Fin 8) (target : Bool)
  /-- R69: requester p writes RACK_CTRL.SWAP. -/
  | rackSwap (p : Fin 5)
  /-- R69: requester p writes RACK_CTRL.ABORT. -/
  | rackAbort (p : Fin 5)
  /-- R195: requester p writes CHk_INJ_CTL with GO = 1. -/
  | injGo (p : Fin 5) (k : Fin 8) (v : Word)
  /-- R197: requester p writes CHk_INJ_CTL.ABORT. -/
  | injAbort (p : Fin 5) (k : Fin 8)
  /-- R197: the injection of string k stops. -/
  | injectionEnd (k : Fin 8)
  /-- R199: requester p writes CHk_CAP_CTL with ARM = 1. -/
  | capArm (p : Fin 5) (k : Fin 8) (v : Word)
  /-- R199: requester p writes CHk_CAP_CTL.ABORT. -/
  | capAbort (p : Fin 5) (k : Fin 8)
  /-- R199: the capture of string k is done. -/
  | captureDone (k : Fin 8)
  /-- R200: requester p reads CHk_CAP_DATA. -/
  | capDataRead (p : Fin 5) (k : Fin 8)
  /-- R342: requester p writes DIAG_CRST. -/
  | diagCrstWrite (p : Fin 5) (v : Word)
  /-- R368: the Lid evaluates a PLAY request of requester p. -/
  | mailboxPlay (p : Fin 5) (arg : Byte) (tag : BitVec 16)
  /-- R368: CANCEL. -/
  | mailboxCancel (p : Fin 5) (arg : Byte) (tag : BitVec 16)
  /-- R368: RESET. -/
  | mailboxReset (p : Fin 5) (arg : Byte) (tag : BitVec 16)
  /-- R368: STOP. -/
  | mailboxStop (p : Fin 5) (arg : Byte) (tag : BitVec 16)
  /-- R368: START. -/
  | mailboxStart (p : Fin 5) (arg : Byte) (tag : BitVec 16)
  /-- R368: RESTART. -/
  | mailboxRestart (p : Fin 5) (arg : Byte) (tag : BitVec 16)
  /-- R368: ACK. -/
  | mailboxAck (p : Fin 5) (arg : Byte) (tag : BitVec 16)
  /-- R368: HEARTBEAT. -/
  | mailboxHeartbeat (p : Fin 5) (arg : Byte) (tag : BitVec 16)
  /-- R368: a request with code 0 or above 8. -/
  | mailboxInvalidCode (p : Fin 5) (code arg : Byte) (tag : BitVec 16)
  /-- R347: the eight contact inputs are converted. -/
  | contactConversion (codes : List (BitVec 10))
  /-- R357: the Stockpot reads the map blocks. -/
  | stockpotMapLoad
  /-- R359: 48 ms after FILL began. -/
  | stockpotPlayStart
  /-- R361: a repetition ends. -/
  | stockpotRepetitionEnd
  /-- R361: the gap ends. -/
  | stockpotGapEnd
  /-- R361: the fade-out ends. -/
  | stockpotFadeEnd
  /-- R363: the oldest page read completes with the device's ECC status. -/
  | nandPageReadDone (ecc : EccStatus)
  /-- R365: a block erase completes. -/
  | nandEraseDone (ok : Bool)
  /-- R365: a page program completes. -/
  | nandProgramDone (ok : Bool)
  /-- R400: requester p writes SVC_CTL.CLOSE. -/
  | svcClose (p : Fin 5)
  /-- R397: requester p writes SVC_CTL.TRY_PASS. -/
  | svcTryPass (p : Fin 5)
  /-- R398: requester p writes SVC_CTL.TRY_RESP. -/
  | svcTryResp (p : Fin 5)
  /-- R398: requester p writes SVC_CTL.REQ_CHAL. -/
  | svcReqChal (p : Fin 5)
  /-- R397: the passcode result is known. -/
  | passcodeCheckDone
  /-- R398: the response result is known. -/
  | responseCheckDone
  /-- R399: the lockout time runs out. -/
  | svcLockoutEnd
  /-- R398: the challenge is 60 s old. -/
  | challengeExpiry
  /-- R400: IDLE seconds have passed without a good SVC frame. -/
  | svcIdleClose
  /-- R401: requester p writes SVC_COMMIT. -/
  | svcCommit (p : Fin 5) (v : Word)
  /-- R403: SVC_FL_CTL.GO with DEV = NOR and OP = READ. -/
  | norRead (p : Fin 5) (slotB : Bool)
  /-- R403: OP = ERASE. -/
  | norErase (p : Fin 5) (slotB : Bool)
  /-- R403: OP = PROGRAM. -/
  | norProgram (p : Fin 5) (slotB : Bool)
  /-- R403: OP = VERIFY. -/
  | norVerify (p : Fin 5) (slotB : Bool)
  /-- R403: SVC_FL_CTL.GO with DEV = NAND and OP = READ. -/
  | nandRead (p : Fin 5)
  /-- R403: OP = ERASE. -/
  | nandErase (p : Fin 5)
  /-- R403: OP = PROGRAM. -/
  | nandProgram (p : Fin 5)
  /-- R403: OP = VERIFY. -/
  | nandVerify (p : Fin 5)
  /-- R403: the flash operation in progress ends. -/
  | flashOpDone (ok : Bool)
  /-- R403: requester p reads or writes SVC_FL_DATA. -/
  | svcFlDataAccess (p : Fin 5) (wr : Option Word)
  /-- R405: requester p writes SVC_PIN with GO = 1. -/
  | svcPinGo (p : Fin 5) (v : Word)
  /-- R405: requester p writes SVC_PIN.STOP. -/
  | svcPinStop (p : Fin 5)
  /-- R282: VCC of companion c crosses 10.5 V. -/
  | vccWarn (c : Fin 56) (t : Nat) (below : Bool)
  /-- R282: the oscillator or self-check of companion c fails. -/
  | oscillatorOrSelfCheckFailure (c : Fin 56) (t : Nat)
  deriving DecidableEq, Repr

end Sys2Proof
end

