-- ==== Sys2Proof/Machine/Arith.lean ====
section
/-! DEFINITION. The number formats and the arithmetic of spec file 00 (R7 to R10, R447) on integers: a value of a
fixed-point format is held as the integer count of its least significant bits. -/
namespace Sys2Proof.Machine

/-- R8: discard `n` fraction bits, rounding to nearest with ties toward positive infinity. -/
def rsh (x : Int) (n : Nat) : Int :=
  match n with
  | 0 => x
  | m + 1 => (x + 2 ^ m) / 2 ^ (m + 1)

/-- Discard `n` fraction bits toward negative infinity. -/
def flsh (x : Int) (n : Nat) : Int := x / 2 ^ n

/-- R8 on a quotient: `x / d` rounded to nearest, ties toward positive infinity (`d` positive). -/
def rdiv (x : Int) (d : Nat) : Int :=
  if d == 0 then 0 else (2 * x + d) / (2 * d)

/-- Bound `x` to the range from `lo` to `hi`. -/
def clampI (lo hi x : Int) : Int :=
  if x < lo then lo else if hi < x then hi else x

/-- R9: saturate to a signed format of `w` bits. -/
def sat (w : Nat) (x : Int) : Int := clampI (-(2 ^ (w - 1))) (2 ^ (w - 1) - 1) x

/-- R9: saturate to an unsigned format of `w` bits. -/
def satU (w : Nat) (x : Int) : Int := clampI 0 (2 ^ w - 1) x

/-- Saturating unsigned sum of naturals in `w` bits (R19). -/
def addSat (w a b : Nat) : Nat := min (2 ^ w - 1) (a + b)

/-- R7: the two's complement reading of the low `w` bits of `n`. -/
def sx (w n : Nat) : Int :=
  let m := n % 2 ^ w
  if w != 0 && 2 ^ (w - 1) ≤ m then (m : Int) - 2 ^ w else m

/-- The low `w` bits of an integer, as a natural number (its two's complement field). -/
def ux (w : Nat) (x : Int) : Nat := (x % 2 ^ w).toNat

/-- Bit `i` of a natural number. -/
def tbit (n i : Nat) : Bool := n / 2 ^ i % 2 == 1

/-- `w` bits of `n` from bit `lo`. -/
def bits (n lo w : Nat) : Nat := n / 2 ^ lo % 2 ^ w

/-- A truth value as a bit. -/
def b2n (b : Bool) : Nat := if b then 1 else 0

/-- Set or clear bit `i` of `n`. -/
def putBit (n i : Nat) (b : Bool) : Nat := n - b2n (tbit n i) * 2 ^ i + b2n b * 2 ^ i

/-- Replace the `w` bits of `n` from bit `lo` by `v`. -/
def putBits (n lo w v : Nat) : Nat := n - bits n lo w * 2 ^ lo + (v % 2 ^ w) * 2 ^ lo

/-- The number of ones among the low `w` bits of `n`. -/
def popcount (w n : Nat) : Nat :=
  match w with
  | 0 => 0
  | v + 1 => b2n (tbit n v) + popcount v n

/-- The integer square root by Newton's bisection on `fuel` bits. -/
def isqrtAux (n : Nat) : Nat → Nat → Nat
  | 0, r => r
  | b + 1, r => if (r + 2 ^ b) * (r + 2 ^ b) ≤ n then isqrtAux n b (r + 2 ^ b) else isqrtAux n b r

/-- ⌊√n⌋. -/
def isqrt (n : Nat) : Nat := isqrtAux n (n.log2 / 2 + 1) 0

/-- Read entry `i` of a vector; outside its range, the type's default. -/
def vat {α : Type} [Inhabited α] {n : Nat} (v : Vector α n) (i : Nat) : α := v.getD i default

/-- Write entry `i` of a vector. -/
def vset {α : Type} {n : Nat} (v : Vector α n) (i : Nat) (x : α) : Vector α n := v.setIfInBounds i x

/-- Change entry `i` of a vector. -/
def vmod {α : Type} [Inhabited α] {n : Nat} (v : Vector α n) (i : Nat) (f : α → α) : Vector α n :=
  v.setIfInBounds i (f (v.getD i default))

/-- The sum of a list of integers. -/
def sumI : List Int → Int
  | [] => 0
  | x :: t => x + sumI t

/-- Entry `i` of a list, or 0. -/
def lat (l : List Int) (i : Nat) : Int := l.getD i 0

/-- The string numbers 0 to 7 (R5). -/
def strings8 : List Nat := [0, 1, 2, 3, 4, 5, 6, 7]

/-- The cell positions 0 to 6 of a string. -/
def positions : List Nat := [0, 1, 2, 3, 4, 5, 6]

end Sys2Proof.Machine
end

