-- ==== Sys2Proof/Machine/Codes.lean ====
section
/-! DEFINITION. Line codes and checks: the 8b/10b code of the cell link (R244, R247) and the cyclic checks of the spec
(R92, R130, R250, R255). A ten-bit symbol is written with bit a first, as in R246. -/
namespace Sys2Proof.Machine

/-! ### Cyclic checks -/

/-- One bit of a check of width `w` shifted most significant bit first. -/
def crcBit (w poly : Nat) (c : Nat) (b : Bool) : Nat :=
  let top := tbit c (w - 1)
  let s := (c * 2) % 2 ^ w
  if top != b then s ^^^ poly else s

/-- One byte, most significant bit first. -/
def crcByte (w poly : Nat) (c byte : Nat) : Nat :=
  [7, 6, 5, 4, 3, 2, 1, 0].foldl (fun c i => crcBit w poly c (tbit byte i)) c

/-- R250: CRC8 of a command byte. -/
def crc8 (bytes : List Nat) : Nat := bytes.foldl (crcByte 8 0x07) 0xFF

/-- R255: the CRC-16 of cell frames and host frames. -/
def crc16 (bytes : List Nat) : Nat := bytes.foldl (crcByte 16 0x1021) 0xFFFF

/-- One bit of a reflected check. -/
def crcRefBit (poly c : Nat) (b : Bool) : Nat :=
  if (c % 2 == 1) != b then (c / 2) ^^^ poly else c / 2

/-- One byte of a reflected check, least significant bit first. -/
def crcRefByte (poly c byte : Nat) : Nat :=
  [0, 1, 2, 3, 4, 5, 6, 7].foldl (fun c i => crcRefBit poly c (tbit byte i)) c

/-- R92: a CRC-32 in progress, before its final XOR. -/
def crc32Step (c byte : Nat) : Nat := crcRefByte 0xEDB88320 c byte

/-- R92: the starting value of a CRC-32. -/
def crc32Init : Nat := 0xFFFFFFFF

/-- R92: the final XOR. -/
def crc32End (c : Nat) : Nat := c ^^^ 0xFFFFFFFF

/-- R92: the CRC-32 of some bytes. -/
def crc32 (bytes : List Nat) : Nat := crc32End (bytes.foldl crc32Step crc32Init)

/-! ### 8b/10b -/

/-- 5b/6b, as sent at negative disparity. -/
def tab6 : List Nat :=
  [0b100111, 0b011101, 0b101101, 0b110001, 0b110101, 0b101001, 0b011001, 0b111000,
   0b111001, 0b100101, 0b010101, 0b110100, 0b001101, 0b101100, 0b011100, 0b010111,
   0b011011, 0b100011, 0b010011, 0b110010, 0b001011, 0b101010, 0b011010, 0b111010,
   0b110011, 0b100110, 0b010110, 0b110110, 0b001110, 0b101110, 0b011110, 0b101011]

/-- 3b/4b, as sent at negative disparity. -/
def tab4 : List Nat := [0b1011, 0b1001, 0b0101, 0b1100, 0b1101, 0b1010, 0b0110, 0b1110]

/-- The six bits abcdei of D.x at a running disparity (`true` positive), and the disparity after them. -/
def enc6 (rd : Bool) (x : Nat) : Nat × Bool :=
  let v := tab6.getD x 0
  let n := popcount 6 v
  if n == 3 then (if x == 7 && rd then 0b000111 else v, rd)
  else (if rd then 0b111111 - v else v, !rd)

/-- The four bits fghj of D.x.y at the disparity after the first six, and the disparity after them. -/
def enc4 (rd : Bool) (x y : Nat) : Nat × Bool :=
  let alt := (!rd && (x == 17 || x == 18 || x == 20)) || (rd && (x == 11 || x == 13 || x == 14))
  let v := if y == 7 && alt then 0b0111 else tab4.getD y 0
  let n := popcount 4 v
  if n == 2 then (if y == 3 && rd then 0b0011 else v, rd)
  else (if rd then 0b1111 - v else v, !rd)

/-- A data byte as a symbol, and the disparity after it. -/
def encByte (rd : Bool) (b : Nat) : BitVec 10 × Bool :=
  let a := enc6 rd (b % 32)
  let c := enc4 a.2 (b % 32) (b / 32 % 8)
  (BitVec.ofNat 10 (a.1 * 16 + c.1), c.2)

/-- K28.5 at a running disparity; it ends at the other one. -/
def k285 (rd : Bool) : BitVec 10 := if rd then 0b1100000101 else 0b0011111010

/-- K28.1 at a running disparity; it ends at the other one. -/
def k281 (rd : Bool) : BitVec 10 := if rd then 0b1100000110 else 0b0011111001

/-- A frame: a leading K28.5 (or K28.1) and data bytes; and the disparity after it. -/
def encFrame (mgmt rd : Bool) (bytes : List Nat) : List (BitVec 10) × Bool :=
  let first := if mgmt then k281 rd else k285 rd
  let r := bytes.foldl (fun (acc : List (BitVec 10) × Bool) b =>
    let e := encByte acc.2 b
    (acc.1 ++ [e.1], e.2)) ([first], !rd)
  r

/-- The data byte of a symbol received at a running disparity; none is a code or disparity error (R247). -/
def decByte (rd : Bool) (sym : BitVec 10) : Option (Nat × Bool) :=
  let n := sym.toNat
  match (upTo32).find? (fun x => (enc6 rd x).1 == n / 16) with
  | none => none
  | some x =>
    match [0, 1, 2, 3, 4, 5, 6, 7].find? (fun y => (enc4 (enc6 rd x).2 x y).1 == n % 16) with
    | none => none
    | some y => some (y * 32 + x, (enc4 (enc6 rd x).2 x y).2)
where
  upTo32 : List Nat :=
    [0, 1, 2, 3, 4, 5, 6, 7, 8, 9, 10, 11, 12, 13, 14, 15, 16, 17, 18, 19, 20, 21, 22, 23, 24, 25, 26, 27, 28, 29, 30, 31]

/-- The data bytes of the symbols that follow a leading symbol. -/
def decBytes (rd : Bool) : List (BitVec 10) → Option (List Nat)
  | [] => some []
  | s :: t =>
    match decByte rd s with
    | none => none
    | some (b, rd1) => (decBytes rd1 t).map (b :: ·)

/-- What a receiver finds in the symbols of a frame (R247, R256). -/
inductive RxFrame where
  /-- A frame led by K28.5 (or by K28.1 when the flag is set) with its data bytes. -/
  | data (mgmt : Bool) (bytes : List Nat)
  /-- A code or disparity error, or no comma. -/
  | error
  deriving DecidableEq, Repr

/-- R247: take the frame from its leading symbol, in either encoding, and decode it from the disparity shown there. -/
def decFrame : List (BitVec 10) → RxFrame
  | [] => .error
  | s :: t =>
    let lead : Option (Bool × Bool) :=
      if s == k285 false then some (false, true) else if s == k285 true then some (false, false)
      else if s == k281 false then some (true, true) else if s == k281 true then some (true, false) else none
    match lead with
    | none => .error
    | some (m, rd) =>
      match decBytes rd t with
      | none => .error
      | some b => .data m b

/-! ### Lanes (R246, R247) -/

/-- The bits of symbols, bit a of each first (R244). -/
def symbolBits (l : List (BitVec 10)) : List Bool :=
  l.flatMap (fun s => [9, 8, 7, 6, 5, 4, 3, 2, 1, 0].map (s.getLsbD ·))

/-- R246: the first n bits of a lane from the start of its latest frame: the frame, then fill symbols D21.5 where the lane is
active, or the low level. The next frame cuts the fill short. -/
def laneBits (active : Bool) (frame : List (BitVec 10)) (n : Nat) : List Bool :=
  let f := symbolBits frame
  f.take n ++ (List.range (n - f.length)).map (fun i => active && i % 2 == 0)

/-- A comma begins at the head of the bits. -/
def commaHead (l : List Bool) : Bool :=
  l.take 7 == [false, false, true, true, true, true, true] || l.take 7 == [true, true, false, false, false, false, false]

/-- R247: the bits from the first comma on, at any bit position. -/
def fromComma : List Bool → List Bool
  | [] => []
  | b :: t => if commaHead (b :: t) then b :: t else fromComma t

/-- The first n symbols of some bits. -/
def takeSymbols : Nat → List Bool → List (BitVec 10)
  | 0, _ => []
  | n + 1, l => BitVec.ofNat 10 ((l.take 10).foldl (fun acc b => 2 * acc + b2n b) 0) :: takeSymbols n (l.drop 10)

/-- R247: the frame of n symbols that a receiver finds in the bits of a lane; none where no comma comes or the bits end before
the frame does. What follows the frame is ignored. -/
def decLane (n : Nat) (l : List Bool) : Option RxFrame :=
  let f := fromComma l
  if f.length < 10 * n then none else some (decFrame (takeSymbols n f))

/-- Split a 16-bit value into its high and low byte. -/
def hiLo (v : Nat) : List Nat := [v / 256 % 256, v % 256]

end Sys2Proof.Machine
end

