-- ==== Sys2Proof/Machine/Fields.lean ====
section
/-! DEFINITION. Names for the registers and their fields, as the spec's tables give them: `Reg.X` is the byte
address of register X (R38 and each block's table), `Fd.X_F` the place of its field F. Index letters are the spec's
(k string, p position or page, c cell, n port, and so on). -/
namespace Sys2Proof.Machine

/-- The place of one field: its register's byte address, its lowest bit and its width. -/
structure Fld where
  addr : Nat
  lo : Nat
  w : Nat
  deriving DecidableEq, Repr

def Reg.SYS_ID : Nat := 0
def Reg.SYS_CAP : Nat := 4
def Reg.SYS_STATE : Nat := 8
def Reg.SYS_STR_STATE : Nat := 0xC
def Reg.SYS_EVT : Nat := 0x10
def Reg.SYS_RESTART : Nat := 0x14
def Reg.SYS_START0 : Nat := 0x18
def Reg.SYS_START1 : Nat := 0x1C
def Reg.SYS_START2 : Nat := 0x20
def Reg.SYS_START3 : Nat := 0x24
def Reg.CLK_STATUS : Nat := 0x1000
def Reg.CLK_STEER : Nat := 0x1004
def Reg.CLK_STEER_LIM : Nat := 0x1008
def Reg.CLK_SLEW : Nat := 0x100C
def Reg.CLK_ISLAND_OK : Nat := 0x1010
def Reg.CLK_PD_STATUS : Nat := 0x1014
def Reg.CLK_PD_FAULT : Nat := 0x1018
def Reg.CLK_LATE_CNT : Nat := 0x101C
def Reg.CLK_TICK_LO : Nat := 0x1020
def Reg.CLK_TICK_HI : Nat := 0x1024
def Reg.CLK_EVT : Nat := 0x1028
def Reg.RACK_CTRL : Nat := 0x2000
def Reg.RACK_STATUS : Nat := 0x2004
def Reg.RACK_FRAME : Nat := 0x2008
def Reg.RACK_EVT : Nat := 0x200C
def Reg.RACK_SKIP_CNT : Nat := 0x2010
def Reg.RACK_CUT_CNT : Nat := 0x2014
def Reg.RACK_MIN0 : Nat := 0x2020
def Reg.RACK_MIN1 : Nat := 0x2024
def Reg.RACK_ACTIVEw (w : Nat) : Nat := 0x2400 + 4 * w
def Reg.RACK_STBYw (w : Nat) : Nat := 0x2600 + 4 * w
def Reg.TDMn_CFG (n : Nat) : Nat := 0x3000 + 0x400 * n
def Reg.TDMn_FMT (n : Nat) : Nat := 0x3004 + 0x400 * n
def Reg.TDMn_MASK (n : Nat) : Nat := 0x3008 + 0x400 * n
def Reg.TDMn_LIVE_FMT (n : Nat) : Nat := 0x300C + 0x400 * n
def Reg.TDMn_LIVE_MASK (n : Nat) : Nat := 0x3010 + 0x400 * n
def Reg.TDMn_STATUS (n : Nat) : Nat := 0x3014 + 0x400 * n
def Reg.TDMn_CLKMON (n : Nat) : Nat := 0x3018 + 0x400 * n
def Reg.TDMn_PERIOD (n : Nat) : Nat := 0x301C + 0x400 * n
def Reg.TDMn_ERR_CNT (n : Nat) : Nat := 0x3020 + 0x400 * n
def Reg.TDMn_FIFO_CNT (n : Nat) : Nat := 0x3024 + 0x400 * n
def Reg.TDMn_EVT (n : Nat) : Nat := 0x3028 + 0x400 * n
def Reg.TDMn_TXSRCj (n j : Nat) : Nat := 0x3100 + 0x400 * n + 4 * j
def Reg.TDMn_LIVE_TXSRCj (n j : Nat) : Nat := 0x3180 + 0x400 * n + 4 * j
def Reg.AESn_CFG (n : Nat) : Nat := 0x4000 + 0x400 * n
def Reg.AESn_STATUS (n : Nat) : Nat := 0x4004 + 0x400 * n
def Reg.AESn_CLKMON (n : Nat) : Nat := 0x4008 + 0x400 * n
def Reg.AESn_PERIOD (n : Nat) : Nat := 0x400C + 0x400 * n
def Reg.AESn_ERR_CNT (n : Nat) : Nat := 0x4010 + 0x400 * n
def Reg.AESn_SUBST_CNT (n : Nat) : Nat := 0x4014 + 0x400 * n
def Reg.AESn_EVT (n : Nat) : Nat := 0x4028 + 0x400 * n
def Reg.AESn_CS_Aw (n w : Nat) : Nat := 0x4100 + 0x400 * n + 4 * w
def Reg.AESn_CS_Bw (n w : Nat) : Nat := 0x4120 + 0x400 * n + 4 * w
def Reg.ALIGN_CFG : Nat := 0x5000
def Reg.ALIGN_GRP : Nat := 0x5004
def Reg.ALIGN_GAIN : Nat := 0x5008
def Reg.ALIGN_STATUS : Nat := 0x500C
def Reg.ALIGN_REQ : Nat := 0x5010
def Reg.ALIGN_UNDER0 : Nat := 0x5014
def Reg.ALIGN_UNDER1 : Nat := 0x5018
def Reg.ROUTE_EVT : Nat := 0x5028
def Reg.ASRC_CFG : Nat := 0x5040
def Reg.ASRC_GAIN : Nat := 0x5044
def Reg.ASRC_ROM_ADDR : Nat := 0x5048
def Reg.ASRC_ROM_DATA : Nat := 0x504C
def Reg.ASRCn_STATUS (n : Nat) : Nat := 0x5100 + 0x10 * n
def Reg.ASRCn_RATIO (n : Nat) : Nat := 0x5104 + 0x10 * n
def Reg.ASRCn_POS (n : Nat) : Nat := 0x5108 + 0x10 * n
def Reg.ROUTE_MIXk_i (k i : Nat) : Nat := 0x5400 + 0x10 * k + 4 * i
def Reg.ROUTE_MUTE : Nat := 0x5600
def Reg.ROUTE_OVRk (k : Nat) : Nat := 0x5620 + 4 * k
def Reg.ROUTE_DELAYk (k : Nat) : Nat := 0x5700 + 4 * k
def Reg.ROUTE_DLIVEk (k : Nat) : Nat := 0x5720 + 4 * k
def Reg.ROUTE_DS_ECC : Nat := 0x5740
def Reg.FIR_CFG : Nat := 0x6000
def Reg.FIR_STATUS : Nat := 0x6004
def Reg.FIR_CADDR : Nat := 0x6010
def Reg.FIR_CDATA : Nat := 0x6014
def Reg.FIR_COPY : Nat := 0x6018
def Reg.FIR_ROM_ADDR : Nat := 0x6020
def Reg.FIR_ROM_DATA : Nat := 0x6024
def Reg.FIR_EVT : Nat := 0x6028
def Reg.FIR_ECC : Nat := 0x6040
def Reg.FIR_REQk (k : Nat) : Nat := 0x6100 + 4 * k
def Reg.FIR_BANKk (k : Nat) : Nat := 0x6120 + 4 * k
def Reg.SIEVE_CFG : Nat := 0x7000
def Reg.SIEVE_VALID : Nat := 0x7004
def Reg.SIEVE_GD : Nat := 0x7008
def Reg.SIEVE_ABOVE : Nat := 0x700C
def Reg.SIEVE_BELOW : Nat := 0x7010
def Reg.SIEVE_SAT_CNT : Nat := 0x7014
def Reg.SIEVE_EVT : Nat := 0x7028
def Reg.SIEVE_ROM_ADDR : Nat := 0x7040
def Reg.SIEVE_ROM_DATA : Nat := 0x7044
def Reg.SIEVE_INn_CFG (n : Nat) : Nat := 0x7100 + 4 * n
def Reg.SIEVE_ACTn (n : Nat) : Nat := 0x7180 + 4 * n
def Reg.SIEVE_THn_LVL (n : Nat) : Nat := 0x7200 + 8 * n
def Reg.SIEVE_THn_CTL (n : Nat) : Nat := 0x7204 + 8 * n
def Reg.CHk_GAIN (k : Nat) : Nat := 0x8080 + 0x1000 * k
def Reg.CHk_GAIN_LIVE (k : Nat) : Nat := 0x8084 + 0x1000 * k
def Reg.CHk_OL_CFG (k : Nat) : Nat := 0x8100 + 0x1000 * k
def Reg.CHk_OL_SEL (k : Nat) : Nat := 0x8104 + 0x1000 * k
def Reg.CHk_CL_STATUS (k : Nat) : Nat := 0x8108 + 0x1000 * k
def Reg.CHk_OL_SWAP (k : Nat) : Nat := 0x810C + 0x1000 * k
def Reg.CHk_LIM_CNT (k : Nat) : Nat := 0x8110 + 0x1000 * k
def Reg.CHk_STEP_CNT (k : Nat) : Nat := 0x8114 + 0x1000 * k
def Reg.CHk_DLY_STAT (k : Nat) : Nat := 0x8118 + 0x1000 * k
def Reg.CHk_OLn_B01 (k n : Nat) : Nat := 0x8140 + 0x1000 * k + 0x20 * n
def Reg.CHk_OLn_B2A1 (k n : Nat) : Nat := 0x8144 + 0x1000 * k + 0x20 * n
def Reg.CHk_OLn_A2KI (k n : Nat) : Nat := 0x8148 + 0x1000 * k + 0x20 * n
def Reg.CHk_OLn_SHKAW (k n : Nat) : Nat := 0x814C + 0x1000 * k + 0x20 * n
def Reg.CHk_OLn_UMAX (k n : Nat) : Nat := 0x8150 + 0x1000 * k + 0x20 * n
def Reg.CHk_OLn_IMAX (k n : Nat) : Nat := 0x8154 + 0x1000 * k + 0x20 * n
def Reg.CHk_IL_BAND (k : Nat) : Nat := 0x8180 + 0x1000 * k
def Reg.CHk_IL_HOLD (k : Nat) : Nat := 0x8184 + 0x1000 * k
def Reg.CHk_ILIM (k : Nat) : Nat := 0x8188 + 0x1000 * k
def Reg.CHk_INJ_CTL (k : Nat) : Nat := 0x81A0 + 0x1000 * k
def Reg.CHk_INJ_AMP (k : Nat) : Nat := 0x81A4 + 0x1000 * k
def Reg.CHk_INJ_FREQ (k : Nat) : Nat := 0x81A8 + 0x1000 * k
def Reg.CHk_INJ_LEN (k : Nat) : Nat := 0x81AC + 0x1000 * k
def Reg.CHk_CAP_CTL (k : Nat) : Nat := 0x81B0 + 0x1000 * k
def Reg.CHk_CAP_STATUS (k : Nat) : Nat := 0x81B4 + 0x1000 * k
def Reg.CHk_CAP_ADDR (k : Nat) : Nat := 0x81B8 + 0x1000 * k
def Reg.CHk_CAP_DATA (k : Nat) : Nat := 0x81BC + 0x1000 * k
def Reg.CHk_CL_EVT (k : Nat) : Nat := 0x81E0 + 0x1000 * k
def Reg.CHk_MOR_CFG (k : Nat) : Nat := 0x8200 + 0x1000 * k
def Reg.CHk_MOR_GAIN (k : Nat) : Nat := 0x8204 + 0x1000 * k
def Reg.CHk_MOR_LIM (k : Nat) : Nat := 0x8208 + 0x1000 * k
def Reg.CHk_MOR_DET (k : Nat) : Nat := 0x820C + 0x1000 * k
def Reg.CHk_MOR_TRK (k : Nat) : Nat := 0x8210 + 0x1000 * k
def Reg.CHk_MOR_DTHETA (k : Nat) : Nat := 0x8214 + 0x1000 * k
def Reg.CHk_MOR_STATUS (k : Nat) : Nat := 0x8218 + 0x1000 * k
def Reg.CHk_MOR_DLIVE (k : Nat) : Nat := 0x821C + 0x1000 * k
def Reg.CHk_MOR_CNT (k : Nat) : Nat := 0x8220 + 0x1000 * k
def Reg.CHk_FB_ACT (k : Nat) : Nat := 0x8240 + 0x1000 * k
def Reg.CHk_FB_STUCK (k : Nat) : Nat := 0x8244 + 0x1000 * k
def Reg.CHk_FB_PL (k : Nat) : Nat := 0x8248 + 0x1000 * k
def Reg.CHk_FB_SCALE (k : Nat) : Nat := 0x824C + 0x1000 * k
def Reg.CHk_FB_TOL (k : Nat) : Nat := 0x8250 + 0x1000 * k
def Reg.CHk_FB_PWM (k : Nat) : Nat := 0x8254 + 0x1000 * k
def Reg.CHk_FB_ESC (k : Nat) : Nat := 0x8258 + 0x1000 * k
def Reg.CHk_FB_STATUS (k : Nat) : Nat := 0x8260 + 0x1000 * k
def Reg.CHk_FB_CNT (k : Nat) : Nat := 0x8264 + 0x1000 * k
def Reg.CHk_FB_RES (k : Nat) : Nat := 0x8268 + 0x1000 * k
def Reg.CHk_FB_EVT (k : Nat) : Nat := 0x82E0 + 0x1000 * k
def Reg.CHk_WH_CFG (k : Nat) : Nat := 0x8300 + 0x1000 * k
def Reg.CHk_WH_BAL (k : Nat) : Nat := 0x8304 + 0x1000 * k
def Reg.CHk_WH_FREQ (k : Nat) : Nat := 0x8308 + 0x1000 * k
def Reg.CHk_WH_ROT (k : Nat) : Nat := 0x830C + 0x1000 * k
def Reg.CHk_WH_SLOW (k : Nat) : Nat := 0x8310 + 0x1000 * k
def Reg.CHk_WH_SLOWCLR (k : Nat) : Nat := 0x8314 + 0x1000 * k
def Reg.CHk_WH_STATUS (k : Nat) : Nat := 0x8318 + 0x1000 * k
def Reg.CHk_WH_MARKS (k : Nat) : Nat := 0x831C + 0x1000 * k
def Reg.CHk_WH_CELLp (k p : Nat) : Nat := 0x8320 + 0x1000 * k + 4 * p
def Reg.CHk_WH_FAVGp (k p : Nat) : Nat := 0x8340 + 0x1000 * k + 4 * p
def Reg.CHk_WH_CNT (k : Nat) : Nat := 0x8360 + 0x1000 * k
def Reg.CHk_WH_SLOWCNT (k : Nat) : Nat := 0x8364 + 0x1000 * k
def Reg.CHk_WH_EVT (k : Nat) : Nat := 0x83E0 + 0x1000 * k
def Reg.CHk_LK_STATUS (k : Nat) : Nat := 0x8400 + 0x1000 * k
def Reg.CHk_LK_EVT (k : Nat) : Nat := 0x84E0 + 0x1000 * k
def Reg.CHk_PR_STATUS (k : Nat) : Nat := 0x8500 + 0x1000 * k
def Reg.CHk_PR_TRIP (k : Nat) : Nat := 0x8504 + 0x1000 * k
def Reg.CHk_PR_MERGE (k : Nat) : Nat := 0x8508 + 0x1000 * k
def Reg.CHk_PR_MTICK (k : Nat) : Nat := 0x850C + 0x1000 * k
def Reg.CHk_PR_CFG (k : Nat) : Nat := 0x8510 + 0x1000 * k
def Reg.CHk_PR_OCF (k : Nat) : Nat := 0x8514 + 0x1000 * k
def Reg.CHk_PR_SHORT0 (k : Nat) : Nat := 0x8518 + 0x1000 * k
def Reg.CHk_PR_SHORT1 (k : Nat) : Nat := 0x851C + 0x1000 * k
def Reg.CHk_PR_LINE (k : Nat) : Nat := 0x8520 + 0x1000 * k
def Reg.CHk_PR_REV (k : Nat) : Nat := 0x8524 + 0x1000 * k
def Reg.CHk_PR_CBUS (k : Nat) : Nat := 0x8528 + 0x1000 * k
def Reg.CHk_PR_AUX (k : Nat) : Nat := 0x852C + 0x1000 * k
def Reg.CHk_PR_VCELL (k : Nat) : Nat := 0x8530 + 0x1000 * k
def Reg.CHk_PR_CELLT (k : Nat) : Nat := 0x8534 + 0x1000 * k
def Reg.CHk_PR_WAIT (k : Nat) : Nat := 0x8538 + 0x1000 * k
def Reg.CHk_PR_PROBE0 (k : Nat) : Nat := 0x853C + 0x1000 * k
def Reg.CHk_PR_PROBE1 (k : Nat) : Nat := 0x8540 + 0x1000 * k
def Reg.CHk_PR_PROBE2 (k : Nat) : Nat := 0x8544 + 0x1000 * k
def Reg.CHk_PR_W_LIMIT (k : Nat) : Nat := 0x8550 + 0x1000 * k
def Reg.CHk_PR_W_RETRY (k : Nat) : Nat := 0x8554 + 0x1000 * k
def Reg.CHk_PR_W_AUDIO (k : Nat) : Nat := 0x8558 + 0x1000 * k
def Reg.CHk_PR_W_MEM (k : Nat) : Nat := 0x855C + 0x1000 * k
def Reg.CHk_PR_W_LINK (k : Nat) : Nat := 0x8560 + 0x1000 * k
def Reg.CHk_PR_WCNT (k : Nat) : Nat := 0x8568 + 0x1000 * k
def Reg.CHk_PR_CNT (k : Nat) : Nat := 0x856C + 0x1000 * k
def Reg.CHk_PR_ECC (k : Nat) : Nat := 0x8570 + 0x1000 * k
def Reg.CHk_PR_EVT (k : Nat) : Nat := 0x85E0 + 0x1000 * k
def Reg.CHk_LM_CFG (k : Nat) : Nat := 0x8600 + 0x1000 * k
def Reg.CHk_LM_PLIM (k : Nat) : Nat := 0x8604 + 0x1000 * k
def Reg.CHk_LM_TH0 (k : Nat) : Nat := 0x8608 + 0x1000 * k
def Reg.CHk_LM_TH1 (k : Nat) : Nat := 0x860C + 0x1000 * k
def Reg.CHk_LM_TH2 (k : Nat) : Nat := 0x8610 + 0x1000 * k
def Reg.CHk_LM_FLUX (k : Nat) : Nat := 0x8614 + 0x1000 * k
def Reg.CHk_LM_STATUS (k : Nat) : Nat := 0x8618 + 0x1000 * k
def Reg.CHk_LM_TEMP (k : Nat) : Nat := 0x861C + 0x1000 * k
def Reg.CHk_LM_PA (k : Nat) : Nat := 0x8620 + 0x1000 * k
def Reg.CHk_LM_CNT (k : Nat) : Nat := 0x8624 + 0x1000 * k
def Reg.CHk_LM_PILOT (k : Nat) : Nat := 0x8640 + 0x1000 * k
def Reg.CHk_LM_PDPH (k : Nat) : Nat := 0x8644 + 0x1000 * k
def Reg.CHk_DT_CFG (k : Nat) : Nat := 0x8660 + 0x1000 * k
def Reg.CHk_DT_LIM0 (k : Nat) : Nat := 0x8664 + 0x1000 * k
def Reg.CHk_DT_LIM1 (k : Nat) : Nat := 0x8668 + 0x1000 * k
def Reg.CHk_DT_RMIN (k : Nat) : Nat := 0x866C + 0x1000 * k
def Reg.CHk_DT_RMAX (k : Nat) : Nat := 0x8670 + 0x1000 * k
def Reg.CHk_DT_RTOL (k : Nat) : Nat := 0x8674 + 0x1000 * k
def Reg.CHk_DT_ZSCALE (k : Nat) : Nat := 0x8678 + 0x1000 * k
def Reg.CHk_DT_RBASE (k : Nat) : Nat := 0x867C + 0x1000 * k
def Reg.CHk_DT_RES (k : Nat) : Nat := 0x8680 + 0x1000 * k
def Reg.CHk_DT_STATUS (k : Nat) : Nat := 0x8684 + 0x1000 * k
def Reg.CHk_LM_EVT (k : Nat) : Nat := 0x86E0 + 0x1000 * k
def Reg.CELLc_LINK (c : Nat) : Nat := 0x10000 + 0x400 * c
def Reg.CELLc_VBUS (c : Nat) : Nat := 0x10004 + 0x400 * c
def Reg.CELLc_TELEM (c : Nat) : Nat := 0x10008 + 0x400 * c
def Reg.CELLc_FAULT (c : Nat) : Nat := 0x1000C + 0x400 * c
def Reg.CELLc_LIMIT (c : Nat) : Nat := 0x10010 + 0x400 * c
def Reg.CELLc_LINK_ERR (c : Nat) : Nat := 0x10014 + 0x400 * c
def Reg.CELLc_LINK_ERR2 (c : Nat) : Nat := 0x10018 + 0x400 * c
def Reg.CELLc_ACK (c : Nat) : Nat := 0x1001C + 0x400 * c
def Reg.CELLc_ID (c : Nat) : Nat := 0x10020 + 0x400 * c
def Reg.CELLc_CCFG01 (c : Nat) : Nat := 0x10040 + 0x400 * c
def Reg.CELLc_CCFG23 (c : Nat) : Nat := 0x10044 + 0x400 * c
def Reg.DIAG_CFG : Nat := 0x1E000
def Reg.DIAG_PVMIN : Nat := 0x1E004
def Reg.DIAG_CRST : Nat := 0x1E008
def Reg.DIAG_EVT : Nat := 0x1E028
def Reg.DIAG_ZSCALEk (k : Nat) : Nat := 0x1E100 + 8 * k
def Reg.DIAG_CSCALEk (k : Nat) : Nat := 0x1E104 + 8 * k
def Reg.DIAG_Mk_Z (k : Nat) : Nat := 0x1E200 + 0x20 * k
def Reg.DIAG_Mk_A (k : Nat) : Nat := 0x1E204 + 0x20 * k
def Reg.DIAG_Mk_C (k : Nat) : Nat := 0x1E208 + 0x20 * k
def Reg.DIAG_Mk_V (k : Nat) : Nat := 0x1E20C + 0x20 * k
def Reg.DIAG_Mk_RDC (k : Nat) : Nat := 0x1E210 + 0x20 * k
def Reg.DIAG_Mk_DC (k : Nat) : Nat := 0x1E214 + 0x20 * k
def Reg.DIAG_Ck_Z (k : Nat) : Nat := 0x1E400 + 0x20 * k
def Reg.DIAG_Ck_A (k : Nat) : Nat := 0x1E404 + 0x20 * k
def Reg.DIAG_Ck_C (k : Nat) : Nat := 0x1E408 + 0x20 * k
def Reg.DIAG_Ck_R (k : Nat) : Nat := 0x1E40C + 0x20 * k
def Reg.LID_COND : Nat := 0x20000
def Reg.LID_FLT_NEW : Nat := 0x20004
def Reg.LID_ACT : Nat := 0x20008
def Reg.LID_LATCH : Nat := 0x2000C
def Reg.LID_ZONE : Nat := 0x20010
def Reg.LID_WIN : Nat := 0x20014
def Reg.LID_STOP : Nat := 0x20018
def Reg.LID_RLY : Nat := 0x2001C
def Reg.LID_CIN : Nat := 0x20020
def Reg.LID_EVT : Nat := 0x20028
def Reg.LID_CFG0 : Nat := 0x20040
def Reg.LID_CFG1 : Nat := 0x20044
def Reg.LID_CFG2 : Nat := 0x20048
def Reg.LID_CINMODE : Nat := 0x20050
def Reg.LID_CINTH0 : Nat := 0x20054
def Reg.LID_CINTH1 : Nat := 0x20058
def Reg.LID_PERMp (p : Nat) : Nat := 0x20060 + 4 * p
def Reg.LID_RLYr_MASK (r : Nat) : Nat := 0x20080 + 4 * r
def Reg.LID_CADCi (i : Nat) : Nat := 0x200A0 + 4 * i
def Reg.LID_PRIe_TRIG (e : Nat) : Nat := 0x20100 + 0x10 * e
def Reg.LID_PRIe_ACT (e : Nat) : Nat := 0x20104 + 0x10 * e
def Reg.LID_PRIe_MSG (e : Nat) : Nat := 0x20108 + 0x10 * e
def Reg.LID_PRIe_REP (e : Nat) : Nat := 0x2010C + 0x10 * e
def Reg.LID_SUPk_LIM0 (k : Nat) : Nat := 0x20400 + 0x40 * k
def Reg.LID_SUPk_LIM1 (k : Nat) : Nat := 0x20404 + 0x40 * k
def Reg.LID_SUPk_LIM2 (k : Nat) : Nat := 0x20408 + 0x40 * k
def Reg.LID_SUPk_LRNMIN (k : Nat) : Nat := 0x2040C + 0x40 * k
def Reg.LID_SUPk_LRNMAX (k : Nat) : Nat := 0x20410 + 0x40 * k
def Reg.LID_SUPk_BZ (k : Nat) : Nat := 0x20414 + 0x40 * k
def Reg.LID_SUPk_BA (k : Nat) : Nat := 0x20418 + 0x40 * k
def Reg.LID_SUPk_BR (k : Nat) : Nat := 0x2041C + 0x40 * k
def Reg.LID_SUPk_BC (k : Nat) : Nat := 0x20420 + 0x40 * k
def Reg.LID_SUPk_BE (k : Nat) : Nat := 0x20424 + 0x40 * k
def Reg.LID_SUPk_VERD (k : Nat) : Nat := 0x20430 + 0x40 * k
def Reg.LID_SUPk_CNT (k : Nat) : Nat := 0x20434 + 0x40 * k
def Reg.LID_MBp_REQ (p : Nat) : Nat := 0x20800 + 0x40 * p
def Reg.LID_MBp_STAT (p : Nat) : Nat := 0x20804 + 0x40 * p
def Reg.STOCKPOT_GEOM : Nat := 0x21000
def Reg.STOCKPOT_CFG : Nat := 0x21004
def Reg.STOCKPOT_STATUS : Nat := 0x21008
def Reg.STOCKPOT_POS : Nat := 0x2100C
def Reg.STOCKPOT_POOL : Nat := 0x21010
def Reg.STOCKPOT_CNT : Nat := 0x21014
def Reg.STOCKPOT_PATROL : Nat := 0x21018
def Reg.STOCKPOT_MAPGEN : Nat := 0x2101C
def Reg.STOCKPOT_UNDER : Nat := 0x21020
def Reg.STOCKPOT_EVT : Nat := 0x21028
def Reg.STOCKPOT_BAD0 : Nat := 0x21080
def Reg.STOCKPOT_BAD1 : Nat := 0x21084
def Reg.STOCKPOT_DIR_ADDR : Nat := 0x21090
def Reg.STOCKPOT_DIR_DATA : Nat := 0x21094
def Reg.HOSTIF_CFG (p : Nat) : Nat := 0x22000 + 0x100 * p
def Reg.HOSTIF_LEASE (p : Nat) : Nat := 0x22004 + 0x100 * p
def Reg.HOSTIF_LOCK (p : Nat) : Nat := 0x22008 + 0x100 * p
def Reg.HOSTIF_LOCKST (p : Nat) : Nat := 0x2200C + 0x100 * p
def Reg.HOSTIF_LOCKERR (p : Nat) : Nat := 0x22010 + 0x100 * p
def Reg.HOSTIF_GRANTS (p : Nat) : Nat := 0x22020 + 0x100 * p
def Reg.HOSTIF_WAITS (p : Nat) : Nat := 0x22024 + 0x100 * p
def Reg.HOSTIF_EVT (p : Nat) : Nat := 0x22028 + 0x100 * p
def Reg.HOSTIF_ERRS (p : Nat) : Nat := 0x2202C + 0x100 * p
def Reg.HOSTIF_LINK (p : Nat) : Nat := 0x22040 + 0x100 * p
def Reg.HOSTIF_LAST (p : Nat) : Nat := 0x22044 + 0x100 * p
def Reg.HOSTIF_SEQ (p : Nat) : Nat := 0x22048 + 0x100 * p
def Reg.SVC_STATE : Nat := 0x23000
def Reg.SVC_CTL : Nat := 0x23004
def Reg.SVC_CFG : Nat := 0x23008
def Reg.SVC_PASSLEN : Nat := 0x2300C
def Reg.SVC_EVT : Nat := 0x23028
def Reg.SVC_CHALw (w : Nat) : Nat := 0x23040 + 4 * w
def Reg.SVC_RESPw (w : Nat) : Nat := 0x23050 + 4 * w
def Reg.SVC_PASSw (w : Nat) : Nat := 0x23060 + 4 * w
def Reg.SVC_KEYw (w : Nat) : Nat := 0x23080 + 4 * w
def Reg.SVC_COMMIT : Nat := 0x230A0
def Reg.SVC_UID0 : Nat := 0x230A8
def Reg.SVC_UID1 : Nat := 0x230AC
def Reg.SVC_FL_CTL : Nat := 0x230C0
def Reg.SVC_FL_ADDR : Nat := 0x230C4
def Reg.SVC_FL_PTR : Nat := 0x230C8
def Reg.SVC_FL_DATA : Nat := 0x230CC
def Reg.SVC_FL_STATUS : Nat := 0x230D0
def Reg.SVC_PIN : Nat := 0x230E0
def Reg.BG_EVT : Nat := 0x24028
def Reg.BG_SCR_LAST : Nat := 0x24040
def Reg.BG_SCR_SUPER : Nat := 0x24044
def Reg.BG_SCR_DSPOS : Nat := 0x24048
def Reg.BG_SCR_DS : Nat := 0x2404C
def Reg.BG_SCAL_CFG : Nat := 0x24050
def Reg.BG_CCAL_CFG : Nat := 0x24054
def Reg.BG_SCRm (m : Nat) : Nat := 0x24100 + 4 * m
def Reg.BG_SCALn_MEAN (n : Nat) : Nat := 0x24200 + 8 * n
def Reg.BG_SCALn_STAT (n : Nat) : Nat := 0x24204 + 8 * n
def Reg.BG_CCALc (c : Nat) : Nat := 0x24300 + 4 * c
def Reg.BG_SNAP_SETs (s : Nat) : Nat := 0x24400 + 4 * s
def Reg.BG_SNAPs_STAT (s : Nat) : Nat := 0x24480 + 8 * s
def Reg.BG_SNAPs_TICK (s : Nat) : Nat := 0x24484 + 8 * s
def Reg.BG_SNAP_ADDRi (i : Nat) : Nat := 0x24800 + 4 * i
def Reg.BG_SNAPs_Dj (s j : Nat) : Nat := 0x24C00 + 0x40 * s + 4 * j
def Reg.EVT_SUMw (w : Nat) : Nat := 0x25000 + 4 * w
def Reg.EVT_HOSTh_SUMw (h w : Nat) : Nat := 0x25040 + 0x10 * h + 4 * w
def Reg.EVT_STRw (w : Nat) : Nat := 0x25100 + 4 * w
def Reg.IMG_STATUS : Nat := 0x26000
def Reg.IMG_SLOT_A : Nat := 0x26004
def Reg.IMG_SLOT_B : Nat := 0x26008
def Reg.IMG_SEQ_A : Nat := 0x2600C
def Reg.IMG_SEQ_B : Nat := 0x26010
def Reg.IMG_SITE_ID : Nat := 0x26014
def Reg.IMG_PROFILE : Nat := 0x26018
def Reg.IMG_ERR : Nat := 0x26020
def Reg.IMG_ERR_OFF : Nat := 0x26024
def Reg.IMG_EVT : Nat := 0x26028
def Reg.SYS_IENh (h : Nat) : Nat := 0x30 + 4 * h
def Reg.CLK_IENh (h : Nat) : Nat := 0x1030 + 4 * h
def Reg.RACK_IENh (h : Nat) : Nat := 0x2030 + 4 * h
def Reg.TDMn_IENh (n h : Nat) : Nat := 0x3030 + 0x400 * n + 4 * h
def Reg.AESn_IENh (n h : Nat) : Nat := 0x4030 + 0x400 * n + 4 * h
def Reg.ROUTE_IENh (h : Nat) : Nat := 0x5030 + 4 * h
def Reg.FIR_IENh (h : Nat) : Nat := 0x6030 + 4 * h
def Reg.SIEVE_IENh (h : Nat) : Nat := 0x7030 + 4 * h
def Reg.CHk_CL_IENh (k h : Nat) : Nat := 0x81F0 + 0x1000 * k + 4 * h
def Reg.CHk_FB_IENh (k h : Nat) : Nat := 0x82F0 + 0x1000 * k + 4 * h
def Reg.CHk_WH_IENh (k h : Nat) : Nat := 0x83F0 + 0x1000 * k + 4 * h
def Reg.CHk_LK_IENh (k h : Nat) : Nat := 0x84F0 + 0x1000 * k + 4 * h
def Reg.CHk_PR_IENh (k h : Nat) : Nat := 0x85F0 + 0x1000 * k + 4 * h
def Reg.CHk_LM_IENh (k h : Nat) : Nat := 0x86F0 + 0x1000 * k + 4 * h
def Reg.DIAG_IENh (h : Nat) : Nat := 0x1E030 + 4 * h
def Reg.LID_IENh (h : Nat) : Nat := 0x20030 + 4 * h
def Reg.STOCKPOT_IENh (h : Nat) : Nat := 0x21030 + 4 * h
def Reg.HOSTIF_IENh (p h : Nat) : Nat := 0x22030 + 0x100 * p + 4 * h
def Reg.SVC_IENh (h : Nat) : Nat := 0x23030 + 4 * h
def Reg.BG_IENh (h : Nat) : Nat := 0x24030 + 4 * h
def Reg.IMG_IENh (h : Nat) : Nat := 0x26030 + 4 * h

def Fd.SYS_ID_PART : Fld := ⟨Reg.SYS_ID, 16, 16⟩
def Fd.SYS_ID_DIE_REV : Fld := ⟨Reg.SYS_ID, 8, 8⟩
def Fd.SYS_ID_MAX_PROFILE : Fld := ⟨Reg.SYS_ID, 0, 8⟩
def Fd.SYS_CAP_CELLS : Fld := ⟨Reg.SYS_CAP, 16, 6⟩
def Fd.SYS_CAP_STR_PRESENT : Fld := ⟨Reg.SYS_CAP, 0, 8⟩
def Fd.SYS_STATE_STATE : Fld := ⟨Reg.SYS_STATE, 0, 4⟩
def Fd.SYS_STR_STATE_STR (k : Nat) : Fld := ⟨Reg.SYS_STR_STATE, 4 * k, 4⟩
def Fd.SYS_EVT_SYS_RUN : Fld := ⟨Reg.SYS_EVT, 2, 1⟩
def Fd.SYS_EVT_START_FAIL : Fld := ⟨Reg.SYS_EVT, 1, 1⟩
def Fd.SYS_EVT_STR_RUN : Fld := ⟨Reg.SYS_EVT, 0, 1⟩
def Fd.SYS_RESTART_CNT (k : Nat) : Fld := ⟨Reg.SYS_RESTART, 4 * k, 4⟩
def Fd.SYS_START0_PRECHARGE_TO : Fld := ⟨Reg.SYS_START0, 16, 16⟩
def Fd.SYS_START0_ARM_FRAMES : Fld := ⟨Reg.SYS_START0, 8, 8⟩
def Fd.SYS_START0_ENUM_TO : Fld := ⟨Reg.SYS_START0, 0, 8⟩
def Fd.SYS_START1_RAMP : Fld := ⟨Reg.SYS_START1, 16, 16⟩
def Fd.SYS_START1_IMBALANCE : Fld := ⟨Reg.SYS_START1, 0, 16⟩
def Fd.SYS_START2_STABLE : Fld := ⟨Reg.SYS_START2, 0, 16⟩
def Fd.SYS_START3_CBUS_HI : Fld := ⟨Reg.SYS_START3, 16, 16⟩
def Fd.SYS_START3_CBUS_LO : Fld := ⟨Reg.SYS_START3, 0, 16⟩
def Fd.CLK_STATUS_CLKSEL : Fld := ⟨Reg.CLK_STATUS, 2, 1⟩
def Fd.CLK_STATUS_HOLDOVER : Fld := ⟨Reg.CLK_STATUS, 1, 1⟩
def Fd.CLK_STATUS_LOCK : Fld := ⟨Reg.CLK_STATUS, 0, 1⟩
def Fd.CLK_STEER_STEER : Fld := ⟨Reg.CLK_STEER, 0, 24⟩
def Fd.CLK_STEER_LIM_LIM : Fld := ⟨Reg.CLK_STEER_LIM, 0, 23⟩
def Fd.CLK_SLEW_STEP : Fld := ⟨Reg.CLK_SLEW, 0, 12⟩
def Fd.CLK_ISLAND_OK_OK : Fld := ⟨Reg.CLK_ISLAND_OK, 0, 15⟩
def Fd.CLK_PD_STATUS_RUN : Fld := ⟨Reg.CLK_PD_STATUS, 0, 16⟩
def Fd.CLK_PD_FAULT_FAULT_OFF : Fld := ⟨Reg.CLK_PD_FAULT, 0, 16⟩
def Fd.CLK_LATE_CNT_LAST_SRC : Fld := ⟨Reg.CLK_LATE_CNT, 24, 4⟩
def Fd.CLK_LATE_CNT_COUNT : Fld := ⟨Reg.CLK_LATE_CNT, 0, 24⟩
def Fd.CLK_TICK_LO_TICK_LO : Fld := ⟨Reg.CLK_TICK_LO, 0, 32⟩
def Fd.CLK_TICK_HI_TICK_HI : Fld := ⟨Reg.CLK_TICK_HI, 0, 32⟩
def Fd.CLK_EVT_PD_FAULT : Fld := ⟨Reg.CLK_EVT, 5, 1⟩
def Fd.CLK_EVT_STEER_LIMIT : Fld := ⟨Reg.CLK_EVT, 4, 1⟩
def Fd.CLK_EVT_LATE : Fld := ⟨Reg.CLK_EVT, 3, 1⟩
def Fd.CLK_EVT_ISLAND_FAIL : Fld := ⟨Reg.CLK_EVT, 2, 1⟩
def Fd.CLK_EVT_REF_BACK : Fld := ⟨Reg.CLK_EVT, 1, 1⟩
def Fd.CLK_EVT_REF_LOSS : Fld := ⟨Reg.CLK_EVT, 0, 1⟩
def Fd.RACK_CTRL_ABORT : Fld := ⟨Reg.RACK_CTRL, 1, 1⟩
def Fd.RACK_CTRL_SWAP : Fld := ⟨Reg.RACK_CTRL, 0, 1⟩
def Fd.RACK_STATUS_SWAP_PENDING : Fld := ⟨Reg.RACK_STATUS, 16, 1⟩
def Fd.RACK_STATUS_CUR_CODE : Fld := ⟨Reg.RACK_STATUS, 12, 4⟩
def Fd.RACK_STATUS_CUR_SLOT : Fld := ⟨Reg.RACK_STATUS, 0, 8⟩
def Fd.RACK_FRAME_FRAME : Fld := ⟨Reg.RACK_FRAME, 0, 32⟩
def Fd.RACK_EVT_REFUSED : Fld := ⟨Reg.RACK_EVT, 1, 1⟩
def Fd.RACK_EVT_SWAP_DONE : Fld := ⟨Reg.RACK_EVT, 0, 1⟩
def Fd.RACK_SKIP_CNT_SKIP : Fld := ⟨Reg.RACK_SKIP_CNT, 0, 32⟩
def Fd.RACK_CUT_CNT_CUT : Fld := ⟨Reg.RACK_CUT_CNT, 0, 32⟩
def Fd.RACK_MIN0_MIN_4 : Fld := ⟨Reg.RACK_MIN0, 24, 8⟩
def Fd.RACK_MIN0_MIN_3 : Fld := ⟨Reg.RACK_MIN0, 16, 8⟩
def Fd.RACK_MIN0_MIN_2 : Fld := ⟨Reg.RACK_MIN0, 8, 8⟩
def Fd.RACK_MIN0_MIN_1 : Fld := ⟨Reg.RACK_MIN0, 0, 8⟩
def Fd.RACK_MIN1_MIN_7 : Fld := ⟨Reg.RACK_MIN1, 16, 8⟩
def Fd.RACK_MIN1_MIN_6 : Fld := ⟨Reg.RACK_MIN1, 8, 8⟩
def Fd.RACK_MIN1_MIN_5 : Fld := ⟨Reg.RACK_MIN1, 0, 8⟩
def Fd.RACK_ACTIVEw_ENTRY_ODD (w : Nat) : Fld := ⟨Reg.RACK_ACTIVEw w, 16, 16⟩
def Fd.RACK_ACTIVEw_ENTRY_EVEN (w : Nat) : Fld := ⟨Reg.RACK_ACTIVEw w, 0, 16⟩
def Fd.RACK_STBYw_ENTRY_ODD (w : Nat) : Fld := ⟨Reg.RACK_STBYw w, 16, 16⟩
def Fd.RACK_STBYw_ENTRY_EVEN (w : Nat) : Fld := ⟨Reg.RACK_STBYw w, 0, 16⟩
def Fd.TDMn_CFG_FRAME_BITS (n : Nat) : Fld := ⟨Reg.TDMn_CFG n, 16, 11⟩
def Fd.TDMn_CFG_RATE (n : Nat) : Fld := ⟨Reg.TDMn_CFG n, 8, 2⟩
def Fd.TDMn_CFG_IDLE (n : Nat) : Fld := ⟨Reg.TDMn_CFG n, 6, 1⟩
def Fd.TDMn_CFG_FS_LEN (n : Nat) : Fld := ⟨Reg.TDMn_CFG n, 5, 1⟩
def Fd.TDMn_CFG_FS_POL (n : Nat) : Fld := ⟨Reg.TDMn_CFG n, 4, 1⟩
def Fd.TDMn_CFG_EDGE (n : Nat) : Fld := ⟨Reg.TDMn_CFG n, 3, 1⟩
def Fd.TDMn_CFG_CLKMODE (n : Nat) : Fld := ⟨Reg.TDMn_CFG n, 1, 1⟩
def Fd.TDMn_CFG_ROLE (n : Nat) : Fld := ⟨Reg.TDMn_CFG n, 0, 1⟩
def Fd.TDMn_FMT_SLOTS (n : Nat) : Fld := ⟨Reg.TDMn_FMT n, 16, 6⟩
def Fd.TDMn_FMT_WORD (n : Nat) : Fld := ⟨Reg.TDMn_FMT n, 12, 2⟩
def Fd.TDMn_FMT_WIDTH (n : Nat) : Fld := ⟨Reg.TDMn_FMT n, 8, 2⟩
def Fd.TDMn_FMT_OFFSET (n : Nat) : Fld := ⟨Reg.TDMn_FMT n, 0, 5⟩
def Fd.TDMn_MASK_MASK (n : Nat) : Fld := ⟨Reg.TDMn_MASK n, 0, 32⟩
def Fd.TDMn_LIVE_FMT_SLOTS (n : Nat) : Fld := ⟨Reg.TDMn_LIVE_FMT n, 16, 6⟩
def Fd.TDMn_LIVE_FMT_WORD (n : Nat) : Fld := ⟨Reg.TDMn_LIVE_FMT n, 12, 2⟩
def Fd.TDMn_LIVE_FMT_WIDTH (n : Nat) : Fld := ⟨Reg.TDMn_LIVE_FMT n, 8, 2⟩
def Fd.TDMn_LIVE_FMT_OFFSET (n : Nat) : Fld := ⟨Reg.TDMn_LIVE_FMT n, 0, 5⟩
def Fd.TDMn_LIVE_MASK_MASK (n : Nat) : Fld := ⟨Reg.TDMn_LIVE_MASK n, 0, 32⟩
def Fd.TDMn_STATUS_ACCEPT (n : Nat) : Fld := ⟨Reg.TDMn_STATUS n, 31, 1⟩
def Fd.TDMn_STATUS_UPDATE_PENDING (n : Nat) : Fld := ⟨Reg.TDMn_STATUS n, 30, 1⟩
def Fd.TDMn_STATUS_CLEAN (n : Nat) : Fld := ⟨Reg.TDMn_STATUS n, 16, 7⟩
def Fd.TDMn_STATUS_FILL (n : Nat) : Fld := ⟨Reg.TDMn_STATUS n, 8, 5⟩
def Fd.TDMn_STATUS_CHANNELS (n : Nat) : Fld := ⟨Reg.TDMn_STATUS n, 0, 6⟩
def Fd.TDMn_CLKMON_TOL (n : Nat) : Fld := ⟨Reg.TDMn_CLKMON n, 0, 11⟩
def Fd.TDMn_PERIOD_PERIOD (n : Nat) : Fld := ⟨Reg.TDMn_PERIOD n, 0, 20⟩
def Fd.TDMn_ERR_CNT_RATE (n : Nat) : Fld := ⟨Reg.TDMn_ERR_CNT n, 24, 8⟩
def Fd.TDMn_ERR_CNT_MISSING (n : Nat) : Fld := ⟨Reg.TDMn_ERR_CNT n, 16, 8⟩
def Fd.TDMn_ERR_CNT_EARLY (n : Nat) : Fld := ⟨Reg.TDMn_ERR_CNT n, 8, 8⟩
def Fd.TDMn_ERR_CNT_LOSS (n : Nat) : Fld := ⟨Reg.TDMn_ERR_CNT n, 0, 8⟩
def Fd.TDMn_FIFO_CNT_OVERFLOW (n : Nat) : Fld := ⟨Reg.TDMn_FIFO_CNT n, 16, 16⟩
def Fd.TDMn_FIFO_CNT_UNDERFLOW (n : Nat) : Fld := ⟨Reg.TDMn_FIFO_CNT n, 0, 16⟩
def Fd.TDMn_EVT_UPDATE (n : Nat) : Fld := ⟨Reg.TDMn_EVT n, 3, 1⟩
def Fd.TDMn_EVT_FIFO (n : Nat) : Fld := ⟨Reg.TDMn_EVT n, 2, 1⟩
def Fd.TDMn_EVT_LOSS (n : Nat) : Fld := ⟨Reg.TDMn_EVT n, 1, 1⟩
def Fd.TDMn_EVT_LOCK (n : Nat) : Fld := ⟨Reg.TDMn_EVT n, 0, 1⟩
def Fd.TDMn_TXSRCj_KIND (n j : Nat) : Fld := ⟨Reg.TDMn_TXSRCj n j, 5, 3⟩
def Fd.TDMn_TXSRCj_STRING (n j : Nat) : Fld := ⟨Reg.TDMn_TXSRCj n j, 0, 3⟩
def Fd.TDMn_LIVE_TXSRCj_KIND (n j : Nat) : Fld := ⟨Reg.TDMn_LIVE_TXSRCj n j, 5, 3⟩
def Fd.TDMn_LIVE_TXSRCj_STRING (n j : Nat) : Fld := ⟨Reg.TDMn_LIVE_TXSRCj n j, 0, 3⟩
def Fd.AESn_CFG_RATE (n : Nat) : Fld := ⟨Reg.AESn_CFG n, 7, 2⟩
def Fd.AESn_CFG_ACCEPT_CONSUMER (n : Nat) : Fld := ⟨Reg.AESn_CFG n, 6, 1⟩
def Fd.AESn_CFG_ACCEPT_EMPH (n : Nat) : Fld := ⟨Reg.AESn_CFG n, 5, 1⟩
def Fd.AESn_CFG_CRCC_CHECK (n : Nat) : Fld := ⟨Reg.AESn_CFG n, 4, 1⟩
def Fd.AESn_CFG_VMODE (n : Nat) : Fld := ⟨Reg.AESn_CFG n, 3, 1⟩
def Fd.AESn_CFG_ENABLE (n : Nat) : Fld := ⟨Reg.AESn_CFG n, 0, 1⟩
def Fd.AESn_STATUS_ACCEPT (n : Nat) : Fld := ⟨Reg.AESn_STATUS n, 31, 1⟩
def Fd.AESn_STATUS_CS_A (n : Nat) : Fld := ⟨Reg.AESn_STATUS n, 30, 1⟩
def Fd.AESn_STATUS_CS_B (n : Nat) : Fld := ⟨Reg.AESn_STATUS n, 29, 1⟩
def Fd.AESn_STATUS_MUTE_A (n : Nat) : Fld := ⟨Reg.AESn_STATUS n, 28, 1⟩
def Fd.AESn_STATUS_MUTE_B (n : Nat) : Fld := ⟨Reg.AESn_STATUS n, 27, 1⟩
def Fd.AESn_STATUS_CLEAN (n : Nat) : Fld := ⟨Reg.AESn_STATUS n, 16, 7⟩
def Fd.AESn_CLKMON_TOL (n : Nat) : Fld := ⟨Reg.AESn_CLKMON n, 0, 11⟩
def Fd.AESn_PERIOD_PERIOD (n : Nat) : Fld := ⟨Reg.AESn_PERIOD n, 0, 20⟩
def Fd.AESn_ERR_CNT_LOSS (n : Nat) : Fld := ⟨Reg.AESn_ERR_CNT n, 24, 8⟩
def Fd.AESn_ERR_CNT_BIPHASE (n : Nat) : Fld := ⟨Reg.AESn_ERR_CNT n, 16, 8⟩
def Fd.AESn_ERR_CNT_BLOCK (n : Nat) : Fld := ⟨Reg.AESn_ERR_CNT n, 8, 8⟩
def Fd.AESn_ERR_CNT_CRCC (n : Nat) : Fld := ⟨Reg.AESn_ERR_CNT n, 0, 8⟩
def Fd.AESn_SUBST_CNT_VALIDITY (n : Nat) : Fld := ⟨Reg.AESn_SUBST_CNT n, 16, 16⟩
def Fd.AESn_SUBST_CNT_PARITY (n : Nat) : Fld := ⟨Reg.AESn_SUBST_CNT n, 0, 16⟩
def Fd.AESn_EVT_DATA (n : Nat) : Fld := ⟨Reg.AESn_EVT n, 3, 1⟩
def Fd.AESn_EVT_CS (n : Nat) : Fld := ⟨Reg.AESn_EVT n, 2, 1⟩
def Fd.AESn_EVT_LOSS (n : Nat) : Fld := ⟨Reg.AESn_EVT n, 1, 1⟩
def Fd.AESn_EVT_LOCK (n : Nat) : Fld := ⟨Reg.AESn_EVT n, 0, 1⟩
def Fd.AESn_CS_Aw_BYTE3 (n w : Nat) : Fld := ⟨Reg.AESn_CS_Aw n w, 24, 8⟩
def Fd.AESn_CS_Aw_BYTE2 (n w : Nat) : Fld := ⟨Reg.AESn_CS_Aw n w, 16, 8⟩
def Fd.AESn_CS_Aw_BYTE1 (n w : Nat) : Fld := ⟨Reg.AESn_CS_Aw n w, 8, 8⟩
def Fd.AESn_CS_Aw_BYTE0 (n w : Nat) : Fld := ⟨Reg.AESn_CS_Aw n w, 0, 8⟩
def Fd.AESn_CS_Bw_BYTE3 (n w : Nat) : Fld := ⟨Reg.AESn_CS_Bw n w, 24, 8⟩
def Fd.AESn_CS_Bw_BYTE2 (n w : Nat) : Fld := ⟨Reg.AESn_CS_Bw n w, 16, 8⟩
def Fd.AESn_CS_Bw_BYTE1 (n w : Nat) : Fld := ⟨Reg.AESn_CS_Bw n w, 8, 8⟩
def Fd.AESn_CS_Bw_BYTE0 (n w : Nat) : Fld := ⟨Reg.AESn_CS_Bw n w, 0, 8⟩
def Fd.ALIGN_CFG_LOCK_WIN : Fld := ⟨Reg.ALIGN_CFG, 16, 8⟩
def Fd.ALIGN_CFG_TARGET : Fld := ⟨Reg.ALIGN_CFG, 8, 4⟩
def Fd.ALIGN_CFG_REF : Fld := ⟨Reg.ALIGN_CFG, 0, 3⟩
def Fd.ALIGN_GRP_G (n : Nat) : Fld := ⟨Reg.ALIGN_GRP, 3 * n, 3⟩
def Fd.ALIGN_GAIN_KP : Fld := ⟨Reg.ALIGN_GAIN, 16, 16⟩
def Fd.ALIGN_GAIN_KI : Fld := ⟨Reg.ALIGN_GAIN, 0, 16⟩
def Fd.ALIGN_STATUS_REF_LOCK : Fld := ⟨Reg.ALIGN_STATUS, 31, 1⟩
def Fd.ALIGN_STATUS_HOLD : Fld := ⟨Reg.ALIGN_STATUS, 30, 1⟩
def Fd.ALIGN_STATUS_ERR : Fld := ⟨Reg.ALIGN_STATUS, 0, 24⟩
def Fd.ALIGN_REQ_REQ : Fld := ⟨Reg.ALIGN_REQ, 0, 24⟩
def Fd.ALIGN_UNDER0_CNT (n : Nat) : Fld := ⟨Reg.ALIGN_UNDER0, 8 * n, 8⟩
def Fd.ALIGN_UNDER1_CNT (n : Nat) : Fld := ⟨Reg.ALIGN_UNDER1, 8 * n, 8⟩
def Fd.ROUTE_EVT_DS_ECC : Fld := ⟨Reg.ROUTE_EVT, 7, 1⟩
def Fd.ROUTE_EVT_DELAY_DONE : Fld := ⟨Reg.ROUTE_EVT, 6, 1⟩
def Fd.ROUTE_EVT_OVERRIDE : Fld := ⟨Reg.ROUTE_EVT, 5, 1⟩
def Fd.ROUTE_EVT_UNDERRUN : Fld := ⟨Reg.ROUTE_EVT, 4, 1⟩
def Fd.ROUTE_EVT_ASRC_UNLOCK : Fld := ⟨Reg.ROUTE_EVT, 3, 1⟩
def Fd.ROUTE_EVT_ASRC_LOCK : Fld := ⟨Reg.ROUTE_EVT, 2, 1⟩
def Fd.ROUTE_EVT_REF_UNLOCK : Fld := ⟨Reg.ROUTE_EVT, 1, 1⟩
def Fd.ROUTE_EVT_REF_LOCK : Fld := ⟨Reg.ROUTE_EVT, 0, 1⟩
def Fd.ASRC_CFG_LOCK_WIN : Fld := ⟨Reg.ASRC_CFG, 24, 8⟩
def Fd.ASRC_CFG_HOLD : Fld := ⟨Reg.ASRC_CFG, 16, 8⟩
def Fd.ASRC_CFG_LAT : Fld := ⟨Reg.ASRC_CFG, 0, 4⟩
def Fd.ASRC_GAIN_KP : Fld := ⟨Reg.ASRC_GAIN, 16, 16⟩
def Fd.ASRC_GAIN_KI : Fld := ⟨Reg.ASRC_GAIN, 0, 16⟩
def Fd.ASRC_ROM_ADDR_ADDR : Fld := ⟨Reg.ASRC_ROM_ADDR, 0, 15⟩
def Fd.ASRC_ROM_DATA_COEF : Fld := ⟨Reg.ASRC_ROM_DATA, 0, 24⟩
def Fd.ASRCn_STATUS_LOCK (n : Nat) : Fld := ⟨Reg.ASRCn_STATUS n, 31, 1⟩
def Fd.ASRCn_STATUS_MUTE (n : Nat) : Fld := ⟨Reg.ASRCn_STATUS n, 30, 1⟩
def Fd.ASRCn_STATUS_HOLD (n : Nat) : Fld := ⟨Reg.ASRCn_STATUS n, 29, 1⟩
def Fd.ASRCn_STATUS_ACTIVE (n : Nat) : Fld := ⟨Reg.ASRCn_STATUS n, 28, 1⟩
def Fd.ASRCn_STATUS_ERR (n : Nat) : Fld := ⟨Reg.ASRCn_STATUS n, 0, 24⟩
def Fd.ASRCn_RATIO_RATIO (n : Nat) : Fld := ⟨Reg.ASRCn_RATIO n, 0, 32⟩
def Fd.ASRCn_POS_POS (n : Nat) : Fld := ⟨Reg.ASRCn_POS n, 0, 32⟩
def Fd.ROUTE_MIXk_i_SRC (k i : Nat) : Fld := ⟨Reg.ROUTE_MIXk_i k i, 16, 8⟩
def Fd.ROUTE_MIXk_i_GAIN (k i : Nat) : Fld := ⟨Reg.ROUTE_MIXk_i k i, 0, 16⟩
def Fd.ROUTE_MUTE_MUTE : Fld := ⟨Reg.ROUTE_MUTE, 0, 8⟩
def Fd.ROUTE_OVRk_ACTIVE (k : Nat) : Fld := ⟨Reg.ROUTE_OVRk k, 31, 1⟩
def Fd.ROUTE_OVRk_FADING (k : Nat) : Fld := ⟨Reg.ROUTE_OVRk k, 30, 1⟩
def Fd.ROUTE_OVRk_SRC (k : Nat) : Fld := ⟨Reg.ROUTE_OVRk k, 16, 8⟩
def Fd.ROUTE_OVRk_GAIN (k : Nat) : Fld := ⟨Reg.ROUTE_OVRk k, 0, 16⟩
def Fd.ROUTE_DELAYk_DELAY (k : Nat) : Fld := ⟨Reg.ROUTE_DELAYk k, 0, 17⟩
def Fd.ROUTE_DLIVEk_FADING (k : Nat) : Fld := ⟨Reg.ROUTE_DLIVEk k, 31, 1⟩
def Fd.ROUTE_DLIVEk_PENDING (k : Nat) : Fld := ⟨Reg.ROUTE_DLIVEk k, 30, 1⟩
def Fd.ROUTE_DLIVEk_LIVE (k : Nat) : Fld := ⟨Reg.ROUTE_DLIVEk k, 0, 17⟩
def Fd.ROUTE_DS_ECC_CORR : Fld := ⟨Reg.ROUTE_DS_ECC, 16, 16⟩
def Fd.ROUTE_DS_ECC_UNCORR : Fld := ⟨Reg.ROUTE_DS_ECC, 0, 16⟩
def Fd.FIR_CFG_FADE_LOG2 : Fld := ⟨Reg.FIR_CFG, 0, 4⟩
def Fd.FIR_STATUS_COPY_BUSY : Fld := ⟨Reg.FIR_STATUS, 0, 1⟩
def Fd.FIR_CADDR_STRING : Fld := ⟨Reg.FIR_CADDR, 16, 3⟩
def Fd.FIR_CADDR_BANK : Fld := ⟨Reg.FIR_CADDR, 12, 1⟩
def Fd.FIR_CADDR_TAP : Fld := ⟨Reg.FIR_CADDR, 0, 9⟩
def Fd.FIR_CDATA_COEF : Fld := ⟨Reg.FIR_CDATA, 0, 24⟩
def Fd.FIR_COPY_GO : Fld := ⟨Reg.FIR_COPY, 31, 1⟩
def Fd.FIR_COPY_STRING : Fld := ⟨Reg.FIR_COPY, 16, 3⟩
def Fd.FIR_COPY_BANK : Fld := ⟨Reg.FIR_COPY, 12, 1⟩
def Fd.FIR_COPY_ROM_IDX : Fld := ⟨Reg.FIR_COPY, 0, 5⟩
def Fd.FIR_ROM_ADDR_ADDR : Fld := ⟨Reg.FIR_ROM_ADDR, 0, 14⟩
def Fd.FIR_ROM_DATA_COEF : Fld := ⟨Reg.FIR_ROM_DATA, 0, 24⟩
def Fd.FIR_EVT_ECC : Fld := ⟨Reg.FIR_EVT, 3, 1⟩
def Fd.FIR_EVT_COPY_DONE : Fld := ⟨Reg.FIR_EVT, 2, 1⟩
def Fd.FIR_EVT_DEFERRED : Fld := ⟨Reg.FIR_EVT, 1, 1⟩
def Fd.FIR_EVT_FADE_DONE : Fld := ⟨Reg.FIR_EVT, 0, 1⟩
def Fd.FIR_ECC_CORR : Fld := ⟨Reg.FIR_ECC, 16, 16⟩
def Fd.FIR_ECC_UNCORR : Fld := ⟨Reg.FIR_ECC, 0, 16⟩
def Fd.FIR_REQk_TARGET (k : Nat) : Fld := ⟨Reg.FIR_REQk k, 0, 1⟩
def Fd.FIR_BANKk_FADING (k : Nat) : Fld := ⟨Reg.FIR_BANKk k, 31, 1⟩
def Fd.FIR_BANKk_PENDING (k : Nat) : Fld := ⟨Reg.FIR_BANKk k, 30, 1⟩
def Fd.FIR_BANKk_PEND_TARGET (k : Nat) : Fld := ⟨Reg.FIR_BANKk k, 29, 1⟩
def Fd.FIR_BANKk_ACTIVE (k : Nat) : Fld := ⟨Reg.FIR_BANKk k, 28, 1⟩
def Fd.FIR_BANKk_STEP (k : Nat) : Fld := ⟨Reg.FIR_BANKk k, 0, 13⟩
def Fd.SIEVE_CFG_FASTWIN : Fld := ⟨Reg.SIEVE_CFG, 4, 2⟩
def Fd.SIEVE_CFG_MINPHASE : Fld := ⟨Reg.SIEVE_CFG, 2, 1⟩
def Fd.SIEVE_CFG_PRESET : Fld := ⟨Reg.SIEVE_CFG, 0, 2⟩
def Fd.SIEVE_VALID_MONITOR : Fld := ⟨Reg.SIEVE_VALID, 2, 1⟩
def Fd.SIEVE_VALID_PRECISE : Fld := ⟨Reg.SIEVE_VALID, 1, 1⟩
def Fd.SIEVE_VALID_FAST : Fld := ⟨Reg.SIEVE_VALID, 0, 1⟩
def Fd.SIEVE_GD_PRECISE : Fld := ⟨Reg.SIEVE_GD, 16, 16⟩
def Fd.SIEVE_GD_FAST : Fld := ⟨Reg.SIEVE_GD, 0, 16⟩
def Fd.SIEVE_ABOVE_FLAG : Fld := ⟨Reg.SIEVE_ABOVE, 0, 20⟩
def Fd.SIEVE_BELOW_FLAG : Fld := ⟨Reg.SIEVE_BELOW, 0, 20⟩
def Fd.SIEVE_SAT_CNT_PRECISE : Fld := ⟨Reg.SIEVE_SAT_CNT, 16, 16⟩
def Fd.SIEVE_SAT_CNT_FAST : Fld := ⟨Reg.SIEVE_SAT_CNT, 0, 16⟩
def Fd.SIEVE_EVT_SAT : Fld := ⟨Reg.SIEVE_EVT, 2, 1⟩
def Fd.SIEVE_EVT_THRESH : Fld := ⟨Reg.SIEVE_EVT, 1, 1⟩
def Fd.SIEVE_EVT_VALID : Fld := ⟨Reg.SIEVE_EVT, 0, 1⟩
def Fd.SIEVE_ROM_ADDR_STAGE : Fld := ⟨Reg.SIEVE_ROM_ADDR, 8, 1⟩
def Fd.SIEVE_ROM_ADDR_TAP : Fld := ⟨Reg.SIEVE_ROM_ADDR, 0, 8⟩
def Fd.SIEVE_ROM_DATA_COEF : Fld := ⟨Reg.SIEVE_ROM_DATA, 0, 24⟩
def Fd.SIEVE_INn_CFG_SHIFT3 (n : Nat) : Fld := ⟨Reg.SIEVE_INn_CFG n, 24, 3⟩
def Fd.SIEVE_INn_CFG_SHIFT2 (n : Nat) : Fld := ⟨Reg.SIEVE_INn_CFG n, 20, 3⟩
def Fd.SIEVE_INn_CFG_SHIFTF (n : Nat) : Fld := ⟨Reg.SIEVE_INn_CFG n, 16, 4⟩
def Fd.SIEVE_INn_CFG_SHIFT1 (n : Nat) : Fld := ⟨Reg.SIEVE_INn_CFG n, 8, 5⟩
def Fd.SIEVE_INn_CFG_PHASE (n : Nat) : Fld := ⟨Reg.SIEVE_INn_CFG n, 0, 4⟩
def Fd.SIEVE_ACTn_ONES (n : Nat) : Fld := ⟨Reg.SIEVE_ACTn n, 16, 8⟩
def Fd.SIEVE_ACTn_TRANS (n : Nat) : Fld := ⟨Reg.SIEVE_ACTn n, 0, 8⟩
def Fd.SIEVE_THn_LVL_HI (n : Nat) : Fld := ⟨Reg.SIEVE_THn_LVL n, 16, 16⟩
def Fd.SIEVE_THn_LVL_LO (n : Nat) : Fld := ⟨Reg.SIEVE_THn_LVL n, 0, 16⟩
def Fd.SIEVE_THn_CTL_LO_EN (n : Nat) : Fld := ⟨Reg.SIEVE_THn_CTL n, 25, 1⟩
def Fd.SIEVE_THn_CTL_HI_EN (n : Nat) : Fld := ⟨Reg.SIEVE_THn_CTL n, 24, 1⟩
def Fd.SIEVE_THn_CTL_COUNT (n : Nat) : Fld := ⟨Reg.SIEVE_THn_CTL n, 16, 5⟩
def Fd.SIEVE_THn_CTL_HYST (n : Nat) : Fld := ⟨Reg.SIEVE_THn_CTL n, 0, 15⟩
def Fd.CHk_GAIN_GAIN (k : Nat) : Fld := ⟨Reg.CHk_GAIN k, 0, 16⟩
def Fd.CHk_GAIN_LIVE_OVR (k : Nat) : Fld := ⟨Reg.CHk_GAIN_LIVE k, 31, 1⟩
def Fd.CHk_GAIN_LIVE_RAMPING (k : Nat) : Fld := ⟨Reg.CHk_GAIN_LIVE k, 30, 1⟩
def Fd.CHk_GAIN_LIVE_EFF (k : Nat) : Fld := ⟨Reg.CHk_GAIN_LIVE k, 0, 16⟩
def Fd.CHk_OL_CFG_KREF (k : Nat) : Fld := ⟨Reg.CHk_OL_CFG k, 0, 16⟩
def Fd.CHk_OL_SEL_TARGET (k : Nat) : Fld := ⟨Reg.CHk_OL_SEL k, 0, 1⟩
def Fd.CHk_CL_STATUS_MODE (k : Nat) : Fld := ⟨Reg.CHk_CL_STATUS k, 30, 2⟩
def Fd.CHk_CL_STATUS_INJ (k : Nat) : Fld := ⟨Reg.CHk_CL_STATUS k, 29, 1⟩
def Fd.CHk_CL_STATUS_ISAT (k : Nat) : Fld := ⟨Reg.CHk_CL_STATUS k, 11, 1⟩
def Fd.CHk_CL_STATUS_OSAT (k : Nat) : Fld := ⟨Reg.CHk_CL_STATUS k, 10, 1⟩
def Fd.CHk_CL_STATUS_ACTIVE (k : Nat) : Fld := ⟨Reg.CHk_CL_STATUS k, 8, 1⟩
def Fd.CHk_CL_STATUS_LEVEL (k : Nat) : Fld := ⟨Reg.CHk_CL_STATUS k, 4, 4⟩
def Fd.CHk_CL_STATUS_NACT (k : Nat) : Fld := ⟨Reg.CHk_CL_STATUS k, 0, 3⟩
def Fd.CHk_OL_SWAP_SWAPS (k : Nat) : Fld := ⟨Reg.CHk_OL_SWAP k, 16, 16⟩
def Fd.CHk_OL_SWAP_SWAPS_SAT (k : Nat) : Fld := ⟨Reg.CHk_OL_SWAP k, 0, 16⟩
def Fd.CHk_LIM_CNT_OUT_SAT (k : Nat) : Fld := ⟨Reg.CHk_LIM_CNT k, 16, 16⟩
def Fd.CHk_LIM_CNT_ICLAMP (k : Nat) : Fld := ⟨Reg.CHk_LIM_CNT k, 8, 8⟩
def Fd.CHk_LIM_CNT_LEVEL (k : Nat) : Fld := ⟨Reg.CHk_LIM_CNT k, 0, 8⟩
def Fd.CHk_STEP_CNT_STEPS (k : Nat) : Fld := ⟨Reg.CHk_STEP_CNT k, 0, 32⟩
def Fd.CHk_DLY_STAT_MAX_WAIT (k : Nat) : Fld := ⟨Reg.CHk_DLY_STAT k, 16, 7⟩
def Fd.CHk_DLY_STAT_DECLINED (k : Nat) : Fld := ⟨Reg.CHk_DLY_STAT k, 0, 16⟩
def Fd.CHk_OLn_B01_B1 (k n : Nat) : Fld := ⟨Reg.CHk_OLn_B01 k n, 16, 16⟩
def Fd.CHk_OLn_B01_B0 (k n : Nat) : Fld := ⟨Reg.CHk_OLn_B01 k n, 0, 16⟩
def Fd.CHk_OLn_B2A1_A1 (k n : Nat) : Fld := ⟨Reg.CHk_OLn_B2A1 k n, 16, 16⟩
def Fd.CHk_OLn_B2A1_B2 (k n : Nat) : Fld := ⟨Reg.CHk_OLn_B2A1 k n, 0, 16⟩
def Fd.CHk_OLn_A2KI_KI (k n : Nat) : Fld := ⟨Reg.CHk_OLn_A2KI k n, 16, 16⟩
def Fd.CHk_OLn_A2KI_A2 (k n : Nat) : Fld := ⟨Reg.CHk_OLn_A2KI k n, 0, 16⟩
def Fd.CHk_OLn_SHKAW_SH (k n : Nat) : Fld := ⟨Reg.CHk_OLn_SHKAW k n, 16, 2⟩
def Fd.CHk_OLn_SHKAW_KAW (k n : Nat) : Fld := ⟨Reg.CHk_OLn_SHKAW k n, 0, 16⟩
def Fd.CHk_OLn_UMAX_UMAX (k n : Nat) : Fld := ⟨Reg.CHk_OLn_UMAX k n, 0, 16⟩
def Fd.CHk_OLn_IMAX_IMAX (k n : Nat) : Fld := ⟨Reg.CHk_OLn_IMAX k n, 0, 16⟩
def Fd.CHk_IL_BAND_HB2 (k : Nat) : Fld := ⟨Reg.CHk_IL_BAND k, 16, 16⟩
def Fd.CHk_IL_BAND_HB (k : Nat) : Fld := ⟨Reg.CHk_IL_BAND k, 0, 16⟩
def Fd.CHk_IL_HOLD_HOLD (k : Nat) : Fld := ⟨Reg.CHk_IL_HOLD k, 0, 6⟩
def Fd.CHk_ILIM_LIVE (k : Nat) : Fld := ⟨Reg.CHk_ILIM k, 16, 16⟩
def Fd.CHk_ILIM_LIMIT (k : Nat) : Fld := ⟨Reg.CHk_ILIM k, 0, 16⟩
def Fd.CHk_INJ_CTL_GO (k : Nat) : Fld := ⟨Reg.CHk_INJ_CTL k, 31, 1⟩
def Fd.CHk_INJ_CTL_ABORT (k : Nat) : Fld := ⟨Reg.CHk_INJ_CTL k, 30, 1⟩
def Fd.CHk_INJ_CTL_POINT (k : Nat) : Fld := ⟨Reg.CHk_INJ_CTL k, 8, 2⟩
def Fd.CHk_INJ_CTL_KIND (k : Nat) : Fld := ⟨Reg.CHk_INJ_CTL k, 0, 2⟩
def Fd.CHk_INJ_AMP_AMP (k : Nat) : Fld := ⟨Reg.CHk_INJ_AMP k, 0, 16⟩
def Fd.CHk_INJ_FREQ_FREQ (k : Nat) : Fld := ⟨Reg.CHk_INJ_FREQ k, 0, 32⟩
def Fd.CHk_INJ_LEN_LEN (k : Nat) : Fld := ⟨Reg.CHk_INJ_LEN k, 0, 16⟩
def Fd.CHk_CAP_CTL_ARM (k : Nat) : Fld := ⟨Reg.CHk_CAP_CTL k, 31, 1⟩
def Fd.CHk_CAP_CTL_ABORT (k : Nat) : Fld := ⟨Reg.CHk_CAP_CTL k, 30, 1⟩
def Fd.CHk_CAP_CTL_PRE (k : Nat) : Fld := ⟨Reg.CHk_CAP_CTL k, 16, 11⟩
def Fd.CHk_CAP_CTL_TRIG (k : Nat) : Fld := ⟨Reg.CHk_CAP_CTL k, 12, 2⟩
def Fd.CHk_CAP_CTL_MODE (k : Nat) : Fld := ⟨Reg.CHk_CAP_CTL k, 11, 1⟩
def Fd.CHk_CAP_CTL_DEC (k : Nat) : Fld := ⟨Reg.CHk_CAP_CTL k, 8, 3⟩
def Fd.CHk_CAP_CTL_SEL_B (k : Nat) : Fld := ⟨Reg.CHk_CAP_CTL k, 4, 4⟩
def Fd.CHk_CAP_CTL_SEL_A (k : Nat) : Fld := ⟨Reg.CHk_CAP_CTL k, 0, 4⟩
def Fd.CHk_CAP_STATUS_BUSY (k : Nat) : Fld := ⟨Reg.CHk_CAP_STATUS k, 31, 1⟩
def Fd.CHk_CAP_STATUS_DONE (k : Nat) : Fld := ⟨Reg.CHk_CAP_STATUS k, 30, 1⟩
def Fd.CHk_CAP_STATUS_TRIGGERED (k : Nat) : Fld := ⟨Reg.CHk_CAP_STATUS k, 29, 1⟩
def Fd.CHk_CAP_STATUS_START (k : Nat) : Fld := ⟨Reg.CHk_CAP_STATUS k, 16, 11⟩
def Fd.CHk_CAP_STATUS_COUNT (k : Nat) : Fld := ⟨Reg.CHk_CAP_STATUS k, 0, 12⟩
def Fd.CHk_CAP_ADDR_ADDR (k : Nat) : Fld := ⟨Reg.CHk_CAP_ADDR k, 0, 11⟩
def Fd.CHk_CAP_DATA_B (k : Nat) : Fld := ⟨Reg.CHk_CAP_DATA k, 16, 16⟩
def Fd.CHk_CAP_DATA_A (k : Nat) : Fld := ⟨Reg.CHk_CAP_DATA k, 0, 16⟩
def Fd.CHk_CL_EVT_CAP_DONE (k : Nat) : Fld := ⟨Reg.CHk_CL_EVT k, 2, 1⟩
def Fd.CHk_CL_EVT_LIMIT (k : Nat) : Fld := ⟨Reg.CHk_CL_EVT k, 1, 1⟩
def Fd.CHk_CL_EVT_SWAP_SAT (k : Nat) : Fld := ⟨Reg.CHk_CL_EVT k, 0, 1⟩
def Fd.CHk_MOR_CFG_EN (k : Nat) : Fld := ⟨Reg.CHk_MOR_CFG k, 31, 1⟩
def Fd.CHk_MOR_CFG_SRC (k : Nat) : Fld := ⟨Reg.CHk_MOR_CFG k, 30, 1⟩
def Fd.CHk_MOR_CFG_LEAK (k : Nat) : Fld := ⟨Reg.CHk_MOR_CFG k, 16, 4⟩
def Fd.CHk_MOR_CFG_LEAD (k : Nat) : Fld := ⟨Reg.CHk_MOR_CFG k, 0, 8⟩
def Fd.CHk_MOR_GAIN_KL (k : Nat) : Fld := ⟨Reg.CHk_MOR_GAIN k, 16, 16⟩
def Fd.CHk_MOR_GAIN_MGAIN (k : Nat) : Fld := ⟨Reg.CHk_MOR_GAIN k, 0, 16⟩
def Fd.CHk_MOR_LIM_HOLD (k : Nat) : Fld := ⟨Reg.CHk_MOR_LIM k, 24, 8⟩
def Fd.CHk_MOR_LIM_MLIM (k : Nat) : Fld := ⟨Reg.CHk_MOR_LIM k, 0, 16⟩
def Fd.CHk_MOR_DET_PMAX (k : Nat) : Fld := ⟨Reg.CHk_MOR_DET k, 16, 16⟩
def Fd.CHk_MOR_DET_PMIN (k : Nat) : Fld := ⟨Reg.CHk_MOR_DET k, 0, 16⟩
def Fd.CHk_MOR_TRK_PH (k : Nat) : Fld := ⟨Reg.CHk_MOR_TRK k, 16, 4⟩
def Fd.CHk_MOR_TRK_HYS (k : Nat) : Fld := ⟨Reg.CHk_MOR_TRK k, 0, 16⟩
def Fd.CHk_MOR_DTHETA_DTHETA (k : Nat) : Fld := ⟨Reg.CHk_MOR_DTHETA k, 0, 32⟩
def Fd.CHk_MOR_STATUS_STATE (k : Nat) : Fld := ⟨Reg.CHk_MOR_STATUS k, 29, 3⟩
def Fd.CHk_MOR_STATUS_LOCK (k : Nat) : Fld := ⟨Reg.CHk_MOR_STATUS k, 28, 1⟩
def Fd.CHk_MOR_STATUS_STEP (k : Nat) : Fld := ⟨Reg.CHk_MOR_STATUS k, 16, 6⟩
def Fd.CHk_MOR_STATUS_G (k : Nat) : Fld := ⟨Reg.CHk_MOR_STATUS k, 0, 16⟩
def Fd.CHk_MOR_DLIVE_DLIVE (k : Nat) : Fld := ⟨Reg.CHk_MOR_DLIVE k, 0, 32⟩
def Fd.CHk_MOR_CNT_LOST (k : Nat) : Fld := ⟨Reg.CHk_MOR_CNT k, 24, 8⟩
def Fd.CHk_MOR_CNT_CLEAR (k : Nat) : Fld := ⟨Reg.CHk_MOR_CNT k, 16, 8⟩
def Fd.CHk_MOR_CNT_ECC_UNC (k : Nat) : Fld := ⟨Reg.CHk_MOR_CNT k, 8, 8⟩
def Fd.CHk_MOR_CNT_ECC_CORR (k : Nat) : Fld := ⟨Reg.CHk_MOR_CNT k, 0, 8⟩
def Fd.CHk_FB_ACT_TMIN (k : Nat) : Fld := ⟨Reg.CHk_FB_ACT k, 16, 8⟩
def Fd.CHk_FB_ACT_EDGE (k : Nat) : Fld := ⟨Reg.CHk_FB_ACT k, 8, 8⟩
def Fd.CHk_FB_ACT_ACT_N (k : Nat) : Fld := ⟨Reg.CHk_FB_ACT k, 0, 4⟩
def Fd.CHk_FB_STUCK_STUCK_N (k : Nat) : Fld := ⟨Reg.CHk_FB_STUCK k, 0, 5⟩
def Fd.CHk_FB_PL_DLY (k : Nat) : Fld := ⟨Reg.CHk_FB_PL k, 24, 8⟩
def Fd.CHk_FB_PL_PLS (k : Nat) : Fld := ⟨Reg.CHk_FB_PL k, 16, 4⟩
def Fd.CHk_FB_PL_ISH (k : Nat) : Fld := ⟨Reg.CHk_FB_PL k, 8, 3⟩
def Fd.CHk_FB_PL_PL_N (k : Nat) : Fld := ⟨Reg.CHk_FB_PL k, 0, 4⟩
def Fd.CHk_FB_SCALE_KIPL (k : Nat) : Fld := ⟨Reg.CHk_FB_SCALE k, 16, 16⟩
def Fd.CHk_FB_SCALE_VSCALE (k : Nat) : Fld := ⟨Reg.CHk_FB_SCALE k, 0, 16⟩
def Fd.CHk_FB_TOL_ITOL (k : Nat) : Fld := ⟨Reg.CHk_FB_TOL k, 16, 16⟩
def Fd.CHk_FB_TOL_VTOL (k : Nat) : Fld := ⟨Reg.CHk_FB_TOL k, 0, 16⟩
def Fd.CHk_FB_PWM_PER (k : Nat) : Fld := ⟨Reg.CHk_FB_PWM k, 0, 2⟩
def Fd.CHk_FB_ESC_WIN (k : Nat) : Fld := ⟨Reg.CHk_FB_ESC k, 16, 16⟩
def Fd.CHk_FB_ESC_N (k : Nat) : Fld := ⟨Reg.CHk_FB_ESC k, 0, 8⟩
def Fd.CHk_FB_STATUS_RAIL (k : Nat) : Fld := ⟨Reg.CHk_FB_STATUS k, 31, 1⟩
def Fd.CHk_FB_STATUS_ACT_V (k : Nat) : Fld := ⟨Reg.CHk_FB_STATUS k, 23, 1⟩
def Fd.CHk_FB_STATUS_ACT_I (k : Nat) : Fld := ⟨Reg.CHk_FB_STATUS k, 22, 1⟩
def Fd.CHk_FB_STATUS_STUCK_V (k : Nat) : Fld := ⟨Reg.CHk_FB_STATUS k, 21, 1⟩
def Fd.CHk_FB_STATUS_STUCK_I (k : Nat) : Fld := ⟨Reg.CHk_FB_STATUS k, 20, 1⟩
def Fd.CHk_FB_STATUS_PL_V (k : Nat) : Fld := ⟨Reg.CHk_FB_STATUS k, 19, 1⟩
def Fd.CHk_FB_STATUS_PL_I (k : Nat) : Fld := ⟨Reg.CHk_FB_STATUS k, 18, 1⟩
def Fd.CHk_FB_STATUS_GOOD (k : Nat) : Fld := ⟨Reg.CHk_FB_STATUS k, 0, 9⟩
def Fd.CHk_FB_CNT_ENTRIES (k : Nat) : Fld := ⟨Reg.CHk_FB_CNT k, 16, 16⟩
def Fd.CHk_FB_CNT_RETURNS (k : Nat) : Fld := ⟨Reg.CHk_FB_CNT k, 0, 16⟩
def Fd.CHk_FB_RES_FI (k : Nat) : Fld := ⟨Reg.CHk_FB_RES k, 16, 16⟩
def Fd.CHk_FB_RES_FV (k : Nat) : Fld := ⟨Reg.CHk_FB_RES k, 0, 16⟩
def Fd.CHk_FB_EVT_MOR_LOST (k : Nat) : Fld := ⟨Reg.CHk_FB_EVT k, 3, 1⟩
def Fd.CHk_FB_EVT_MOR_LOCK (k : Nat) : Fld := ⟨Reg.CHk_FB_EVT k, 2, 1⟩
def Fd.CHk_FB_EVT_RETURN (k : Nat) : Fld := ⟨Reg.CHk_FB_EVT k, 1, 1⟩
def Fd.CHk_FB_EVT_FALLBACK (k : Nat) : Fld := ⟨Reg.CHk_FB_EVT k, 0, 1⟩
def Fd.CHk_WH_CFG_NMIN (k : Nat) : Fld := ⟨Reg.CHk_WH_CFG k, 8, 3⟩
def Fd.CHk_WH_CFG_NACT (k : Nat) : Fld := ⟨Reg.CHk_WH_CFG k, 0, 3⟩
def Fd.CHk_WH_BAL_IDEAD (k : Nat) : Fld := ⟨Reg.CHk_WH_BAL k, 16, 16⟩
def Fd.CHk_WH_BAL_THR (k : Nat) : Fld := ⟨Reg.CHk_WH_BAL k, 0, 12⟩
def Fd.CHk_WH_FREQ_FSH (k : Nat) : Fld := ⟨Reg.CHk_WH_FREQ k, 24, 4⟩
def Fd.CHk_WH_FREQ_FMAX (k : Nat) : Fld := ⟨Reg.CHk_WH_FREQ k, 0, 17⟩
def Fd.CHk_WH_ROT_PERIOD (k : Nat) : Fld := ⟨Reg.CHk_WH_ROT k, 0, 16⟩
def Fd.CHk_WH_SLOW_WIN (k : Nat) : Fld := ⟨Reg.CHk_WH_SLOW k, 22, 10⟩
def Fd.CHk_WH_SLOW_N (k : Nat) : Fld := ⟨Reg.CHk_WH_SLOW k, 12, 4⟩
def Fd.CHk_WH_SLOW_BOUND (k : Nat) : Fld := ⟨Reg.CHk_WH_SLOW k, 0, 8⟩
def Fd.CHk_WH_SLOWCLR_CLR (k : Nat) : Fld := ⟨Reg.CHk_WH_SLOWCLR k, 0, 16⟩
def Fd.CHk_WH_STATUS_REDUCED (k : Nat) : Fld := ⟨Reg.CHk_WH_STATUS k, 31, 1⟩
def Fd.CHk_WH_STATUS_SPARE_USED (k : Nat) : Fld := ⟨Reg.CHk_WH_STATUS k, 30, 1⟩
def Fd.CHk_WH_STATUS_ROT_PEND (k : Nat) : Fld := ⟨Reg.CHk_WH_STATUS k, 29, 1⟩
def Fd.CHk_WH_STATUS_PAIR (k : Nat) : Fld := ⟨Reg.CHk_WH_STATUS k, 28, 1⟩
def Fd.CHk_WH_STATUS_NACT_LIVE (k : Nat) : Fld := ⟨Reg.CHk_WH_STATUS k, 24, 3⟩
def Fd.CHk_WH_STATUS_RESERVE (k : Nat) : Fld := ⟨Reg.CHk_WH_STATUS k, 20, 3⟩
def Fd.CHk_WH_STATUS_ROT_PTR (k : Nat) : Fld := ⟨Reg.CHk_WH_STATUS k, 16, 3⟩
def Fd.CHk_WH_STATUS_ACTIVE (k : Nat) : Fld := ⟨Reg.CHk_WH_STATUS k, 8, 7⟩
def Fd.CHk_WH_STATUS_PARKED (k : Nat) : Fld := ⟨Reg.CHk_WH_STATUS k, 0, 7⟩
def Fd.CHk_WH_MARKS_BYPASSED (k : Nat) : Fld := ⟨Reg.CHk_WH_MARKS k, 16, 7⟩
def Fd.CHk_WH_MARKS_SLOW (k : Nat) : Fld := ⟨Reg.CHk_WH_MARKS k, 8, 7⟩
def Fd.CHk_WH_MARKS_FAILED (k : Nat) : Fld := ⟨Reg.CHk_WH_MARKS k, 0, 7⟩
def Fd.CHk_WH_CELLp_DWELL (k p : Nat) : Fld := ⟨Reg.CHk_WH_CELLp k p, 16, 16⟩
def Fd.CHk_WH_CELLp_ROLE (k p : Nat) : Fld := ⟨Reg.CHk_WH_CELLp k p, 8, 3⟩
def Fd.CHk_WH_CELLp_ZF (k p : Nat) : Fld := ⟨Reg.CHk_WH_CELLp k p, 4, 1⟩
def Fd.CHk_WH_CELLp_STATE (k p : Nat) : Fld := ⟨Reg.CHk_WH_CELLp k p, 0, 3⟩
def Fd.CHk_WH_FAVGp_FAVG (k p : Nat) : Fld := ⟨Reg.CHk_WH_FAVGp k p, 0, 17⟩
def Fd.CHk_WH_CNT_PAIRS (k : Nat) : Fld := ⟨Reg.CHk_WH_CNT k, 16, 16⟩
def Fd.CHk_WH_CNT_ROTATIONS (k : Nat) : Fld := ⟨Reg.CHk_WH_CNT k, 8, 8⟩
def Fd.CHk_WH_CNT_REPLACE (k : Nat) : Fld := ⟨Reg.CHk_WH_CNT k, 0, 8⟩
def Fd.CHk_WH_SLOWCNT_EXCEED (k : Nat) : Fld := ⟨Reg.CHk_WH_SLOWCNT k, 16, 16⟩
def Fd.CHk_WH_SLOWCNT_MARKS (k : Nat) : Fld := ⟨Reg.CHk_WH_SLOWCNT k, 8, 8⟩
def Fd.CHk_WH_SLOWCNT_DEMOTE (k : Nat) : Fld := ⟨Reg.CHk_WH_SLOWCNT k, 0, 8⟩
def Fd.CHk_WH_EVT_HEADROOM (k : Nat) : Fld := ⟨Reg.CHk_WH_EVT k, 5, 1⟩
def Fd.CHk_WH_EVT_ROTATE (k : Nat) : Fld := ⟨Reg.CHk_WH_EVT k, 4, 1⟩
def Fd.CHk_WH_EVT_SLOW (k : Nat) : Fld := ⟨Reg.CHk_WH_EVT k, 3, 1⟩
def Fd.CHk_WH_EVT_REDUCED (k : Nat) : Fld := ⟨Reg.CHk_WH_EVT k, 2, 1⟩
def Fd.CHk_WH_EVT_REPLACE (k : Nat) : Fld := ⟨Reg.CHk_WH_EVT k, 1, 1⟩
def Fd.CHk_WH_EVT_CELL_FAIL (k : Nat) : Fld := ⟨Reg.CHk_WH_EVT k, 0, 1⟩
def Fd.CHk_LK_STATUS_LOST (k : Nat) : Fld := ⟨Reg.CHk_LK_STATUS k, 16, 7⟩
def Fd.CHk_LK_STATUS_ACCEPTED (k : Nat) : Fld := ⟨Reg.CHk_LK_STATUS k, 8, 7⟩
def Fd.CHk_LK_STATUS_TRAINED (k : Nat) : Fld := ⟨Reg.CHk_LK_STATUS k, 0, 7⟩
def Fd.CHk_LK_EVT_ERR (k : Nat) : Fld := ⟨Reg.CHk_LK_EVT k, 2, 1⟩
def Fd.CHk_LK_EVT_LOST (k : Nat) : Fld := ⟨Reg.CHk_LK_EVT k, 1, 1⟩
def Fd.CHk_LK_EVT_ENUM (k : Nat) : Fld := ⟨Reg.CHk_LK_EVT k, 0, 1⟩
def Fd.CHk_PR_STATUS_PHASE (k : Nat) : Fld := ⟨Reg.CHk_PR_STATUS k, 28, 4⟩
def Fd.CHk_PR_STATUS_CAUSE (k : Nat) : Fld := ⟨Reg.CHk_PR_STATUS k, 24, 4⟩
def Fd.CHk_PR_STATUS_UNCONF (k : Nat) : Fld := ⟨Reg.CHk_PR_STATUS k, 23, 1⟩
def Fd.CHk_PR_STATUS_FB_PIN (k : Nat) : Fld := ⟨Reg.CHk_PR_STATUS k, 22, 1⟩
def Fd.CHk_PR_STATUS_RETRY_SEV (k : Nat) : Fld := ⟨Reg.CHk_PR_STATUS k, 21, 1⟩
def Fd.CHk_PR_STATUS_RETRIES (k : Nat) : Fld := ⟨Reg.CHk_PR_STATUS k, 0, 8⟩
def Fd.CHk_PR_TRIP_TICK (k : Nat) : Fld := ⟨Reg.CHk_PR_TRIP k, 0, 32⟩
def Fd.CHk_PR_MERGE_LAST_CAUSE (k : Nat) : Fld := ⟨Reg.CHk_PR_MERGE k, 28, 4⟩
def Fd.CHk_PR_MERGE_COUNT (k : Nat) : Fld := ⟨Reg.CHk_PR_MERGE k, 0, 16⟩
def Fd.CHk_PR_MTICK_TICK (k : Nat) : Fld := ⟨Reg.CHk_PR_MTICK k, 0, 32⟩
def Fd.CHk_PR_CFG_AUX_N (k : Nat) : Fld := ⟨Reg.CHk_PR_CFG k, 20, 4⟩
def Fd.CHk_PR_CFG_CONFIRM (k : Nat) : Fld := ⟨Reg.CHk_PR_CFG k, 8, 8⟩
def Fd.CHk_PR_CFG_EARTH_EN (k : Nat) : Fld := ⟨Reg.CHk_PR_CFG k, 1, 1⟩
def Fd.CHk_PR_CFG_CBI_ACT (k : Nat) : Fld := ⟨Reg.CHk_PR_CFG k, 0, 1⟩
def Fd.CHk_PR_OCF_LEVEL (k : Nat) : Fld := ⟨Reg.CHk_PR_OCF k, 16, 16⟩
def Fd.CHk_PR_OCF_N (k : Nat) : Fld := ⟨Reg.CHk_PR_OCF k, 0, 4⟩
def Fd.CHk_PR_SHORT0_ZTH (k : Nat) : Fld := ⟨Reg.CHk_PR_SHORT0 k, 16, 16⟩
def Fd.CHk_PR_SHORT0_IMIN (k : Nat) : Fld := ⟨Reg.CHk_PR_SHORT0 k, 0, 16⟩
def Fd.CHk_PR_SHORT1_VCOL (k : Nat) : Fld := ⟨Reg.CHk_PR_SHORT1 k, 16, 16⟩
def Fd.CHk_PR_SHORT1_N (k : Nat) : Fld := ⟨Reg.CHk_PR_SHORT1 k, 0, 4⟩
def Fd.CHk_PR_LINE_VLINE (k : Nat) : Fld := ⟨Reg.CHk_PR_LINE k, 16, 16⟩
def Fd.CHk_PR_LINE_N (k : Nat) : Fld := ⟨Reg.CHk_PR_LINE k, 0, 4⟩
def Fd.CHk_PR_REV_PREV (k : Nat) : Fld := ⟨Reg.CHk_PR_REV k, 16, 16⟩
def Fd.CHk_PR_REV_RSH (k : Nat) : Fld := ⟨Reg.CHk_PR_REV k, 8, 4⟩
def Fd.CHk_PR_REV_N (k : Nat) : Fld := ⟨Reg.CHk_PR_REV k, 0, 8⟩
def Fd.CHk_PR_CBUS_HI (k : Nat) : Fld := ⟨Reg.CHk_PR_CBUS k, 16, 16⟩
def Fd.CHk_PR_CBUS_LO (k : Nat) : Fld := ⟨Reg.CHk_PR_CBUS k, 0, 16⟩
def Fd.CHk_PR_AUX_CBI (k : Nat) : Fld := ⟨Reg.CHk_PR_AUX k, 16, 16⟩
def Fd.CHk_PR_AUX_EARTH (k : Nat) : Fld := ⟨Reg.CHk_PR_AUX k, 0, 16⟩
def Fd.CHk_PR_VCELL_VC_HI (k : Nat) : Fld := ⟨Reg.CHk_PR_VCELL k, 16, 12⟩
def Fd.CHk_PR_VCELL_VC_LO (k : Nat) : Fld := ⟨Reg.CHk_PR_VCELL k, 0, 12⟩
def Fd.CHk_PR_CELLT_TC_HI (k : Nat) : Fld := ⟨Reg.CHk_PR_CELLT k, 24, 8⟩
def Fd.CHk_PR_CELLT_TC_N (k : Nat) : Fld := ⟨Reg.CHk_PR_CELLT k, 8, 4⟩
def Fd.CHk_PR_CELLT_VC_N (k : Nat) : Fld := ⟨Reg.CHk_PR_CELLT k, 0, 4⟩
def Fd.CHk_PR_WAIT_RETRY_WAIT (k : Nat) : Fld := ⟨Reg.CHk_PR_WAIT k, 16, 16⟩
def Fd.CHk_PR_WAIT_RLY_WAIT (k : Nat) : Fld := ⟨Reg.CHk_PR_WAIT k, 0, 16⟩
def Fd.CHk_PR_PROBE0_AMP (k : Nat) : Fld := ⟨Reg.CHk_PR_PROBE0 k, 16, 16⟩
def Fd.CHk_PR_PROBE0_LEN (k : Nat) : Fld := ⟨Reg.CHk_PR_PROBE0 k, 0, 16⟩
def Fd.CHk_PR_PROBE1_DPH (k : Nat) : Fld := ⟨Reg.CHk_PR_PROBE1 k, 0, 32⟩
def Fd.CHk_PR_PROBE2_PILIM (k : Nat) : Fld := ⟨Reg.CHk_PR_PROBE2 k, 0, 16⟩
def Fd.CHk_PR_W_LIMIT_WIN (k : Nat) : Fld := ⟨Reg.CHk_PR_W_LIMIT k, 16, 16⟩
def Fd.CHk_PR_W_LIMIT_UNIT (k : Nat) : Fld := ⟨Reg.CHk_PR_W_LIMIT k, 15, 1⟩
def Fd.CHk_PR_W_LIMIT_N (k : Nat) : Fld := ⟨Reg.CHk_PR_W_LIMIT k, 0, 8⟩
def Fd.CHk_PR_W_RETRY_WIN (k : Nat) : Fld := ⟨Reg.CHk_PR_W_RETRY k, 16, 16⟩
def Fd.CHk_PR_W_RETRY_UNIT (k : Nat) : Fld := ⟨Reg.CHk_PR_W_RETRY k, 15, 1⟩
def Fd.CHk_PR_W_RETRY_N (k : Nat) : Fld := ⟨Reg.CHk_PR_W_RETRY k, 0, 8⟩
def Fd.CHk_PR_W_AUDIO_WIN (k : Nat) : Fld := ⟨Reg.CHk_PR_W_AUDIO k, 16, 16⟩
def Fd.CHk_PR_W_AUDIO_UNIT (k : Nat) : Fld := ⟨Reg.CHk_PR_W_AUDIO k, 15, 1⟩
def Fd.CHk_PR_W_AUDIO_N (k : Nat) : Fld := ⟨Reg.CHk_PR_W_AUDIO k, 0, 8⟩
def Fd.CHk_PR_W_MEM_WIN (k : Nat) : Fld := ⟨Reg.CHk_PR_W_MEM k, 16, 16⟩
def Fd.CHk_PR_W_MEM_UNIT (k : Nat) : Fld := ⟨Reg.CHk_PR_W_MEM k, 15, 1⟩
def Fd.CHk_PR_W_MEM_N (k : Nat) : Fld := ⟨Reg.CHk_PR_W_MEM k, 0, 8⟩
def Fd.CHk_PR_W_LINK_WIN (k : Nat) : Fld := ⟨Reg.CHk_PR_W_LINK k, 16, 16⟩
def Fd.CHk_PR_W_LINK_UNIT (k : Nat) : Fld := ⟨Reg.CHk_PR_W_LINK k, 15, 1⟩
def Fd.CHk_PR_W_LINK_N (k : Nat) : Fld := ⟨Reg.CHk_PR_W_LINK k, 0, 8⟩
def Fd.CHk_PR_WCNT_LINK (k : Nat) : Fld := ⟨Reg.CHk_PR_WCNT k, 24, 8⟩
def Fd.CHk_PR_WCNT_MEM (k : Nat) : Fld := ⟨Reg.CHk_PR_WCNT k, 16, 8⟩
def Fd.CHk_PR_WCNT_AUDIO (k : Nat) : Fld := ⟨Reg.CHk_PR_WCNT k, 8, 8⟩
def Fd.CHk_PR_WCNT_LIMIT (k : Nat) : Fld := ⟨Reg.CHk_PR_WCNT k, 0, 8⟩
def Fd.CHk_PR_CNT_TRIPS (k : Nat) : Fld := ⟨Reg.CHk_PR_CNT k, 16, 16⟩
def Fd.CHk_PR_CNT_RETRIES (k : Nat) : Fld := ⟨Reg.CHk_PR_CNT k, 0, 16⟩
def Fd.CHk_PR_ECC_CORR (k : Nat) : Fld := ⟨Reg.CHk_PR_ECC k, 16, 16⟩
def Fd.CHk_PR_EVT_CBUS_I (k : Nat) : Fld := ⟨Reg.CHk_PR_EVT k, 9, 1⟩
def Fd.CHk_PR_EVT_EARTH (k : Nat) : Fld := ⟨Reg.CHk_PR_EVT k, 8, 1⟩
def Fd.CHk_PR_EVT_FB_SEVERE (k : Nat) : Fld := ⟨Reg.CHk_PR_EVT k, 7, 1⟩
def Fd.CHk_PR_EVT_CELL_DECL (k : Nat) : Fld := ⟨Reg.CHk_PR_EVT k, 6, 1⟩
def Fd.CHk_PR_EVT_MERGED (k : Nat) : Fld := ⟨Reg.CHk_PR_EVT k, 5, 1⟩
def Fd.CHk_PR_EVT_LATCHED (k : Nat) : Fld := ⟨Reg.CHk_PR_EVT k, 4, 1⟩
def Fd.CHk_PR_EVT_PROBE_PASS (k : Nat) : Fld := ⟨Reg.CHk_PR_EVT k, 3, 1⟩
def Fd.CHk_PR_EVT_RETRY (k : Nat) : Fld := ⟨Reg.CHk_PR_EVT k, 2, 1⟩
def Fd.CHk_PR_EVT_SAFE_OK (k : Nat) : Fld := ⟨Reg.CHk_PR_EVT k, 1, 1⟩
def Fd.CHk_PR_EVT_TRIP (k : Nat) : Fld := ⟨Reg.CHk_PR_EVT k, 0, 1⟩
def Fd.CHk_LM_CFG_PSH (k : Nat) : Fld := ⟨Reg.CHk_LM_CFG k, 24, 5⟩
def Fd.CHk_LM_CFG_PATK (k : Nat) : Fld := ⟨Reg.CHk_LM_CFG k, 16, 4⟩
def Fd.CHk_LM_CFG_TATK (k : Nat) : Fld := ⟨Reg.CHk_LM_CFG k, 12, 4⟩
def Fd.CHk_LM_CFG_FATK (k : Nat) : Fld := ⟨Reg.CHk_LM_CFG k, 8, 4⟩
def Fd.CHk_LM_CFG_REL (k : Nat) : Fld := ⟨Reg.CHk_LM_CFG k, 0, 4⟩
def Fd.CHk_LM_PLIM_GMIN (k : Nat) : Fld := ⟨Reg.CHk_LM_PLIM k, 16, 16⟩
def Fd.CHk_LM_PLIM_PLIM (k : Nat) : Fld := ⟨Reg.CHk_LM_PLIM k, 0, 16⟩
def Fd.CHk_LM_TH0_KH (k : Nat) : Fld := ⟨Reg.CHk_LM_TH0 k, 16, 16⟩
def Fd.CHk_LM_TH0_KM (k : Nat) : Fld := ⟨Reg.CHk_LM_TH0 k, 0, 16⟩
def Fd.CHk_LM_TH1_TLIM (k : Nat) : Fld := ⟨Reg.CHk_LM_TH1 k, 16, 16⟩
def Fd.CHk_LM_TH1_CSH (k : Nat) : Fld := ⟨Reg.CHk_LM_TH1 k, 8, 4⟩
def Fd.CHk_LM_TH1_MSH (k : Nat) : Fld := ⟨Reg.CHk_LM_TH1 k, 0, 5⟩
def Fd.CHk_LM_TH2_TC0 (k : Nat) : Fld := ⟨Reg.CHk_LM_TH2 k, 16, 16⟩
def Fd.CHk_LM_TH2_TM0 (k : Nat) : Fld := ⟨Reg.CHk_LM_TH2 k, 0, 16⟩
def Fd.CHk_LM_FLUX_FLIM (k : Nat) : Fld := ⟨Reg.CHk_LM_FLUX k, 16, 16⟩
def Fd.CHk_LM_FLUX_FLK (k : Nat) : Fld := ⟨Reg.CHk_LM_FLUX k, 8, 4⟩
def Fd.CHk_LM_FLUX_FEN (k : Nat) : Fld := ⟨Reg.CHk_LM_FLUX k, 0, 1⟩
def Fd.CHk_LM_STATUS_GL (k : Nat) : Fld := ⟨Reg.CHk_LM_STATUS k, 16, 16⟩
def Fd.CHk_LM_STATUS_FLOOR (k : Nat) : Fld := ⟨Reg.CHk_LM_STATUS k, 3, 1⟩
def Fd.CHk_LM_STATUS_FOVER (k : Nat) : Fld := ⟨Reg.CHk_LM_STATUS k, 2, 1⟩
def Fd.CHk_LM_STATUS_TOVER (k : Nat) : Fld := ⟨Reg.CHk_LM_STATUS k, 1, 1⟩
def Fd.CHk_LM_STATUS_POVER (k : Nat) : Fld := ⟨Reg.CHk_LM_STATUS k, 0, 1⟩
def Fd.CHk_LM_TEMP_TC (k : Nat) : Fld := ⟨Reg.CHk_LM_TEMP k, 16, 16⟩
def Fd.CHk_LM_TEMP_TM (k : Nat) : Fld := ⟨Reg.CHk_LM_TEMP k, 0, 16⟩
def Fd.CHk_LM_PA_PA (k : Nat) : Fld := ⟨Reg.CHk_LM_PA k, 16, 16⟩
def Fd.CHk_LM_PA_FLUX (k : Nat) : Fld := ⟨Reg.CHk_LM_PA k, 0, 16⟩
def Fd.CHk_LM_CNT_POWER (k : Nat) : Fld := ⟨Reg.CHk_LM_CNT k, 16, 8⟩
def Fd.CHk_LM_CNT_THERM (k : Nat) : Fld := ⟨Reg.CHk_LM_CNT k, 8, 8⟩
def Fd.CHk_LM_CNT_FLUX (k : Nat) : Fld := ⟨Reg.CHk_LM_CNT k, 0, 8⟩
def Fd.CHk_LM_PILOT_PAMP (k : Nat) : Fld := ⟨Reg.CHk_LM_PILOT k, 0, 16⟩
def Fd.CHk_LM_PDPH_DPH (k : Nat) : Fld := ⟨Reg.CHk_LM_PDPH k, 0, 32⟩
def Fd.CHk_DT_CFG_CLASS (k : Nat) : Fld := ⟨Reg.CHk_DT_CFG k, 31, 1⟩
def Fd.CHk_DT_CFG_EGND_EN (k : Nat) : Fld := ⟨Reg.CHk_DT_CFG k, 30, 1⟩
def Fd.CHk_DT_CFG_TON (k : Nat) : Fld := ⟨Reg.CHk_DT_CFG k, 16, 10⟩
def Fd.CHk_DT_CFG_SLOG (k : Nat) : Fld := ⟨Reg.CHk_DT_CFG k, 4, 4⟩
def Fd.CHk_DT_CFG_MLOG (k : Nat) : Fld := ⟨Reg.CHk_DT_CFG k, 0, 4⟩
def Fd.CHk_DT_LIM0_ISUP (k : Nat) : Fld := ⟨Reg.CHk_DT_LIM0 k, 16, 16⟩
def Fd.CHk_DT_LIM0_VSUP (k : Nat) : Fld := ⟨Reg.CHk_DT_LIM0 k, 0, 16⟩
def Fd.CHk_DT_LIM1_ILIM (k : Nat) : Fld := ⟨Reg.CHk_DT_LIM1 k, 16, 16⟩
def Fd.CHk_DT_LIM1_EGND (k : Nat) : Fld := ⟨Reg.CHk_DT_LIM1 k, 0, 16⟩
def Fd.CHk_DT_RMIN_RMIN (k : Nat) : Fld := ⟨Reg.CHk_DT_RMIN k, 0, 32⟩
def Fd.CHk_DT_RMAX_RMAX (k : Nat) : Fld := ⟨Reg.CHk_DT_RMAX k, 0, 32⟩
def Fd.CHk_DT_RTOL_RTOL (k : Nat) : Fld := ⟨Reg.CHk_DT_RTOL k, 0, 16⟩
def Fd.CHk_DT_ZSCALE_ZSCALE (k : Nat) : Fld := ⟨Reg.CHk_DT_ZSCALE k, 0, 32⟩
def Fd.CHk_DT_RBASE_RBASE (k : Nat) : Fld := ⟨Reg.CHk_DT_RBASE k, 0, 32⟩
def Fd.CHk_DT_RES_R (k : Nat) : Fld := ⟨Reg.CHk_DT_RES k, 0, 32⟩
def Fd.CHk_DT_STATUS_BVALID (k : Nat) : Fld := ⟨Reg.CHk_DT_STATUS k, 31, 1⟩
def Fd.CHk_DT_STATUS_ABORT (k : Nat) : Fld := ⟨Reg.CHk_DT_STATUS k, 30, 1⟩
def Fd.CHk_DT_STATUS_RESULT (k : Nat) : Fld := ⟨Reg.CHk_DT_STATUS k, 24, 4⟩
def Fd.CHk_DT_STATUS_STEP (k : Nat) : Fld := ⟨Reg.CHk_DT_STATUS k, 16, 4⟩
def Fd.CHk_DT_STATUS_RESTARTS (k : Nat) : Fld := ⟨Reg.CHk_DT_STATUS k, 0, 8⟩
def Fd.CHk_LM_EVT_TEST_FAIL (k : Nat) : Fld := ⟨Reg.CHk_LM_EVT k, 5, 1⟩
def Fd.CHk_LM_EVT_TEST_DONE (k : Nat) : Fld := ⟨Reg.CHk_LM_EVT k, 4, 1⟩
def Fd.CHk_LM_EVT_FLOOR (k : Nat) : Fld := ⟨Reg.CHk_LM_EVT k, 3, 1⟩
def Fd.CHk_LM_EVT_FLUX (k : Nat) : Fld := ⟨Reg.CHk_LM_EVT k, 2, 1⟩
def Fd.CHk_LM_EVT_THERM (k : Nat) : Fld := ⟨Reg.CHk_LM_EVT k, 1, 1⟩
def Fd.CHk_LM_EVT_POWER (k : Nat) : Fld := ⟨Reg.CHk_LM_EVT k, 0, 1⟩
def Fd.CELLc_LINK_STATE (c : Nat) : Fld := ⟨Reg.CELLc_LINK c, 29, 3⟩
def Fd.CELLc_LINK_STALE (c : Nat) : Fld := ⟨Reg.CELLc_LINK c, 28, 1⟩
def Fd.CELLc_LINK_CLASS (c : Nat) : Fld := ⟨Reg.CELLc_LINK c, 27, 1⟩
def Fd.CELLc_LINK_DETAIL (c : Nat) : Fld := ⟨Reg.CELLc_LINK c, 0, 8⟩
def Fd.CELLc_VBUS_VBUS (c : Nat) : Fld := ⟨Reg.CELLc_VBUS c, 0, 12⟩
def Fd.CELLc_TELEM_TEMP (c : Nat) : Fld := ⟨Reg.CELLc_TELEM c, 24, 8⟩
def Fd.CELLc_TELEM_FAULT (c : Nat) : Fld := ⟨Reg.CELLc_TELEM c, 16, 5⟩
def Fd.CELLc_TELEM_LIMCNT (c : Nat) : Fld := ⟨Reg.CELLc_TELEM c, 12, 4⟩
def Fd.CELLc_TELEM_STATE (c : Nat) : Fld := ⟨Reg.CELLc_TELEM c, 8, 3⟩
def Fd.CELLc_TELEM_DERR (c : Nat) : Fld := ⟨Reg.CELLc_TELEM c, 7, 1⟩
def Fd.CELLc_TELEM_RSYNC (c : Nat) : Fld := ⟨Reg.CELLc_TELEM c, 6, 1⟩
def Fd.CELLc_TELEM_ACK_SEQ (c : Nat) : Fld := ⟨Reg.CELLc_TELEM c, 3, 3⟩
def Fd.CELLc_TELEM_FSEQ (c : Nat) : Fld := ⟨Reg.CELLc_TELEM c, 0, 3⟩
def Fd.CELLc_FAULT_FIRST (c : Nat) : Fld := ⟨Reg.CELLc_FAULT c, 16, 5⟩
def Fd.CELLc_FAULT_REPORTS (c : Nat) : Fld := ⟨Reg.CELLc_FAULT c, 0, 16⟩
def Fd.CELLc_LIMIT_LIMIT (c : Nat) : Fld := ⟨Reg.CELLc_LIMIT c, 0, 32⟩
def Fd.CELLc_LINK_ERR_CRC (c : Nat) : Fld := ⟨Reg.CELLc_LINK_ERR c, 24, 8⟩
def Fd.CELLc_LINK_ERR_CODE (c : Nat) : Fld := ⟨Reg.CELLc_LINK_ERR c, 16, 8⟩
def Fd.CELLc_LINK_ERR_MISS (c : Nat) : Fld := ⟨Reg.CELLc_LINK_ERR c, 8, 8⟩
def Fd.CELLc_LINK_ERR_DOWN (c : Nat) : Fld := ⟨Reg.CELLc_LINK_ERR c, 0, 8⟩
def Fd.CELLc_LINK_ERR2_RSYNC (c : Nat) : Fld := ⟨Reg.CELLc_LINK_ERR2 c, 8, 8⟩
def Fd.CELLc_LINK_ERR2_GAP (c : Nat) : Fld := ⟨Reg.CELLc_LINK_ERR2 c, 0, 8⟩
def Fd.CELLc_ACK_MAX (c : Nat) : Fld := ⟨Reg.CELLc_ACK c, 16, 8⟩
def Fd.CELLc_ACK_LAST (c : Nat) : Fld := ⟨Reg.CELLc_ACK c, 8, 8⟩
def Fd.CELLc_ACK_SEQ (c : Nat) : Fld := ⟨Reg.CELLc_ACK c, 0, 3⟩
def Fd.CELLc_ID_DEV_ID (c : Nat) : Fld := ⟨Reg.CELLc_ID c, 16, 16⟩
def Fd.CELLc_ID_DIE_REV (c : Nat) : Fld := ⟨Reg.CELLc_ID c, 8, 8⟩
def Fd.CELLc_ID_MAX_PROFILE (c : Nat) : Fld := ⟨Reg.CELLc_ID c, 0, 8⟩
def Fd.CELLc_CCFG01_CCFG1 (c : Nat) : Fld := ⟨Reg.CELLc_CCFG01 c, 16, 16⟩
def Fd.CELLc_CCFG01_CCFG0 (c : Nat) : Fld := ⟨Reg.CELLc_CCFG01 c, 0, 16⟩
def Fd.CELLc_CCFG23_CCFG3 (c : Nat) : Fld := ⟨Reg.CELLc_CCFG23 c, 16, 16⟩
def Fd.CELLc_CCFG23_CCFG2 (c : Nat) : Fld := ⟨Reg.CELLc_CCFG23 c, 0, 16⟩
def Fd.DIAG_CFG_STAB : Fld := ⟨Reg.DIAG_CFG, 8, 4⟩
def Fd.DIAG_CFG_WLOG : Fld := ⟨Reg.DIAG_CFG, 0, 4⟩
def Fd.DIAG_PVMIN_PVMIN : Fld := ⟨Reg.DIAG_PVMIN, 0, 16⟩
def Fd.DIAG_CRST_CRST : Fld := ⟨Reg.DIAG_CRST, 0, 8⟩
def Fd.DIAG_EVT_NOPILOT : Fld := ⟨Reg.DIAG_EVT, 1, 1⟩
def Fd.DIAG_EVT_CAND : Fld := ⟨Reg.DIAG_EVT, 0, 1⟩
def Fd.DIAG_ZSCALEk_ZSCALE (k : Nat) : Fld := ⟨Reg.DIAG_ZSCALEk k, 0, 32⟩
def Fd.DIAG_CSCALEk_CSCALE (k : Nat) : Fld := ⟨Reg.DIAG_CSCALEk k, 0, 32⟩
def Fd.DIAG_Mk_Z_ZM (k : Nat) : Fld := ⟨Reg.DIAG_Mk_Z k, 0, 32⟩
def Fd.DIAG_Mk_A_VALID (k : Nat) : Fld := ⟨Reg.DIAG_Mk_A k, 31, 1⟩
def Fd.DIAG_Mk_A_STEADY (k : Nat) : Fld := ⟨Reg.DIAG_Mk_A k, 30, 1⟩
def Fd.DIAG_Mk_A_ZA (k : Nat) : Fld := ⟨Reg.DIAG_Mk_A k, 0, 16⟩
def Fd.DIAG_Mk_C_CA (k : Nat) : Fld := ⟨Reg.DIAG_Mk_C k, 0, 32⟩
def Fd.DIAG_Mk_V_AV (k : Nat) : Fld := ⟨Reg.DIAG_Mk_V k, 0, 16⟩
def Fd.DIAG_Mk_RDC_R (k : Nat) : Fld := ⟨Reg.DIAG_Mk_RDC k, 0, 32⟩
def Fd.DIAG_Mk_DC_RESULT (k : Nat) : Fld := ⟨Reg.DIAG_Mk_DC k, 0, 4⟩
def Fd.DIAG_Ck_Z_CZ (k : Nat) : Fld := ⟨Reg.DIAG_Ck_Z k, 0, 32⟩
def Fd.DIAG_Ck_A_CNT (k : Nat) : Fld := ⟨Reg.DIAG_Ck_A k, 16, 8⟩
def Fd.DIAG_Ck_A_CA_C (k : Nat) : Fld := ⟨Reg.DIAG_Ck_A k, 0, 16⟩
def Fd.DIAG_Ck_C_CC (k : Nat) : Fld := ⟨Reg.DIAG_Ck_C k, 0, 32⟩
def Fd.DIAG_Ck_R_CRDC (k : Nat) : Fld := ⟨Reg.DIAG_Ck_R k, 0, 32⟩
def Fd.LID_COND_COND : Fld := ⟨Reg.LID_COND, 0, 32⟩
def Fd.LID_FLT_NEW_NEW : Fld := ⟨Reg.LID_FLT_NEW, 0, 32⟩
def Fd.LID_ACT_HOSTACT : Fld := ⟨Reg.LID_ACT, 16, 16⟩
def Fd.LID_ACT_ACTIVE : Fld := ⟨Reg.LID_ACT, 0, 16⟩
def Fd.LID_LATCH_SPENT : Fld := ⟨Reg.LID_LATCH, 16, 16⟩
def Fd.LID_LATCH_LATCHED : Fld := ⟨Reg.LID_LATCH, 0, 16⟩
def Fd.LID_ZONE_CONFLICT : Fld := ⟨Reg.LID_ZONE, 8, 8⟩
def Fd.LID_ZONE_HELD : Fld := ⟨Reg.LID_ZONE, 0, 8⟩
def Fd.LID_WIN_WIN (k : Nat) : Fld := ⟨Reg.LID_WIN, 4 * k, 4⟩
def Fd.LID_STOP_CLEARED : Fld := ⟨Reg.LID_STOP, 8, 8⟩
def Fd.LID_STOP_STOP : Fld := ⟨Reg.LID_STOP, 0, 8⟩
def Fd.LID_RLY_ENERGISED : Fld := ⟨Reg.LID_RLY, 0, 4⟩
def Fd.LID_CIN_KNOWN : Fld := ⟨Reg.LID_CIN, 24, 8⟩
def Fd.LID_CIN_STATE (i : Nat) : Fld := ⟨Reg.LID_CIN, 2 * i, 2⟩
def Fd.LID_EVT_MAILBOX : Fld := ⟨Reg.LID_EVT, 4, 1⟩
def Fd.LID_EVT_CONTACT : Fld := ⟨Reg.LID_EVT, 3, 1⟩
def Fd.LID_EVT_RELAY : Fld := ⟨Reg.LID_EVT, 2, 1⟩
def Fd.LID_EVT_COND : Fld := ⟨Reg.LID_EVT, 1, 1⟩
def Fd.LID_EVT_ENTRY : Fld := ⟨Reg.LID_EVT, 0, 1⟩
def Fd.LID_CFG0_HB_T : Fld := ⟨Reg.LID_CFG0, 16, 16⟩
def Fd.LID_CFG0_HB_MASK : Fld := ⟨Reg.LID_CFG0, 8, 5⟩
def Fd.LID_CFG1_SAFE_T : Fld := ⟨Reg.LID_CFG1, 16, 16⟩
def Fd.LID_CFG1_RLY_HOLD : Fld := ⟨Reg.LID_CFG1, 0, 16⟩
def Fd.LID_CFG2_RST_MIN : Fld := ⟨Reg.LID_CFG2, 16, 16⟩
def Fd.LID_CINMODE_FACT (i : Nat) : Fld := ⟨Reg.LID_CINMODE, 4 * i + 2, 1⟩
def Fd.LID_CINMODE_MODE (i : Nat) : Fld := ⟨Reg.LID_CINMODE, 4 * i, 2⟩
def Fd.LID_CINTH0_T_ACT : Fld := ⟨Reg.LID_CINTH0, 16, 10⟩
def Fd.LID_CINTH0_T_SHORT : Fld := ⟨Reg.LID_CINTH0, 0, 10⟩
def Fd.LID_CINTH1_DEB : Fld := ⟨Reg.LID_CINTH1, 24, 8⟩
def Fd.LID_CINTH1_T_OPEN : Fld := ⟨Reg.LID_CINTH1, 0, 10⟩
def Fd.LID_PERMp_CODES (p : Nat) : Fld := ⟨Reg.LID_PERMp p, 0, 8⟩
def Fd.LID_RLYr_MASK_MASK (r : Nat) : Fld := ⟨Reg.LID_RLYr_MASK r, 0, 31⟩
def Fd.LID_CADCi_CODE (i : Nat) : Fld := ⟨Reg.LID_CADCi i, 0, 10⟩
def Fd.LID_PRIe_TRIG_EN (e : Nat) : Fld := ⟨Reg.LID_PRIe_TRIG e, 31, 1⟩
def Fd.LID_PRIe_TRIG_LATCH (e : Nat) : Fld := ⟨Reg.LID_PRIe_TRIG e, 30, 1⟩
def Fd.LID_PRIe_TRIG_HRST (e : Nat) : Fld := ⟨Reg.LID_PRIe_TRIG e, 29, 1⟩
def Fd.LID_PRIe_TRIG_STOP (e : Nat) : Fld := ⟨Reg.LID_PRIe_TRIG e, 28, 1⟩
def Fd.LID_PRIe_TRIG_KIND (e : Nat) : Fld := ⟨Reg.LID_PRIe_TRIG e, 24, 2⟩
def Fd.LID_PRIe_TRIG_INPUT (e : Nat) : Fld := ⟨Reg.LID_PRIe_TRIG e, 16, 3⟩
def Fd.LID_PRIe_TRIG_ZONES (e : Nat) : Fld := ⟨Reg.LID_PRIe_TRIG e, 0, 8⟩
def Fd.LID_PRIe_ACT_ACTION (e : Nat) : Fld := ⟨Reg.LID_PRIe_ACT e, 30, 2⟩
def Fd.LID_PRIe_ACT_CHAN (e : Nat) : Fld := ⟨Reg.LID_PRIe_ACT e, 16, 8⟩
def Fd.LID_PRIe_ACT_GAIN (e : Nat) : Fld := ⟨Reg.LID_PRIe_ACT e, 0, 16⟩
def Fd.LID_PRIe_MSG_ALT (e : Nat) : Fld := ⟨Reg.LID_PRIe_MSG e, 16, 16⟩
def Fd.LID_PRIe_MSG_MSG (e : Nat) : Fld := ⟨Reg.LID_PRIe_MSG e, 0, 16⟩
def Fd.LID_PRIe_REP_GAP (e : Nat) : Fld := ⟨Reg.LID_PRIe_REP e, 16, 16⟩
def Fd.LID_PRIe_REP_COUNT (e : Nat) : Fld := ⟨Reg.LID_PRIe_REP e, 0, 16⟩
def Fd.LID_SUPk_LIM0_ZHI (k : Nat) : Fld := ⟨Reg.LID_SUPk_LIM0 k, 16, 16⟩
def Fd.LID_SUPk_LIM0_ZLO (k : Nat) : Fld := ⟨Reg.LID_SUPk_LIM0 k, 0, 16⟩
def Fd.LID_SUPk_LIM1_ATOL (k : Nat) : Fld := ⟨Reg.LID_SUPk_LIM1 k, 16, 16⟩
def Fd.LID_SUPk_LIM1_CHI (k : Nat) : Fld := ⟨Reg.LID_SUPk_LIM1 k, 0, 16⟩
def Fd.LID_SUPk_LIM2_VN (k : Nat) : Fld := ⟨Reg.LID_SUPk_LIM2 k, 24, 8⟩
def Fd.LID_SUPk_LIM2_STALE (k : Nat) : Fld := ⟨Reg.LID_SUPk_LIM2 k, 0, 16⟩
def Fd.LID_SUPk_LRNMIN_LRN_ZMIN (k : Nat) : Fld := ⟨Reg.LID_SUPk_LRNMIN k, 0, 32⟩
def Fd.LID_SUPk_LRNMAX_LRN_ZMAX (k : Nat) : Fld := ⟨Reg.LID_SUPk_LRNMAX k, 0, 32⟩
def Fd.LID_SUPk_BZ_Z_MAG (k : Nat) : Fld := ⟨Reg.LID_SUPk_BZ k, 0, 32⟩
def Fd.LID_SUPk_BA_VALID (k : Nat) : Fld := ⟨Reg.LID_SUPk_BA k, 31, 1⟩
def Fd.LID_SUPk_BA_Z_ARG (k : Nat) : Fld := ⟨Reg.LID_SUPk_BA k, 0, 16⟩
def Fd.LID_SUPk_BR_R_DC (k : Nat) : Fld := ⟨Reg.LID_SUPk_BR k, 0, 32⟩
def Fd.LID_SUPk_BC_C_LINE (k : Nat) : Fld := ⟨Reg.LID_SUPk_BC k, 0, 32⟩
def Fd.LID_SUPk_BE_C_EOL (k : Nat) : Fld := ⟨Reg.LID_SUPk_BE k, 0, 32⟩
def Fd.LID_SUPk_VERD_NOBASE (k : Nat) : Fld := ⟨Reg.LID_SUPk_VERD k, 31, 1⟩
def Fd.LID_SUPk_VERD_LEARN (k : Nat) : Fld := ⟨Reg.LID_SUPk_VERD k, 30, 1⟩
def Fd.LID_SUPk_VERD_STALE (k : Nat) : Fld := ⟨Reg.LID_SUPk_VERD k, 29, 1⟩
def Fd.LID_SUPk_VERD_DC (k : Nat) : Fld := ⟨Reg.LID_SUPk_VERD k, 8, 4⟩
def Fd.LID_SUPk_VERD_CAP (k : Nat) : Fld := ⟨Reg.LID_SUPk_VERD k, 6, 1⟩
def Fd.LID_SUPk_VERD_EOL (k : Nat) : Fld := ⟨Reg.LID_SUPk_VERD k, 5, 1⟩
def Fd.LID_SUPk_VERD_ANGLE (k : Nat) : Fld := ⟨Reg.LID_SUPk_VERD k, 4, 1⟩
def Fd.LID_SUPk_VERD_HIGH (k : Nat) : Fld := ⟨Reg.LID_SUPk_VERD k, 3, 1⟩
def Fd.LID_SUPk_VERD_LOW (k : Nat) : Fld := ⟨Reg.LID_SUPk_VERD k, 2, 1⟩
def Fd.LID_SUPk_CNT_JUDGED (k : Nat) : Fld := ⟨Reg.LID_SUPk_CNT k, 16, 16⟩
def Fd.LID_SUPk_CNT_DISTURBED (k : Nat) : Fld := ⟨Reg.LID_SUPk_CNT k, 0, 16⟩
def Fd.LID_MBp_REQ_CODE (p : Nat) : Fld := ⟨Reg.LID_MBp_REQ p, 24, 8⟩
def Fd.LID_MBp_REQ_ARG (p : Nat) : Fld := ⟨Reg.LID_MBp_REQ p, 16, 8⟩
def Fd.LID_MBp_REQ_TAG (p : Nat) : Fld := ⟨Reg.LID_MBp_REQ p, 0, 16⟩
def Fd.LID_MBp_STAT_PENDING (p : Nat) : Fld := ⟨Reg.LID_MBp_STAT p, 31, 1⟩
def Fd.LID_MBp_STAT_RESULT (p : Nat) : Fld := ⟨Reg.LID_MBp_STAT p, 28, 3⟩
def Fd.LID_MBp_STAT_CODE (p : Nat) : Fld := ⟨Reg.LID_MBp_STAT p, 16, 8⟩
def Fd.LID_MBp_STAT_TAG (p : Nat) : Fld := ⟨Reg.LID_MBp_STAT p, 0, 16⟩
def Fd.STOCKPOT_GEOM_MSG_BLOCKS : Fld := ⟨Reg.STOCKPOT_GEOM, 16, 10⟩
def Fd.STOCKPOT_GEOM_NBLK : Fld := ⟨Reg.STOCKPOT_GEOM, 0, 1⟩
def Fd.STOCKPOT_CFG_SPARE_MIN : Fld := ⟨Reg.STOCKPOT_CFG, 0, 16⟩
def Fd.STOCKPOT_STATUS_STATE : Fld := ⟨Reg.STOCKPOT_STATUS, 29, 3⟩
def Fd.STOCKPOT_STATUS_BUF : Fld := ⟨Reg.STOCKPOT_STATUS, 24, 5⟩
def Fd.STOCKPOT_STATUS_OWNER : Fld := ⟨Reg.STOCKPOT_STATUS, 16, 4⟩
def Fd.STOCKPOT_STATUS_MSG : Fld := ⟨Reg.STOCKPOT_STATUS, 0, 16⟩
def Fd.STOCKPOT_POS_N : Fld := ⟨Reg.STOCKPOT_POS, 0, 32⟩
def Fd.STOCKPOT_POOL_SPARE : Fld := ⟨Reg.STOCKPOT_POOL, 16, 10⟩
def Fd.STOCKPOT_POOL_BAD : Fld := ⟨Reg.STOCKPOT_POOL, 0, 10⟩
def Fd.STOCKPOT_CNT_RELOC : Fld := ⟨Reg.STOCKPOT_CNT, 24, 8⟩
def Fd.STOCKPOT_CNT_RELOC_FAIL : Fld := ⟨Reg.STOCKPOT_CNT, 16, 8⟩
def Fd.STOCKPOT_CNT_UNC : Fld := ⟨Reg.STOCKPOT_CNT, 8, 8⟩
def Fd.STOCKPOT_CNT_CORR : Fld := ⟨Reg.STOCKPOT_CNT, 0, 8⟩
def Fd.STOCKPOT_PATROL_PASSES : Fld := ⟨Reg.STOCKPOT_PATROL, 16, 16⟩
def Fd.STOCKPOT_PATROL_BLOCK : Fld := ⟨Reg.STOCKPOT_PATROL, 0, 10⟩
def Fd.STOCKPOT_MAPGEN_GEN : Fld := ⟨Reg.STOCKPOT_MAPGEN, 0, 32⟩
def Fd.STOCKPOT_UNDER_UNDERRUN : Fld := ⟨Reg.STOCKPOT_UNDER, 0, 16⟩
def Fd.STOCKPOT_EVT_PASS : Fld := ⟨Reg.STOCKPOT_EVT, 5, 1⟩
def Fd.STOCKPOT_EVT_UNDERRUN : Fld := ⟨Reg.STOCKPOT_EVT, 4, 1⟩
def Fd.STOCKPOT_EVT_RELOC : Fld := ⟨Reg.STOCKPOT_EVT, 3, 1⟩
def Fd.STOCKPOT_EVT_DAMAGED : Fld := ⟨Reg.STOCKPOT_EVT, 2, 1⟩
def Fd.STOCKPOT_EVT_END : Fld := ⟨Reg.STOCKPOT_EVT, 1, 1⟩
def Fd.STOCKPOT_EVT_START : Fld := ⟨Reg.STOCKPOT_EVT, 0, 1⟩
def Fd.STOCKPOT_BAD0_BAD : Fld := ⟨Reg.STOCKPOT_BAD0, 0, 32⟩
def Fd.STOCKPOT_BAD1_BAD : Fld := ⟨Reg.STOCKPOT_BAD1, 0, 32⟩
def Fd.STOCKPOT_DIR_ADDR_ADDR : Fld := ⟨Reg.STOCKPOT_DIR_ADDR, 0, 8⟩
def Fd.STOCKPOT_DIR_DATA_DATA : Fld := ⟨Reg.STOCKPOT_DIR_DATA, 0, 32⟩
def Fd.HOSTIF_CFG_WPERM (p : Nat) : Fld := ⟨Reg.HOSTIF_CFG p, 16, 16⟩
def Fd.HOSTIF_CFG_LOCK_EN (p : Nat) : Fld := ⟨Reg.HOSTIF_CFG p, 4, 1⟩
def Fd.HOSTIF_CFG_RANK (p : Nat) : Fld := ⟨Reg.HOSTIF_CFG p, 0, 3⟩
def Fd.HOSTIF_LEASE_LEASE (p : Nat) : Fld := ⟨Reg.HOSTIF_LEASE p, 0, 11⟩
def Fd.HOSTIF_LOCK_ABORT (p : Nat) : Fld := ⟨Reg.HOSTIF_LOCK p, 2, 1⟩
def Fd.HOSTIF_LOCK_COMMIT (p : Nat) : Fld := ⟨Reg.HOSTIF_LOCK p, 1, 1⟩
def Fd.HOSTIF_LOCK_OPEN (p : Nat) : Fld := ⟨Reg.HOSTIF_LOCK p, 0, 1⟩
def Fd.HOSTIF_LOCKST_STATE (p : Nat) : Fld := ⟨Reg.HOSTIF_LOCKST p, 29, 3⟩
def Fd.HOSTIF_LOCKST_RESULT (p : Nat) : Fld := ⟨Reg.HOSTIF_LOCKST p, 26, 3⟩
def Fd.HOSTIF_LOCKST_ENTRIES (p : Nat) : Fld := ⟨Reg.HOSTIF_LOCKST p, 16, 9⟩
def Fd.HOSTIF_LOCKST_HOLDER (p : Nat) : Fld := ⟨Reg.HOSTIF_LOCKST p, 12, 3⟩
def Fd.HOSTIF_LOCKST_LEASE_LEFT (p : Nat) : Fld := ⟨Reg.HOSTIF_LOCKST p, 0, 11⟩
def Fd.HOSTIF_LOCKERR_ADDR (p : Nat) : Fld := ⟨Reg.HOSTIF_LOCKERR p, 0, 20⟩
def Fd.HOSTIF_GRANTS_GRANTS (p : Nat) : Fld := ⟨Reg.HOSTIF_GRANTS p, 0, 32⟩
def Fd.HOSTIF_WAITS_WAITS (p : Nat) : Fld := ⟨Reg.HOSTIF_WAITS p, 16, 16⟩
def Fd.HOSTIF_WAITS_MAXWAIT (p : Nat) : Fld := ⟨Reg.HOSTIF_WAITS p, 0, 5⟩
def Fd.HOSTIF_EVT_LINK (p : Nat) : Fld := ⟨Reg.HOSTIF_EVT p, 2, 1⟩
def Fd.HOSTIF_EVT_COMMIT_REJ (p : Nat) : Fld := ⟨Reg.HOSTIF_EVT p, 1, 1⟩
def Fd.HOSTIF_EVT_LOCK_LOST (p : Nat) : Fld := ⟨Reg.HOSTIF_EVT p, 0, 1⟩
def Fd.HOSTIF_ERRS_REJECTS (p : Nat) : Fld := ⟨Reg.HOSTIF_ERRS p, 24, 8⟩
def Fd.HOSTIF_ERRS_ACCERR (p : Nat) : Fld := ⟨Reg.HOSTIF_ERRS p, 16, 8⟩
def Fd.HOSTIF_ERRS_CLAMPS (p : Nat) : Fld := ⟨Reg.HOSTIF_ERRS p, 8, 8⟩
def Fd.HOSTIF_ERRS_CRC (p : Nat) : Fld := ⟨Reg.HOSTIF_ERRS p, 0, 8⟩
def Fd.HOSTIF_LINK_LOSSES (p : Nat) : Fld := ⟨Reg.HOSTIF_LINK p, 16, 8⟩
def Fd.HOSTIF_LINK_LINKDOWN (p : Nat) : Fld := ⟨Reg.HOSTIF_LINK p, 8, 8⟩
def Fd.HOSTIF_LINK_RESETS (p : Nat) : Fld := ⟨Reg.HOSTIF_LINK p, 0, 8⟩
def Fd.HOSTIF_LAST_KIND (p : Nat) : Fld := ⟨Reg.HOSTIF_LAST p, 28, 4⟩
def Fd.HOSTIF_LAST_ADDR (p : Nat) : Fld := ⟨Reg.HOSTIF_LAST p, 0, 20⟩
def Fd.HOSTIF_SEQ_SEQ (p : Nat) : Fld := ⟨Reg.HOSTIF_SEQ p, 0, 16⟩
def Fd.SVC_STATE_STATE : Fld := ⟨Reg.SVC_STATE, 29, 3⟩
def Fd.SVC_STATE_FAILS : Fld := ⟨Reg.SVC_STATE, 16, 8⟩
def Fd.SVC_STATE_LOCKOUT : Fld := ⟨Reg.SVC_STATE, 0, 16⟩
def Fd.SVC_CTL_CLOSE : Fld := ⟨Reg.SVC_CTL, 3, 1⟩
def Fd.SVC_CTL_TRY_PASS : Fld := ⟨Reg.SVC_CTL, 2, 1⟩
def Fd.SVC_CTL_TRY_RESP : Fld := ⟨Reg.SVC_CTL, 1, 1⟩
def Fd.SVC_CTL_REQ_CHAL : Fld := ⟨Reg.SVC_CTL, 0, 1⟩
def Fd.SVC_CFG_IDLE : Fld := ⟨Reg.SVC_CFG, 0, 12⟩
def Fd.SVC_PASSLEN_LEN : Fld := ⟨Reg.SVC_PASSLEN, 0, 6⟩
def Fd.SVC_EVT_FLASH_DONE : Fld := ⟨Reg.SVC_EVT, 4, 1⟩
def Fd.SVC_EVT_LOCKOUT : Fld := ⟨Reg.SVC_EVT, 3, 1⟩
def Fd.SVC_EVT_FAIL : Fld := ⟨Reg.SVC_EVT, 2, 1⟩
def Fd.SVC_EVT_CLOSE : Fld := ⟨Reg.SVC_EVT, 1, 1⟩
def Fd.SVC_EVT_OPEN : Fld := ⟨Reg.SVC_EVT, 0, 1⟩
def Fd.SVC_CHALw_CHAL (w : Nat) : Fld := ⟨Reg.SVC_CHALw w, 0, 32⟩
def Fd.SVC_RESPw_RESP (w : Nat) : Fld := ⟨Reg.SVC_RESPw w, 0, 32⟩
def Fd.SVC_PASSw_PASS (w : Nat) : Fld := ⟨Reg.SVC_PASSw w, 0, 32⟩
def Fd.SVC_KEYw_KEY (w : Nat) : Fld := ⟨Reg.SVC_KEYw w, 0, 32⟩
def Fd.SVC_COMMIT_COMMIT : Fld := ⟨Reg.SVC_COMMIT, 0, 32⟩
def Fd.SVC_UID0_UID_LO : Fld := ⟨Reg.SVC_UID0, 0, 32⟩
def Fd.SVC_UID1_UID_HI : Fld := ⟨Reg.SVC_UID1, 0, 32⟩
def Fd.SVC_FL_CTL_GO : Fld := ⟨Reg.SVC_FL_CTL, 31, 1⟩
def Fd.SVC_FL_CTL_OP : Fld := ⟨Reg.SVC_FL_CTL, 8, 2⟩
def Fd.SVC_FL_CTL_DEV : Fld := ⟨Reg.SVC_FL_CTL, 4, 1⟩
def Fd.SVC_FL_CTL_SLOT : Fld := ⟨Reg.SVC_FL_CTL, 0, 1⟩
def Fd.SVC_FL_ADDR_ADDR : Fld := ⟨Reg.SVC_FL_ADDR, 0, 24⟩
def Fd.SVC_FL_PTR_PTR : Fld := ⟨Reg.SVC_FL_PTR, 0, 9⟩
def Fd.SVC_FL_DATA_DATA : Fld := ⟨Reg.SVC_FL_DATA, 0, 32⟩
def Fd.SVC_FL_STATUS_BUSY : Fld := ⟨Reg.SVC_FL_STATUS, 31, 1⟩
def Fd.SVC_FL_STATUS_SESSION : Fld := ⟨Reg.SVC_FL_STATUS, 30, 1⟩
def Fd.SVC_FL_STATUS_RESULT : Fld := ⟨Reg.SVC_FL_STATUS, 24, 4⟩
def Fd.SVC_PIN_GO : Fld := ⟨Reg.SVC_PIN, 31, 1⟩
def Fd.SVC_PIN_STOP : Fld := ⟨Reg.SVC_PIN, 30, 1⟩
def Fd.SVC_PIN_STRING : Fld := ⟨Reg.SVC_PIN, 16, 3⟩
def Fd.SVC_PIN_MASK : Fld := ⟨Reg.SVC_PIN, 0, 7⟩
def Fd.BG_EVT_TLM_ERR : Fld := ⟨Reg.BG_EVT, 9, 1⟩
def Fd.BG_EVT_SNAP_LOST : Fld := ⟨Reg.BG_EVT, 8, 1⟩
def Fd.BG_EVT_SNAP : Fld := ⟨Reg.BG_EVT, 7, 1⟩
def Fd.BG_EVT_CELL_TOL : Fld := ⟨Reg.BG_EVT, 6, 1⟩
def Fd.BG_EVT_CELL_DONE : Fld := ⟨Reg.BG_EVT, 5, 1⟩
def Fd.BG_EVT_SENSE_TOL : Fld := ⟨Reg.BG_EVT, 4, 1⟩
def Fd.BG_EVT_SENSE_DONE : Fld := ⟨Reg.BG_EVT, 3, 1⟩
def Fd.BG_EVT_DS_PASS : Fld := ⟨Reg.BG_EVT, 2, 1⟩
def Fd.BG_EVT_SCRUB_UNC : Fld := ⟨Reg.BG_EVT, 1, 1⟩
def Fd.BG_EVT_SCRUB_CORR : Fld := ⟨Reg.BG_EVT, 0, 1⟩
def Fd.BG_SCR_LAST_MEM : Fld := ⟨Reg.BG_SCR_LAST, 24, 6⟩
def Fd.BG_SCR_LAST_WORD : Fld := ⟨Reg.BG_SCR_LAST, 0, 20⟩
def Fd.BG_SCR_SUPER_SUPER : Fld := ⟨Reg.BG_SCR_SUPER, 0, 32⟩
def Fd.BG_SCR_DSPOS_POS : Fld := ⟨Reg.BG_SCR_DSPOS, 0, 20⟩
def Fd.BG_SCR_DS_PASSES : Fld := ⟨Reg.BG_SCR_DS, 16, 16⟩
def Fd.BG_SCR_DS_CORR : Fld := ⟨Reg.BG_SCR_DS, 8, 8⟩
def Fd.BG_SCR_DS_UNC : Fld := ⟨Reg.BG_SCR_DS, 0, 8⟩
def Fd.BG_SCAL_CFG_TOL : Fld := ⟨Reg.BG_SCAL_CFG, 16, 16⟩
def Fd.BG_SCAL_CFG_SLOTS : Fld := ⟨Reg.BG_SCAL_CFG, 0, 8⟩
def Fd.BG_CCAL_CFG_TOL : Fld := ⟨Reg.BG_CCAL_CFG, 16, 16⟩
def Fd.BG_CCAL_CFG_SLOTS : Fld := ⟨Reg.BG_CCAL_CFG, 0, 8⟩
def Fd.BG_SCRm_PASSES (m : Nat) : Fld := ⟨Reg.BG_SCRm m, 16, 16⟩
def Fd.BG_SCRm_CORR (m : Nat) : Fld := ⟨Reg.BG_SCRm m, 8, 8⟩
def Fd.BG_SCRm_UNC (m : Nat) : Fld := ⟨Reg.BG_SCRm m, 0, 8⟩
def Fd.BG_SCALn_MEAN_MEAN (n : Nat) : Fld := ⟨Reg.BG_SCALn_MEAN n, 0, 24⟩
def Fd.BG_SCALn_STAT_OUT (n : Nat) : Fld := ⟨Reg.BG_SCALn_STAT n, 31, 1⟩
def Fd.BG_SCALn_STAT_RUN (n : Nat) : Fld := ⟨Reg.BG_SCALn_STAT n, 30, 1⟩
def Fd.BG_SCALn_STAT_ROUNDS (n : Nat) : Fld := ⟨Reg.BG_SCALn_STAT n, 0, 16⟩
def Fd.BG_CCALc_OUT (c : Nat) : Fld := ⟨Reg.BG_CCALc c, 31, 1⟩
def Fd.BG_CCALc_NONE (c : Nat) : Fld := ⟨Reg.BG_CCALc c, 30, 1⟩
def Fd.BG_CCALc_AVG (c : Nat) : Fld := ⟨Reg.BG_CCALc c, 16, 12⟩
def Fd.BG_CCALc_DEV (c : Nat) : Fld := ⟨Reg.BG_CCALc c, 0, 16⟩
def Fd.BG_SNAP_SETs_COUNT (s : Nat) : Fld := ⟨Reg.BG_SNAP_SETs s, 16, 5⟩
def Fd.BG_SNAP_SETs_FIRST (s : Nat) : Fld := ⟨Reg.BG_SNAP_SETs s, 0, 8⟩
def Fd.BG_SNAPs_STAT_SEQ (s : Nat) : Fld := ⟨Reg.BG_SNAPs_STAT s, 16, 16⟩
def Fd.BG_SNAPs_STAT_ERR (s : Nat) : Fld := ⟨Reg.BG_SNAPs_STAT s, 0, 16⟩
def Fd.BG_SNAPs_TICK_TICK (s : Nat) : Fld := ⟨Reg.BG_SNAPs_TICK s, 0, 32⟩
def Fd.BG_SNAP_ADDRi_ADDR (i : Nat) : Fld := ⟨Reg.BG_SNAP_ADDRi i, 2, 18⟩
def Fd.BG_SNAPs_Dj_DATA (s j : Nat) : Fld := ⟨Reg.BG_SNAPs_Dj s j, 0, 32⟩
def Fd.EVT_SUMw_PEND (w : Nat) : Fld := ⟨Reg.EVT_SUMw w, 0, 32⟩
def Fd.EVT_HOSTh_SUMw_PEND (h w : Nat) : Fld := ⟨Reg.EVT_HOSTh_SUMw h w, 0, 32⟩
def Fd.EVT_STRw_STR (w j : Nat) : Fld := ⟨Reg.EVT_STRw w, 8 * j, 8⟩
def Fd.IMG_STATUS_STANDBY_DONE : Fld := ⟨Reg.IMG_STATUS, 5, 1⟩
def Fd.IMG_STATUS_SINGLE : Fld := ⟨Reg.IMG_STATUS, 4, 1⟩
def Fd.IMG_STATUS_FALLBACK : Fld := ⟨Reg.IMG_STATUS, 3, 1⟩
def Fd.IMG_STATUS_OWNED : Fld := ⟨Reg.IMG_STATUS, 2, 1⟩
def Fd.IMG_STATUS_LOADED : Fld := ⟨Reg.IMG_STATUS, 0, 2⟩
def Fd.IMG_SLOT_A_RESULT : Fld := ⟨Reg.IMG_SLOT_A, 24, 4⟩
def Fd.IMG_SLOT_A_PROFILE : Fld := ⟨Reg.IMG_SLOT_A, 0, 16⟩
def Fd.IMG_SLOT_B_RESULT : Fld := ⟨Reg.IMG_SLOT_B, 24, 4⟩
def Fd.IMG_SLOT_B_PROFILE : Fld := ⟨Reg.IMG_SLOT_B, 0, 16⟩
def Fd.IMG_SEQ_A_SEQ : Fld := ⟨Reg.IMG_SEQ_A, 0, 32⟩
def Fd.IMG_SEQ_B_SEQ : Fld := ⟨Reg.IMG_SEQ_B, 0, 32⟩
def Fd.IMG_SITE_ID_SITE_ID : Fld := ⟨Reg.IMG_SITE_ID, 0, 32⟩
def Fd.IMG_PROFILE_PROFILE : Fld := ⟨Reg.IMG_PROFILE, 0, 16⟩
def Fd.IMG_ERR_TYPE : Fld := ⟨Reg.IMG_ERR, 16, 16⟩
def Fd.IMG_ERR_SLOT : Fld := ⟨Reg.IMG_ERR, 8, 1⟩
def Fd.IMG_ERR_DETAIL : Fld := ⟨Reg.IMG_ERR, 0, 8⟩
def Fd.IMG_ERR_OFF_OFFSET : Fld := ⟨Reg.IMG_ERR_OFF, 0, 21⟩
def Fd.IMG_EVT_SINGLE : Fld := ⟨Reg.IMG_EVT, 2, 1⟩
def Fd.IMG_EVT_FALLBACK : Fld := ⟨Reg.IMG_EVT, 1, 1⟩
def Fd.IMG_EVT_REFUSED : Fld := ⟨Reg.IMG_EVT, 0, 1⟩

end Sys2Proof.Machine
end

