-- ==== Sys2Proof/Machine/RegMap.lean ====
section
/-! DEFINITION. The register map of the host window: for every register of spec files 01 to 17 its place, the
access code of each of its bits (R13), its reset word (R12, R418) and which bits an image loads (R12).
The rows restate the register tables of the spec, block by block (R38, R418, R420). -/
namespace Sys2Proof.Machine

/-- One register as the spec's tables give it: masks of the bits holding each access code of R13 (a bit in no mask
is RO or reserved), the reset word, and the bits loaded from the general (G) or the safety (S) section (R12). -/
structure RegInfo where
  name : String
  reset : Nat
  rw : Nat
  sh : Nat
  w1c : Nat
  wo : Nat
  lid : Nat
  imgG : Nat
  imgS : Nat
  deriving DecidableEq, Repr

/-- One row of a block's table: the offset of its first register and up to two index ranges with their strides. -/
structure RegRow where
  off : Nat
  n1 : Nat
  s1 : Nat
  n2 : Nat
  s2 : Nat
  info : RegInfo
  deriving DecidableEq, Repr

/-- The row holds a register at offset `o` of its block. -/
def RegRow.holds (r : RegRow) (o : Nat) : Bool :=
  if o < r.off then false
  else
    let q := o - r.off
    if r.s1 == 0 then q == 0
    else if r.s2 == 0 then q % r.s1 == 0 && q / r.s1 < r.n1
    else q / r.s1 < r.n1 && (q % r.s1) % r.s2 == 0 && (q % r.s1) / r.s2 < r.n2

def sysRows0 : List RegRow :=
  [ ⟨0, 1, 0, 1, 0, ⟨"SYS_ID", 0, 0, 0, 0, 0, 0, 0, 0⟩⟩,
    ⟨4, 1, 0, 1, 0, ⟨"SYS_CAP", 0, 0, 0, 0, 0, 0, 0, 0⟩⟩,
    ⟨8, 1, 0, 1, 0, ⟨"SYS_STATE", 0, 0, 0, 0, 0, 0, 0, 0⟩⟩,
    ⟨0xC, 1, 0, 1, 0, ⟨"SYS_STR_STATE", 0, 0, 0, 0, 0, 0, 0, 0⟩⟩,
    ⟨0x10, 1, 0, 1, 0, ⟨"SYS_EVT", 0, 0, 0, 7, 0, 0, 0, 0⟩⟩,
    ⟨0x14, 1, 0, 1, 0, ⟨"SYS_RESTART", 0, 0xFFFFFFFF, 0, 0, 0, 0, 0, 0⟩⟩,
    ⟨0x18, 1, 0, 1, 0, ⟨"SYS_START0", 0x2EE0804, 0, 0, 0, 0, 0, 0xFFFFFFFF, 0⟩⟩,
    ⟨0x1C, 1, 0, 1, 0, ⟨"SYS_START1", 0x4B0000A0, 0, 0, 0, 0, 0, 0xFFFFFFFF, 0⟩⟩,
    ⟨0x20, 1, 0, 1, 0, ⟨"SYS_START2", 0x20, 0, 0, 0, 0, 0, 0xFFFF, 0⟩⟩,
    ⟨0x24, 1, 0, 1, 0, ⟨"SYS_START3", 0x7FFF8000, 0, 0, 0, 0, 0, 0xFFFFFFFF, 0⟩⟩,
    ⟨0x30, 4, 4, 1, 0, ⟨"SYS_IENh", 0, 7, 0, 0, 0, 0, 0, 0⟩⟩ ]

/-- Every register of the SYS block. -/
def sysRows : List RegRow :=
  sysRows0

def clkRows0 : List RegRow :=
  [ ⟨0, 1, 0, 1, 0, ⟨"CLK_STATUS", 0, 0, 0, 0, 0, 0, 0, 0⟩⟩,
    ⟨4, 1, 0, 1, 0, ⟨"CLK_STEER", 0, 0, 0, 0, 0, 0, 0, 0⟩⟩,
    ⟨8, 1, 0, 1, 0, ⟨"CLK_STEER_LIM", 0x346DC6, 0, 0, 0, 0, 0, 0x7FFFFF, 0⟩⟩,
    ⟨0xC, 1, 0, 1, 0, ⟨"CLK_SLEW", 4, 0, 0, 0, 0, 0, 0xFFF, 0⟩⟩,
    ⟨0x10, 1, 0, 1, 0, ⟨"CLK_ISLAND_OK", 1, 0, 0, 0, 0, 0, 0, 0⟩⟩,
    ⟨0x14, 1, 0, 1, 0, ⟨"CLK_PD_STATUS", 1, 0, 0, 0, 0, 0, 0, 0⟩⟩,
    ⟨0x18, 1, 0, 1, 0, ⟨"CLK_PD_FAULT", 0, 0, 0, 0, 0, 0, 0, 0⟩⟩,
    ⟨0x1C, 1, 0, 1, 0, ⟨"CLK_LATE_CNT", 0, 0xFFFFFF, 0, 0, 0, 0, 0, 0⟩⟩,
    ⟨0x20, 1, 0, 1, 0, ⟨"CLK_TICK_LO", 0, 0, 0, 0, 0, 0, 0, 0⟩⟩,
    ⟨0x24, 1, 0, 1, 0, ⟨"CLK_TICK_HI", 0, 0, 0, 0, 0, 0, 0, 0⟩⟩,
    ⟨0x28, 1, 0, 1, 0, ⟨"CLK_EVT", 0, 0, 0, 0x3F, 0, 0, 0, 0⟩⟩,
    ⟨0x30, 4, 4, 1, 0, ⟨"CLK_IENh", 0, 0x3F, 0, 0, 0, 0, 0, 0⟩⟩ ]

/-- Every register of the CLK block. -/
def clkRows : List RegRow :=
  clkRows0

def rackRows0 : List RegRow :=
  [ ⟨0, 1, 0, 1, 0, ⟨"RACK_CTRL", 0, 0, 0, 0, 3, 0, 0, 0⟩⟩,
    ⟨4, 1, 0, 1, 0, ⟨"RACK_STATUS", 0, 0, 0, 0, 0, 0, 0, 0⟩⟩,
    ⟨8, 1, 0, 1, 0, ⟨"RACK_FRAME", 0, 0, 0, 0, 0, 0, 0, 0⟩⟩,
    ⟨0xC, 1, 0, 1, 0, ⟨"RACK_EVT", 0, 0, 0, 3, 0, 0, 0, 0⟩⟩,
    ⟨0x10, 1, 0, 1, 0, ⟨"RACK_SKIP_CNT", 0, 0xFFFFFFFF, 0, 0, 0, 0, 0, 0⟩⟩,
    ⟨0x14, 1, 0, 1, 0, ⟨"RACK_CUT_CNT", 0, 0xFFFFFFFF, 0, 0, 0, 0, 0, 0⟩⟩,
    ⟨0x20, 1, 0, 1, 0, ⟨"RACK_MIN0", 0, 0, 0, 0, 0, 0, 0xFFFFFFFF, 0⟩⟩,
    ⟨0x24, 1, 0, 1, 0, ⟨"RACK_MIN1", 0, 0, 0, 0, 0, 0, 0xFFFFFF, 0⟩⟩,
    ⟨0x400, 128, 4, 1, 0, ⟨"RACK_ACTIVEw", 0, 0, 0, 0, 0, 0, 0xFFFFFFFF, 0⟩⟩,
    ⟨0x600, 128, 4, 1, 0, ⟨"RACK_STBYw", 0, 0xFFFFFFFF, 0, 0, 0, 0, 0xFFFFFFFF, 0⟩⟩,
    ⟨0x30, 4, 4, 1, 0, ⟨"RACK_IENh", 0, 3, 0, 0, 0, 0, 0, 0⟩⟩ ]

/-- Every register of the RACK block. -/
def rackRows : List RegRow :=
  rackRows0

def tdmRows0 : List RegRow :=
  [ ⟨0, 1, 0, 1, 0, ⟨"TDMn_CFG", 0x40, 0, 0, 0, 0, 0, 0x7FF037B, 0⟩⟩,
    ⟨4, 1, 0, 1, 0, ⟨"TDMn_FMT", 0x22201, 0, 0x3F331F, 0, 0, 0, 0x3F331F, 0⟩⟩,
    ⟨8, 1, 0, 1, 0, ⟨"TDMn_MASK", 3, 0, 0xFFFFFFFF, 0, 0, 0, 0xFFFFFFFF, 0⟩⟩,
    ⟨0xC, 1, 0, 1, 0, ⟨"TDMn_LIVE_FMT", 0x22201, 0, 0, 0, 0, 0, 0, 0⟩⟩,
    ⟨0x10, 1, 0, 1, 0, ⟨"TDMn_LIVE_MASK", 3, 0, 0, 0, 0, 0, 0, 0⟩⟩,
    ⟨0x14, 1, 0, 1, 0, ⟨"TDMn_STATUS", 0, 0, 0, 0, 0, 0, 0, 0⟩⟩,
    ⟨0x18, 1, 0, 1, 0, ⟨"TDMn_CLKMON", 0x3E8, 0, 0, 0, 0, 0, 0x7FF, 0⟩⟩,
    ⟨0x1C, 1, 0, 1, 0, ⟨"TDMn_PERIOD", 0, 0, 0, 0, 0, 0, 0, 0⟩⟩,
    ⟨0x20, 1, 0, 1, 0, ⟨"TDMn_ERR_CNT", 0, 0xFFFFFFFF, 0, 0, 0, 0, 0, 0⟩⟩,
    ⟨0x24, 1, 0, 1, 0, ⟨"TDMn_FIFO_CNT", 0, 0xFFFFFFFF, 0, 0, 0, 0, 0, 0⟩⟩,
    ⟨0x28, 1, 0, 1, 0, ⟨"TDMn_EVT", 0, 0, 0, 0xF, 0, 0, 0, 0⟩⟩,
    ⟨0x100, 32, 4, 1, 0, ⟨"TDMn_TXSRCj", 0, 0, 0xE7, 0, 0, 0, 0xE7, 0⟩⟩,
    ⟨0x180, 32, 4, 1, 0, ⟨"TDMn_LIVE_TXSRCj", 0, 0, 0, 0, 0, 0, 0, 0⟩⟩,
    ⟨0x30, 4, 4, 1, 0, ⟨"TDMn_IENh", 0, 0xF, 0, 0, 0, 0, 0, 0⟩⟩ ]

/-- Every register of the TDM blocks. -/
def tdmRows : List RegRow :=
  tdmRows0

def aesRows0 : List RegRow :=
  [ ⟨0, 1, 0, 1, 0, ⟨"AESn_CFG", 0x18, 0, 0, 0, 0, 0, 0x1F9, 0⟩⟩,
    ⟨4, 1, 0, 1, 0, ⟨"AESn_STATUS", 0x18000000, 0, 0, 0, 0, 0, 0, 0⟩⟩,
    ⟨8, 1, 0, 1, 0, ⟨"AESn_CLKMON", 0x3E8, 0, 0, 0, 0, 0, 0x7FF, 0⟩⟩,
    ⟨0xC, 1, 0, 1, 0, ⟨"AESn_PERIOD", 0, 0, 0, 0, 0, 0, 0, 0⟩⟩,
    ⟨0x10, 1, 0, 1, 0, ⟨"AESn_ERR_CNT", 0, 0xFFFFFFFF, 0, 0, 0, 0, 0, 0⟩⟩,
    ⟨0x14, 1, 0, 1, 0, ⟨"AESn_SUBST_CNT", 0, 0xFFFFFFFF, 0, 0, 0, 0, 0, 0⟩⟩,
    ⟨0x28, 1, 0, 1, 0, ⟨"AESn_EVT", 0, 0, 0, 0xF, 0, 0, 0, 0⟩⟩,
    ⟨0x100, 6, 4, 1, 0, ⟨"AESn_CS_Aw", 0, 0, 0, 0, 0, 0, 0, 0⟩⟩,
    ⟨0x120, 6, 4, 1, 0, ⟨"AESn_CS_Bw", 0, 0, 0, 0, 0, 0, 0, 0⟩⟩,
    ⟨0x30, 4, 4, 1, 0, ⟨"AESn_IENh", 0, 0xF, 0, 0, 0, 0, 0, 0⟩⟩ ]

/-- Every register of the AES blocks. -/
def aesRows : List RegRow :=
  aesRows0

def routeRows0 : List RegRow :=
  [ ⟨0, 1, 0, 1, 0, ⟨"ALIGN_CFG", 0x400807, 0, 0, 0, 0, 0, 0xFF0F07, 0⟩⟩,
    ⟨4, 1, 0, 1, 0, ⟨"ALIGN_GRP", 0x2C688, 0, 0, 0, 0, 0, 0x3FFFF, 0⟩⟩,
    ⟨8, 1, 0, 1, 0, ⟨"ALIGN_GAIN", 0x50000320, 0, 0, 0, 0, 0, 0xFFFFFFFF, 0⟩⟩,
    ⟨0xC, 1, 0, 1, 0, ⟨"ALIGN_STATUS", 0, 0, 0, 0, 0, 0, 0, 0⟩⟩,
    ⟨0x10, 1, 0, 1, 0, ⟨"ALIGN_REQ", 0, 0, 0, 0, 0, 0, 0, 0⟩⟩,
    ⟨0x14, 1, 0, 1, 0, ⟨"ALIGN_UNDER0", 0, 0xFFFFFFFF, 0, 0, 0, 0, 0, 0⟩⟩,
    ⟨0x18, 1, 0, 1, 0, ⟨"ALIGN_UNDER1", 0, 0xFFFF, 0, 0, 0, 0, 0, 0⟩⟩,
    ⟨0x28, 1, 0, 1, 0, ⟨"ROUTE_EVT", 0, 0, 0, 0xFF, 0, 0, 0, 0⟩⟩,
    ⟨0x40, 1, 0, 1, 0, ⟨"ASRC_CFG", 0x80260004, 0, 0, 0, 0, 0, 0xFFFF000F, 0⟩⟩,
    ⟨0x44, 1, 0, 1, 0, ⟨"ASRC_GAIN", 0x4001000, 0, 0, 0, 0, 0, 0xFFFFFFFF, 0⟩⟩,
    ⟨0x48, 1, 0, 1, 0, ⟨"ASRC_ROM_ADDR", 0, 0x7FFF, 0, 0, 0, 0, 0, 0⟩⟩,
    ⟨0x4C, 1, 0, 1, 0, ⟨"ASRC_ROM_DATA", 0, 0, 0, 0, 0, 0, 0, 0⟩⟩,
    ⟨0x100, 6, 0x10, 1, 0, ⟨"ASRCn_STATUS", 0x40000000, 0, 0, 0, 0, 0, 0, 0⟩⟩,
    ⟨0x104, 6, 0x10, 1, 0, ⟨"ASRCn_RATIO", 0, 0, 0, 0, 0, 0, 0, 0⟩⟩,
    ⟨0x108, 6, 0x10, 1, 0, ⟨"ASRCn_POS", 0, 0, 0, 0, 0, 0, 0, 0⟩⟩,
    ⟨0x400, 8, 0x10, 4, 4, ⟨"ROUTE_MIXk_i", 0xFF4000, 0, 0xFFFFFF, 0, 0, 0, 0xFFFFFF, 0⟩⟩,
    ⟨0x600, 1, 0, 1, 0, ⟨"ROUTE_MUTE", 0, 0, 0xFF, 0, 0, 0, 0xFF, 0⟩⟩,
    ⟨0x620, 8, 4, 1, 0, ⟨"ROUTE_OVRk", 0xFF0000, 0, 0, 0, 0, 0, 0, 0⟩⟩,
    ⟨0x700, 8, 4, 1, 0, ⟨"ROUTE_DELAYk", 0, 0, 0x1FFFF, 0, 0, 0, 0x1FFFF, 0⟩⟩,
    ⟨0x720, 8, 4, 1, 0, ⟨"ROUTE_DLIVEk", 0, 0, 0, 0, 0, 0, 0, 0⟩⟩,
    ⟨0x740, 1, 0, 1, 0, ⟨"ROUTE_DS_ECC", 0, 0xFFFFFFFF, 0, 0, 0, 0, 0, 0⟩⟩,
    ⟨0x30, 4, 4, 1, 0, ⟨"ROUTE_IENh", 0, 0xFF, 0, 0, 0, 0, 0, 0⟩⟩ ]

/-- Every register of the ROUTE block. -/
def routeRows : List RegRow :=
  routeRows0

def firRows0 : List RegRow :=
  [ ⟨0, 1, 0, 1, 0, ⟨"FIR_CFG", 0xA, 0, 0, 0, 0, 0, 0xF, 0⟩⟩,
    ⟨4, 1, 0, 1, 0, ⟨"FIR_STATUS", 0, 0, 0, 0, 0, 0, 0, 0⟩⟩,
    ⟨0x10, 1, 0, 1, 0, ⟨"FIR_CADDR", 0, 0x711FF, 0, 0, 0, 0, 0, 0⟩⟩,
    ⟨0x14, 1, 0, 1, 0, ⟨"FIR_CDATA", 0, 0xFFFFFF, 0, 0, 0, 0, 0, 0⟩⟩,
    ⟨0x18, 1, 0, 1, 0, ⟨"FIR_COPY", 0, 0x7101F, 0, 0, 0x80000000, 0, 0, 0⟩⟩,
    ⟨0x20, 1, 0, 1, 0, ⟨"FIR_ROM_ADDR", 0, 0x3FFF, 0, 0, 0, 0, 0, 0⟩⟩,
    ⟨0x24, 1, 0, 1, 0, ⟨"FIR_ROM_DATA", 0, 0, 0, 0, 0, 0, 0, 0⟩⟩,
    ⟨0x28, 1, 0, 1, 0, ⟨"FIR_EVT", 0, 0, 0, 0xF, 0, 0, 0, 0⟩⟩,
    ⟨0x40, 1, 0, 1, 0, ⟨"FIR_ECC", 0, 0xFFFFFFFF, 0, 0, 0, 0, 0, 0⟩⟩,
    ⟨0x100, 8, 4, 1, 0, ⟨"FIR_REQk", 0, 0, 1, 0, 0, 0, 1, 0⟩⟩,
    ⟨0x120, 8, 4, 1, 0, ⟨"FIR_BANKk", 0, 0, 0, 0, 0, 0, 0, 0⟩⟩,
    ⟨0x30, 4, 4, 1, 0, ⟨"FIR_IENh", 0, 0xF, 0, 0, 0, 0, 0, 0⟩⟩ ]

/-- Every register of the FIR block. -/
def firRows : List RegRow :=
  firRows0

def sieveRows0 : List RegRow :=
  [ ⟨0, 1, 0, 1, 0, ⟨"SIEVE_CFG", 0x11, 0, 0, 0, 0, 0, 0x37, 0⟩⟩,
    ⟨4, 1, 0, 1, 0, ⟨"SIEVE_VALID", 0, 0, 0, 0, 0, 0, 0, 0⟩⟩,
    ⟨8, 1, 0, 1, 0, ⟨"SIEVE_GD", 0, 0, 0, 0, 0, 0, 0, 0⟩⟩,
    ⟨0xC, 1, 0, 1, 0, ⟨"SIEVE_ABOVE", 0, 0, 0, 0, 0, 0, 0, 0⟩⟩,
    ⟨0x10, 1, 0, 1, 0, ⟨"SIEVE_BELOW", 0, 0, 0, 0, 0, 0, 0, 0⟩⟩,
    ⟨0x14, 1, 0, 1, 0, ⟨"SIEVE_SAT_CNT", 0, 0xFFFFFFFF, 0, 0, 0, 0, 0, 0⟩⟩,
    ⟨0x28, 1, 0, 1, 0, ⟨"SIEVE_EVT", 0, 0, 0, 7, 0, 0, 0, 0⟩⟩,
    ⟨0x40, 1, 0, 1, 0, ⟨"SIEVE_ROM_ADDR", 0, 0x1FF, 0, 0, 0, 0, 0, 0⟩⟩,
    ⟨0x44, 1, 0, 1, 0, ⟨"SIEVE_ROM_DATA", 0, 0, 0, 0, 0, 0, 0, 0⟩⟩,
    ⟨0x100, 20, 4, 1, 0, ⟨"SIEVE_INn_CFG", 0x91400, 0, 0, 0, 0, 0, 0x77F1F0F, 0⟩⟩,
    ⟨0x180, 20, 4, 1, 0, ⟨"SIEVE_ACTn", 0, 0, 0, 0, 0, 0, 0, 0⟩⟩,
    ⟨0x200, 20, 8, 1, 0, ⟨"SIEVE_THn_LVL", 0x7FFF8000, 0, 0xFFFFFFFF, 0, 0, 0, 0xFFFFFFFF, 0⟩⟩,
    ⟨0x204, 20, 8, 1, 0, ⟨"SIEVE_THn_CTL", 0x10000, 0, 0x31F7FFF, 0, 0, 0, 0x31F7FFF, 0⟩⟩,
    ⟨0x30, 4, 4, 1, 0, ⟨"SIEVE_IENh", 0, 7, 0, 0, 0, 0, 0, 0⟩⟩ ]

/-- Every register of the SIEVE block. -/
def sieveRows : List RegRow :=
  sieveRows0

def chRows0 : List RegRow :=
  [ ⟨0x80, 1, 0, 1, 0, ⟨"CHk_GAIN", 0x8000, 0, 0xFFFF, 0, 0, 0, 0xFFFF, 0⟩⟩,
    ⟨0x84, 1, 0, 1, 0, ⟨"CHk_GAIN_LIVE", 0, 0, 0, 0, 0, 0, 0, 0⟩⟩,
    ⟨0x100, 1, 0, 1, 0, ⟨"CHk_OL_CFG", 0, 0, 0, 0, 0, 0, 0xFFFF, 0⟩⟩,
    ⟨0x104, 1, 0, 1, 0, ⟨"CHk_OL_SEL", 0, 0, 1, 0, 0, 0, 1, 0⟩⟩,
    ⟨0x108, 1, 0, 1, 0, ⟨"CHk_CL_STATUS", 0, 0, 0, 0, 0, 0, 0, 0⟩⟩,
    ⟨0x10C, 1, 0, 1, 0, ⟨"CHk_OL_SWAP", 0, 0xFFFFFFFF, 0, 0, 0, 0, 0, 0⟩⟩,
    ⟨0x110, 1, 0, 1, 0, ⟨"CHk_LIM_CNT", 0, 0xFFFFFFFF, 0, 0, 0, 0, 0, 0⟩⟩,
    ⟨0x114, 1, 0, 1, 0, ⟨"CHk_STEP_CNT", 0, 0xFFFFFFFF, 0, 0, 0, 0, 0, 0⟩⟩,
    ⟨0x118, 1, 0, 1, 0, ⟨"CHk_DLY_STAT", 0, 0x7FFFFF, 0, 0, 0, 0, 0, 0⟩⟩,
    ⟨0x140, 2, 0x20, 1, 0, ⟨"CHk_OLn_B01", 0, 0, 0xFFFFFFFF, 0, 0, 0, 0xFFFFFFFF, 0⟩⟩,
    ⟨0x144, 2, 0x20, 1, 0, ⟨"CHk_OLn_B2A1", 0, 0, 0xFFFFFFFF, 0, 0, 0, 0xFFFFFFFF, 0⟩⟩,
    ⟨0x148, 2, 0x20, 1, 0, ⟨"CHk_OLn_A2KI", 0, 0, 0xFFFFFFFF, 0, 0, 0, 0xFFFFFFFF, 0⟩⟩,
    ⟨0x14C, 2, 0x20, 1, 0, ⟨"CHk_OLn_SHKAW", 0, 0, 0x3FFFF, 0, 0, 0, 0x3FFFF, 0⟩⟩,
    ⟨0x150, 2, 0x20, 1, 0, ⟨"CHk_OLn_UMAX", 0, 0, 0xFFFF, 0, 0, 0, 0xFFFF, 0⟩⟩,
    ⟨0x154, 2, 0x20, 1, 0, ⟨"CHk_OLn_IMAX", 0, 0, 0xFFFF, 0, 0, 0, 0xFFFF, 0⟩⟩,
    ⟨0x180, 1, 0, 1, 0, ⟨"CHk_IL_BAND", 0x6000200, 0, 0, 0, 0, 0, 0xFFFFFFFF, 0⟩⟩,
    ⟨0x184, 1, 0, 1, 0, ⟨"CHk_IL_HOLD", 0x18, 0, 0, 0, 0, 0, 0x3F, 0⟩⟩,
    ⟨0x188, 1, 0, 1, 0, ⟨"CHk_ILIM", 0, 0, 0xFFFF, 0, 0, 0, 0xFFFF, 0⟩⟩,
    ⟨0x1A0, 1, 0, 1, 0, ⟨"CHk_INJ_CTL", 0, 0x303, 0, 0, 0xC0000000, 0, 0, 0⟩⟩,
    ⟨0x1A4, 1, 0, 1, 0, ⟨"CHk_INJ_AMP", 0, 0xFFFF, 0, 0, 0, 0, 0, 0⟩⟩,
    ⟨0x1A8, 1, 0, 1, 0, ⟨"CHk_INJ_FREQ", 0, 0xFFFFFFFF, 0, 0, 0, 0, 0, 0⟩⟩,
    ⟨0x1AC, 1, 0, 1, 0, ⟨"CHk_INJ_LEN", 1, 0xFFFF, 0, 0, 0, 0, 0, 0⟩⟩,
    ⟨0x1B0, 1, 0, 1, 0, ⟨"CHk_CAP_CTL", 0, 0x7FF3FFF, 0, 0, 0xC0000000, 0, 0, 0⟩⟩,
    ⟨0x1B4, 1, 0, 1, 0, ⟨"CHk_CAP_STATUS", 0, 0, 0, 0, 0, 0, 0, 0⟩⟩ ]

def chRows1 : List RegRow :=
  [ ⟨0x1B8, 1, 0, 1, 0, ⟨"CHk_CAP_ADDR", 0, 0x7FF, 0, 0, 0, 0, 0, 0⟩⟩,
    ⟨0x1BC, 1, 0, 1, 0, ⟨"CHk_CAP_DATA", 0, 0, 0, 0, 0, 0, 0, 0⟩⟩,
    ⟨0x1E0, 1, 0, 1, 0, ⟨"CHk_CL_EVT", 0, 0, 0, 7, 0, 0, 0, 0⟩⟩,
    ⟨0x200, 1, 0, 1, 0, ⟨"CHk_MOR_CFG", 1, 0, 0, 0, 0, 0, 0xC00F00FF, 0⟩⟩,
    ⟨0x204, 1, 0, 1, 0, ⟨"CHk_MOR_GAIN", 0x2008000, 0, 0xFFFF, 0, 0, 0, 0xFFFFFFFF, 0⟩⟩,
    ⟨0x208, 1, 0, 1, 0, ⟨"CHk_MOR_LIM", 0x10000800, 0, 0, 0, 0, 0, 0xFF00FFFF, 0⟩⟩,
    ⟨0x20C, 1, 0, 1, 0, ⟨"CHk_MOR_DET", 0x12000400, 0, 0, 0, 0, 0, 0xFFFFFFFF, 0⟩⟩,
    ⟨0x210, 1, 0, 1, 0, ⟨"CHk_MOR_TRK", 0x30040, 0, 0, 0, 0, 0, 0xFFFFF, 0⟩⟩,
    ⟨0x214, 1, 0, 1, 0, ⟨"CHk_MOR_DTHETA", 0x111111, 0, 0, 0, 0, 0, 0xFFFFFFFF, 0⟩⟩,
    ⟨0x218, 1, 0, 1, 0, ⟨"CHk_MOR_STATUS", 0, 0, 0, 0, 0, 0, 0, 0⟩⟩,
    ⟨0x21C, 1, 0, 1, 0, ⟨"CHk_MOR_DLIVE", 0, 0, 0, 0, 0, 0, 0, 0⟩⟩,
    ⟨0x220, 1, 0, 1, 0, ⟨"CHk_MOR_CNT", 0, 0xFFFFFFFF, 0, 0, 0, 0, 0, 0⟩⟩,
    ⟨0x240, 1, 0, 1, 0, ⟨"CHk_FB_ACT", 0x80201, 0, 0, 0, 0, 0, 0xFFFF0F, 0⟩⟩,
    ⟨0x244, 1, 0, 1, 0, ⟨"CHk_FB_STUCK", 0x10, 0, 0, 0, 0, 0, 0x1F, 0⟩⟩,
    ⟨0x248, 1, 0, 1, 0, ⟨"CHk_FB_PL", 0x9D020004, 0, 0, 0, 0, 0, 0xFF0F070F, 0⟩⟩,
    ⟨0x24C, 1, 0, 1, 0, ⟨"CHk_FB_SCALE", 0, 0, 0, 0, 0, 0, 0xFFFFFFFF, 0⟩⟩,
    ⟨0x250, 1, 0, 1, 0, ⟨"CHk_FB_TOL", 0, 0, 0, 0, 0, 0, 0xFFFFFFFF, 0⟩⟩,
    ⟨0x254, 1, 0, 1, 0, ⟨"CHk_FB_PWM", 1, 0, 0, 0, 0, 0, 3, 0⟩⟩,
    ⟨0x258, 1, 0, 1, 0, ⟨"CHk_FB_ESC", 0x57E40004, 0, 0, 0, 0, 0, 0xFFFF00FF, 0⟩⟩,
    ⟨0x260, 1, 0, 1, 0, ⟨"CHk_FB_STATUS", 0, 0, 0, 0, 0, 0, 0, 0⟩⟩,
    ⟨0x264, 1, 0, 1, 0, ⟨"CHk_FB_CNT", 0, 0xFFFFFFFF, 0, 0, 0, 0, 0, 0⟩⟩,
    ⟨0x268, 1, 0, 1, 0, ⟨"CHk_FB_RES", 0, 0, 0, 0, 0, 0, 0, 0⟩⟩,
    ⟨0x2E0, 1, 0, 1, 0, ⟨"CHk_FB_EVT", 0, 0, 0, 0xF, 0, 0, 0, 0⟩⟩,
    ⟨0x300, 1, 0, 1, 0, ⟨"CHk_WH_CFG", 0x101, 0, 0, 0, 0, 0, 0x707, 0⟩⟩ ]

def chRows2 : List RegRow :=
  [ ⟨0x304, 1, 0, 1, 0, ⟨"CHk_WH_BAL", 0x800020, 0, 0, 0, 0, 0, 0xFFFF0FFF, 0⟩⟩,
    ⟨0x308, 1, 0, 1, 0, ⟨"CHk_WH_FREQ", 0xA00A000, 0, 0, 0, 0, 0, 0xF01FFFF, 0⟩⟩,
    ⟨0x30C, 1, 0, 1, 0, ⟨"CHk_WH_ROT", 0x57E4, 0, 0, 0, 0, 0, 0xFFFF, 0⟩⟩,
    ⟨0x310, 1, 0, 1, 0, ⟨"CHk_WH_SLOW", 0x60004040, 0, 0, 0, 0, 0, 0xFFC0F0FF, 0⟩⟩,
    ⟨0x314, 1, 0, 1, 0, ⟨"CHk_WH_SLOWCLR", 0x177, 0, 0, 0, 0, 0, 0xFFFF, 0⟩⟩,
    ⟨0x318, 1, 0, 1, 0, ⟨"CHk_WH_STATUS", 0, 0, 0, 0, 0, 0, 0, 0⟩⟩,
    ⟨0x31C, 1, 0, 1, 0, ⟨"CHk_WH_MARKS", 0, 0, 0, 0, 0, 0, 0, 0⟩⟩,
    ⟨0x320, 7, 4, 1, 0, ⟨"CHk_WH_CELLp", 0x17, 0, 0, 0, 0, 0, 0, 0⟩⟩,
    ⟨0x340, 7, 4, 1, 0, ⟨"CHk_WH_FAVGp", 0, 0, 0, 0, 0, 0, 0, 0⟩⟩,
    ⟨0x360, 1, 0, 1, 0, ⟨"CHk_WH_CNT", 0, 0xFFFFFFFF, 0, 0, 0, 0, 0, 0⟩⟩,
    ⟨0x364, 1, 0, 1, 0, ⟨"CHk_WH_SLOWCNT", 0, 0xFFFFFFFF, 0, 0, 0, 0, 0, 0⟩⟩,
    ⟨0x3E0, 1, 0, 1, 0, ⟨"CHk_WH_EVT", 0, 0, 0, 0x3F, 0, 0, 0, 0⟩⟩,
    ⟨0x400, 1, 0, 1, 0, ⟨"CHk_LK_STATUS", 0, 0, 0, 0, 0, 0, 0, 0⟩⟩,
    ⟨0x4E0, 1, 0, 1, 0, ⟨"CHk_LK_EVT", 0, 0, 0, 7, 0, 0, 0, 0⟩⟩,
    ⟨0x500, 1, 0, 1, 0, ⟨"CHk_PR_STATUS", 0, 0, 0, 0, 0, 0, 0, 0⟩⟩,
    ⟨0x504, 1, 0, 1, 0, ⟨"CHk_PR_TRIP", 0, 0, 0, 0, 0, 0, 0, 0⟩⟩,
    ⟨0x508, 1, 0, 1, 0, ⟨"CHk_PR_MERGE", 0, 0xFFFF, 0, 0, 0, 0, 0, 0⟩⟩,
    ⟨0x50C, 1, 0, 1, 0, ⟨"CHk_PR_MTICK", 0, 0, 0, 0, 0, 0, 0, 0⟩⟩,
    ⟨0x510, 1, 0, 1, 0, ⟨"CHk_PR_CFG", 0x404000, 0, 0, 0, 0, 0, 0xF0FF03, 0⟩⟩,
    ⟨0x514, 1, 0, 1, 0, ⟨"CHk_PR_OCF", 0x70000004, 0, 0, 0, 0, 0, 0xFFFF000F, 0⟩⟩,
    ⟨0x518, 1, 0, 1, 0, ⟨"CHk_PR_SHORT0", 0x4000800, 0, 0, 0, 0, 0, 0xFFFFFFFF, 0⟩⟩,
    ⟨0x51C, 1, 0, 1, 0, ⟨"CHk_PR_SHORT1", 0x10000004, 0, 0, 0, 0, 0, 0xFFFF000F, 0⟩⟩,
    ⟨0x520, 1, 0, 1, 0, ⟨"CHk_PR_LINE", 0x70000004, 0, 0, 0, 0, 0, 0xFFFF000F, 0⟩⟩,
    ⟨0x524, 1, 0, 1, 0, ⟨"CHk_PR_REV", 0x1000C40, 0, 0, 0, 0, 0, 0xFFFF0FFF, 0⟩⟩ ]

def chRows3 : List RegRow :=
  [ ⟨0x528, 1, 0, 1, 0, ⟨"CHk_PR_CBUS", 0x7FFF8000, 0, 0, 0, 0, 0, 0xFFFFFFFF, 0⟩⟩,
    ⟨0x52C, 1, 0, 1, 0, ⟨"CHk_PR_AUX", 0x7FFF7FFF, 0, 0, 0, 0, 0, 0xFFFFFFFF, 0⟩⟩,
    ⟨0x530, 1, 0, 1, 0, ⟨"CHk_PR_VCELL", 0xC800500, 0, 0, 0, 0, 0, 0xFFF0FFF, 0⟩⟩,
    ⟨0x534, 1, 0, 1, 0, ⟨"CHk_PR_CELLT", 0xCC000808, 0, 0, 0, 0, 0, 0xFF000F0F, 0⟩⟩,
    ⟨0x538, 1, 0, 1, 0, ⟨"CHk_PR_WAIT", 0xBB80078, 0, 0, 0, 0, 0, 0xFFFFFFFF, 0⟩⟩,
    ⟨0x53C, 1, 0, 1, 0, ⟨"CHk_PR_PROBE0", 0xCCD1E00, 0, 0, 0, 0, 0, 0xFFFFFFFF, 0⟩⟩,
    ⟨0x540, 1, 0, 1, 0, ⟨"CHk_PR_PROBE1", 0x5555555, 0, 0, 0, 0, 0, 0xFFFFFFFF, 0⟩⟩,
    ⟨0x544, 1, 0, 1, 0, ⟨"CHk_PR_PROBE2", 0x800, 0, 0, 0, 0, 0, 0xFFFF, 0⟩⟩,
    ⟨0x550, 1, 0, 1, 0, ⟨"CHk_PR_W_LIMIT", 0xF000040, 0, 0, 0, 0, 0, 0xFFFF80FF, 0⟩⟩,
    ⟨0x554, 1, 0, 1, 0, ⟨"CHk_PR_W_RETRY", 0x57E48004, 0, 0, 0, 0, 0, 0xFFFF80FF, 0⟩⟩,
    ⟨0x558, 1, 0, 1, 0, ⟨"CHk_PR_W_AUDIO", 0x18008, 0, 0, 0, 0, 0, 0xFFFF80FF, 0⟩⟩,
    ⟨0x55C, 1, 0, 1, 0, ⟨"CHk_PR_W_MEM", 0x1778004, 0, 0, 0, 0, 0, 0xFFFF80FF, 0⟩⟩,
    ⟨0x560, 1, 0, 1, 0, ⟨"CHk_PR_W_LINK", 0x18020, 0, 0, 0, 0, 0, 0xFFFF80FF, 0⟩⟩,
    ⟨0x568, 1, 0, 1, 0, ⟨"CHk_PR_WCNT", 0, 0, 0, 0, 0, 0, 0, 0⟩⟩,
    ⟨0x56C, 1, 0, 1, 0, ⟨"CHk_PR_CNT", 0, 0xFFFFFFFF, 0, 0, 0, 0, 0, 0⟩⟩,
    ⟨0x570, 1, 0, 1, 0, ⟨"CHk_PR_ECC", 0, 0xFFFF0000, 0, 0, 0, 0, 0, 0⟩⟩,
    ⟨0x5E0, 1, 0, 1, 0, ⟨"CHk_PR_EVT", 0, 0, 0, 0x3FF, 0, 0, 0, 0⟩⟩,
    ⟨0x600, 1, 0, 1, 0, ⟨"CHk_LM_CFG", 0xF0AE50E, 0, 0, 0, 0, 0, 0x1F0FFF0F, 0⟩⟩,
    ⟨0x604, 1, 0, 1, 0, ⟨"CHk_LM_PLIM", 0x8007FFF, 0, 0, 0, 0, 0, 0xFFFFFFFF, 0⟩⟩,
    ⟨0x608, 1, 0, 1, 0, ⟨"CHk_LM_TH0", 0x100, 0, 0, 0, 0, 0, 0xFFFFFFFF, 0⟩⟩,
    ⟨0x60C, 1, 0, 1, 0, ⟨"CHk_LM_TH1", 0xFFFF0A10, 0, 0, 0, 0, 0, 0xFFFF0F1F, 0⟩⟩,
    ⟨0x610, 1, 0, 1, 0, ⟨"CHk_LM_TH2", 0, 0, 0, 0, 0, 0, 0xFFFFFFFF, 0⟩⟩,
    ⟨0x614, 1, 0, 1, 0, ⟨"CHk_LM_FLUX", 0x8000C01, 0, 0, 0, 0, 0, 0xFFFF0F01, 0⟩⟩,
    ⟨0x618, 1, 0, 1, 0, ⟨"CHk_LM_STATUS", 0x80000000, 0, 0, 0, 0, 0, 0, 0⟩⟩ ]

def chRows4 : List RegRow :=
  [ ⟨0x61C, 1, 0, 1, 0, ⟨"CHk_LM_TEMP", 0, 0, 0, 0, 0, 0, 0, 0⟩⟩,
    ⟨0x620, 1, 0, 1, 0, ⟨"CHk_LM_PA", 0, 0, 0, 0, 0, 0, 0, 0⟩⟩,
    ⟨0x624, 1, 0, 1, 0, ⟨"CHk_LM_CNT", 0, 0xFFFFFF, 0, 0, 0, 0, 0, 0⟩⟩,
    ⟨0x640, 1, 0, 1, 0, ⟨"CHk_LM_PILOT", 0x100, 0, 0, 0, 0, 0xFFFF, 0, 0xFFFF⟩⟩,
    ⟨0x644, 1, 0, 1, 0, ⟨"CHk_LM_PDPH", 0x14000000, 0, 0, 0, 0, 0xFFFFFFFF, 0, 0xFFFFFFFF⟩⟩,
    ⟨0x660, 1, 0, 1, 0, ⟨"CHk_DT_CFG", 0x400053, 0, 0, 0, 0, 0xC3FF00FF, 0, 0xC3FF00FF⟩⟩,
    ⟨0x664, 1, 0, 1, 0, ⟨"CHk_DT_LIM0", 0x800080, 0, 0, 0, 0, 0xFFFFFFFF, 0, 0xFFFFFFFF⟩⟩,
    ⟨0x668, 1, 0, 1, 0, ⟨"CHk_DT_LIM1", 0x4000100, 0, 0, 0, 0, 0xFFFFFFFF, 0, 0xFFFFFFFF⟩⟩,
    ⟨0x66C, 1, 0, 1, 0, ⟨"CHk_DT_RMIN", 0x8000, 0, 0, 0, 0, 0xFFFFFFFF, 0, 0xFFFFFFFF⟩⟩,
    ⟨0x670, 1, 0, 1, 0, ⟨"CHk_DT_RMAX", 0x3E80000, 0, 0, 0, 0, 0xFFFFFFFF, 0, 0xFFFFFFFF⟩⟩,
    ⟨0x674, 1, 0, 1, 0, ⟨"CHk_DT_RTOL", 0x2000, 0, 0, 0, 0, 0xFFFF, 0, 0xFFFF⟩⟩,
    ⟨0x678, 1, 0, 1, 0, ⟨"CHk_DT_ZSCALE", 0, 0, 0, 0, 0, 0xFFFFFFFF, 0, 0xFFFFFFFF⟩⟩,
    ⟨0x67C, 1, 0, 1, 0, ⟨"CHk_DT_RBASE", 0, 0, 0, 0, 0, 0xFFFFFFFF, 0, 0xFFFFFFFF⟩⟩,
    ⟨0x680, 1, 0, 1, 0, ⟨"CHk_DT_RES", 0, 0, 0, 0, 0, 0, 0, 0⟩⟩,
    ⟨0x684, 1, 0, 1, 0, ⟨"CHk_DT_STATUS", 0, 0xFF, 0, 0, 0, 0x80000000, 0, 0x80000000⟩⟩,
    ⟨0x6E0, 1, 0, 1, 0, ⟨"CHk_LM_EVT", 0, 0, 0, 0x3F, 0, 0, 0, 0⟩⟩,
    ⟨0x1F0, 4, 4, 1, 0, ⟨"CHk_CL_IENh", 0, 7, 0, 0, 0, 0, 0, 0⟩⟩,
    ⟨0x2F0, 4, 4, 1, 0, ⟨"CHk_FB_IENh", 0, 0xF, 0, 0, 0, 0, 0, 0⟩⟩,
    ⟨0x3F0, 4, 4, 1, 0, ⟨"CHk_WH_IENh", 0, 0x3F, 0, 0, 0, 0, 0, 0⟩⟩,
    ⟨0x4F0, 4, 4, 1, 0, ⟨"CHk_LK_IENh", 0, 7, 0, 0, 0, 0, 0, 0⟩⟩,
    ⟨0x5F0, 4, 4, 1, 0, ⟨"CHk_PR_IENh", 0, 0x3FF, 0, 0, 0, 0, 0, 0⟩⟩,
    ⟨0x6F0, 4, 4, 1, 0, ⟨"CHk_LM_IENh", 0, 0x3F, 0, 0, 0, 0, 0, 0⟩⟩ ]

/-- Every register of the CH blocks. -/
def chRows : List RegRow :=
  chRows0 ++ chRows1 ++ chRows2 ++ chRows3 ++ chRows4

def cellRows0 : List RegRow :=
  [ ⟨0, 1, 0, 1, 0, ⟨"CELLc_LINK", 0, 0, 0, 0, 0, 0, 0, 0⟩⟩,
    ⟨4, 1, 0, 1, 0, ⟨"CELLc_VBUS", 0, 0, 0, 0, 0, 0, 0, 0⟩⟩,
    ⟨8, 1, 0, 1, 0, ⟨"CELLc_TELEM", 0x700, 0, 0, 0, 0, 0, 0, 0⟩⟩,
    ⟨0xC, 1, 0, 1, 0, ⟨"CELLc_FAULT", 0, 0xFFFF, 0, 0, 0, 0, 0, 0⟩⟩,
    ⟨0x10, 1, 0, 1, 0, ⟨"CELLc_LIMIT", 0, 0xFFFFFFFF, 0, 0, 0, 0, 0, 0⟩⟩,
    ⟨0x14, 1, 0, 1, 0, ⟨"CELLc_LINK_ERR", 0, 0xFFFFFFFF, 0, 0, 0, 0, 0, 0⟩⟩,
    ⟨0x18, 1, 0, 1, 0, ⟨"CELLc_LINK_ERR2", 0, 0xFFFF, 0, 0, 0, 0, 0, 0⟩⟩,
    ⟨0x1C, 1, 0, 1, 0, ⟨"CELLc_ACK", 0, 0xFF0000, 0, 0, 0, 0, 0, 0⟩⟩,
    ⟨0x20, 1, 0, 1, 0, ⟨"CELLc_ID", 0, 0, 0, 0, 0, 0, 0, 0⟩⟩,
    ⟨0x40, 1, 0, 1, 0, ⟨"CELLc_CCFG01", 0, 0, 0, 0, 0, 0, 0xFFFFFFFF, 0⟩⟩,
    ⟨0x44, 1, 0, 1, 0, ⟨"CELLc_CCFG23", 0, 0, 0, 0, 0, 0, 0xFFFFFFFF, 0⟩⟩ ]

/-- Every register of the CELL blocks. -/
def cellRows : List RegRow :=
  cellRows0

def diagRows0 : List RegRow :=
  [ ⟨0, 1, 0, 1, 0, ⟨"DIAG_CFG", 0x50E, 0, 0, 0, 0, 0xF0F, 0, 0xF0F⟩⟩,
    ⟨4, 1, 0, 1, 0, ⟨"DIAG_PVMIN", 0x40, 0, 0, 0, 0, 0xFFFF, 0, 0xFFFF⟩⟩,
    ⟨8, 1, 0, 1, 0, ⟨"DIAG_CRST", 0, 0, 0, 0, 0xFF, 0, 0, 0⟩⟩,
    ⟨0x28, 1, 0, 1, 0, ⟨"DIAG_EVT", 0, 0, 0, 3, 0, 0, 0, 0⟩⟩,
    ⟨0x100, 8, 8, 1, 0, ⟨"DIAG_ZSCALEk", 0, 0, 0, 0, 0, 0xFFFFFFFF, 0, 0xFFFFFFFF⟩⟩,
    ⟨0x104, 8, 8, 1, 0, ⟨"DIAG_CSCALEk", 0, 0, 0, 0, 0, 0xFFFFFFFF, 0, 0xFFFFFFFF⟩⟩,
    ⟨0x200, 8, 0x20, 1, 0, ⟨"DIAG_Mk_Z", 0, 0, 0, 0, 0, 0, 0, 0⟩⟩,
    ⟨0x204, 8, 0x20, 1, 0, ⟨"DIAG_Mk_A", 0, 0, 0, 0, 0, 0, 0, 0⟩⟩,
    ⟨0x208, 8, 0x20, 1, 0, ⟨"DIAG_Mk_C", 0, 0, 0, 0, 0, 0, 0, 0⟩⟩,
    ⟨0x20C, 8, 0x20, 1, 0, ⟨"DIAG_Mk_V", 0, 0, 0, 0, 0, 0, 0, 0⟩⟩,
    ⟨0x210, 8, 0x20, 1, 0, ⟨"DIAG_Mk_RDC", 0, 0, 0, 0, 0, 0, 0, 0⟩⟩,
    ⟨0x214, 8, 0x20, 1, 0, ⟨"DIAG_Mk_DC", 0, 0, 0, 0, 0, 0, 0, 0⟩⟩,
    ⟨0x400, 8, 0x20, 1, 0, ⟨"DIAG_Ck_Z", 0, 0, 0, 0, 0, 0, 0, 0⟩⟩,
    ⟨0x404, 8, 0x20, 1, 0, ⟨"DIAG_Ck_A", 0, 0, 0, 0, 0, 0, 0, 0⟩⟩,
    ⟨0x408, 8, 0x20, 1, 0, ⟨"DIAG_Ck_C", 0, 0, 0, 0, 0, 0, 0, 0⟩⟩,
    ⟨0x40C, 8, 0x20, 1, 0, ⟨"DIAG_Ck_R", 0, 0, 0, 0, 0, 0, 0, 0⟩⟩,
    ⟨0x30, 4, 4, 1, 0, ⟨"DIAG_IENh", 0, 3, 0, 0, 0, 0, 0, 0⟩⟩ ]

/-- Every register of the DIAG block. -/
def diagRows : List RegRow :=
  diagRows0

def lidRows0 : List RegRow :=
  [ ⟨0, 1, 0, 1, 0, ⟨"LID_COND", 0x80000000, 0, 0, 0, 0, 0, 0, 0⟩⟩,
    ⟨4, 1, 0, 1, 0, ⟨"LID_FLT_NEW", 0, 0, 0, 0, 0, 0, 0, 0⟩⟩,
    ⟨8, 1, 0, 1, 0, ⟨"LID_ACT", 0, 0, 0, 0, 0, 0, 0, 0⟩⟩,
    ⟨0xC, 1, 0, 1, 0, ⟨"LID_LATCH", 0, 0, 0, 0, 0, 0, 0, 0⟩⟩,
    ⟨0x10, 1, 0, 1, 0, ⟨"LID_ZONE", 0, 0, 0, 0, 0, 0, 0, 0⟩⟩,
    ⟨0x14, 1, 0, 1, 0, ⟨"LID_WIN", 0, 0, 0, 0, 0, 0, 0, 0⟩⟩,
    ⟨0x18, 1, 0, 1, 0, ⟨"LID_STOP", 0, 0xFF00, 0, 0, 0, 0, 0, 0⟩⟩,
    ⟨0x1C, 1, 0, 1, 0, ⟨"LID_RLY", 0, 0, 0, 0, 0, 0, 0, 0⟩⟩,
    ⟨0x20, 1, 0, 1, 0, ⟨"LID_CIN", 0, 0, 0, 0, 0, 0, 0, 0⟩⟩,
    ⟨0x28, 1, 0, 1, 0, ⟨"LID_EVT", 0, 0, 0, 0x1F, 0, 0, 0, 0⟩⟩,
    ⟨0x40, 1, 0, 1, 0, ⟨"LID_CFG0", 0xBB80000, 0, 0, 0, 0, 0xFFFF1F00, 0, 0xFFFF1F00⟩⟩,
    ⟨0x44, 1, 0, 1, 0, ⟨"LID_CFG1", 0x1770177, 0, 0, 0, 0, 0xFFFFFFFF, 0, 0xFFFFFFFF⟩⟩,
    ⟨0x48, 1, 0, 1, 0, ⟨"LID_CFG2", 0x57E40000, 0, 0, 0, 0, 0xFFFF0000, 0, 0xFFFF0000⟩⟩,
    ⟨0x50, 1, 0, 1, 0, ⟨"LID_CINMODE", 0, 0, 0, 0, 0, 0x77777777, 0, 0x77777777⟩⟩,
    ⟨0x54, 1, 0, 1, 0, ⟨"LID_CINTH0", 0x174002E, 0, 0, 0, 0, 0x3FF03FF, 0, 0x3FF03FF⟩⟩,
    ⟨0x58, 1, 0, 1, 0, ⟨"LID_CINTH1", 0x1E000384, 0, 0, 0, 0, 0xFF0003FF, 0, 0xFF0003FF⟩⟩,
    ⟨0x60, 5, 4, 1, 0, ⟨"LID_PERMp", 0, 0, 0, 0, 0, 0xFF, 0, 0xFF⟩⟩,
    ⟨0x80, 4, 4, 1, 0, ⟨"LID_RLYr_MASK", 0x7FFFFFFF, 0, 0, 0, 0, 0x7FFFFFFF, 0, 0x7FFFFFFF⟩⟩,
    ⟨0xA0, 8, 4, 1, 0, ⟨"LID_CADCi", 0, 0, 0, 0, 0, 0, 0, 0⟩⟩,
    ⟨0x100, 16, 0x10, 1, 0, ⟨"LID_PRIe_TRIG", 0, 0, 0, 0, 0, 0xF30700FF, 0, 0xF30700FF⟩⟩,
    ⟨0x104, 16, 0x10, 1, 0, ⟨"LID_PRIe_ACT", 0x8000, 0, 0, 0, 0, 0xC0FFFFFF, 0, 0xC0FFFFFF⟩⟩,
    ⟨0x108, 16, 0x10, 1, 0, ⟨"LID_PRIe_MSG", 0xFFFF0000, 0, 0, 0, 0, 0xFFFFFFFF, 0, 0xFFFFFFFF⟩⟩,
    ⟨0x10C, 16, 0x10, 1, 0, ⟨"LID_PRIe_REP", 0x1770000, 0, 0, 0, 0, 0xFFFFFFFF, 0, 0xFFFFFFFF⟩⟩,
    ⟨0x400, 8, 0x40, 1, 0, ⟨"LID_SUPk_LIM0", 0x19991999, 0, 0, 0, 0, 0xFFFFFFFF, 0, 0xFFFFFFFF⟩⟩ ]

def lidRows1 : List RegRow :=
  [ ⟨0x404, 8, 0x40, 1, 0, ⟨"LID_SUPk_LIM1", 0xE390064, 0, 0, 0, 0, 0xFFFFFFFF, 0, 0xFFFFFFFF⟩⟩,
    ⟨0x408, 8, 0x40, 1, 0, ⟨"LID_SUPk_LIM2", 0x80057E4, 0, 0, 0, 0, 0xFF00FFFF, 0, 0xFF00FFFF⟩⟩,
    ⟨0x40C, 8, 0x40, 1, 0, ⟨"LID_SUPk_LRNMIN", 0x10000, 0, 0, 0, 0, 0xFFFFFFFF, 0, 0xFFFFFFFF⟩⟩,
    ⟨0x410, 8, 0x40, 1, 0, ⟨"LID_SUPk_LRNMAX", 0x3E80000, 0, 0, 0, 0, 0xFFFFFFFF, 0, 0xFFFFFFFF⟩⟩,
    ⟨0x414, 8, 0x40, 1, 0, ⟨"LID_SUPk_BZ", 0, 0, 0, 0, 0, 0xFFFFFFFF, 0, 0xFFFFFFFF⟩⟩,
    ⟨0x418, 8, 0x40, 1, 0, ⟨"LID_SUPk_BA", 0, 0, 0, 0, 0, 0x8000FFFF, 0, 0x8000FFFF⟩⟩,
    ⟨0x41C, 8, 0x40, 1, 0, ⟨"LID_SUPk_BR", 0, 0, 0, 0, 0, 0xFFFFFFFF, 0, 0xFFFFFFFF⟩⟩,
    ⟨0x420, 8, 0x40, 1, 0, ⟨"LID_SUPk_BC", 0, 0, 0, 0, 0, 0xFFFFFFFF, 0, 0xFFFFFFFF⟩⟩,
    ⟨0x424, 8, 0x40, 1, 0, ⟨"LID_SUPk_BE", 0, 0, 0, 0, 0, 0xFFFFFFFF, 0, 0xFFFFFFFF⟩⟩,
    ⟨0x430, 8, 0x40, 1, 0, ⟨"LID_SUPk_VERD", 0x80000000, 0, 0, 0, 0, 0, 0, 0⟩⟩,
    ⟨0x434, 8, 0x40, 1, 0, ⟨"LID_SUPk_CNT", 0, 0xFFFFFFFF, 0, 0, 0, 0, 0, 0⟩⟩,
    ⟨0x800, 5, 0x40, 1, 0, ⟨"LID_MBp_REQ", 0, 0, 0, 0, 0xFFFFFFFF, 0, 0, 0⟩⟩,
    ⟨0x804, 5, 0x40, 1, 0, ⟨"LID_MBp_STAT", 0, 0, 0, 0, 0, 0, 0, 0⟩⟩,
    ⟨0x30, 4, 4, 1, 0, ⟨"LID_IENh", 0, 0x1F, 0, 0, 0, 0, 0, 0⟩⟩ ]

/-- Every register of the LID block. -/
def lidRows : List RegRow :=
  lidRows0 ++ lidRows1

def stockpotRows0 : List RegRow :=
  [ ⟨0, 1, 0, 1, 0, ⟨"STOCKPOT_GEOM", 1, 0, 0, 0, 0, 0x3FF0001, 0, 0x3FF0001⟩⟩,
    ⟨4, 1, 0, 1, 0, ⟨"STOCKPOT_CFG", 0x10, 0, 0, 0, 0, 0xFFFF, 0, 0xFFFF⟩⟩,
    ⟨8, 1, 0, 1, 0, ⟨"STOCKPOT_STATUS", 0, 0, 0, 0, 0, 0, 0, 0⟩⟩,
    ⟨0xC, 1, 0, 1, 0, ⟨"STOCKPOT_POS", 0, 0, 0, 0, 0, 0, 0, 0⟩⟩,
    ⟨0x10, 1, 0, 1, 0, ⟨"STOCKPOT_POOL", 0, 0, 0, 0, 0, 0, 0, 0⟩⟩,
    ⟨0x14, 1, 0, 1, 0, ⟨"STOCKPOT_CNT", 0, 0xFFFFFFFF, 0, 0, 0, 0, 0, 0⟩⟩,
    ⟨0x18, 1, 0, 1, 0, ⟨"STOCKPOT_PATROL", 0, 0xFFFF0000, 0, 0, 0, 0, 0, 0⟩⟩,
    ⟨0x1C, 1, 0, 1, 0, ⟨"STOCKPOT_MAPGEN", 0, 0, 0, 0, 0, 0, 0, 0⟩⟩,
    ⟨0x20, 1, 0, 1, 0, ⟨"STOCKPOT_UNDER", 0, 0xFFFF, 0, 0, 0, 0, 0, 0⟩⟩,
    ⟨0x28, 1, 0, 1, 0, ⟨"STOCKPOT_EVT", 0, 0, 0, 0x3F, 0, 0, 0, 0⟩⟩,
    ⟨0x80, 1, 0, 1, 0, ⟨"STOCKPOT_BAD0", 0, 0, 0, 0, 0, 0, 0, 0⟩⟩,
    ⟨0x84, 1, 0, 1, 0, ⟨"STOCKPOT_BAD1", 0, 0, 0, 0, 0, 0, 0, 0⟩⟩,
    ⟨0x90, 1, 0, 1, 0, ⟨"STOCKPOT_DIR_ADDR", 0, 0xFF, 0, 0, 0, 0, 0, 0⟩⟩,
    ⟨0x94, 1, 0, 1, 0, ⟨"STOCKPOT_DIR_DATA", 0, 0, 0, 0, 0, 0, 0, 0⟩⟩,
    ⟨0x30, 4, 4, 1, 0, ⟨"STOCKPOT_IENh", 0, 0x3F, 0, 0, 0, 0, 0, 0⟩⟩ ]

/-- Every register of the STOCKPOT block. -/
def stockpotRows : List RegRow :=
  stockpotRows0

def hostifRows0 : List RegRow :=
  [ ⟨0, 1, 0, 1, 0, ⟨"HOSTIF_CFG", 0, 0, 0, 0, 0, 0, 0xFFFF0017, 0⟩⟩,
    ⟨4, 1, 0, 1, 0, ⟨"HOSTIF_LEASE", 0xC0, 0, 0, 0, 0, 0, 0x7FF, 0⟩⟩,
    ⟨8, 1, 0, 1, 0, ⟨"HOSTIF_LOCK", 0, 0, 0, 0, 7, 0, 0, 0⟩⟩,
    ⟨0xC, 1, 0, 1, 0, ⟨"HOSTIF_LOCKST", 0x7000, 0, 0, 0, 0, 0, 0, 0⟩⟩,
    ⟨0x10, 1, 0, 1, 0, ⟨"HOSTIF_LOCKERR", 0, 0, 0, 0, 0, 0, 0, 0⟩⟩,
    ⟨0x20, 1, 0, 1, 0, ⟨"HOSTIF_GRANTS", 0, 0xFFFFFFFF, 0, 0, 0, 0, 0, 0⟩⟩,
    ⟨0x24, 1, 0, 1, 0, ⟨"HOSTIF_WAITS", 0, 0xFFFF001F, 0, 0, 0, 0, 0, 0⟩⟩,
    ⟨0x28, 1, 0, 1, 0, ⟨"HOSTIF_EVT", 0, 0, 0, 7, 0, 0, 0, 0⟩⟩,
    ⟨0x2C, 1, 0, 1, 0, ⟨"HOSTIF_ERRS", 0, 0xFFFFFFFF, 0, 0, 0, 0, 0, 0⟩⟩,
    ⟨0x40, 1, 0, 1, 0, ⟨"HOSTIF_LINK", 0, 0xFFFFFF, 0, 0, 0, 0, 0, 0⟩⟩,
    ⟨0x44, 1, 0, 1, 0, ⟨"HOSTIF_LAST", 0, 0, 0, 0, 0, 0, 0, 0⟩⟩,
    ⟨0x48, 1, 0, 1, 0, ⟨"HOSTIF_SEQ", 0, 0, 0, 0, 0, 0, 0, 0⟩⟩,
    ⟨0x30, 4, 4, 1, 0, ⟨"HOSTIF_IENh", 0, 7, 0, 0, 0, 0, 0, 0⟩⟩ ]

/-- Every register of the HOSTIF blocks. -/
def hostifRows : List RegRow :=
  hostifRows0

def svcRows0 : List RegRow :=
  [ ⟨0, 1, 0, 1, 0, ⟨"SVC_STATE", 0, 0, 0, 0, 0, 0, 0, 0⟩⟩,
    ⟨4, 1, 0, 1, 0, ⟨"SVC_CTL", 0, 0, 0, 0, 0xF, 0, 0, 0⟩⟩,
    ⟨8, 1, 0, 1, 0, ⟨"SVC_CFG", 0x384, 0, 0, 0, 0, 0xFFF, 0, 0xFFF⟩⟩,
    ⟨0xC, 1, 0, 1, 0, ⟨"SVC_PASSLEN", 0, 0x3F, 0, 0, 0, 0, 0, 0⟩⟩,
    ⟨0x28, 1, 0, 1, 0, ⟨"SVC_EVT", 0, 0, 0, 0x1F, 0, 0, 0, 0⟩⟩,
    ⟨0x40, 4, 4, 1, 0, ⟨"SVC_CHALw", 0, 0, 0, 0, 0, 0, 0, 0⟩⟩,
    ⟨0x50, 4, 4, 1, 0, ⟨"SVC_RESPw", 0, 0, 0, 0, 0xFFFFFFFF, 0, 0, 0⟩⟩,
    ⟨0x60, 8, 4, 1, 0, ⟨"SVC_PASSw", 0, 0, 0, 0, 0xFFFFFFFF, 0, 0, 0⟩⟩,
    ⟨0x80, 8, 4, 1, 0, ⟨"SVC_KEYw", 0, 0, 0, 0, 0xFFFFFFFF, 0, 0, 0⟩⟩,
    ⟨0xA0, 1, 0, 1, 0, ⟨"SVC_COMMIT", 0, 0, 0, 0, 0xFFFFFFFF, 0, 0, 0⟩⟩,
    ⟨0xA8, 1, 0, 1, 0, ⟨"SVC_UID0", 0, 0, 0, 0, 0, 0, 0, 0⟩⟩,
    ⟨0xAC, 1, 0, 1, 0, ⟨"SVC_UID1", 0, 0, 0, 0, 0, 0, 0, 0⟩⟩,
    ⟨0xC0, 1, 0, 1, 0, ⟨"SVC_FL_CTL", 0, 0x311, 0, 0, 0x80000000, 0, 0, 0⟩⟩,
    ⟨0xC4, 1, 0, 1, 0, ⟨"SVC_FL_ADDR", 0, 0xFFFFFF, 0, 0, 0, 0, 0, 0⟩⟩,
    ⟨0xC8, 1, 0, 1, 0, ⟨"SVC_FL_PTR", 0, 0x1FF, 0, 0, 0, 0, 0, 0⟩⟩,
    ⟨0xCC, 1, 0, 1, 0, ⟨"SVC_FL_DATA", 0, 0xFFFFFFFF, 0, 0, 0, 0, 0, 0⟩⟩,
    ⟨0xD0, 1, 0, 1, 0, ⟨"SVC_FL_STATUS", 0, 0, 0, 0, 0, 0, 0, 0⟩⟩,
    ⟨0xE0, 1, 0, 1, 0, ⟨"SVC_PIN", 0, 0x7007F, 0, 0, 0xC0000000, 0, 0, 0⟩⟩,
    ⟨0x30, 4, 4, 1, 0, ⟨"SVC_IENh", 0, 0x1F, 0, 0, 0, 0, 0, 0⟩⟩ ]

/-- Every register of the SVC block. -/
def svcRows : List RegRow :=
  svcRows0

def bgRows0 : List RegRow :=
  [ ⟨0x28, 1, 0, 1, 0, ⟨"BG_EVT", 0, 0, 0, 0x3FF, 0, 0, 0, 0⟩⟩,
    ⟨0x40, 1, 0, 1, 0, ⟨"BG_SCR_LAST", 0, 0, 0, 0, 0, 0, 0, 0⟩⟩,
    ⟨0x44, 1, 0, 1, 0, ⟨"BG_SCR_SUPER", 0, 0xFFFFFFFF, 0, 0, 0, 0, 0, 0⟩⟩,
    ⟨0x48, 1, 0, 1, 0, ⟨"BG_SCR_DSPOS", 0, 0, 0, 0, 0, 0, 0, 0⟩⟩,
    ⟨0x4C, 1, 0, 1, 0, ⟨"BG_SCR_DS", 0, 0xFFFFFFFF, 0, 0, 0, 0, 0, 0⟩⟩,
    ⟨0x50, 1, 0, 1, 0, ⟨"BG_SCAL_CFG", 0x1000040, 0, 0, 0, 0, 0, 0xFFFF00FF, 0⟩⟩,
    ⟨0x54, 1, 0, 1, 0, ⟨"BG_CCAL_CFG", 0x2000010, 0, 0, 0, 0, 0, 0xFFFF00FF, 0⟩⟩,
    ⟨0x100, 26, 4, 1, 0, ⟨"BG_SCRm", 0, 0xFFFFFFFF, 0, 0, 0, 0, 0, 0⟩⟩,
    ⟨0x200, 20, 8, 1, 0, ⟨"BG_SCALn_MEAN", 0, 0, 0, 0, 0, 0, 0, 0⟩⟩,
    ⟨0x204, 20, 8, 1, 0, ⟨"BG_SCALn_STAT", 0, 0xFFFF, 0, 0, 0, 0, 0, 0⟩⟩,
    ⟨0x300, 56, 4, 1, 0, ⟨"BG_CCALc", 0, 0, 0, 0, 0, 0, 0, 0⟩⟩,
    ⟨0x400, 16, 4, 1, 0, ⟨"BG_SNAP_SETs", 0, 0, 0, 0, 0, 0, 0x1F00FF, 0⟩⟩,
    ⟨0x480, 16, 8, 1, 0, ⟨"BG_SNAPs_STAT", 0, 0, 0, 0, 0, 0, 0, 0⟩⟩,
    ⟨0x484, 16, 8, 1, 0, ⟨"BG_SNAPs_TICK", 0, 0, 0, 0, 0, 0, 0, 0⟩⟩,
    ⟨0x800, 256, 4, 1, 0, ⟨"BG_SNAP_ADDRi", 0, 0, 0, 0, 0, 0, 0xFFFFC, 0⟩⟩,
    ⟨0xC00, 16, 0x40, 16, 4, ⟨"BG_SNAPs_Dj", 0, 0, 0, 0, 0, 0, 0, 0⟩⟩,
    ⟨0x30, 4, 4, 1, 0, ⟨"BG_IENh", 0, 0x3FF, 0, 0, 0, 0, 0, 0⟩⟩ ]

/-- Every register of the BG block. -/
def bgRows : List RegRow :=
  bgRows0

def evtRows0 : List RegRow :=
  [ ⟨0, 4, 4, 1, 0, ⟨"EVT_SUMw", 0, 0, 0, 0, 0, 0, 0, 0⟩⟩,
    ⟨0x40, 4, 0x10, 4, 4, ⟨"EVT_HOSTh_SUMw", 0, 0, 0, 0, 0, 0, 0, 0⟩⟩,
    ⟨0x100, 8, 4, 1, 0, ⟨"EVT_STRw", 0, 0, 0, 0, 0, 0, 0, 0⟩⟩ ]

/-- Every register of the EVT block. -/
def evtRows : List RegRow :=
  evtRows0

def imgRows0 : List RegRow :=
  [ ⟨0, 1, 0, 1, 0, ⟨"IMG_STATUS", 0, 0, 0, 0, 0, 0, 0, 0⟩⟩,
    ⟨4, 1, 0, 1, 0, ⟨"IMG_SLOT_A", 0, 0, 0, 0, 0, 0, 0, 0⟩⟩,
    ⟨8, 1, 0, 1, 0, ⟨"IMG_SLOT_B", 0, 0, 0, 0, 0, 0, 0, 0⟩⟩,
    ⟨0xC, 1, 0, 1, 0, ⟨"IMG_SEQ_A", 0, 0, 0, 0, 0, 0, 0, 0⟩⟩,
    ⟨0x10, 1, 0, 1, 0, ⟨"IMG_SEQ_B", 0, 0, 0, 0, 0, 0, 0, 0⟩⟩,
    ⟨0x14, 1, 0, 1, 0, ⟨"IMG_SITE_ID", 0, 0, 0, 0, 0, 0, 0, 0⟩⟩,
    ⟨0x18, 1, 0, 1, 0, ⟨"IMG_PROFILE", 0, 0, 0, 0, 0, 0, 0, 0⟩⟩,
    ⟨0x20, 1, 0, 1, 0, ⟨"IMG_ERR", 0, 0, 0, 0, 0, 0, 0, 0⟩⟩,
    ⟨0x24, 1, 0, 1, 0, ⟨"IMG_ERR_OFF", 0, 0, 0, 0, 0, 0, 0, 0⟩⟩,
    ⟨0x28, 1, 0, 1, 0, ⟨"IMG_EVT", 0, 0, 0, 7, 0, 0, 0, 0⟩⟩,
    ⟨0x30, 4, 4, 1, 0, ⟨"IMG_IENh", 0, 7, 0, 0, 0, 0, 0, 0⟩⟩ ]

/-- Every register of the IMG block. -/
def imgRows : List RegRow :=
  imgRows0

end Sys2Proof.Machine
end

