-- ==== Sys2Proof/Machine/State.lean ====
section
/-! DEFINITION. The state of the block: the queue of waiting commands, what stands outside power-on reset (fuses and
flash devices, the tick), the controller and the 56 companions. Every register of the host window stands in one
sparse store; the structures below hold the state that the spec gives the machine beside its registers. -/
namespace Sys2Proof.Machine

/-- Why a step stops with a fault. No meaning of this model raises one: every command of the spec has an effect or
leaves the state as it is. The one constructor stands for a command no sender can form. Safe: nothing is proved from it. -/
inductive Fault where
  /-- Raised by no meaning. Safe. -/
  | none
  deriving DecidableEq, Repr

/-- Why a step has no meaning. -/
inductive Refusal where
  /-- Raised by a dispatch arm whose command has no meaning yet. Safe: the run stops. -/
  | notModelled (mnemonic : String)
  deriving DecidableEq, Repr

/-! ### Outside power-on reset: fuses, flash devices and the tick (R3, R448, R77, R356) -/

/-- The fused fields of the part (R448) and the fuses that commissioning programs (R401). -/
structure Fuses where
  is440 : Bool
  dieRev : BitVec 8
  maxProfile : BitVec 8
  ownerKey : Option (List Byte)
  serviceKey : Option (List Byte)
  uid : BitVec 64
  factoryBlown : Bool
  deriving DecidableEq, Repr, Inhabited

/-- What few commands change: the time base, the fuses and the two flash devices. -/
structure Env where
  /-- The tick number (R3); it counts only once `started`. -/
  tick : Nat
  started : Bool
  /-- Ticks since main-oscillator lock (R73), the time base of the power-up sequence. -/
  lockTicks : Nat
  fuses : Fuses
  /-- The configuration NOR (R77); an unlisted byte reads 0xFF. -/
  nor : List (Nat × Byte)
  /-- The message NAND (R355), main and spare bytes of each page; an unlisted byte reads 0xFF. -/
  nand : List (Nat × Byte)
  /-- The NAND answers its reset and identification sequence (R366). -/
  nandAnswers : Bool
  deriving DecidableEq, Repr, Inhabited

/-! ### Clocks, islands and power domains (spec files 01, 02) -/

/-- The states of a power domain (spec file 02, Power domains). -/
inductive DomSt where
  | off
  | ramp
  | run
  | faultOff
  deriving DecidableEq, Repr, Inhabited

/-- The power controller of AON and the clock monitor. -/
structure Power where
  /-- The domains in the bit order of CLK_PD_STATUS. -/
  dom : Vector DomSt 16
  /-- Islands that have failed, in the bit order of CLK_ISLAND_OK (R49). -/
  islandBad : Vector Bool 15
  /-- The tick number at which a failed island stopped (R52). -/
  badAt : Vector Nat 15
  /-- The copy of the tick number that each island keeps (R48); AON counts itself, and HOST keeps none. -/
  tickCopy : Vector Nat 15
  locked : Bool
  clksel : Bool
  /-- Tick (since lock) from which the next domain of R56 may ramp. -/
  rampDue : Nat
  /-- Tick (since lock) on which the ramp in progress began. -/
  rampStart : Nat
  /-- A shutdown (R58) is in progress, and the tick of its next step. -/
  shutdown : Bool
  shutDue : Nat
  /-- A rail is below its threshold (R429, R430). -/
  railLow : Bool
  /-- The STR_EN pads (R29, R34). -/
  strEn : Vector Bool 8
  /-- AON holds the relay pads released (R34). -/
  relayHeld : Bool
  /-- Tick number at which HOST is powered again after a clock failure (R49). -/
  hostDue : Option Nat
  deriving DecidableEq, Repr, Inhabited

/-- A host write that has not taken effect yet (R53): the address, the word in force and the tick of the write. -/
structure HeldWrite where
  addr : Nat
  old : Word
  tick : Nat
  deriving DecidableEq, Repr, Inhabited

/-! ### Audio ports and alignment (spec files 04, 05) -/

/-- A frame in a receive FIFO: its number on the group's grid (R135), its timestamp in quarter-ticks and its channels. -/
structure AFrame where
  num : Int
  ts : Nat
  ch : List Int
  deriving DecidableEq, Repr, Inhabited

/-- The serial side of a TDM port or an AES3 receiver. -/
structure PortSt where
  /-- Quarter-tick of the latest frame start, if frames are being counted. -/
  lastSync : Option Nat
  /-- Clean frames of the run in progress, and their total length in quarter-ticks (R117, R118). -/
  runN : Nat
  runTot : Nat
  /-- The receive FIFO, oldest frame first (R119). -/
  fifo : List AFrame
  /-- Tick at which the pending set was last written (R123). -/
  pendTick : Option Nat
  /-- The latest frame a transmit port drove, by bit position; none is high impedance (R124). -/
  tx : List (Option Bool)
  /-- The levels that a master transmit port drives at FSYn in that frame, by bit position (R126). -/
  fs : List Bool
  deriving DecidableEq, Repr, Inhabited

/-- One subframe of an AES3 receiver. -/
structure AesSub where
  /-- Channel-status bits captured since the last Z, newest first; none while no Z has started a block (R130). -/
  cap : Option (List Bool)
  committed : Option (List Byte)
  lastGood : Int
  badRun : Nat
  goodRun : Nat
  /-- Muted under R133. -/
  badMute : Bool
  deriving DecidableEq, Repr, Inhabited

/-- An AES3 receiver beyond what it shares with a TDM port. -/
structure AesSt where
  a : AesSub
  b : AesSub
  /-- Frames since the last Z (R128). -/
  blockPos : Option Nat
  deriving DecidableEq, Repr, Inhabited

/-- How a member's channels leave and re-enter (R145). -/
inductive UnderSt where
  | playing
  | fadeOut (i : Nat)
  | silent
  | fadeIn (i : Nat)
  deriving DecidableEq, Repr, Inhabited

/-- Rate matching of one port: its member side (R135, R145) and, where the port is a master or a slave
transmitter, its rate converter (R140 to R144). -/
structure ConvSt where
  /-- The grid of the group this port masters: (number, timestamp) of recent master frames, newest first (R135). -/
  grid : List (Int × Nat)
  /-- Number of the next master frame; negative while it is to be taken from the predicted grid (R143). -/
  nextNum : Int
  /-- The master has delivered a frame since its grid began (R135). -/
  gridOn : Bool
  /-- The converter has acquired (R140). -/
  acq : Bool
  rho : Int
  rhoI : Int
  /-- Read position, U32.28 (R140). -/
  pos : Int
  /-- Sum and count of the errors over the Rack frame (R140). -/
  eSum : Int
  eN : Nat
  lockRun : Nat
  lock : Bool
  /-- Fade position of the converter's output, 0 to 24 576 / P (R142). -/
  fade : Nat
  /-- Rack frames since the master was lost (R143). -/
  hold : Option Nat
  /-- Frames taken from the FIFO, newest first (R141). -/
  hist : List (Int × List Int)
  under : UnderSt
  lastOut : List Int
  fadeBase : List Int
  /-- The source channels of the port at the current boundary (R121). -/
  out : List Int
  deriving DecidableEq, Repr, Inhabited

/-- The reference group and the steering loop (R137 to R139). -/
structure AlignSt where
  /-- Number of the next reference read; none before the first. -/
  readNum : Option Int
  i : Int
  req : Int
  eSum : Int
  missed : Bool
  goodRun : Nat
  deriving DecidableEq, Repr, Inhabited

/-- One zone feed on its way from the mixer to the load models (R146 to R155). -/
structure ZoneSt where
  /-- Steps of the mute fade from silence, 0 to 24 576 / P (R148). -/
  mutePos : Nat
  ovr : Bool
  ovrSrc : Nat
  ovrGain : Nat
  /-- Steps of the override cross-fade (R149). -/
  ovrPos : Nat
  delayOld : Nat
  delayNew : Nat
  delayPos : Nat
  delayDefer : Option Nat
  /-- The ROUTE_DELAY value last acted on. -/
  delaySeen : Nat
  feed : Int
  feedRep : Bool
  delayed : Int
  delayedRep : Bool
  /-- Equaliser result produced for the next boundary, and the value last taken up (R50). -/
  eqNext : Int
  eqNextRep : Bool
  eq : Int
  /-- Cross-fade of the banks: samples done, the bank faded to, and the boundary of the latest sample (R162, R163). -/
  firFade : Option (Nat × Nat × Nat)
  /-- Ticks of bank requests that have not taken effect (R162). -/
  firReq : List Nat
  /-- Zone gain: move from, target, samples done (R154). -/
  gFrom : Nat
  gTo : Nat
  gPos : Nat
  /-- Zone sample after gain and limiter, and its two forerunners for interpolation (R178). -/
  post : Int
  deriving DecidableEq, Repr, Inhabited

/-- What the ports may transmit for one sample boundary (R125). -/
structure MonSet where
  feed : List Int
  post : List Int
  volt : List Int
  curr : List Int
  stock : Int
  deriving DecidableEq, Repr, Inhabited

/-! ### The Sieve (spec file 06) -/

/-- One sigma-delta input. -/
structure SieveIn where
  /-- Captured bits, newest first (R165). -/
  bits : List Bool
  /-- Stage-1 outputs, newest first (R167). -/
  s1 : List Int
  fast : Int
  precise : Int
  ones : Nat
  trans : Nat
  /-- Precise samples, newest first, for the monitor path (R171). -/
  pHist : List Int
  /-- Monitor sample produced, and the one AUDIO has taken up. -/
  mon : Int
  monTaken : Int
  aboveRun : Nat
  belowRun : Nat
  deriving DecidableEq, Repr, Inhabited

/-! ### The image as loaded (spec file 03) -/

/-- One entry of MSG_DIR (R89). -/
structure MsgEnt where
  msg : Nat
  format : Nat
  block : Nat
  samples : Nat
  crc : Nat
  deriving DecidableEq, Repr, Inhabited

/-- One entry of REG_LIMIT or SAFE_REG_LIMIT (R87). -/
structure LimitEnt where
  addr : Nat
  signed : Bool
  mask : Nat
  min : Nat
  max : Nat
  deriving DecidableEq, Repr, Inhabited

/-- What the records of an image give beside register words (R84, R85, R87, R89, R91). -/
structure ImgCfg where
  rate : Nat
  strings : Nat
  nand : Bool
  /-- CELL_MAP bytes of the 56 cells. -/
  cells : Vector Nat 56
  msgDir : List MsgEnt
  /-- Salt and digest of PASSCODE. -/
  passcode : Option (List Byte × List Byte)
  limits : List LimitEnt
  deriving DecidableEq, Repr, Inhabited

/-- Where image selection stands (R95). -/
inductive ImgPhase where
  | idle
  | header (slotB : Bool)
  | validate (slotB : Bool)
  | key (slotB : Bool)
  | signature (slotB : Bool)
  | capability (slotB : Bool)
  /-- The candidate is accepted; CH domains ramp and the apply pass runs. -/
  | apply (slotB : Bool)
  /-- The CH domains of a candidate that failed check 9 are being switched off. -/
  | applyFail
  | done
  deriving DecidableEq, Repr, Inhabited

/-- What a validation pass leaves for checks 6 to 8 (R93, R41). -/
structure ImgSeen where
  keyXY : List Byte
  r : Nat
  s : Nat
  digest : List Byte
  strings : Nat
  cells : List Nat
  genCrc : Nat
  safeCrc : Nat
  deriving DecidableEq, Repr, Inhabited

/-- Image selection, the apply pass and the standby check. -/
structure ImgSt where
  phase : ImgPhase
  /-- Slots still to be examined, in order; `true` is slot B. -/
  cands : List Bool
  /-- The first candidate in order (R95, FALLBACK). -/
  first : Option Bool
  seen : ImgSeen
  memInit : Bool
  /-- Ticks of the apply pass that have elapsed (R78, R453). -/
  passPos : Nat
  applyDone : Bool
  /-- Ticks since lock at which memory initialisation and the apply pass completed. -/
  readyAt : Nat
  /-- Tick of the next APPLY_FAIL step (R453). -/
  failDue : Nat
  /-- The standby check in progress: its slot, and whether a reflash asked for it (R98). -/
  standby : Option (Bool × Bool)
  cfg : ImgCfg
  deriving DecidableEq, Repr, Inhabited

/-! ### The control engine, the Mortar and feedback loss (spec files 07, 08) -/

/-- What the inner loop decides (R183). -/
inductive Want where
  | none
  | up
  | down
  | held
  | limited
  deriving DecidableEq, Repr, Inhabited

/-- A decision: its instant, what it wants, the error and the fast current sample it was formed from, and the first
instant of the run it belongs to (R187). -/
structure Decision where
  t : Nat
  want : Want
  err : Int
  im : Int
  start : Nat
  deriving DecidableEq, Repr, Inhabited

/-- An injection in progress (R195 to R197). -/
structure Inj where
  point : Nat
  kind : Nat
  amp : Int
  freq : Nat
  len : Nat
  /-- The boundary at which it starts, and the samples formed so far. -/
  start : Nat
  j : Nat
  lfsr : Nat
  deriving DecidableEq, Repr, Inhabited

/-- The capture of a string (R199, R200). -/
structure Capture where
  busy : Bool
  /-- The boundary at which recording starts. -/
  start : Nat
  wr : Nat
  /-- Boundaries until the next entry of MODE 0. -/
  decLeft : Nat
  /-- Entries still to be recorded after the trigger. -/
  left : Option Nat
  /-- The buffer of 2 048 words. -/
  buf : List (Nat × Int)
  deriving DecidableEq, Repr, Inhabited

/-- The two control loops of a string. Signals are integers: S9.30 for the outer loop, S.15 for the current sample. -/
structure Ctl where
  e1 : Int
  e2 : Int
  c1 : Int
  c2 : Int
  i : Int
  us : Int
  /-- u ≠ us or |i| = IMAX at the last boundary (R192). -/
  sat : Bool
  /-- An evaluation ran at the last boundary. -/
  ran : Bool
  iref : Int
  /-- The reference waiting for decision instant b + 16 (R181), with that tick. -/
  irefNext : Option (Int × Nat)
  /-- A change of mode waiting for decision instant b + 16 (R214, R217): the mode code and the tick. -/
  modeNext : Option (Nat × Nat)
  holdUp : Nat
  holdDn : Nat
  /-- The latest decisions, newest first. -/
  dec : List Decision
  /-- First instant of the run that has given a step (R187). -/
  stepped : Option Nat
  railN : Nat
  /-- Stage-7 outputs with their boundaries, newest first (R179). -/
  z : List (Nat × Int)
  /-- In the outer-loop period in progress: the inner clamp acted; a decision was limited. -/
  clamped : Bool
  limited : Bool
  /-- Modulation index in force and the one waiting for b + 16 (R215). -/
  mi : Int
  miNext : Option (Int × Nat)
  vr : Int
  inj : Option Inj
  cap : Capture
  /-- Signals of the last boundary in capture order 0x0 to 0xA (R199). -/
  sig : List Int
  deriving DecidableEq, Repr, Inhabited

/-- The Mortar of a string and its ripple tracker (R201 to R207). -/
structure MortarSt where
  theta : Nat
  dtheta : Nat
  corr : Int
  dc : Int
  cnt : Nat
  n : Nat
  sum : Nat
  armed : Bool
  lock : Bool
  /-- Wraps counted in OBSERVE or HOLD. -/
  wraps : Nat
  step : Nat
  /-- θ[31] has changed from 1 to 0 on the way to the next boundary (R201). -/
  wrap : Bool
  /-- An error on its way into the table: the error, its bin and the tick at which it arrives (R203). -/
  learn : Option (Int × Nat × Nat)
  /-- State HOLD came from. -/
  back : Nat
  g : Nat
  m : Int
  deriving DecidableEq, Repr, Inhabited

/-- One sense input of the feedback-loss detectors (R208, R209). -/
structure FbIn where
  prev : Option Int
  actRun : Nat
  sameRun : Nat
  deriving DecidableEq, Repr, Inhabited

/-- The feedback-loss detectors of a string (R208 to R212). -/
structure FbSt where
  v : FbIn
  i : FbIn
  fv : Int
  fi : Int
  plRun : Nat
  /-- A limit count or fault code changed in the period in progress (R211). -/
  neutral : Bool
  /-- A detector asserted at the last boundary, and the latest boundary at which one did (R99). -/
  lostNow : Bool
  lostAt : Option Nat
  /-- The detectors that asserted at the last boundary: bits 0 to 5 are ACT_V, ACT_I, STUCK_V, STUCK_I, PL_V, PL_I. -/
  det : Nat
  /-- Sum of commanded level × VBUS over the active cells, by the tick from which it holds, newest first (R210). -/
  vHist : List (Nat × Int)
  deriving DecidableEq, Repr, Inhabited

/-! ### The Whisk and the cell links (spec files 09, 10) -/

/-- A command not yet acknowledged: its SEQ, its issue tick and whether its exceedance has counted (R240, R259). -/
structure Pend where
  seq : Nat
  q : Nat
  exceeded : Bool
  deriving DecidableEq, Repr, Inhabited

/-- What the controller keeps of one cell beside its registers. -/
structure CellC where
  /-- Tick from which dwell counts (R225). -/
  dwellFrom : Int
  fa : Nat
  /-- Ticks of the last level-changing command and of the one before it (R226). -/
  moved : Option Nat
  movedBefore : Option Nat
  /-- The zero form last held: false ZL, true ZH (R222). -/
  lastZero : Option Bool
  /-- The cell is failed but its level still counts, until its BYP command (R232, third case). -/
  frozen : Bool
  bypSent : Bool
  exceeds : List Nat
  cleanRun : Nat
  activeAll : Bool
  gotCmd : Bool
  hadExceed : Bool
  /-- A parked or held spare cell has been commanded to ZL in this ARMED (R243). -/
  parkSent : Bool
  pend : List Pend
  /-- Poll awaiting its answer: its tick and whether a management response is expected (R256). -/
  poll : Option (Nat × Bool)
  /-- State of the last command as the PHY keeps it for idle frames; 7 at each entry into ENUM (R251). -/
  phy : Nat
  /-- Last downstream frame sent, as symbols; whether the lane carries the fill after it or is held low; and the lane's
  running disparity (R246, R248, R249). -/
  sent : List (BitVec 10)
  lane : Bool
  rd : Bool
  trainRun : Nat
  tag : Nat
  mgStep : Nat
  mgTries : Nat
  /-- A configuration word read back differed (R264). -/
  mgBad : Bool
  fseqRef : Option Nat
  limRef : Option Nat
  faultRef : Nat
  missRun : Nat
  vcRun : Nat
  tcRun : Nat
  /-- The latest Rack frame in which a valid frame was taken up, with its lowest and highest VBUS code (R101). -/
  vbusSpan : Option (Nat × Nat × Nat)
  /-- The tick of the latest valid telemetry frame taken up (R411). -/
  validAt : Option Nat
  deriving DecidableEq, Repr, Inhabited

/-- A pair of commands in progress (R230): the second command (position, state code) and its issue tick. -/
structure Pair where
  h : Nat
  d : Nat
  pos : Nat
  state : Nat
  q : Nat
  deriving DecidableEq, Repr, Inhabited

/-- The roles of a string's cells (R223) and the moves in progress. -/
structure WhiskSt where
  aq : List Nat
  pq : List Nat
  heldSpare : Bool
  /-- Active cells that have left since the last boundary, in order (R235). -/
  left : List Nat
  spareUsed : Bool
  reduced : Bool
  pair : Option Pair
  /-- Outgoing cell of a pending rotation (R237), and Rack frames since the last exchange. -/
  rot : Option Nat
  rotFrames : Nat
  /-- Active cells as of the latest outer-loop boundary, in ascending position (R215). -/
  act : List Nat
  deriving DecidableEq, Repr, Inhabited

/-! ### Protection (spec file 12) -/

/-- A counting window (R315): its start and its count. -/
structure Win where
  start : Nat
  count : Nat
  deriving DecidableEq, Repr, Inhabited

/-- The probe of a return (R310, R311). -/
structure Probe where
  start : Nat
  phi : Nat
  sv : Int
  si : Int
  deriving DecidableEq, Repr, Inhabited

/-- Protection of a string. -/
structure ProtSt where
  /-- Trips detected at a boundary and acting at b + 16 (R296): (cause, detection tick). -/
  due : List (Nat × Nat)
  d : Nat
  /-- Kind of the trip in CAUSE: 0 Plain, 1 Probe, 2 Hold, 3 Latch; and the kind it replaced (R296, R320). -/
  kind : Nat
  kindBefore : Nat
  /-- In ENUM, a companion has answered at an absent position (R265). -/
  stray : Bool
  /-- Tick of the latest entry into RUN (R308, R218). -/
  entry : Nat
  /-- A trip is being handled (R318): safe state not yet confirmed. -/
  handling : Bool
  /-- The tick of the latest trip that took the string out of RUN (R319). -/
  leftRun : Option Nat
  /-- The forcing commands of the trip are still to be sent (R303). -/
  forceDue : Bool
  forced : List Nat
  sRun : Nat
  lRun : Nat
  rRun : Nat
  pr : Int
  ocRun : Nat
  auxRun : Vector Nat 3
  /-- Auxiliary input 0 was outside the CBUS window at the last boundary, and the latest boundary at which it was. -/
  cbusBad : Bool
  cbusBadAt : Option Nat
  probe : Option Probe
  /-- Release instant of the current run (R154), if it has come. -/
  release : Option Nat
  /-- Stop level taken up from the Lid, and a restart pulse taken up (R312, R313). -/
  stop : Bool
  restart : Bool
  pinMode : Bool
  pinStop : Bool
  /-- STR_EN is to fall at the next Rack frame start (R312). -/
  enLowDue : Bool
  /-- Windows LIMIT, RETRY, AUDIO, MEM, LINK and feedback loss (R316). -/
  win : Vector (Option Win) 6
  /-- Rack frames in the start phase in progress, and the tick of its entry (R99). -/
  frames : Nat
  since : Nat
  /-- Consecutive frame starts at which the precharge conditions held (R99). -/
  preOk : Nat
  deriving DecidableEq, Repr, Inhabited

/-- One string: what CHk holds beside its registers. The sense values are those taken up under R50. -/
structure Str where
  fv : Int
  fi : Int
  pv : Int
  pi : Int
  aux : Vector Int 4
  fastRep : Bool
  preciseRep : Bool
  ones : Vector Nat 2
  trans : Vector Nat 2
  ctl : Ctl
  mor : MortarSt
  fb : FbSt
  wh : WhiskSt
  cell : Vector CellC 7
  pr : ProtSt
  deriving DecidableEq, Repr, Inhabited

/-! ### The cell companion (spec file 11) -/

/-- A set of the four switches of a cell. -/
structure SwSet where
  ah : Bool
  al : Bool
  bh : Bool
  bl : Bool
  deriving DecidableEq, Repr, Inhabited

/-- What a companion does with commands (R261, R264, R288). -/
inductive CompMode where
  /-- From reset until OPER is written: training and management. -/
  | manage
  | operation
  | pin
  deriving DecidableEq, Repr, Inhabited

/-- One companion, with its pins. Times are ns on its own time base. -/
structure Comp where
  /-- EN as filtered, VCC above its lockout, and VDD3 above its power-good threshold (R270). -/
  en : Bool
  vccOk : Bool
  vddOk : Bool
  /-- VCC is below 10.5 V (R282). -/
  vccLow : Bool
  /-- CLS sampled at the last rise of EN: class H. -/
  classH : Bool
  mode : CompMode
  /-- Consecutive valid frames since reset, up to 16 (R261). -/
  validRun : Nat
  /-- CCFG0 to CCFG3 (R293). -/
  ccfg : Vector Nat 4
  /-- The fused words of REV. -/
  dieRev : Nat
  maxProfile : Nat
  /-- The switches that are on, and when each incoming switch turns on (R273). -/
  on : SwSet
  inc : Vector (Option Nat) 4
  /-- The drive current of each switch at its latest gate edge, in mA, and when a soft turn-off of it began (R275, R276,
  R280). -/
  gate : Vector Nat 4
  softAt : Vector (Option Nat) 4
  /-- The latest state that became due inside a dead time (R274). -/
  nextDue : Option Nat
  /-- The state code last commanded, and the last applied SEQ (R252). -/
  cmd : Nat
  seq : Nat
  /-- Flags of the next upstream frame (R252). -/
  derr : Bool
  rsync : Bool
  fseq : Nat
  limcnt : Nat
  /-- End of the limit hold in progress, and the zero form it holds (R279). -/
  limit : Option Nat
  back : Nat
  /-- End of each switch's blanking while it lasts, and of its last blanking once over (R278, R281). -/
  blank : Vector (Option Nat) 4
  blankOver : Vector (Option Nat) 4
  /-- Time of the last latching trip in each leg, and of the latch of the code that stands in FAULT (R281, R283). -/
  tripAt : Vector (Option Nat) 2
  latchAt : Nat
  /-- The latched code (R283), the end of its hold-off, and whether its zero form is to be held (R284). -/
  fault : Option Nat
  holdoff : Option Nat
  zero : Bool
  /-- A BYP command has been applied since reset (R285), and the BYP output. -/
  bypCmd : Bool
  byp : Bool
  /-- Reported conditions present, and present since the last upstream frame: bit n is code n (R283). -/
  present : Nat
  seen : Nat
  /-- Adaptive strength codes and their limit runs: switch AH, AL, BH, BL, its ON code and its OFF code (R276). -/
  strength : Vector Nat 8
  limRun : Vector Nat 8
  /-- Of the last change of each leg: its start, the outgoing switch, the incoming switch and its turn-on time (R276). -/
  legAt : Vector Nat 2
  legOut : Vector (Option Nat) 2
  legIn : Vector (Option (Nat × Nat)) 2
  vbus : Nat
  temp : Nat
  /-- Runs of conversions meeting the over-voltage, under-voltage and warning conditions (R286). -/
  ovRun : Nat
  uvRun : Nat
  hiRun : Nat
  loRun : Nat
  uvArmed : Bool
  /-- Bootstraps of legs A and B: above threshold now, and passed since reset (R272). -/
  bootOk : Vector Bool 2
  bootPassed : Vector Bool 2
  /-- The IN pins (R288), the time each switch last began to turn off, and interlock events of the last 10 ms (R289). -/
  pins : SwSet
  offAt : Vector Nat 4
  ilock : List Nat
  /-- The last valid downstream frame (R267). -/
  lastValid : Nat
  /-- A poll to be answered; a management response to be sent: RCTL, MADDR, MD0, MD1 (R253, R263). -/
  poll : Bool
  resp : Option (Nat × Nat × Nat × Nat)
  /-- Upstream frame last sent, and the lane's running disparity (R246). -/
  tx : List (BitVec 10)
  rd : Bool
  /-- Choices the spec leaves to the companion made so far. -/
  free : Nat
  deriving DecidableEq, Repr, Inhabited

/-! ### Load models, start tests and DIAG (spec file 13) -/

/-- The load-model limiter of a string (R322 to R327) and its pilot phase (R334). -/
structure LoadSt where
  pa : Int
  phi : Int
  tc : Int
  tm : Int
  pover : Bool
  fover : Bool
  /-- tover at the latest frame start, the tick of that start, and tover before it (R322). -/
  tover : Bool
  toverAt : Nat
  toverOld : Bool
  /-- Sum of q over the boundaries of the Rack frame in progress (R324). -/
  pfSum : Int
  /-- Which demands were over at some sample of the Rack frame in progress: power, thermal, flux (R326). -/
  seen : Vector Bool 3
  theta : Nat
  deriving DecidableEq, Repr, Inhabited

/-- The start-test unit of a string (R329 to R333). -/
structure TestSt where
  f0 : Nat
  pos : Nat
  /-- Positions whose ZL command of f0 is still to be sent. -/
  zl : List Nat
  /-- Sums over the measuring frames: V, I, E in QUIET, POS and NEG. -/
  sum : Vector Int 9
  /-- The test cell holds P or N (R330). -/
  isOn : Bool
  /-- The boundary at which the test aborted (R332). -/
  abort : Option Nat
  /-- A ZL command to the test cell is due at the next issue tick (R332). -/
  zlDue : Bool
  /-- The sequence is to restart at the next Rack frame start (R329). -/
  restart : Bool
  /-- The means of the latest judged test (R331, R333). -/
  mean : Vector Int 9
  deriving DecidableEq, Repr, Inhabited

/-- One DIAG window of a string (R335, R336): its first boundary, its sums, and what made it invalid. -/
structure DiagWin where
  start : Nat
  n : Nat
  vs : Int
  vc : Int
  is : Int
  ic : Int
  /-- The conditions of R336 on state and samples have held at every boundary. -/
  good : Bool
  inRun : Bool
  deriving DecidableEq, Repr, Inhabited

/-- A result of DIAG on its way to the Lid (R337). -/
structure Meas where
  zm : Nat
  za : Int
  ca : Nat
  valid : Bool
  steady : Bool
  born : Nat
  deriving DecidableEq, Repr, Inhabited

/-- DIAG's work on one string. -/
structure DiagSt where
  win : DiagWin
  closed : Option DiagWin
  /-- ZM and ZA of the previous window, when it was valid. -/
  prev : Option (Nat × Int)
  meas : Option Meas
  deriving DecidableEq, Repr, Inhabited

/-! ### The Lid (spec file 14) -/

/-- The debouncer of one contact input (R348): the class of the run in progress and its length; the debounced state in
force, and one on its way with the tick from which it is used. -/
structure CinSt where
  cls : Option Nat
  run : Nat
  cur : Option Nat
  next : Option (Nat × Nat)
  deriving DecidableEq, Repr, Inhabited

/-- What one evaluation of the Lid produces (R346): its boundary, the override of each zone as (source, gain), the
stop levels and the restart pulses. -/
structure LidOut where
  b : Nat
  ovr : Vector (Option (Nat × Nat)) 8
  stop : Vector Bool 8
  pulse : Vector Bool 8
  deriving DecidableEq, Repr, Inhabited

/-- A request posted in a mailbox slot (R367): code, argument, tag and the tick of the write. -/
structure MbPost where
  code : Nat
  arg : Nat
  tag : Nat
  tick : Nat
  deriving DecidableEq, Repr, Inhabited

/-- The state of a string as the Lid has taken it up (R50, R328). -/
structure StrCopy where
  phase : Nat
  /-- PHASE of CHk_PR_STATUS is HELD. -/
  held : Bool
  /-- A probe runs (R310). -/
  probe : Bool
  pinMode : Bool
  degraded : Bool
  /-- The line is of the supervised class, the result code of the latest start test, and the latest R_DC (R328). -/
  cls : Bool
  dc : Nat
  rdc : Nat
  deriving DecidableEq, Repr, Inhabited

/-- Supervision of one line (R339, R340): counts for LOW, HIGH, ANGLE, EOL, CAP. -/
structure SupSt where
  pres : Vector Nat 5
  absn : Vector Nat 5
  stale : Nat
  deriving DecidableEq, Repr, Inhabited

/-- The Lid beside its registers. -/
structure LidSt where
  cin : Vector CinSt 8
  /-- Trigger of each entry at the last evaluation, and entries finishing (R351). -/
  trig : Vector Bool 16
  fin : Vector Bool 16
  /-- Latch of each entry as the last evaluation left it (R351): a mailbox RESET clears the latch before the next. -/
  latch : Vector Bool 16
  /-- The owner's repetition ended since the last evaluation (R351). -/
  repEnd : Bool
  owner : Option Nat
  mb : Vector (Option MbPost) 5
  /-- Rack frames since the latest accepted HEARTBEAT or the release tick (R369). -/
  hb : Vector Nat 5
  safeN : Vector Nat 8
  /-- Rack frames since the latest accepted restart of each string. -/
  rst : Vector (Option Nat) 8
  /-- Restart pulses accepted for the evaluation in progress. -/
  pulse : Vector Bool 8
  rly : Vector Nat 4
  /-- The latest outputs, newest first: all that can wait for a take-up (R50). -/
  outs : List LidOut
  strs : Vector StrCopy 8
  /-- The state of each string as produced at the latest boundary, on its way to the Lid (R50). -/
  strsNext : Vector StrCopy 8
  sup : Vector SupSt 8
  deriving DecidableEq, Repr, Inhabited

/-! ### The Stockpot (spec file 14) -/

/-- What a NAND operation of the Stockpot is for (R362 to R365). -/
inductive NandOp where
  /-- Page `page` of directory entry `dir`, for playback; pages count on through the repetitions. -/
  | play (dir page : Nat)
  /-- Page `page` of directory entry `dir`. -/
  | patrol (dir page : Nat)
  /-- Relocation: erase of the target; copy read of a page; copy program; map program into (block, page); erase of the
  other map block; release of the source. -/
  | eraseTarget (block : Nat)
  | copyRead (page : Nat)
  | copyProgram (page : Nat)
  | mapErase (block : Nat)
  | mapProgram (block page : Nat)
  | release (block : Nat)
  deriving DecidableEq, Repr, Inhabited

/-- A relocation in progress (R365). -/
structure Reloc where
  logical : Nat
  target : Nat
  /-- Next step: 0 erase target, 1 copy, 2 map, 3 release. -/
  step : Nat
  page : Nat
  /-- The main area of the page read last. -/
  data : List Byte
  deriving DecidableEq, Repr, Inhabited

/-- The Stockpot beside its registers. -/
structure PotSt where
  /-- Map in force: physical block of each logical block; the block and page that hold it (R357). -/
  map : List Nat
  mapAt : Nat × Nat
  mapLoading : Bool
  /-- The NAND answers and a valid map is in force. -/
  store : Bool
  op : Option NandOp
  /-- Directory index of the message playing or filling. -/
  dir : Nat
  /-- Tick of the evaluation that started FILL. -/
  fillAt : Nat
  /-- Buffered pages with their samples, oldest first, and the next page to read (R362). -/
  buf : List (Nat × List Int)
  nextPage : Nat
  /-- The buffer page, 0 to 15, that takes the next page. -/
  slot : Nat
  /-- Repetitions of the current message completed by its owner. -/
  reps : Nat
  gapLeft : Nat
  fadePos : Nat
  /-- The fade began in PLAY: a message sounds in it; a fade from FILL or GAP puts out zero (R359, R361). -/
  fading : Bool
  /-- Next output sample of the repetition (R360). -/
  n : Nat
  /-- After the fade, FILL starts for this directory index, from this evaluation. -/
  after : Option (Nat × Nat)
  out : Int
  patDir : Nat
  patPage : Nat
  patCrc : Nat
  refresh : List Nat
  reloc : Option Reloc
  lastTarget : Nat
  relocStop : Bool
  deriving DecidableEq, Repr, Inhabited

/-! ### Host ports, locks and service (spec file 15) -/

/-- What a port last returned: its start byte, data words, status word and CRC (R374). -/
structure PortOut where
  start : Nat
  data : List Word
  status : Word
  crc : Nat
  deriving DecidableEq, Repr, Inhabited

/-- The locked sequence (R386 to R393): its owner, whether it is committing and since which tick, the shadowed words
in the order first written, and the lease counter. -/
structure LockSt where
  owner : Option Nat
  committing : Option Nat
  shadow : List (Nat × Word)
  lease : Nat
  deriving DecidableEq, Repr, Inhabited

/-- Grants given by the arbiter and not yet used, per requester, and each requester's private words (R158, R59). -/
structure ReqSt where
  credit : Nat
  firCaddr : Word
  tickHi : Word
  lost : Bool
  out : PortOut
  deriving DecidableEq, Repr, Inhabited

/-- The flash operation in progress (R403). -/
structure FlashOp where
  nand : Bool
  op : Nat
  slotB : Bool
  addr : Nat
  deriving DecidableEq, Repr, Inhabited

/-- The service port beside its registers (R395 to R405). -/
structure SvcSt where
  /-- 0 CLOSED, 1 READ, 2 FULL, 3 COMMISSION, 4 FACTORY. -/
  state : Nat
  fails : Nat
  /-- Rack frames of lockout left, plus one; 0 while there is none (R399). -/
  lockout : Nat
  /-- Tick since lock at which the current challenge was drawn. -/
  chal : Option Nat
  draws : Nat
  /-- The results of passcode and response checks that are running, in the order of the writes that began them (R397, R398). -/
  passBusy : List Bool
  respBusy : List Bool
  /-- Rack frames since the last good SVC frame (R400). -/
  idle : Nat
  flash : Option FlashOp
  /-- The flash buffer of 512 words, sparse. -/
  buf : List (Nat × Int)
  /-- The NOR has been written since FULL was entered and no VERIFY has followed, and the slot written (R400). -/
  norDirty : Option Bool
  /-- By string: the mask of companion pin mode in force, a GO waiting for a Rack frame start with its mask, and a STOP
  waiting for one (R405). -/
  pin : Vector (Option Nat) 8
  pinGo : Vector (Option Nat) 8
  pinStop : Vector Bool 8
  deriving DecidableEq, Repr, Inhabited

/-! ### Background activities (spec file 16) -/

/-- The Rack slot in progress: its code, parameter and first tick, and whether its activity runs (R61). -/
structure SlotSt where
  code : Nat
  param : Nat
  start : Nat
  live : Bool
  deriving DecidableEq, Repr, Inhabited

/-- Scrubbing of one memory (R408): its position, and a write-back due with whether the word has been rewritten. -/
structure ScrubSt where
  pos : Nat
  wb : Bool
  stale : Bool
  deriving DecidableEq, Repr, Inhabited

/-- A sense calibration round (R410). -/
structure ScalSt where
  sum : Int
  slots : Nat
  run : Bool
  deriving DecidableEq, Repr, Inhabited

/-- A cell calibration round (R411); `b` counts sixtieths of a code. -/
structure CcalSt where
  a : Nat
  b : Nat
  n : Nat
  slots : Nat
  deriving DecidableEq, Repr, Inhabited

/-- A snapshot being taken (R414): its set, its slot's start tick, the words read so far and their error bits. -/
structure SnapSt where
  set : Nat
  tick : Nat
  vals : List Word
  errs : List Bool
  deriving DecidableEq, Repr, Inhabited

/-- Background state beside the BG registers. -/
structure BgSt where
  slot : SlotSt
  /-- Memories 0 to 25 of R406, and 26 for the delay store. -/
  scrub : Vector ScrubSt 27
  scal : Vector ScalSt 20
  ccal : Vector CcalSt 56
  snap : Option SnapSt
  deriving DecidableEq, Repr, Inhabited

/-! ### The controller and the whole state -/

/-- The controller. -/
structure Dev where
  /-- Registers of the host window by byte address; an unlisted address reads its reset word (R12). -/
  regs : List (Nat × Word)
  held : List HeldWrite
  pwr : Power
  img : ImgSt
  /-- TDM0 to TDM3, then AES0 and AES1. -/
  port : Vector PortSt 6
  aes : Vector AesSt 2
  conv : Vector ConvSt 6
  align : AlignSt
  zone : Vector ZoneSt 8
  mon : MonSet
  monPrev : MonSet
  sieve : Vector SieveIn 20
  /-- FIR memories: word 1 152·k + 384·bank + tap, data history from 1 152·k + 768 (R157, R163). -/
  firMem : List (Nat × Int)
  /-- Samples written to the data history of each string. -/
  firCnt : Nat
  /-- ROM copy in progress: string, bank, response and its tick (R159). -/
  firCopy : Option (Nat × Nat × Nat × Nat)
  /-- Delay store: word 131 072·k + position, and the write count of its regions (R151). -/
  dstore : List (Nat × Int)
  dsCnt : Nat
  /-- Mortar tables: word 1 024·k + bin (R203). -/
  mortar : List (Nat × Int)
  /-- Words with wrong check bits: memory·2^20 + word; 1 a single bit, 2 a double (R406). -/
  ecc : List (Nat × Nat)
  str : Vector Str 8
  load : Vector LoadSt 8
  test : Vector TestSt 8
  diag : Vector DiagSt 8
  lid : LidSt
  pot : PotSt
  lock : LockSt
  /-- H0 to H3, SVC and TLM. -/
  req : Vector ReqSt 6
  svc : SvcSt
  bg : BgSt
  /-- Choices the spec leaves open made so far. -/
  free : Nat
  deriving DecidableEq, Repr, Inhabited

/-- The whole machine: the queue of waiting commands, and everything else. -/
structure State where
  pending : List Instr
  env : Env
  dev : Dev
  comps : Vector Comp 56
  deriving DecidableEq, Repr, Inhabited

/-! ### Reset -/

/-- The fuses of the part that State.reset describes: an FJC-840 whose owner-key, service-key and factory-test fuses
are blank of an owner (R448). Log entry 2. DESIGN CHOICE, unsafe: the spec calls these fields fused. -/
def Fuses.reset : Fuses :=
  { is440 := false, dieRev := 1, maxProfile := 1, ownerKey := none, serviceKey := none, uid := 0, factoryBlown := true }

/-- Outside power-on reset: the tick not started, both flash devices erased. -/
def Env.reset : Env :=
  { tick := 0, started := false, lockTicks := 0, fuses := Fuses.reset, nor := [], nand := [], nandAnswers := true }

/-- AON runs; every other domain is off (R56); no island has failed. -/
def Power.reset (clksel : Bool) : Power :=
  { (default : Power) with dom := Vector.set (Vector.replicate 16 DomSt.off) 0 .run, clksel := clksel, relayHeld := true }

/-- No bits captured: the filters of the Sieve start from silence (log entry 5). -/
def Dev.reset (clksel : Bool) (fuses : Fuses) : Dev :=
  { (default : Dev) with
    pwr := Power.reset clksel
    zone := Vector.replicate 8 { (default : ZoneSt) with delaySeen := 0, gFrom := 0x8000, gTo := 0x8000 }
    pot := { (default : PotSt) with lastTarget := 2 }
    svc := { (default : SvcSt) with state := if fuses.factoryBlown then (if fuses.ownerKey.isNone then 3 else 0) else 4 } }

/-- CCFG0 to CCFG3 at reset for a class (R293). -/
def ccfgReset (classH : Bool) : Vector Nat 4 :=
  if classH then #v[0x6240, 0x7777, 0xD070, 0xD610] else #v[0x6240, 0x30C4, 0x9848, 0xD610]

/-- A companion from power-up until EN first rises (R270, R271): every switch off, no fault, adaptive codes 16. -/
def Comp.reset : Comp :=
  { (default : Comp) with
    vccOk := true, vddOk := true, maxProfile := 1, dieRev := 1, ccfg := ccfgReset false, cmd := 7,
    strength := Vector.replicate 8 16 }

/-- The machine right after power-on reset: every register at its reset word, nothing powered but AON, no command
waiting. -/
def State.reset : State :=
  { pending := [], env := Env.reset, dev := Dev.reset false Fuses.reset, comps := Vector.replicate 56 Comp.reset }

end Sys2Proof.Machine
end

