-- ==== Sys2Proof/Machine/Store.lean ====
section
/-! DEFINITION. Sparse stores: a list of (address, value) pairs in one canonical form, addresses rising and no entry
equal to what an unlisted address reads as. Registers, flash devices and on-die memories are held this way. -/
namespace Sys2Proof.Machine

/-- The value at `a`; an unlisted address reads as `dflt a`. -/
def Store.get {α : Type} (dflt : Nat → α) : List (Nat × α) → Nat → α
  | [], a => dflt a
  | (b, v) :: t, a => if a = b then v else Store.get dflt t a

/-- Drop the entry of `a`. -/
def Store.drop {α : Type} : List (Nat × α) → Nat → List (Nat × α)
  | [], _ => []
  | (b, w) :: t, a => if a = b then Store.drop t a else (b, w) :: Store.drop t a

/-- Put the entry of `a`, which is not listed, in its place. -/
def Store.put {α : Type} : List (Nat × α) → Nat → α → List (Nat × α)
  | [], a, v => [(a, v)]
  | (b, w) :: t, a, v => if a < b then (a, v) :: (b, w) :: t else (b, w) :: Store.put t a v

/-- Store `v` at `a`, keeping the canonical form: writing what the address reads as unlisted removes its entry. -/
def Store.set {α : Type} [DecidableEq α] (dflt : Nat → α) (l : List (Nat × α)) (a : Nat) (v : α) : List (Nat × α) :=
  if v = dflt a then Store.drop l a else Store.put (Store.drop l a) a v

/-- Remove every entry from `lo` up to `hi` (not included): those addresses read as unlisted. -/
def Store.clear {α : Type} (lo hi : Nat) : List (Nat × α) → List (Nat × α)
  | [] => []
  | (b, w) :: t => if lo ≤ b && b < hi then Store.clear lo hi t else (b, w) :: Store.clear lo hi t

/-- Store the values of `vs` at `a`, `a + 1`, and so on. -/
def Store.setList {α : Type} [DecidableEq α] (dflt : Nat → α) (l : List (Nat × α)) (a : Nat) : List α → List (Nat × α)
  | [] => l
  | v :: t => Store.setList dflt (Store.set dflt l a v) (a + 1) t

/-- Walk `n` addresses from `a` along a store that lists no address below `a`. -/
def Store.walk {α : Type} (dflt : Nat → α) : Nat → List (Nat × α) → Nat → List α
  | 0, _, _ => []
  | n + 1, [], a => dflt a :: Store.walk dflt n [] (a + 1)
  | n + 1, (b, w) :: t, a =>
    if b = a then w :: Store.walk dflt n t (a + 1) else dflt a :: Store.walk dflt n ((b, w) :: t) (a + 1)

/-- The `n` values from address `a`, in one walk of the store. -/
def Store.slice {α : Type} (dflt : Nat → α) (l : List (Nat × α)) (a n : Nat) : List α :=
  Store.walk dflt n (l.filter (fun e => decide (a ≤ e.1) && decide (e.1 < a + n))) a

/-- The canonical form: addresses strictly rising, and no entry equal to what its address reads as unlisted. -/
def Store.wf {α : Type} [DecidableEq α] (dflt : Nat → α) : List (Nat × α) → Bool
  | [] => true
  | [(b, w)] => decide (w ≠ dflt b)
  | (b, w) :: (c, x) :: t => decide (w ≠ dflt b) && decide (b < c) && Store.wf dflt ((c, x) :: t)

/-- What an erased flash byte reads as (R81, R403): an unlisted byte of the NOR or the NAND reads 0xFF. -/
def erased (_ : Nat) : Byte := 0xFF

/-- What a word of an on-die memory or of the delay store reads as after memory initialisation (R74). -/
def zeroed (_ : Nat) : Int := 0

end Sys2Proof.Machine
end

