-- ==== Sys2Proof/Machine/Ops.lean ====
section
/-! DEFINITION. The named operations on the controller's state that every meaning uses: registers and their fields,
counters and event bits, words with check bits, and what each power domain and island is doing. -/
namespace Sys2Proof.Machine

/-- Power domains by their bit in CLK_PD_STATUS (spec file 02): AON, LID, HOST, AUDIO, FIR, SIEVE, DSTORE, NVM; CHk is 8 + k. -/
def domAon : Nat := 0
def domLid : Nat := 1
def domHost : Nat := 2
def domAudio : Nat := 3
def domFir : Nat := 4
def domSieve : Nat := 5
def domDstore : Nat := 6
def domNvm : Nat := 7
def domCh (k : Nat) : Nat := 8 + k

/-- Islands by their bit in CLK_ISLAND_OK (spec file 02). -/
def islAon : Nat := 0
def islLid : Nat := 1
def islHost : Nat := 2
def islAudio : Nat := 3
def islFir : Nat := 4
def islSieve : Nat := 5
def islMem : Nat := 6
def islCh (k : Nat) : Nat := 7 + k

/-- R38: the table of the block at a byte address, the offset within the block and the block's domain. -/
def blockAt (a : Nat) : Option (List RegRow × Nat × Nat) :=
  if a < 0x1000 then some (sysRows, a, domAon)
  else if a < 0x2000 then some (clkRows, a - 0x1000, domAon)
  else if a < 0x3000 then some (rackRows, a - 0x2000, domAon)
  else if a < 0x4000 then some (tdmRows, (a - 0x3000) % 0x400, domAudio)
  else if a < 0x4800 then some (aesRows, (a - 0x4000) % 0x400, domAudio)
  else if a < 0x5000 then none
  else if a < 0x6000 then some (routeRows, a - 0x5000, domAudio)
  else if a < 0x7000 then some (firRows, a - 0x6000, domFir)
  else if a < 0x8000 then some (sieveRows, a - 0x7000, domSieve)
  else if a < 0x10000 then some (chRows, a % 0x1000, domCh (a / 0x1000 - 8))
  else if a < 0x1E000 then some (cellRows, (a - 0x10000) % 0x400, domCh ((a - 0x10000) / 0x400 / 7))
  else if a < 0x1F000 then some (diagRows, a - 0x1E000, domSieve)
  else if a < 0x20000 then none
  else if a < 0x21000 then some (lidRows, a - 0x20000, domLid)
  else if a < 0x22000 then some (stockpotRows, a - 0x21000, domLid)
  else if a < 0x22600 then some (hostifRows, (a - 0x22000) % 0x100, domHost)
  else if a < 0x23000 then none
  else if a < 0x24000 then some (svcRows, a - 0x23000, domHost)
  else if a < 0x25000 then some (bgRows, a - 0x24000, domAon)
  else if a < 0x26000 then some (evtRows, a - 0x25000, domAon)
  else if a < 0x27000 then some (imgRows, a - 0x26000, domNvm)
  else none

/-- The register at a byte address, if the spec lists one. -/
def regInfoAt (a : Nat) : Option RegInfo :=
  match blockAt a with
  | none => none
  | some (rows, o, _) => if a % 4 != 0 then none else (rows.find? (fun r => r.holds o)).map (·.info)

/-- R12: the word a register holds at power-on reset; HOSTIF_CFG.RANK of page p is p (R380). -/
def resetWord (a : Nat) : Word :=
  match regInfoAt a with
  | none => 0
  | some i =>
    if 0x22000 ≤ a && a < 0x22600 && a % 0x100 == 0 then BitVec.ofNat 32 ((a - 0x22000) / 0x100)
    else BitVec.ofNat 32 i.reset

/-- The word of the register at `a`. -/
def Dev.reg (d : Dev) (a : Nat) : Word := Store.get resetWord d.regs a

/-- Set the word of the register at `a`. -/
def Dev.setReg (d : Dev) (a : Nat) (v : Word) : Dev := { d with regs := Store.set resetWord d.regs a v }

/-- A field as an unsigned number. -/
def Dev.fld (d : Dev) (f : Fld) : Nat := bits (d.reg f.addr).toNat f.lo f.w

/-- A field as a two's complement number. -/
def Dev.sfld (d : Dev) (f : Fld) : Int := sx f.w (d.fld f)

/-- A one-bit field. -/
def Dev.bit (d : Dev) (f : Fld) : Bool := tbit (d.reg f.addr).toNat f.lo

/-- Set a field to the low bits of `v`. -/
def Dev.put (d : Dev) (f : Fld) (v : Nat) : Dev :=
  d.setReg f.addr (BitVec.ofNat 32 (putBits (d.reg f.addr).toNat f.lo f.w v))

/-- Set a field to a two's complement number. -/
def Dev.putI (d : Dev) (f : Fld) (v : Int) : Dev := d.put f (ux f.w v)

/-- Set a one-bit field. -/
def Dev.putB (d : Dev) (f : Fld) (b : Bool) : Dev := d.put f (b2n b)

/-- Bit e of a field of entry bits. -/
def Dev.ebit (d : Dev) (f : Fld) (e : Nat) : Bool := tbit (d.fld f) e
def Dev.putE (d : Dev) (f : Fld) (e : Nat) (b : Bool) : Dev := d.put f (putBit (d.fld f) e b)

/-- R19: add to a counter field, saturating at all ones. -/
def Dev.add (d : Dev) (f : Fld) (n : Nat) : Dev := d.put f (addSat f.w (d.fld f) n)

/-- R19: count one event. -/
def Dev.bump (d : Dev) (f : Fld) : Dev := d.add f 1

/-- A field of `n` as its unsigned value saturated to `w` bits. -/
def satNat (w n : Nat) : Nat := min (2 ^ w - 1) n

/-- One string. -/
def Dev.st (d : Dev) (k : Nat) : Str := vat d.str k

/-- Change one string. -/
def Dev.modStr (d : Dev) (k : Nat) (f : Str → Str) : Dev := { d with str := vmod d.str k f }

def Dev.modCtl (d : Dev) (k : Nat) (f : Ctl → Ctl) : Dev := d.modStr k (fun s => { s with ctl := f s.ctl })
def Dev.modMor (d : Dev) (k : Nat) (f : MortarSt → MortarSt) : Dev := d.modStr k (fun s => { s with mor := f s.mor })
def Dev.modFb (d : Dev) (k : Nat) (f : FbSt → FbSt) : Dev := d.modStr k (fun s => { s with fb := f s.fb })
def Dev.modWh (d : Dev) (k : Nat) (f : WhiskSt → WhiskSt) : Dev := d.modStr k (fun s => { s with wh := f s.wh })
def Dev.modPr (d : Dev) (k : Nat) (f : ProtSt → ProtSt) : Dev := d.modStr k (fun s => { s with pr := f s.pr })
def Dev.modCell (d : Dev) (k p : Nat) (f : CellC → CellC) : Dev :=
  d.modStr k (fun s => { s with cell := vmod s.cell p f })
def Dev.modZone (d : Dev) (k : Nat) (f : ZoneSt → ZoneSt) : Dev := { d with zone := vmod d.zone k f }
def Dev.modConv (d : Dev) (n : Nat) (f : ConvSt → ConvSt) : Dev := { d with conv := vmod d.conv n f }
def Dev.modPort (d : Dev) (n : Nat) (f : PortSt → PortSt) : Dev := { d with port := vmod d.port n f }
def Dev.modLoad (d : Dev) (k : Nat) (f : LoadSt → LoadSt) : Dev := { d with load := vmod d.load k f }
def Dev.modTest (d : Dev) (k : Nat) (f : TestSt → TestSt) : Dev := { d with test := vmod d.test k f }
def Dev.modReq (d : Dev) (p : Nat) (f : ReqSt → ReqSt) : Dev := { d with req := vmod d.req p f }
def Dev.cellC (d : Dev) (k p : Nat) : CellC := vat (d.st k).cell p

/-- R5, spec file 00: cell p of string k. -/
def cellIx (k p : Nat) : Nat := 7 * k + p

/-! ### Domains and islands -/

/-- A power domain is in RUN. -/
def Dev.domRun (d : Dev) (i : Nat) : Bool := decide (vat d.pwr.dom i = .run)

/-- R49, R52: an island works: its clock has not failed and a domain of it runs. -/
def Dev.islandOk (d : Dev) (i : Nat) : Bool :=
  !(vat d.pwr.islandBad i) &&
  (if i == islMem then d.domRun domDstore || d.domRun domNvm
   else if i < 6 then d.domRun i
   else d.domRun (i + 1))

/-- R52: what island i produces at tick t completes its handshake: the island works, or failed only after t (log entry
65). -/
def Dev.produced (d : Dev) (i t : Nat) : Bool := d.islandOk i || (vat d.pwr.islandBad i && decide (t < vat d.pwr.badAt i))

/-- R57, R40: CLK_STATUS to CLK_ISLAND_OK show an island's bit. -/
def islandCount : Nat := 15

/-! ### Memories with check bits (R406) -/

/-- The key of a word in the list of words with wrong check bits. -/
def eccKey (mem word : Nat) : Nat := mem * 2 ^ 20 + word

/-- No word has wrong check bits unless listed. -/
def eccNone (_ : Nat) : Nat := 0

/-- 0 for a word whose check bits are right, 1 for one wrong bit, 2 for two. -/
def Dev.eccAt (d : Dev) (mem word : Nat) : Nat := Store.get eccNone d.ecc (eccKey mem word)

/-- The scrub position entry of a memory: memories 0 to 25, and 26 for the delay store. -/
def scrubIx (mem : Nat) : Nat := if mem == 32 then 26 else mem

/-- A write other than scrubbing's: fresh check bits, and a write-back due on the word is overtaken (R408). -/
def Dev.eccWrite (d : Dev) (mem word : Nat) : Dev :=
  let sc := vat d.bg.scrub (scrubIx mem)
  let d1 : Dev := { d with ecc := Store.set eccNone d.ecc (eccKey mem word) 0 }
  if sc.wb && sc.pos == word then
    { d1 with bg := { d1.bg with scrub := vset d1.bg.scrub (scrubIx mem) { sc with stale := true } } }
  else d1

/-- A write of the words from `lo` up to `hi` (not included) of a memory. -/
def Dev.eccWriteRange (d : Dev) (mem lo hi : Nat) : Dev :=
  let sc := vat d.bg.scrub (scrubIx mem)
  let d1 : Dev := { d with ecc := Store.clear (eccKey mem lo) (eccKey mem hi) d.ecc }
  if sc.wb && decide (lo ≤ sc.pos) && decide (sc.pos < hi) then
    { d1 with bg := { d1.bg with scrub := vset d1.bg.scrub (scrubIx mem) { sc with stale := true } } }
  else d1

/-- A stored word changes under its check bits. -/
def Dev.eccUpset (d : Dev) (u : Upset) : Dev :=
  let v := if u.double then 2 else max 1 (d.eccAt u.mem u.word)
  { d with ecc := Store.set eccNone d.ecc (eccKey u.mem u.word) v }

/-! ### Small helpers of the meanings -/

/-- Fold an operation over a list of numbers. -/
def Dev.each (d : Dev) (l : List Nat) (f : Dev → Nat → Dev) : Dev := l.foldl f d

/-- Do `f` when `c` holds. -/
def Dev.when (d : Dev) (c : Bool) (f : Dev → Dev) : Dev := if c then f d else d

/-- Take a fresh number for a choice the spec leaves open. -/
def Dev.fresh (d : Dev) : Nat × Dev := (d.free, { d with free := d.free + 1 })

/-- A command that changes the controller only. -/
def onDev (s : State) (f : Env → Dev → Dev) : Host.Outcome State Fault Refusal :=
  .next { s with dev := f s.env s.dev }

/-- A command that changes the controller and what stands outside power-on reset. -/
def onEnvDev (s : State) (f : Env → Dev → Env × Dev) : Host.Outcome State Fault Refusal :=
  .next { s with env := (f s.env s.dev).1, dev := (f s.env s.dev).2 }

/-- A command that changes one companion only. -/
def onComp (s : State) (c : Nat) (f : Comp → Comp) : Host.Outcome State Fault Refusal :=
  .next { s with comps := vmod s.comps c f }

end Sys2Proof.Machine
end

