-- ==== Sys2Proof/Machine/Operands.lean ====
section
/-! DEFINITION. The operands of the foreground arithmetic: the value of a host-writable field that is in force at a
tick (R53), where string state stands (R99), and the counts the image fixes. -/
namespace Sys2Proof.Machine

/-- The first outer-loop boundary strictly after tick `t` (R53). -/
def boundaryAfter (t : Nat) : Nat := (t / 64 + 1) * 64

/-- The oldest write to `a` that is not yet in force at tick `t` holds the word in force (R53). -/
def heldWord (l : List HeldWrite) (t a : Nat) : Option Word :=
  match l with
  | [] => none
  | h :: r => if h.addr == a && t < boundaryAfter h.tick then some h.old else heldWord r t a

/-- The word of a register in force for foreground arithmetic at tick `t` (R53). -/
def Dev.effReg (d : Dev) (t a : Nat) : Word := (heldWord d.held t a).getD (d.reg a)

/-- A field in force at tick `t`. -/
def Dev.eff (d : Dev) (t : Nat) (f : Fld) : Nat := bits (d.effReg t f.addr).toNat f.lo f.w

/-- A field in force at tick `t`, as a two's complement number. -/
def Dev.effI (d : Dev) (t : Nat) (f : Fld) : Int := sx f.w (d.eff t f)

/-- A write completed at tick `t` replaced the word `old` of register `a` (R53). -/
def Dev.hold (d : Dev) (t a : Nat) (old : Word) : Dev :=
  { d with held := d.held ++ [{ addr := a, old := old, tick := t }] }

/-- At boundary `b`, the writes in force since the boundary before are no longer held; the inner loop takes a write up
16T after the boundary that R53 gives (R181), so a write stays held for one period more. -/
def Dev.settle (d : Dev) (b : Nat) : Dev :=
  { d with held := d.held.filter (fun h => b < boundaryAfter h.tick + 64) }

/-! ### String state: the codes of SYS_STR_STATE (spec file 03) -/

def phOff : Nat := 0
def phEnum : Nat := 1
def phPrecharge : Nat := 2
def phTest : Nat := 3
def phArmed : Nat := 4
def phRun : Nat := 5
def phSafe : Nat := 6
def phLatched : Nat := 7
def phStartWait : Nat := 8
def phStartFail : Nat := 9

/-- The state of string k. -/
def Dev.phase (d : Dev) (k : Nat) : Nat := d.fld (Fd.SYS_STR_STATE_STR k)

/-- Set the state of string k. -/
def Dev.setPhase (d : Dev) (k ph : Nat) : Dev := d.put (Fd.SYS_STR_STATE_STR k) ph

/-- String k is in RUN. -/
def Dev.inRun (d : Dev) (k : Nat) : Bool := d.phase k == phRun

/-- R84: the image declares string k present. -/
def Dev.present (d : Dev) (k : Nat) : Bool := tbit d.img.cfg.strings k

/-- The present strings, in order. -/
def Dev.strs (d : Dev) : List Nat := strings8.filter d.present

/-- An image has been applied and the engine islands released: the foreground runs (R75). -/
def Env.running (e : Env) : Bool := e.started

/-- R85: the CELL_MAP byte of cell p of string k: whether the position is present, its class and role. -/
def Dev.cellMap (d : Dev) (k p : Nat) : Nat := vat d.img.cfg.cells (cellIx k p)

end Sys2Proof.Machine
end

