-- ==== Sys2Proof/Machine/Flags.lean ====
section
/-! DEFINITION. Event flags: setting an event bit (R321), the 128 event sources and their summaries (R416, R417), and
the interrupt outputs (R394). -/
namespace Sys2Proof.Machine

/-- R321: an event bit is set on the tick of its happening. -/
def Dev.evt (d : Dev) (f : Fld) : Dev := d.putB f true

/-- An event bit is set when `c` holds. -/
def Dev.evtIf (d : Dev) (c : Bool) (f : Fld) : Dev := if c then d.evt f else d

/-- One event register: the number of its first source, its address, the address of its IEN0, its width and domain. -/
structure EvtRow where
  base : Nat
  evt : Nat
  ien : Nat
  w : Nat
  dom : Nat
  deriving DecidableEq, Repr

/-- R416: the event registers of sources 0 to 95. -/
def evtRows95 : List EvtRow :=
  [ ⟨0, Reg.CLK_EVT, Reg.CLK_IENh 0, 6, domAon⟩, ⟨6, Reg.RACK_EVT, Reg.RACK_IENh 0, 2, domAon⟩,
    ⟨8, Reg.SYS_EVT, Reg.SYS_IENh 0, 3, domAon⟩, ⟨11, Reg.IMG_EVT, Reg.IMG_IENh 0, 3, domNvm⟩,
    ⟨14, Reg.TDMn_EVT 0, Reg.TDMn_IENh 0 0, 4, domAudio⟩, ⟨18, Reg.TDMn_EVT 1, Reg.TDMn_IENh 1 0, 4, domAudio⟩,
    ⟨22, Reg.TDMn_EVT 2, Reg.TDMn_IENh 2 0, 4, domAudio⟩, ⟨26, Reg.TDMn_EVT 3, Reg.TDMn_IENh 3 0, 4, domAudio⟩,
    ⟨30, Reg.AESn_EVT 0, Reg.AESn_IENh 0 0, 4, domAudio⟩, ⟨34, Reg.AESn_EVT 1, Reg.AESn_IENh 1 0, 4, domAudio⟩,
    ⟨38, Reg.ROUTE_EVT, Reg.ROUTE_IENh 0, 8, domAudio⟩, ⟨46, Reg.FIR_EVT, Reg.FIR_IENh 0, 4, domFir⟩,
    ⟨50, Reg.SIEVE_EVT, Reg.SIEVE_IENh 0, 3, domSieve⟩, ⟨53, Reg.DIAG_EVT, Reg.DIAG_IENh 0, 2, domSieve⟩,
    ⟨55, Reg.LID_EVT, Reg.LID_IENh 0, 5, domLid⟩, ⟨60, Reg.STOCKPOT_EVT, Reg.STOCKPOT_IENh 0, 6, domLid⟩,
    ⟨66, Reg.HOSTIF_EVT 0, Reg.HOSTIF_IENh 0 0, 3, domHost⟩, ⟨69, Reg.HOSTIF_EVT 1, Reg.HOSTIF_IENh 1 0, 3, domHost⟩,
    ⟨72, Reg.HOSTIF_EVT 2, Reg.HOSTIF_IENh 2 0, 3, domHost⟩, ⟨75, Reg.HOSTIF_EVT 3, Reg.HOSTIF_IENh 3 0, 3, domHost⟩,
    ⟨78, Reg.HOSTIF_EVT 4, Reg.HOSTIF_IENh 4 0, 3, domHost⟩, ⟨81, Reg.SVC_EVT, Reg.SVC_IENh 0, 5, domHost⟩,
    ⟨86, Reg.BG_EVT, Reg.BG_IENh 0, 10, domAon⟩ ]

/-- R416: the event registers of a string, sources 96 to 127. -/
def evtRowsCh (k : Nat) : List EvtRow :=
  [ ⟨96, Reg.CHk_CL_EVT k, Reg.CHk_CL_IENh k 0, 3, domCh k⟩, ⟨99, Reg.CHk_FB_EVT k, Reg.CHk_FB_IENh k 0, 4, domCh k⟩,
    ⟨103, Reg.CHk_WH_EVT k, Reg.CHk_WH_IENh k 0, 6, domCh k⟩, ⟨109, Reg.CHk_LK_EVT k, Reg.CHk_LK_IENh k 0, 3, domCh k⟩,
    ⟨112, Reg.CHk_PR_EVT k, Reg.CHk_PR_IENh k 0, 10, domCh k⟩, ⟨122, Reg.CHk_LM_EVT k, Reg.CHk_LM_IENh k 0, 6, domCh k⟩ ]

/-- The pending bits of one event register; 0 while its domain is not in RUN (R417). -/
def Dev.evtBits (d : Dev) (r : EvtRow) : Nat := if d.domRun r.dom then bits (d.reg r.evt).toNat 0 r.w else 0

/-- The bits of one event register that are pending and enabled for host h (R417). -/
def Dev.evtHostBits (d : Dev) (h : Nat) (r : EvtRow) : Nat := d.evtBits r &&& (d.reg (r.ien + 4 * h)).toNat

/-- All sources as one number, bit b for source b, of what `g` gives for each event register. -/
def sumBits (g : EvtRow → Nat) : Nat :=
  (evtRows95 ++ strings8.flatMap evtRowsCh).foldl (fun acc r => acc ||| (g r <<< r.base)) 0

/-- R417: EVT_SUM. -/
def Dev.evtSum (d : Dev) : Nat := sumBits d.evtBits

/-- R417: EVT_HOSTh_SUM. -/
def Dev.evtHostSum (d : Dev) (h : Nat) : Nat := sumBits (d.evtHostBits h)

/-- R416: EVT_STR of source 96 + n: bit k while string k has the event bit set. -/
def Dev.evtStr (d : Dev) (n : Nat) : Nat :=
  strings8.foldl (fun acc k =>
    let v := (evtRowsCh k).foldl (fun a r => a ||| (d.evtBits r <<< r.base)) 0
    acc + b2n (tbit v (96 + n)) * 2 ^ k) 0

/-- R321, R394: the interrupt output of host port Hh is driven low. -/
def Dev.hint (d : Dev) (h : Nat) : Bool := d.evtHostSum h != 0

end Sys2Proof.Machine
end

