-- ==== Sys2Proof/Machine/Windows.lean ====
section
/-! DEFINITION. What string protection is built on (spec file 12): the counting windows (R315, R316), leaving RUN
(R306), trips and their merging (R296, R318 to R320), the way into LATCHED (R309, R312). -/
namespace Sys2Proof.Machine

/-! ### Pieces of a string that leaving RUN ends -/

/-- R197: the injection stops; its value is zero from here on. -/
def Dev.injStop (d : Dev) (k : Nat) : Dev :=
  (d.modCtl k (fun c => { c with inj := none })).putB (Fd.CHk_CL_STATUS_INJ k) false

/-- R199: a capture that is armed ends as done with the entries recorded so far. -/
def Dev.capEnd (d : Dev) (k : Nat) : Dev :=
  if (d.st k).ctl.cap.busy then
    let d := d.modCtl k (fun c => { c with cap := { c.cap with busy := false, left := none } })
    ((d.putB (Fd.CHk_CAP_STATUS_BUSY k) false).putB (Fd.CHk_CAP_STATUS_DONE k) true).evt (Fd.CHk_CL_EVT_CAP_DONE k)
  else d

/-- The states of the Mortar, as CHk_MOR_STATUS.STATE codes them (R205). -/
def morOff : Nat := 0
def morSeek : Nat := 1
def morObserve : Nat := 2
def morRamp : Nat := 3
def morFull : Nat := 4
def morHold : Nat := 5
def morSuspend : Nat := 6

/-- Set the Mortar's state with its count of wraps or ramp step, and its live gain (R205). -/
def Dev.morSet (d : Dev) (k st step g : Nat) : Dev :=
  let d := d.modMor k (fun m => { m with wraps := if st == morRamp then m.wraps else step, g := g,
                                         step := if st == morRamp then step else m.step })
  ((d.put (Fd.CHk_MOR_STATUS_STATE k) st).put (Fd.CHk_MOR_STATUS_STEP k) step).put (Fd.CHk_MOR_STATUS_G k) g

/-- CHk_CL_STATUS.MODE: 1 closed loop, 2 fallback, 0 neither. -/
def Dev.mode (d : Dev) (k : Nat) : Nat := d.fld (Fd.CHk_CL_STATUS_MODE k)
def Dev.closed (d : Dev) (k : Nat) : Bool := d.mode k == 1
def Dev.inFallback (d : Dev) (k : Nat) : Bool := d.mode k == 2

/-- R306: what ends on the tick a string leaves RUN. Boundary trips on their way stay, to be merged (R318). -/
def Dev.leaveRun (d : Dev) (k : Nat) : Dev :=
  let d := if d.inFallback k then d.put (Fd.CHk_FB_STATUS_GOOD k) 0 else d       -- R218
  let d := (d.injStop k).capEnd k
  let d := d.morSet k morOff 0 0                                                  -- R206
  let d := ((d.put (Fd.CHk_CL_STATUS_MODE k) 0).putB (Fd.CHk_PR_STATUS_FB_PIN k) false).putB (Fd.CHk_FB_STATUS_RAIL k) false
  let d := d.modCtl k (fun c => { c with irefNext := none, modeNext := none, miNext := none, railN := 0 })
  let d := d.modWh k (fun w => { w with pair := none })
  d.modPr k (fun p => { p with probe := none, release := none })

/-! ### Counting windows (R315, R316) -/

/-- Sources: 0 LIMIT, 1 RETRY, 2 AUDIO, 3 MEM, 4 LINK, 5 feedback loss. -/
def srcLimit : Nat := 0
def srcRetry : Nat := 1
def srcAudio : Nat := 2
def srcMem : Nat := 3
def srcLink : Nat := 4
def srcFb : Nat := 5

/-- N and the length in ticks of a source's window. -/
def Dev.winCfg (d : Dev) (k i : Nat) : Nat × Nat :=
  let u (b : Bool) := if b then 65536 else 64
  if i == 0 then (d.fld (Fd.CHk_PR_W_LIMIT_N k), d.fld (Fd.CHk_PR_W_LIMIT_WIN k) * u (d.bit (Fd.CHk_PR_W_LIMIT_UNIT k)))
  else if i == 1 then (d.fld (Fd.CHk_PR_W_RETRY_N k), d.fld (Fd.CHk_PR_W_RETRY_WIN k) * u (d.bit (Fd.CHk_PR_W_RETRY_UNIT k)))
  else if i == 2 then (d.fld (Fd.CHk_PR_W_AUDIO_N k), d.fld (Fd.CHk_PR_W_AUDIO_WIN k) * u (d.bit (Fd.CHk_PR_W_AUDIO_UNIT k)))
  else if i == 3 then (d.fld (Fd.CHk_PR_W_MEM_N k), d.fld (Fd.CHk_PR_W_MEM_WIN k) * u (d.bit (Fd.CHk_PR_W_MEM_UNIT k)))
  else if i == 4 then (d.fld (Fd.CHk_PR_W_LINK_N k), d.fld (Fd.CHk_PR_W_LINK_WIN k) * u (d.bit (Fd.CHk_PR_W_LINK_UNIT k)))
  else (d.fld (Fd.CHk_FB_ESC_N k), d.fld (Fd.CHk_FB_ESC_WIN k) * 65536)

/-- The window of a source open at tick `t`. -/
def Dev.winAt (d : Dev) (k i t : Nat) : Option Win :=
  match vat (d.st k).pr.win i with
  | some w => if t < w.start + (d.winCfg k i).2 then some w else none
  | none => none

/-- A source is severe while its window is open with a count of N or more. -/
def Dev.severe (d : Dev) (k i t : Nat) : Bool :=
  match d.winAt k i t with
  | some w => decide ((d.winCfg k i).1 ≤ w.count)
  | none => false

/-- Show the count of a source's window where a register has it. -/
def Dev.winShow (d : Dev) (k i n : Nat) : Dev :=
  if i == 0 then d.put (Fd.CHk_PR_WCNT_LIMIT k) n
  else if i == 1 then d.put (Fd.CHk_PR_STATUS_RETRIES k) n
  else if i == 2 then d.put (Fd.CHk_PR_WCNT_AUDIO k) n
  else if i == 3 then d.put (Fd.CHk_PR_WCNT_MEM k) n
  else if i == 4 then d.put (Fd.CHk_PR_WCNT_LINK k) n
  else d

def Dev.winPut (d : Dev) (k i : Nat) (w : Option Win) : Dev :=
  (d.modPr k (fun p => { p with win := vset p.win i w })).winShow k i ((w.map (·.count)).getD 0)

/-- R315: one event of a source at tick `t`; the flag says that this event brought the count to N. -/
def Dev.winEvent (d : Dev) (k i t : Nat) : Dev × Bool :=
  let old := d.winAt k i t
  let w : Win := match old with
    | some w => { w with count := min 255 (w.count + 1) }
    | none => { start := t, count := 1 }
  let before := (old.map (·.count)).getD 0
  (d.winPut k i (some w), w.count != before && w.count == (d.winCfg k i).1)

/-- R312: at a restart every window closes, and the retry count with its window (log entry 75). -/
def Dev.winClear (d : Dev) (k : Nat) : Dev := d.each [0, 1, 2, 3, 4, 5] (fun d i => d.winPut k i none)

/-! ### Trips (R296, R318 to R320) -/

/-- Kinds of a trip: 0 Plain, 1 Probe, 2 Hold, 3 Latch. -/
def kindPlain : Nat := 0
def kindProbe : Nat := 1
def kindHold : Nat := 2
def kindLatch : Nat := 3

/-- Causes by their code (R296). -/
def causeHeadroom : Nat := 1
def causeRelay : Nat := 2
def causeShort : Nat := 3
def causeOcFast : Nat := 4
def causeLineOv : Nat := 5
def causeReverse : Nat := 6
def causeLimit : Nat := 7
def causeProbe : Nat := 8
def causeCbus : Nat := 9
def causeCbusI : Nat := 10
def causeAudio : Nat := 11
def causeMem : Nat := 12
def causeLink : Nat := 13
def causeHost : Nat := 14
def causeFatal : Nat := 15

/-- R296: the kind of a cause. -/
def tripKind (cause : Nat) : Nat :=
  if cause == causeHeadroom || cause == causeFatal then kindLatch
  else if cause == causeHost then kindHold
  else if 3 ≤ cause && cause ≤ 8 then kindProbe
  else kindPlain

/-- R320: causes that can arise in SAFE once safe state is confirmed. -/
def causeInSafe (cause : Nat) : Bool :=
  cause == causeHeadroom || cause == causeRelay || decide (9 ≤ cause)

/-- R318: a cause detected while a trip is being handled. -/
def Dev.merge (d : Dev) (k cause t : Nat) : Dev :=
  (((d.bump (Fd.CHk_PR_MERGE_COUNT k)).put (Fd.CHk_PR_MERGE_LAST_CAUSE k) cause).put (Fd.CHk_PR_MTICK_TICK k) t).evt
    (Fd.CHk_PR_EVT_MERGED k)

/-- Record the cause, detection tick and kind of the latest trip, and whether it found RETRY severe (R309). -/
def Dev.tripSet (d : Dev) (k cause t : Nat) : Dev :=
  let sev := cause != causeHost && d.severe k srcRetry t
  let d := (((d.put (Fd.CHk_PR_STATUS_CAUSE k) cause).put (Fd.CHk_PR_TRIP_TICK k) t).putB
    (Fd.CHk_PR_STATUS_RETRY_SEV k) sev).putB (Fd.CHk_PR_STATUS_UNCONF k) false
  d.modPr k (fun p => { p with d := t, kind := tripKind cause })

/-- A trip counts (merged causes do not). -/
def Dev.tripCount (d : Dev) (k : Nat) : Dev := (d.bump (Fd.CHk_PR_CNT_TRIPS k)).evt (Fd.CHk_PR_EVT_TRIP k)

/-- R309, R312: the string enters LATCHED; STR_EN falls at the next Rack frame start. -/
def Dev.latchStr (d : Dev) (k : Nat) : Dev :=
  let d := (d.setPhase k phLatched).put (Fd.CHk_PR_STATUS_PHASE k) 4
  (d.modPr k (fun p => { p with handling := false, forceDue := false, forced := [], enLowDue := true })).evt
    (Fd.CHk_PR_EVT_LATCHED k)

/-- R303: the trip waits for its forcing commands. -/
def Dev.startForcing (d : Dev) (k : Nat) : Dev :=
  (d.modPr k (fun p => { p with handling := true, forceDue := true, forced := [] })).put (Fd.CHk_PR_STATUS_PHASE k) 1

/-- R320: a new trip in SAFE after safe state has been confirmed. `before` is the kind of the trip it replaces. -/
def Dev.tripInSafe (d : Dev) (k cause t before : Nat) : Dev :=
  let d := d.tripSet k cause t
  let d := d.modPr k (fun p => { p with kindBefore := before,
                                        kind := if before == kindProbe && p.kind == kindPlain then kindProbe else p.kind })
  if cause == causeFatal then d.startForcing k
  else if (d.st k).pr.kind == kindLatch || d.bit (Fd.CHk_PR_STATUS_RETRY_SEV k) then d.latchStr k
  else d.put (Fd.CHk_PR_STATUS_PHASE k) (if (d.st k).pr.kind == kindHold then 5 else 2)

/-- R296, R318 to R320: a cause is detected at tick `t`. -/
def Dev.trip (d : Dev) (k cause t : Nat) : Dev :=
  let pr := (d.st k).pr
  let old := d.fld (Fd.CHk_PR_STATUS_CAUSE k)
  if d.inRun k then
    ((((d.leaveRun k).setPhase k phSafe).tripSet k cause t |>.tripCount k).startForcing k).modPr k
      (fun p => { p with leftRun := some t })
  else if d.phase k == phSafe then
    if pr.handling then
      if t == pr.d && cause < old then (d.tripSet k cause t).merge k old t else d.merge k cause t
    else if !causeInSafe cause then d
    else if t == pr.d then
      if cause < old then (d.tripInSafe k cause t pr.kindBefore).merge k old t else d.merge k cause t
    else (d.tripCount k).tripInSafe k cause t pr.kind
  else d

/-- R319: the string is in RUN at tick t, or left it on that tick: another cause of the tick can still arise. -/
def Dev.ranAt (d : Dev) (k t : Nat) : Bool := d.inRun k || (d.phase k == phSafe && (d.st k).pr.leftRun == some t)

/-- An event of a counted source, with the trip that severity calls for (R299, R316). -/
def Dev.count (d : Dev) (k i t : Nat) : Dev :=
  let (d, hit) := d.winEvent k i t
  if !hit then d
  else if i == srcLimit then d.trip k causeLimit t
  else if i == srcAudio then d.trip k causeAudio t
  else if i == srcMem then d.trip k causeMem t
  else if i == srcLink then d.trip k causeLink t
  else d

/-- R303: the confirmation state has no cell left to report; safe state is confirmed (R305, R309, R313). -/
def Dev.safeOk (d : Dev) (k : Nat) : Dev :=
  let d := (d.modPr k (fun p => { p with handling := false, forced := [] })).evt (Fd.CHk_PR_EVT_SAFE_OK k)
  if (d.st k).pr.kind == kindLatch || d.bit (Fd.CHk_PR_STATUS_RETRY_SEV k) then d.latchStr k
  else d.put (Fd.CHk_PR_STATUS_PHASE k) (if (d.st k).pr.kind == kindHold then 5 else 2)

/-! ### STR_EN (R29, R34, R99) -/

/-- Drive STR_EN of a string; from a shutdown on it stays low (R58). While it is low no frame is sent and none is
expected; a frame in progress is completed, and the lane is low after it (R248, R256). -/
def Dev.strEn (d : Dev) (k : Nat) (b : Bool) : Dev :=
  let d := { d with pwr := { d.pwr with strEn := vset d.pwr.strEn k (b && !d.pwr.shutdown) } }
  if b then d
  else d.each positions (fun d p => d.modCell k p (fun c => { c with poll := none, lane := false }))

/-- STR_EN of string k is high. -/
def Dev.enHigh (d : Dev) (k : Nat) : Bool := vat d.pwr.strEn k

/-- R106: at a Rack frame start, SYS_STATE becomes RUN once every present string has left its start phases. -/
def Dev.sysRunCheck (d : Dev) (t : Nat) : Dev :=
  let up (k : Nat) : Bool :=
    let p := d.phase k
    p == phRun || p == phSafe || p == phLatched || p == phStartWait || p == phStartFail
  if t % 65536 == 0 && d.fld Fd.SYS_STATE_STATE == 1 && d.strs.all up then
    (d.put Fd.SYS_STATE_STATE 2).evt Fd.SYS_EVT_SYS_RUN
  else d

end Sys2Proof.Machine
end

