-- ==== Sys2Proof/Machine/Whisk.lean ====
section
/-! DEFINITION. The Whisk (spec file 09): roles and queues (R223), commands to cells (R222, R225, R251), the choice of
the cell for a step (R227, R228), balancing pairs (R229, R230), failures and replacement (R232 to R236), rotation
(R237, R238) and slow cells (R240 to R242). -/
namespace Sys2Proof.Machine

/-! ### State codes and marks -/

def stZL : Nat := 0
def stZH : Nat := 1
def stP : Nat := 2
def stN : Nat := 3
def stBYP : Nat := 4

/-- R220: the level of a commanded state. -/
def lvlOf (st : Nat) : Int := if st == stP then 1 else if st == stN then -1 else 0

/-- R85: position p of string k holds a cell; it is the spare; its class is H. -/
def Dev.cellHere (d : Dev) (k p : Nat) : Bool := d.cellMap k p % 4 != 0
def Dev.isSpare (d : Dev) (k p : Nat) : Bool := d.cellMap k p % 4 == 2
def Dev.classH (d : Dev) (k p : Nat) : Bool := tbit (d.cellMap k p) 2

/-- The last commanded state of a cell, and its level (R185). -/
def Dev.cmdOf (d : Dev) (k p : Nat) : Nat := d.fld (Fd.CHk_WH_CELLp_STATE k p)
def Dev.lvl (d : Dev) (k p : Nat) : Int := lvlOf (d.cmdOf k p)

def Dev.failed (d : Dev) (k p : Nat) : Bool := tbit (d.fld (Fd.CHk_WH_MARKS_FAILED k)) p
def Dev.slow (d : Dev) (k p : Nat) : Bool := tbit (d.fld (Fd.CHk_WH_MARKS_SLOW k)) p
def Dev.markBypassed (d : Dev) (k p : Nat) : Dev :=
  d.put (Fd.CHk_WH_MARKS_BYPASSED k) (putBit (d.fld (Fd.CHk_WH_MARKS_BYPASSED k)) p true)

/-- CELLc_LINK.STATE of a position (spec file 10). -/
def Dev.linkState (d : Dev) (k p : Nat) : Nat := d.fld (Fd.CELLc_LINK_STATE (cellIx k p))
def Dev.vbus (d : Dev) (k p : Nat) : Nat := d.fld (Fd.CELLc_VBUS_VBUS (cellIx k p))
def lkDown : Nat := 0
def lkTraining : Nat := 1
def lkManage : Nat := 2
def lkAccepted : Nat := 3
def lkLost : Nat := 4
def lkRejected : Nat := 5

/-- R224, R185: active cells, their number and the string level. -/
def Dev.aq (d : Dev) (k : Nat) : List Nat := (d.st k).wh.aq
def Dev.nact (d : Dev) (k : Nat) : Nat := (d.aq k).length
def Dev.level (d : Dev) (k : Nat) : Int := sumI ((d.aq k).map (d.lvl k))

/-- R225: dwell of a cell at tick q, saturating. -/
def Dev.dwell (d : Dev) (k p q : Nat) : Nat := min 65535 ((q : Int) - (d.cellC k p).dwellFrom).toNat

/-- R226: a cell is over frequency. -/
def Dev.overFreq (d : Dev) (k p : Nat) : Bool := decide (d.fld (Fd.CHk_WH_FREQ_FMAX k) < (d.cellC k p).fa)

/-- Positions in ascending order that are in a list. -/
def sorted7 (l : List Nat) : List Nat := positions.filter l.contains

/-! ### Roles (R223, R236) -/

/-- R223: form the roles. -/
def Dev.formRoles (d : Dev) (k : Nat) : Dev :=
  let w := (d.st k).wh
  let ok (p : Nat) : Bool := d.cellHere k p && !(d.failed k p)
  let spareOk := positions.any (fun p => d.isSpare k p && ok p)
  let held := spareOk && !w.spareUsed
  let pool := positions.filter (fun p => ok p && !(held && d.isSpare k p))
  let n := d.fld (Fd.CHk_WH_CFG_NACT k)
  let act := pool.take n
  let call := held && decide (act.length < n)
  let aq := if call then act ++ positions.filter (d.isSpare k) else act
  d.modWh k (fun w => { w with aq := aq, pq := pool.drop n, heldSpare := held && !call,
                               spareUsed := w.spareUsed || call, left := [], pair := none, rot := none,
                               act := sorted7 aq })

/-- R102: the present cells that are not failed, the spare included, reach the configured active count. -/
def Dev.enoughCells (d : Dev) (k : Nat) : Bool :=
  decide (d.fld (Fd.CHk_WH_CFG_NACT k) ≤ (positions.filter (fun p => d.cellHere k p && !(d.failed k p))).length)

/-- R236: REDUCED follows nact; the flag says that headroom is lost. `fell` says that nact may have fallen since the
last evaluation: only then is a loss detected. -/
def Dev.headroom (d : Dev) (k : Nat) (fell : Bool) : Dev × Bool :=
  let n := d.nact k
  let red := decide (n < d.fld (Fd.CHk_WH_CFG_NACT k))
  let lost := fell && decide (n < d.fld (Fd.CHk_WH_CFG_NMIN k))
  let d := d.evtIf (red && !(d.st k).wh.reduced) (Fd.CHk_WH_EVT_REDUCED k)
  let d := d.evtIf lost (Fd.CHk_WH_EVT_HEADROOM k)
  (d.modWh k (fun w => { w with reduced := red }), lost)

/-- R222: ZF takes the form opposite to the zero form last held; ZH where none was. -/
def Dev.resetZf (d : Dev) (k : Nat) : Dev :=
  d.each positions (fun d p => d.putB (Fd.CHk_WH_CELLp_ZF k p) (match (d.cellC k p).lastZero with
    | some z => !z
    | none => true))

/-! ### Commands (R222, R225, R251) -/

/-- A command to a cell at issue tick q: what the Whisk, the link PHY and the acknowledgement record keep of it. -/
def Dev.command (d : Dev) (k p st q : Nat) : Dev :=
  let c := cellIx k p
  let old := d.cmdOf k p
  let seq := (d.fld (Fd.CELLc_ACK_SEQ c) + 1) % 8
  let d := (d.put (Fd.CHk_WH_CELLp_STATE k p) st).put (Fd.CELLc_ACK_SEQ c) seq
  let d := d.modCell k p (fun x =>
    { x with dwellFrom := q, phy := st, gotCmd := true
             moved := if lvlOf old != lvlOf st then some q else x.moved
             movedBefore := if lvlOf old != lvlOf st then x.moved else x.movedBefore
             lastZero := if st == stZL then some false else if st == stZH then some true else x.lastZero
             bypSent := x.bypSent || st == stBYP
             pend := x.pend ++ [{ seq := seq, q := q, exceeded := false }] })
  if st == stBYP then d.markBypassed k p else d

/-- R222: the zero form that ZF names; ZF is then inverted. -/
def Dev.zeroForm (d : Dev) (k p : Nat) : Nat := d.fld (Fd.CHk_WH_CELLp_ZF k p)
def Dev.commandZero (d : Dev) (k p q : Nat) : Dev :=
  let z := d.zeroForm k p
  (d.command k p z q).putB (Fd.CHk_WH_CELLp_ZF k p) (z == 0)

/-- R221: move a cell by one level; a cell that comes to zero takes the form of R222. -/
def Dev.commandTo (d : Dev) (k p : Nat) (lvl : Int) (q : Nat) : Dev :=
  if lvl = 1 then d.command k p stP q else if lvl = -1 then d.command k p stN q else d.commandZero k p q

/-! ### Selecting the cell for a step (R227, R228) -/

/-- Lexicographic order on keys. -/
def keyLt : List Int → List Int → Bool
  | a :: t, b :: u => if a < b then true else if b < a then false else keyLt t u
  | _, _ => false

/-- The first of a list under a key; among equals the earlier. -/
def bestBy (key : Nat → List Int) : List Nat → Option Nat
  | [] => none
  | x :: t =>
    match bestBy key t with
    | none => some x
    | some y => if keyLt (key y) (key x) then some y else some x

def signI (x : Int) : Int := if x < 0 then -1 else if x = 0 then 0 else 1

/-- R228: the ranking key of a cell for a step in direction `dir` at tick q; `im` is the fast current sample of the
decision read. -/
def Dev.rankKey (d : Dev) (k : Nat) (dir im : Int) (q p : Nat) : List Int :=
  let l := d.lvl k p
  let back := l = -dir
  let rot := (d.st k).wh.rot == some p
  let s := if (im.natAbs : Int) < d.fld (Fd.CHk_WH_BAL_IDEAD k) then 0 else signI im * dir
  [ if back then 0 else 1,
    if d.overFreq k p then 1 else 0,
    if rot && back then 0 else if rot && l = 0 then 2 else 1,
    -(s * (d.vbus k p : Int)),
    -(d.dwell k p q : Int),
    p ]

/-- What the Whisk did with a wanted step. -/
inductive StepOut where
  | limited
  | declined
  | issued
  deriving DecidableEq, Repr

/-- R186, R227: handle a wanted step at issue tick q. -/
def Dev.levelStep (d : Dev) (k : Nat) (up : Bool) (im : Int) (q : Nat) : Dev × StepOut :=
  let dir : Int := if up then 1 else -1
  let cand := (d.aq k).filter (fun p => !(d.failed k p) && !(d.slow k p) && d.lvl k p != dir)
  let elig := cand.filter (fun p => decide (64 ≤ d.dwell k p q))
  if cand.isEmpty then (d, .limited)
  else match bestBy (d.rankKey k dir im q) elig with
    | none => (d, .declined)
    | some p => (d.commandTo k p (d.lvl k p + dir) q, .issued)

/-! ### Balancing pairs (R229, R230) -/

/-- A pair found at an issue tick: its two moves, the one that raises the string level first: (position, new level). -/
structure PairPlan where
  raise : Nat × Int
  lower : Nat × Int
  h : Nat
  d : Nat
  deriving DecidableEq, Repr

/-- R229: the first pair that qualifies. -/
def Dev.findPair (d : Dev) (k : Nat) (im : Int) (q : Nat) : Option PairPlan :=
  let act := (d.aq k).filter (fun p => !(d.failed k p))
  let ok (p : Nat) : Bool := decide (64 ≤ d.dwell k p q) && !(d.overFreq k p)
  let atP := act.filter (fun p => d.lvl k p = 1)
  let atN := act.filter (fun p => d.lvl k p = -1)
  let unwind : Option PairPlan :=
    match bestBy (d.rankKey k (-1) im q) atP, bestBy (d.rankKey k 1 im q) atN with
    | some h, some e => if ok h && ok e then some { raise := (e, 0), lower := (h, 0), h := h, d := e } else none
    | _, _ => none
  let nz := (d.aq k).filter (fun p => d.lvl k p != 0)
  let same : Int := match nz with
    | [] => 0
    | p :: t => if t.all (fun x => d.lvl k x = d.lvl k p) then d.lvl k p else 0
  let holders := act.filter (fun p => same != 0 && d.lvl k p = same)
  let idle := act.filter (fun p => d.lvl k p = 0 && !(d.slow k p))
  let plan (h e : Nat) : PairPlan :=
    if same = 1 then { raise := (e, 1), lower := (h, 0), h := h, d := e }
    else { raise := (h, 0), lower := (e, -1), h := h, d := e }
  let demote : Option PairPlan :=
    match bestBy (fun p => [(p : Int)]) (holders.filter (d.slow k)), bestBy (d.rankKey k same im q) idle with
    | some h, some e => if same != 0 && ok h && ok e then some (plan h e) else none
    | _, _ => none
  let balance : Option PairPlan :=
    let u := signI (same * im)
    let lo (p : Nat) : List Int := [(d.vbus k p : Int), p]
    let hi (p : Nat) : List Int := [-(d.vbus k p : Int), p]
    let thr := d.fld (Fd.CHk_WH_BAL_THR k)
    if same = 0 || u = 0 || (im.natAbs : Int) < d.fld (Fd.CHk_WH_BAL_IDEAD k) then none
    else
      match bestBy (if u = 1 then lo else hi) holders, bestBy (if u = 1 then hi else lo) idle with
      | some h, some e =>
        let far := if u = 1 then decide (d.vbus k h + thr ≤ d.vbus k e) else decide (d.vbus k e + thr ≤ d.vbus k h)
        if far && ok h && ok e then some (plan h e) else none
      | _, _ => none
  match unwind with
  | some p => some p
  | none => match demote with
    | some p => some p
    | none => balance

/-- R230: start a pair; `first` says that the raising command comes first. -/
def Dev.startPair (d : Dev) (k q : Nat) (pl : PairPlan) (first : Bool) : Dev :=
  let (a, b) := if first then (pl.raise, pl.lower) else (pl.lower, pl.raise)
  let d := (d.commandTo k a.1 a.2 q).bump (Fd.CHk_WH_CNT_PAIRS k)
  let code := if b.2 = 1 then stP else if b.2 = -1 then stN else 5
  d.modWh k (fun w => { w with pair := some { h := pl.h, d := pl.d, pos := b.1, state := code, q := q + 8 } })

/-- R230: issue the second command of a pair; state code 5 stands for the zero form of R222. -/
def Dev.closePair (d : Dev) (k q : Nat) (pr : Pair) : Dev :=
  let d := d.modWh k (fun w => { w with pair := none })
  if pr.state == 5 then d.commandZero k pr.pos q else d.command k pr.pos pr.state q

/-! ### Failures (R232 to R234) -/

/-- Where a failure comes from (R232): telemetry; a lost link; a cell fault that protection declares; start-up. -/
inductive FailSrc where
  | telemetry
  | lost
  | declared
  | start
  deriving DecidableEq, Repr

/-- R232 to R234: mark a cell failed. It leaves the parked queue or the spare role at once; an active one leaves at the
decision instant that R232 gives. A rotation that was to park it is cancelled (R238). -/
def Dev.failCell (d : Dev) (k p : Nat) (src : FailSrc) : Dev :=
  if d.failed k p then
    if src == .lost then (d.markBypassed k p).modCell k p (fun c => { c with frozen := false }) else d
  else
    let d := (d.put (Fd.CHk_WH_MARKS_FAILED k) (putBit (d.fld (Fd.CHk_WH_MARKS_FAILED k)) p true)).evt
      (Fd.CHk_WH_EVT_CELL_FAIL k)
    let d := if src == .lost then d.markBypassed k p else d
    let d := d.modWh k (fun w => { w with pq := w.pq.filter (· != p)
                                          heldSpare := w.heldSpare && !(d.isSpare k p)
                                          rot := if w.rot == some p then none else w.rot })
    let d := d.modCell k p (fun c => { c with frozen := src == .declared, bypSent := false, activeAll := false })
    if d.phase k == phTest && (vat d.test k).pos == p then d.modTest k (fun t => { t with restart := true }) else d

/-- R233: failed cells leave the active set at a decision instant `t`. A frozen one leaves at the first decision instant
after its BYP command. -/
def Dev.dropFailed (d : Dev) (k t : Nat) : Dev :=
  let goes (p : Nat) : Bool :=
    let c := d.cellC k p
    d.failed k p && (!c.frozen || (c.bypSent && decide (c.dwellFrom < (t : Int))))
  let out := (sorted7 (d.aq k)).filter goes
  if out.isEmpty then d
  else d.modWh k (fun w => { w with aq := w.aq.filter (fun p => !(out.contains p)), left := w.left ++ out })

/-- R231, R234: the failed cell with a live link that is due its BYP command. -/
def Dev.bypDue (d : Dev) (k : Nat) : Option Nat :=
  positions.find? (fun p => d.cellHere k p && d.failed k p && d.linkState k p == lkAccepted && !(d.cellC k p).bypSent)

/-! ### Membership at a boundary (R235 to R239) -/

/-- R235: the replacement that joins next. -/
def Dev.nextJoin (d : Dev) (k : Nat) : Option Nat :=
  let w := (d.st k).wh
  match w.pq.find? (fun p => !(d.slow k p)) with
  | some p => some p
  | none => match w.pq with
    | p :: _ => some p
    | [] => if w.heldSpare then positions.find? (d.isSpare k) else none

/-- R235: one replacement joins the active queue at its tail. -/
def Dev.joinOne (d : Dev) (k : Nat) : Dev :=
  match d.nextJoin k with
  | none => d
  | some p =>
    let spare := !((d.st k).wh.pq.contains p)
    let d := d.modWh k (fun w => { w with aq := w.aq ++ [p], pq := w.pq.filter (· != p)
                                          heldSpare := w.heldSpare && !spare, spareUsed := w.spareUsed || spare })
    (d.bump (Fd.CHk_WH_CNT_REPLACE k)).evt (Fd.CHk_WH_EVT_REPLACE k)

/-- A parked cell that is not slow waits. -/
def Dev.parkedFit (d : Dev) (k : Nat) : Option Nat := (d.st k).wh.pq.find? (fun p => !(d.slow k p))

/-- R237: a slow active cell is to be demoted. -/
def Dev.demote (d : Dev) (k p : Nat) : Dev :=
  (d.modWh k (fun w => { w with rot := some p })).bump (Fd.CHk_WH_SLOWCNT_DEMOTE k)

/-- R238: exchange a pending rotation. -/
def Dev.rotate (d : Dev) (k : Nat) : Dev :=
  let w := (d.st k).wh
  match w.rot, d.parkedFit k with
  | some o, some i =>
    let inPair := match w.pair with
      | some pr => pr.h == o || pr.d == o
      | none => false
    if w.aq.contains o && d.lvl k o = 0 && !(d.failed k o) && !inPair then
      let d := d.modWh k (fun w => { w with aq := w.aq.filter (· != o) ++ [i], pq := w.pq.filter (· != i) ++ [o]
                                            rot := none, rotFrames := 0 })
      let d := d.modCell k o (fun c => { c with activeAll := false })
      (d.bump (Fd.CHk_WH_CNT_ROTATIONS k)).evt (Fd.CHk_WH_EVT_ROTATE k)
    else d
  | _, _ => d

/-- R226: a level change in the period that ends before boundary b. -/
def movedIn (b : Nat) (t : Option Nat) : Bool := match t with
  | some t => decide (b ≤ t + 64) && decide (t < b)
  | none => false

/-- R226: the frequency average of one cell. -/
def Dev.freqAvg (d : Dev) (k b p : Nat) : Dev :=
  let c := d.cellC k p
  let n : Int := if movedIn b c.moved || movedIn b c.movedBefore then 1 else 0
  let fa := (satU 17 ((c.fa : Int) + rsh (n * 65536 - c.fa) (d.fld (Fd.CHk_WH_FREQ_FSH k)))).toNat
  (d.modCell k p (fun c => { c with fa := fa })).put (Fd.CHk_WH_FAVGp_FAVG k p) fa

/-- R320: in SAFE the Whisk keeps its queues (R243), so nothing joins; headroom is lost when an active cell has left and
the cells that could join for it no longer bring nact to NMIN (log entry 76). -/
def Dev.safeHeadroom (d : Dev) (k b : Nat) : Dev :=
  let w := (d.st k).wh
  let could := d.nact k + w.pq.length + b2n w.heldSpare
  if !w.left.isEmpty && decide (could < d.fld (Fd.CHk_WH_CFG_NMIN k)) then
    (d.evt (Fd.CHk_WH_EVT_HEADROOM k)).trip k causeHeadroom b
  else d

/-- R239: the membership changes of boundary b, in their order, of a string that is in RUN or left it on this tick
(R319). Outside RUN the Whisk keeps its queues (R243). A failed cell leaves the fallback modulator's list (R216). -/
def Dev.membership (d : Dev) (k b : Nat) : Dev :=
  let ran := d.ranAt k b
  let left := (d.st k).wh.left
  let d := if !ran && d.phase k == phSafe then d.safeHeadroom k b else d
  let d := if ran then d.each left (fun d _ => d.joinOne k) else d
  let d := d.modWh k (fun w => { w with left := [] })
  let d := if ran then
      let (d, lost) := d.headroom k (!left.isEmpty)
      if lost then d.trip k causeHeadroom b else d
    else d
  let d := if d.inRun k then
      let d := match (d.st k).wh.rot, (sorted7 (d.aq k)).find? (fun p => d.slow k p && !(d.failed k p)), d.parkedFit k with
        | none, some p, some _ => d.demote k p
        | _, _, _ => d
      d.rotate k
    else d
  let d := d.each positions (fun d p => d.freqAvg k b p)
  d.modWh k (fun w => { w with act := (sorted7 w.aq).filter (fun p => !(d.failed k p)) })

/-! ### Slow cells (R240, R242) -/

/-- R240: an exceedance of a cell at tick `t`. -/
def Dev.exceed (d : Dev) (k p t : Nat) : Dev :=
  let n := d.fld (Fd.CHk_WH_SLOW_N k)
  let win := d.fld (Fd.CHk_WH_SLOW_WIN k) * 64
  let d := d.bump (Fd.CHk_WH_SLOWCNT_EXCEED k)
  let old := (d.cellC k p).exceeds
  let hit := match old[n - 2]? with
    | some t0 => decide (t ≤ t0 + win)
    | none => false
  let d := d.modCell k p (fun c => { c with exceeds := (t :: c.exceeds).take 15, hadExceed := true })
  if hit && !(d.slow k p) then
    let d := (d.put (Fd.CHk_WH_MARKS_SLOW k) (putBit (d.fld (Fd.CHk_WH_MARKS_SLOW k)) p true)).modCell k p
      (fun c => { c with cleanRun := 0 })
    let d := (d.bump (Fd.CHk_WH_SLOWCNT_MARKS k)).evt (Fd.CHk_WH_EVT_SLOW k)
    if (d.aq k).contains p && (d.parkedFit k).isSome then d.demote k p else d
  else d

/-- The string has active cells: the states in which the Whisk's roles stand (R223). -/
def Dev.hasActive (d : Dev) (k : Nat) : Bool := d.phase k == phArmed || d.phase k == phRun || d.phase k == phSafe

/-- R242: the Rack frame that has ended, for the slow marks. -/
def Dev.slowFrame (d : Dev) (k : Nat) : Dev :=
  let clr := d.fld (Fd.CHk_WH_SLOWCLR_CLR k)
  d.each positions (fun d p =>
    let c := d.cellC k p
    let active := d.hasActive k && (d.aq k).contains p
    let run := if c.hadExceed then 0 else if c.activeAll && active && c.gotCmd then c.cleanRun + 1 else c.cleanRun
    let d := if d.slow k p && clr != 0 && decide (clr ≤ run) then
        d.put (Fd.CHk_WH_MARKS_SLOW k) (putBit (d.fld (Fd.CHk_WH_MARKS_SLOW k)) p false) else d
    d.modCell k p (fun c => { c with cleanRun := run, hadExceed := false, gotCmd := false, activeAll := active }))

/-- R237: the rotation of a string in RUN at a Rack frame start. -/
def Dev.rotFrame (d : Dev) (k : Nat) : Dev :=
  let d := d.modWh k (fun w => { w with rotFrames := w.rotFrames + 1 })
  let per := d.fld (Fd.CHk_WH_ROT_PERIOD k)
  if per != 0 && decide (per ≤ (d.st k).wh.rotFrames) && (d.parkedFit k).isSome && (d.st k).wh.rot.isNone then
    d.modWh k (fun w => { w with rot := w.aq.head? })
  else d

end Sys2Proof.Machine
end

