-- ==== Sys2Proof/Machine/Link.lean ====
section
/-! DEFINITION. The controller's end of the cell links (spec file 10): the frame that each link sends at an issue tick
(R248 to R251, R263), the take-up of upstream frames (R256 to R259), training and enumeration (R261 to R265), link loss
(R266), and what telemetry means for the Whisk and for protection (R232, R296, R299, R301, R305). -/
namespace Sys2Proof.Machine

/-! ### Downstream (R248, R249, R263) -/

/-- R405: cell p of string k enters companion pin mode at step 4 of R264. -/
def Dev.pinCell (d : Dev) (k p : Nat) : Bool := (d.st k).pr.pinMode && match vat d.svc.pin k with
  | some mask => tbit mask p
  | none => false

/-- R264: the management transaction of a step: write flag, address and data. Steps 0 to 2 read the identity, 3 to 6
write CCFG0 to CCFG3, 7 to 10 read them back, 11 writes OPER. -/
def Dev.mgTrans (d : Dev) (c step : Nat) : Bool × Nat × Nat :=
  let w (i : Nat) : Nat :=
    if i == 0 then d.fld (Fd.CELLc_CCFG01_CCFG0 c) else if i == 1 then d.fld (Fd.CELLc_CCFG01_CCFG1 c)
    else if i == 2 then d.fld (Fd.CELLc_CCFG23_CCFG2 c) else d.fld (Fd.CELLc_CCFG23_CCFG3 c)
  if step < 3 then (false, step, 0)
  else if step < 7 then (true, 0x10 + (step - 3), w (step - 3))
  else if step < 11 then (false, 0x10 + (step - 7), 0)
  else (true, 0x1F, if d.pinCell (c / 7) (c % 7) then 2 else 1)

/-- A frame leaves a link: its symbols, and the disparity of the lane after them (R246). -/
def Dev.sendBytes (d : Dev) (k p : Nat) (mgmt : Bool) (bytes : List Nat) : Dev :=
  d.modCell k p (fun c =>
    let e := encFrame mgmt c.rd bytes
    { c with sent := e.1, lane := true, rd := e.2 })

/-- R248: one downstream frame of a link at issue tick q; `cmd` says that the string commanded the cell at q. -/
def Dev.sendFrame (d : Dev) (k p q : Nat) (cmd : Bool) : Dev :=
  let c := cellIx k p
  let poll := q % 32 == k + 16
  let st := d.linkState k p
  let here := d.cellHere k p
  let x := d.cellC k p
  if here && st == lkManage && poll then
    let (wr, addr, data) := d.mgTrans c x.mgStep
    let body := [b2n wr * 128 + x.tag, addr, data % 256, data / 256 % 256]
    (d.sendBytes k p true (body ++ hiLo (crc16 body))).modCell k p (fun y => { y with poll := some (q, true) })
  else if (here && (st == lkTraining || st == lkAccepted || st == lkManage)) || (!here && d.phase k == phEnum) then
    let seq := if here then d.fld (Fd.CELLc_ACK_SEQ c) else 0
    let asks := poll && st != lkManage
    let cb := b2n asks * 128 + b2n (cmd && st != lkManage) * 64 + x.phy * 8 + seq
    let d := d.sendBytes k p false [cb, crc8 [cb]]
    if asks then d.modCell k p (fun y => { y with poll := some (q, false) }) else d
  else d.modCell k p (fun y => { y with sent := [], lane := false })

/-- R248: while STR_EN is high, every link of the string sends one frame; `cmds` lists the positions commanded at q. -/
def Dev.sendFrames (d : Dev) (k q : Nat) (cmds : List Nat) : Dev :=
  if d.enHigh k then d.each positions (fun d p => d.sendFrame k p q (cmds.contains p)) else d

/-! ### Entry into ENUM, acceptance and rejection (R261, R264) -/

/-- CHk_LK_EVT.ENUM: every present link of the string has been accepted or rejected. -/
def Dev.enumDone (d : Dev) (k : Nat) : Dev :=
  d.evtIf (positions.all (fun p => !(d.cellHere k p) || 3 ≤ d.linkState k p)) (Fd.CHk_LK_EVT_ENUM k)

/-- R264: a link is rejected. -/
def Dev.rejectLink (d : Dev) (k p detail : Nat) : Dev :=
  ((d.put (Fd.CELLc_LINK_STATE (cellIx k p)) lkRejected).put (Fd.CELLc_LINK_DETAIL (cellIx k p)) detail).enumDone k

/-- R251, R261: a link at the string's entry into ENUM. -/
def Dev.enumLink (d : Dev) (k p : Nat) : Dev :=
  let c := cellIx k p
  let d := d.modCell k p (fun x =>
    { x with frozen := false, bypSent := false, pend := [], poll := none, sent := [], lane := true, phy := 7, trainRun := 0
             mgStep := 0, mgTries := 0, mgBad := false, fseqRef := none, limRef := none, faultRef := 0, missRun := 0
             vcRun := 0, tcRun := 0 })
  if d.cellHere k p then
    ((((d.put (Fd.CELLc_LINK_STATE c) lkTraining).putB (Fd.CELLc_LINK_STALE c) false).put (Fd.CELLc_LINK_DETAIL c) 0).put
      (Fd.CELLc_ACK_SEQ c) 0).put (Fd.CELLc_FAULT_FIRST c) 0
  else d

/-! ### Upstream (R256) -/

/-- What a take-up finds. -/
inductive Upstream where
  /-- A valid telemetry frame: bytes 0 to 4. -/
  | telemetry (b : List Nat)
  /-- A valid management response: RCTL, MADDR, MD0, MD1. -/
  | response (b : List Nat)
  /-- Nothing within the bound. -/
  | absent
  /-- A code or disparity error, or a leading symbol that was not expected. -/
  | badCode
  | badCrc
  deriving DecidableEq, Repr

/-- R247, R256: judge the bits that came within the bound; `mgmt` says that K28.1 is expected. Bits without a comma, or that end
before the eighth symbol, hold no frame whose last bit arrived. -/
def judgeFrame (mgmt : Bool) (lane : List Bool) : Upstream :=
  match decLane 8 lane with
  | none => .absent
  | some .error => .badCode
  | some (.data m bytes) =>
    if m != mgmt || bytes.length != 7 then .badCode
    else if crc16 (bytes.take 5) == (bytes.getD 5 0) * 256 + bytes.getD 6 0 then
      (if mgmt then .response (bytes.take 4) else .telemetry (bytes.take 5))
    else .badCrc

/-- R266: the link is lost. -/
def Dev.loseLink (d : Dev) (k p : Nat) : Dev :=
  let d := (d.put (Fd.CELLc_LINK_STATE (cellIx k p)) lkLost).put (Fd.CHk_LK_STATUS_LOST k)
    (putBit (d.fld (Fd.CHk_LK_STATUS_LOST k)) p true)
  ((d.evt (Fd.CHk_LK_EVT_LOST k)).modCell k p (fun x => { x with lane := false })).failCell k p .lost

/-- One count of CELLc_LINK_ERR with its event. -/
def Dev.linkErr (d : Dev) (k : Nat) (f : Fld) : Dev := (d.bump f).evt (Fd.CHk_LK_EVT_ERR k)

/-- R256, R266, R268: a missing frame of an accepted link. -/
def Dev.missing (d : Dev) (k p t : Nat) (u : Upstream) : Dev :=
  let c := cellIx k p
  let d := (d.putB (Fd.CELLc_LINK_STALE c) true).linkErr k (Fd.CELLc_LINK_ERR_MISS c)
  let d := match u with
    | .badCode => d.linkErr k (Fd.CELLc_LINK_ERR_CODE c)
    | .badCrc => d.linkErr k (Fd.CELLc_LINK_ERR_CRC c)
    | _ => d
  let d := d.modCell k p (fun x => { x with missRun := x.missRun + 1 })
  let d := d.count k srcLink t
  if 2 ≤ (d.cellC k p).missRun then d.loseLink k p else d

/-- R259, R240: acknowledge the commands up to the one whose SEQ the frame carries. -/
def Dev.ackOne (d : Dev) (k p t : Nat) (x : Pend) : Dev :=
  let c := cellIx k p
  let lat := t - x.q
  let bound := d.fld (Fd.CHk_WH_SLOW_BOUND k)
  let d := (d.put (Fd.CELLc_ACK_LAST c) (min 255 lat)).put (Fd.CELLc_ACK_MAX c) (max (d.fld (Fd.CELLc_ACK_MAX c)) (min 255 lat))
  if bound < lat && !x.exceeded then d.exceed k p (x.q + bound + 1) else d

/-- The commands up to and with the last one of a SEQ, and those after it. -/
def splitAck (seq : Nat) (l : List Pend) : List Pend × List Pend :=
  let later := l.reverse.takeWhile (fun x => x.seq != seq)
  if later.length == l.length then ([], l) else (l.take (l.length - later.length), l.drop (l.length - later.length))

def Dev.acknowledge (d : Dev) (k p t seq : Nat) : Dev :=
  let (done, rest) := splitAck seq (d.cellC k p).pend
  let d := d.modCell k p (fun x => { x with pend := rest })
  done.foldl (fun d x => d.ackOne k p t x) d

/-- R301: the cell windows, judged at a valid frame. -/
def Dev.cellWindow (d : Dev) (k p vbus temp : Nat) : Dev :=
  if d.inRun k && !(d.st k).pr.cbusBad && d.cellHere k p && !(d.failed k p) then
    let x := d.cellC k p
    let vout := vbus < d.fld (Fd.CHk_PR_VCELL_VC_LO k) || d.fld (Fd.CHk_PR_VCELL_VC_HI k) < vbus
    let vr := if vout then x.vcRun + 1 else 0
    let tr := if d.fld (Fd.CHk_PR_CELLT_TC_HI k) ≤ temp then x.tcRun + 1 else 0
    let d := d.modCell k p (fun x => { x with vcRun := vr, tcRun := tr })
    if d.fld (Fd.CHk_PR_CELLT_VC_N k) ≤ vr || d.fld (Fd.CHk_PR_CELLT_TC_N k) ≤ tr then
      (d.evt (Fd.CHk_PR_EVT_CELL_DECL k)).failCell k p .declared
    else d
  else d.modCell k p (fun x => { x with vcRun := 0, tcRun := 0 })

/-- R256 to R259, R296, R299, R301: a valid telemetry frame of a present cell. -/
def Dev.telemetry (d : Dev) (k p t : Nat) (b : List Nat) : Dev :=
  let c := cellIx k p
  let at' (i : Nat) : Nat := b.getD i 0
  let vbus := at' 0 + 256 * (at' 1 % 16)
  let lim := at' 1 / 16
  let temp := at' 2
  let fault := at' 3 / 8
  let ack := at' 3 % 8
  let state := at' 4 / 32
  let fseq := at' 4 / 4 % 8
  let derr := tbit (at' 4) 1
  let rsync := tbit (at' 4) 0
  let x := d.cellC k p
  let word := temp * 2 ^ 24 + fault * 2 ^ 16 + lim * 2 ^ 12 + state * 2 ^ 8 + b2n derr * 128 + b2n rsync * 64 + ack * 8 + fseq
  let d := (d.put (Fd.CELLc_VBUS_VBUS c) vbus).setReg (Reg.CELLc_TELEM c) (BitVec.ofNat 32 word)
  let d := d.putB (Fd.CELLc_LINK_STALE c) false
  -- R257, R258
  let gap := match x.fseqRef with
    | some f => fseq != (f + 1) % 8
    | none => false
  let d := if gap then d.bump (Fd.CELLc_LINK_ERR2_GAP c) else d
  let units := match x.limRef with
    | some l => (lim + 16 - l) % 16
    | none => 0
  let change := match x.limRef with
    | some l => lim != l || fault != x.faultRef
    | none => false
  let d := d.modCell k p (fun x =>
    { x with fseqRef := some fseq, limRef := some lim, faultRef := fault, missRun := 0, validAt := some t
             vbusSpan := some (match x.vbusSpan with
               | some (n, lo, hi) => if n == t / 65536 then (n, min lo vbus, max hi vbus) else (t / 65536, vbus, vbus)
               | none => (t / 65536, vbus, vbus)) })
  let d := if change then d.modFb k (fun f => { f with neutral := true }) else d
  let d := if fault != 0 then d.bump (Fd.CELLc_FAULT_REPORTS c) else d
  let d := if 16 ≤ fault && d.fld (Fd.CELLc_FAULT_FIRST c) == 0 then d.put (Fd.CELLc_FAULT_FIRST c) fault else d
  let d := if rsync then d.bump (Fd.CELLc_LINK_ERR2_RSYNC c) else d
  let d := if derr then (d.linkErr k (Fd.CELLc_LINK_ERR_DOWN c)).count k srcLink t else d
  let d := d.acknowledge k p t ack
  let d := d.add (Fd.CELLc_LIMIT_LIMIT c) units
  let d := (List.replicate units ()).foldl (fun d _ => d.count k srcLimit t) d
  -- R232, R296, R301
  let d := if 16 ≤ fault && !(d.failed k p) then
      (if fault < 24 then d.trip k causeRelay t else d).failCell k p .telemetry
    else d.cellWindow k p vbus temp
  -- R305: a forced cell reports its zero form
  if state ≤ 1 then d.modPr k (fun r => if r.forceDue then r else { r with forced := r.forced.filter (· != p) }) else d

/-- R262: the link has trained. -/
def Dev.trained (d : Dev) (k p : Nat) : Dev :=
  let n := (d.cellC k p).trainRun + 1
  let d := d.modCell k p (fun x => { x with trainRun := n })
  if 4 ≤ n then
    (d.put (Fd.CELLc_LINK_STATE (cellIx k p)) lkManage).put (Fd.CHk_LK_STATUS_TRAINED k)
      (putBit (d.fld (Fd.CHk_LK_STATUS_TRAINED k)) p true)
  else d

/-- R263, R264: a failed transaction is repeated up to three times. -/
def Dev.mgFail (d : Dev) (k p : Nat) : Dev :=
  let n := (d.cellC k p).mgTries + 1
  let d := d.modCell k p (fun x => { x with mgTries := n })
  if 3 < n then d.rejectLink k p 0x06 else d

/-- R264: a transaction has succeeded with the data read. -/
def Dev.mgNext (d : Dev) (k p data : Nat) : Dev :=
  let c := cellIx k p
  let step := (d.cellC k p).mgStep
  let (_, _, want) := d.mgTrans c (if 7 ≤ step && step < 11 then step - 4 else step)
  let bad := (d.cellC k p).mgBad || (decide (7 ≤ step) && decide (step < 11) && data != want)
  let d := d.modCell k p (fun x => { x with mgStep := step + 1, mgTries := 0, mgBad := bad })
  if step == 0 then d.put (Fd.CELLc_ID_DEV_ID c) data
  else if step == 1 then (d.put (Fd.CELLc_ID_DIE_REV c) (data / 256)).put (Fd.CELLc_ID_MAX_PROFILE c) (data % 256)
  else if step == 2 then
    let d := d.put (Fd.CELLc_LINK_CLASS c) (data % 2)
    if d.fld (Fd.CELLc_ID_DEV_ID c) != 0x0160 then d.rejectLink k p 0x02
    else if tbit data 0 != d.classH k p then d.rejectLink k p 0x03
    else if d.fld (Fd.CELLc_ID_MAX_PROFILE c) < d.fld Fd.IMG_PROFILE_PROFILE then d.rejectLink k p 0x04
    else d
  else if step == 10 then (if bad then d.rejectLink k p 0x05 else d)
  else if step == 11 then
    ((d.put (Fd.CELLc_LINK_STATE c) lkAccepted).put (Fd.CHk_LK_STATUS_ACCEPTED k)
      (putBit (d.fld (Fd.CHk_LK_STATUS_ACCEPTED k)) p true)).enumDone k
  else d

/-- R263: judge a management response. -/
def Dev.mgResponse (d : Dev) (k p : Nat) (b : List Nat) : Dev :=
  let x := d.cellC k p
  let (_, addr, _) := d.mgTrans (cellIx k p) x.mgStep
  let rctl := b.getD 0 0
  if rctl % 16 == x.tag && b.getD 1 0 == addr && !(tbit rctl 6) then d.mgNext k p (b.getD 2 0 + 256 * b.getD 3 0)
  else d.mgFail k p

/-- R256: take up the answer to a poll, by the state of the link. -/
def Dev.takeup (d : Dev) (k p t : Nat) (mgmt : Bool) (u : Upstream) : Dev :=
  let st := d.linkState k p
  if !(d.cellHere k p) then
    match u with
    | .telemetry _ => if d.phase k == phEnum then d.modPr k (fun r => { r with stray := true }) else d
    | _ => d
  else if st == lkManage && mgmt then
    let d := match u with
      | .response b => d.mgResponse k p b
      | _ => d.mgFail k p
    d.modCell k p (fun x => { x with tag := (x.tag + 1) % 16 })
  else match u with
    | .telemetry b =>
      if st == lkTraining then (d.telemetry k p t b).trained k p
      else if st == lkAccepted then d.telemetry k p t b
      else d
    | _ =>
      if st == lkTraining then d.modCell k p (fun x => { x with trainRun := 0 })
      else if st == lkAccepted then d.missing k p t u
      else d

/-- R305: safe state is confirmed once every forced cell has reported a zero form or is failed. -/
def Dev.confirm (d : Dev) (k : Nat) : Dev :=
  let r := (d.st k).pr
  if d.phase k == phSafe && r.handling && !r.forceDue && r.forced.all (d.failed k) then d.safeOk k else d

/-- R256: the bits that a take-up is given, if any came within the bound. -/
def rxBits (rx : LinkRx) (lastSent : List (BitVec 10)) : Option (List Bool) :=
  match rx with
  | .asSent => if lastSent.isEmpty then none else some (symbolBits lastSent)
  | .bits l => some l
  | .nothing => none
  | .late => none

/-- R210: the commanded-level sum of a string from tick `t` on, times the bus codes. -/
def Dev.noteV (d : Dev) (k t : Nat) : Dev :=
  let ph := d.phase k
  if ph == phArmed || ph == phRun || ph == phSafe then
    let v := sumI ((d.aq k).map (fun p => d.lvl k p * (d.vbus k p : Int)))
    d.modFb k (fun f =>
      match f.vHist with
      | [] => { f with vHist := [(t, v)] }
      | (t0, v0) :: r =>
        if v = v0 then f else if t0 == t then { f with vHist := (t, v) :: r } else { f with vHist := (t, v) :: (t0, v0) :: r })
  else d

/-- TELEMETRY_TAKEUP on the controller. -/
def Dev.telemetryTakeup (d : Dev) (t c : Nat) (lane : Option (List Bool)) : Dev :=
  let k := c / 7
  let p := c % 7
  if d.enHigh k && t % 32 == (k + 5) % 32 then
    let x := d.cellC k p
    let d := match x.poll with
      | some (q, mgmt) =>
        if q + 21 == t then
          let u := match lane with
            | none => Upstream.absent
            | some l => judgeFrame mgmt l
          (d.modCell k p (fun y => { y with poll := none })).takeup k p t mgmt u
        else d
      | none => d
    (d.confirm k).noteV k t
  else d

/-- TELEMETRY_TAKEUP: the upstream frame that answers the poll of 21T before is taken up (R256). -/
def execTelemetryTakeup (c : Fin 56) (rx : LinkRx) (s : State) : Host.Outcome State Fault Refusal :=
  onDev s (fun e d => d.telemetryTakeup e.tick c.val (rxBits rx (vat s.comps c.val).tx))

/-- R240: the oldest command of a cell that has passed its bound without an acknowledgement counts as an exceedance. -/
def Dev.ackExpire (d : Dev) (k p t : Nat) : Dev :=
  let bound := d.fld (Fd.CHk_WH_SLOW_BOUND k)
  let due (x : Pend) : Bool := !x.exceeded && decide (x.q + bound < t)
  match (d.cellC k p).pend.find? due with
  | none => d
  | some x =>
    let d := d.modCell k p (fun c => { c with pend := c.pend.map (fun y => if y.q == x.q then { y with exceeded := true } else y) })
    d.exceed k p (x.q + bound + 1)

/-- ACK_BOUND_EXPIRY (R240). -/
def execAckBoundExpiry (c : Fin 56) (s : State) : Host.Outcome State Fault Refusal :=
  onDev s (fun e d => d.ackExpire (c.val / 7) (c.val % 7) e.tick)

end Sys2Proof.Machine
end

