-- ==== Sys2Proof/Config.lean ====
section
/-! DEFINITION. The values the spec leaves open: constants without a body, so that nothing can be proved of them.
Each is named in the assumption log; a counter of the state picks a fresh value where the spec fixes none. -/
namespace Sys2Proof

/-- R168: tap `j` of the minimum-phase stage-2 table of rate preset `p`, as held in silicon (S.23). The spec defines it
by its values as held and does not state them (log entry 10). -/
opaque Config.minPhaseTap : Nat → Nat → BitVec 24

/-- R123: whether a pending set written within 8T before a frame sync is taken up at that sync; the spec allows either
(log entry 11). The argument is the count of such choices made. -/
opaque Config.takeLateSet : Nat → Bool

/-- R398: byte `i` of the `n`-th challenge drawn by the random number generator (log entry 12). -/
opaque Config.challengeByte : Nat → Nat → BitVec 8

/-- R271: the outcome of an EN low whose length lies between two stated bounds (log entry 13). -/
opaque Config.enWindow : Nat → Bool

/-- R276, R281: the choice the companion makes where the spec leaves a measurement or an attribution to it
(log entry 14). -/
opaque Config.companionChoice : Nat → Nat → Nat

/-- A value the spec states for no case at hand: the numbered question, and the operands it may depend on
(log entry 15). -/
opaque Config.openValue : Nat → Int → Int

end Sys2Proof
end

