-- ==== Sys2Proof/Machine/Tables.lean ====
section
/-! DEFINITION. The coefficient tables of silicon, each entry the exact real value of its expression rounded once
(R447): rate converters (R141), equaliser ROM (R160), Sieve stages 2 and 3 (R168, R171). Real values are carried as
integers with 200 fraction bits; the series below are cut far beyond the rounding of R8. -/
namespace Sys2Proof.Machine

/-- Fraction bits of the real arithmetic below. -/
def fxBits : Nat := 200

/-- 1.0. -/
def fxOne : Int := 2 ^ 200

/-- π, to 240 fraction bits, cut to 200. -/
def fxPi : Int := 5550713758724461735233077129787137796835226094488409880962709825408003150 / 2 ^ 40

/-- Product of two fixed-point reals. -/
def fxMul (a b : Int) : Int := (a * b) / 2 ^ 200

/-- Quotient of two fixed-point reals. -/
def fxDiv (a b : Int) : Int := if b = 0 then 0 else (a * 2 ^ 200) / b

/-- `a / b` as a fixed-point real. -/
def fxRat (a : Int) (b : Nat) : Int := if b == 0 then 0 else (a * 2 ^ 200) / b

/-- Terms of the sine series: `term` is θ^(2n+1)/(2n+1)! with its sign. -/
def fxSinSeries (sq : Int) : Nat → Nat → Int → Int
  | 0, _, _ => 0
  | fuel + 1, n, term =>
    term + fxSinSeries sq fuel (n + 1) (-(fxMul term sq) / (((2 * n + 2) * (2 * n + 3) : Nat) : Int))

/-- sin(π·y) for the rational y = a / b. -/
def fxSinPi (a : Int) (b : Nat) : Int :=
  if b == 0 then 0
  else
    let m := a % (2 * b)                       -- y mod 2, in [0, 2)
    let (neg, m) := if m < (b : Int) then (false, m) else (true, m - b)
    let m := if 2 * m ≤ (b : Int) then m else (b : Int) - m   -- sin(π(1 - y)) = sin(πy)
    let th := fxMul fxPi (fxRat m b)
    let v := fxSinSeries (fxMul th th) 60 0 th
    if neg then -v else v

/-- cos(π·y) = sin(π(y + 1/2)). -/
def fxCosPi (a : Int) (b : Nat) : Int := fxSinPi (2 * a + b) (2 * b)

/-- sinc(y) = sin(πy)/(πy) for y = a / b, with sinc(0) = 1. -/
def fxSinc (a : Int) (b : Nat) : Int :=
  if a = 0 then fxOne else fxDiv (fxSinPi a b) (fxMul fxPi (fxRat a b))

/-- Terms of I₀(z) = Σ qⁿ/(n!)² with q = (z/2)². -/
def fxI0Series (q : Int) : Nat → Nat → Int → Int
  | 0, _, _ => 0
  | fuel + 1, n, term => term + fxI0Series q fuel (n + 1) (fxMul term q / (((n + 1) * (n + 1) : Nat) : Int))

/-- I₀(2√q). -/
def fxI0 (q : Int) : Int := fxI0Series q 80 0 fxOne

/-- The Kaiser window I₀(β√(1 - x²))/I₀(β) at x = a / b, for β = b2 / 2 (0 outside |x| ≤ 1). -/
def fxKaiser (b2 : Nat) (a : Int) (b : Nat) : Int :=
  if a * a > (b : Int) * b then 0
  else
    let q0 := fxRat ((b2 * b2 : Nat) : Int) 16
    fxDiv (fxI0 (q0 * ((b : Int) * b - a * a) / ((b : Int) * b))) (fxI0 q0)

/-- R8, R9: a fixed-point real as S.23. -/
def fxS23 (x : Int) : Int := sat 24 (rsh x (fxBits - 23))

/-- R196: tab(n), the sine of n / 1 024 of a turn in S.15. -/
def sinTab (n : Nat) : Int := sat 16 (rsh (fxSinPi ((n % 1024 : Nat) : Int) 512) (fxBits - 15))

/-- R141: entry (φ, j) of the rate-converter table for taps scaled by P / P_src = `num` / `den`, of `taps` taps. -/
def asrcTap (num den taps φ j : Nat) : Int :=
  -- t' = (j - (taps/2 - 1) - φ/256) · num' where num' = min(1, P_src/P) = den'/num'
  let t : Int := 256 * ((j : Int) - ((taps : Int) / 2 - 1)) - φ
  -- scale s = den / num ≤ 1
  let a : Int := t * den
  let b : Nat := 256 * num
  let v := fxMul (fxMul (fxRat 9 10) (fxSinc (9 * a) (10 * b))) (fxKaiser 18 a (32 * b))
  fxS23 (v * den / num)

/-- Responses of R160 over exact reals: L(f)[n] for φ = f / 48 000. -/
def romLow (f : Nat) (n : Nat) : Int :=
  let d : Int := (n : Int) - 191
  fxMul (fxMul (fxRat (2 * f) 48000) (fxSinc (2 * f * d) 48000)) (fxKaiser 12 d 191)

/-- δ₁₉₁[n]. -/
def romDelta (n : Nat) : Int := if n == 191 then fxOne else 0

/-- R160: the edge frequencies of responses 2 to 9. -/
def romHigh : List Nat := [100, 125, 160, 200, 250, 315, 400, 500]

/-- R160: tap `n` of ROM response `i`. -/
def romTap (i n : Nat) : Int :=
  if n ≥ 384 then 0
  else if i == 0 then (if n == 0 then 0x7FFFFF else 0)
  else if n == 383 then 0
  else
    let band (f1 f2 : Nat) : Int := romLow f2 n - romLow f1 n
    fxS23 (
      if i == 1 then romDelta n
      else if i < 10 then romDelta n - romLow (romHigh.getD (i - 2) 0) n
      else if i < 14 then romLow ([4000, 5000, 6300, 8000].getD (i - 10) 0) n
      else if i == 14 then band 200 6300
      else if i == 15 then band 250 5000
      else if i == 16 then band 315 4000
      else if i == 17 then band 400 3150
      else if i == 18 then (romDelta n + band 2000 4000) / 2
      else if i == 19 then (romDelta n * 10000 + 4125 * band 2000 4000) / 14125
      else if i == 20 then (romDelta n + band 1600 3150) / 2
      else if i == 21 then (romDelta n * 10000 + 4125 * band 1600 3150) / 14125
      else if i == 22 then romDelta n - romLow 300 n / 2
      else if i == 23 then romDelta n - 3 * romLow 300 n / 4
      else 0)

/-- An unnormalised low-pass tap sinc(c·(j - (n-1)/2)/r)·Kaiser over n taps, with c = cut/10. -/
def sieveRaw (n r cut b2 j : Nat) : Int :=
  let d : Int := 2 * (j : Int) - (n - 1 : Nat)
  fxMul (fxSinc (cut * d) (20 * r)) (fxKaiser b2 d (n - 1))

/-- The numbers 0 to n - 1, by structural recursion. -/
def upTo : Nat → List Nat
  | 0 => []
  | n + 1 => upTo n ++ [n]

/-- Taps normalised to the sum 1, each rounded once (R168, R171, R447). -/
def sieveTaps (n r cut b2 : Nat) : List Int :=
  let raw := (upTo n).map (sieveRaw n r cut b2)
  let total := sumI raw
  raw.map (fun v => fxS23 (fxDiv v total))

/-- R169: R₁ of a rate preset. -/
def presetR1 (p : Nat) : Nat := if p == 0 then 16 else if p == 1 then 32 else 64

/-- R169: R₂ of a rate preset. -/
def presetR2 (p : Nat) : Nat := 128 / presetR1 p

/-- R168: the stage-2 taps in use. -/
def stage2Taps (minPhase : Bool) (p : Nat) : List Int :=
  if minPhase then (upTo (4 * presetR2 p)).map (fun j => (Config.minPhaseTap p j).toInt)
  else sieveTaps (4 * presetR2 p) (presetR2 p) 8 10

/-- R171: the stage-3 taps at program sample period `p` ticks. -/
def stage3Taps (p : Nat) : List Int := sieveTaps (8 * (p / 64)) (p / 64) 9 16

/-- R166: the coefficients of (1 + z⁻¹ + … + z^-(m-1))^n, by repeated summing. -/
def boxPow (m : Nat) : Nat → List Int
  | 0 => [1]
  | n + 1 =>
    let c := boxPow m n
    (upTo (c.length + m - 1)).map (fun i => sumI (((c.take (i + 1)).drop (i + 1 - m))))

/-- Sum of products of two lists. -/
def dot : List Int → List Int → Int
  | a :: t, b :: u => a * b + dot t u
  | _, _ => 0

end Sys2Proof.Machine
end

