-- ==== Sys2Proof/Machine/Loop.lean ====
section
/-! DEFINITION. The control engine of a string (spec file 07): the voltage reference (R179), the outer loop with its
coefficient banks (R180, R189 to R193), the inner loop (R182, R183), injection (R195 to R197) and capture (R199). -/
namespace Sys2Proof.Machine

/-! ### Formats (R180) -/

/-- S.15 and S.23 values as S9.30. -/
def s15to30 (x : Int) : Int := x * 2 ^ 15
def s23to30 (x : Int) : Int := x * 2 ^ 7
def sat40 (x : Int) : Int := sat 40 x
def sat15 (x : Int) : Int := sat 16 x
def sat23 (x : Int) : Int := sat 24 x
/-- R199: S9.30 and S.23 narrowed to S.15. -/
def narrow30 (x : Int) : Int := sat15 (rsh x 15)
def narrow23 (x : Int) : Int := sat15 (rsh x 8)

/-- Ticks of a program sample at a rate code of PLATFORM (48, 96 or 192 kHz). -/
def Dev.period (d : Dev) : Nat := if d.img.cfg.rate == 0 then 512 else if d.img.cfg.rate == 1 then 256 else 128

/-! ### The voltage reference (R179) -/

/-- z at a program sample boundary; before the first one it is 0. -/
def zAt (l : List (Nat × Int)) (s : Int) : Int :=
  match l with
  | [] => 0
  | (t, v) :: r => if (t : Int) = s then v else zAt r s

/-- R179: r15 of boundary b. -/
def Dev.r15 (d : Dev) (k b : Nat) : Int :=
  if b == 0 then 0
  else
    let p := d.period
    let s := (b - 1) / p * p
    let z := (d.st k).ctl.z
    let old := zAt z ((s : Int) - p)
    let r := old + rdiv ((zAt z s - old) * ((b - s : Nat) : Int)) p
    sat15 (rsh r 8)

/-! ### Coefficients (R180, R189) -/

/-- One coefficient bank as in force at a boundary. -/
structure Bank where
  b0 : Int
  b1 : Int
  b2 : Int
  a1 : Int
  a2 : Int
  ki : Int
  kaw : Int
  sh : Nat
  umax : Int
  imax : Int
  deriving DecidableEq, Repr

def Dev.bank (d : Dev) (k n b : Nat) : Bank :=
  { b0 := d.effI b (Fd.CHk_OLn_B01_B0 k n), b1 := d.effI b (Fd.CHk_OLn_B01_B1 k n)
    b2 := d.effI b (Fd.CHk_OLn_B2A1_B2 k n), a1 := d.effI b (Fd.CHk_OLn_B2A1_A1 k n)
    a2 := d.effI b (Fd.CHk_OLn_A2KI_A2 k n), ki := d.effI b (Fd.CHk_OLn_A2KI_KI k n)
    kaw := d.effI b (Fd.CHk_OLn_SHKAW_KAW k n), sh := d.eff b (Fd.CHk_OLn_SHKAW_SH k n)
    umax := s15to30 (d.eff b (Fd.CHk_OLn_UMAX_UMAX k n)), imax := s15to30 (d.eff b (Fd.CHk_OLn_IMAX_IMAX k n)) }

/-! ### The outer loop (R180, R191, R217) -/

/-- The signals of one evaluation. -/
structure Outer where
  vr : Int
  e : Int
  c : Int
  i : Int
  u : Int
  us : Int
  deriving DecidableEq, Repr, Inhabited

/-- R180: vr of a boundary. -/
def Dev.refOf (d : Dev) (k b : Nat) (pilot inj0 : Int) : Int :=
  sat15 (rsh (d.sfld (Fd.CHk_OL_CFG_KREF k) * d.r15 k b) 15 + pilot + inj0)

/-- R180: the compensator output from the error and its histories. -/
def compensate (q : Bank) (e e1 e2 c1 c2 : Int) : Int :=
  let c := sat40 (rsh (q.b0 * e) 15)
  let c := sat40 (c + rsh (q.b1 * e1) 15)
  let c := sat40 (c + rsh (q.b2 * e2) 15)
  let c := sat40 (c - rsh (q.a1 * c1) 15)
  let c := sat40 (c - rsh (q.a2 * c2) 15)
  sat40 (c * 2 ^ q.sh)

/-- R180 from the line of u to its end: the output and the new integrator. -/
def finishOuter (q : Bank) (vr e c i m inj2 : Int) : Outer :=
  let u := sat40 (sat40 (sat40 (c + i) + s15to30 m) + s15to30 inj2)
  let us := clampI (-q.umax) q.umax u
  let t := sat40 (i + rsh (q.ki * e) 15)
  let t := sat40 (t + rsh (q.kaw * sat40 (us - u)) 15)
  { vr := vr, e := e, c := c, i := clampI (-q.imax) q.imax t, u := u, us := us }

/-- R180: one evaluation; `preset` is the output of the period before at a swap boundary (R191). -/
def evalOuter (q : Bank) (x : Ctl) (vr vm m inj1 inj2 : Int) (preset : Option Int) : Outer :=
  let e := sat40 (s15to30 vr - s23to30 vm + s15to30 inj1)
  let c := compensate q e x.e1 x.e2 x.c1 x.c2
  let i := match preset with
    | some us => clampI (-q.imax) q.imax (sat40 (sat40 (us - c) - s15to30 m))
    | none => x.i
  finishOuter q vr e c i m inj2

/-- R217: the evaluation at the return from fallback. -/
def evalReturn (q : Bank) (vr vm imp : Int) : Outer :=
  let e := sat40 (s15to30 vr - s23to30 vm)
  let c := compensate q e 0 0 0 0
  finishOuter q vr e c (clampI (-q.imax) q.imax (sat40 (s23to30 imp - c))) 0 0

/-- What an evaluation leaves in the engine and its registers; `cleared` says that R217 cleared the histories. -/
def Dev.putOuter (d : Dev) (k b : Nat) (q : Bank) (o : Outer) (cleared : Bool) : Dev :=
  let isat := (o.i.natAbs : Int) = q.imax
  let osat := o.u != o.us
  let d := d.modCtl k (fun x =>
    { x with e2 := if cleared then 0 else x.e1, e1 := o.e, c2 := if cleared then 0 else x.c1, c1 := o.c, i := o.i
             us := o.us, sat := osat || isat, ran := true, vr := o.vr, irefNext := some (o.us, b + 16) })
  (d.putB (Fd.CHk_CL_STATUS_OSAT k) osat).putB (Fd.CHk_CL_STATUS_ISAT k) isat

/-- R190, R192, R193: the bank of a boundary; true at a swap boundary. -/
def Dev.swapBank (d : Dev) (k b : Nat) : Dev × Bool :=
  let target := d.eff b (Fd.CHk_OL_SEL_TARGET k)
  if target == d.fld (Fd.CHk_CL_STATUS_ACTIVE k) then (d, false)
  else ((d.put (Fd.CHk_CL_STATUS_ACTIVE k) target).bump (Fd.CHk_OL_SWAP_SWAPS k), true)

/-- R192: a swap in saturation. -/
def Dev.swapSat (d : Dev) (k : Nat) : Dev := (d.bump (Fd.CHk_OL_SWAP_SWAPS_SAT k)).evt (Fd.CHk_CL_EVT_SWAP_SAT k)

/-- CHk_LIM_CNT: the counts of the outer-loop period that has ended, and CHk_CL_EVT.LIMIT. -/
def Dev.endPeriod (d : Dev) (k : Nat) : Dev :=
  let x := (d.st k).ctl
  let osat := x.ran && d.bit (Fd.CHk_CL_STATUS_OSAT k)
  let d := if osat then d.bump (Fd.CHk_LIM_CNT_OUT_SAT k) else d
  let d := if x.clamped then d.bump (Fd.CHk_LIM_CNT_ICLAMP k) else d
  let d := if x.limited then d.bump (Fd.CHk_LIM_CNT_LEVEL k) else d
  let d := d.evtIf (osat || x.clamped || x.limited) (Fd.CHk_CL_EVT_LIMIT k)
  d.modCtl k (fun x => { x with clamped := false, limited := false })

/-! ### Injection (R195 to R197) -/

/-- R196: the value of the sample an injection is about to form. -/
def injValue (i : Inj) : Int :=
  if i.kind == 1 then rsh (i.amp * sinTab ((i.j * i.freq) % 2 ^ 32 / 2 ^ 22)) 15
  else if i.kind == 2 then (if tbit i.lfsr 14 then i.amp else -i.amp)
  else i.amp

/-- R196: after a sample; the pseudo-random register shifts every 2^FREQ[3:0] samples. -/
def injAdvance (i : Inj) : Inj :=
  let shift := (i.j + 1) % 2 ^ (i.freq % 16) == 0
  let fb := b2n (tbit i.lfsr 14 != tbit i.lfsr 13)
  { i with j := i.j + 1, lfsr := if shift then (i.lfsr * 2 + fb) % 2 ^ 15 else i.lfsr }

/-- One value of the injection of a string at a point, from tick `start` on: the value, and whether it is the first. -/
def Dev.injForm (d : Dev) (k t : Nat) (inner : Bool) : Dev × Nat × Int × Bool :=
  match (d.st k).ctl.inj with
  | none => (d, 0, 0, false)
  | some i =>
    let on := if inner then i.point == 3 && decide (i.start + 16 ≤ t) else i.point != 3 && decide (i.start ≤ t)
    if on && decide (i.j < i.len) then
      ((d.modCtl k (fun c => { c with inj := some (injAdvance i) })).putB (Fd.CHk_CL_STATUS_INJ k) true,
        i.point, injValue i, i.j == 0)
    else (d, 0, 0, false)

/-! ### Capture (R199) -/

/-- The capture is recording at tick `t` in the given mode. -/
def Dev.capOn (d : Dev) (k t : Nat) (mode1 : Bool) : Bool :=
  let c := (d.st k).ctl.cap
  c.busy && decide (c.start ≤ t) && d.bit (Fd.CHk_CAP_CTL_MODE k) == mode1

/-- The trigger occurs: 2 048 - PRE entries follow, the trigger entry included. -/
def Dev.capTrigger (d : Dev) (k t trig : Nat) : Dev :=
  let c := (d.st k).ctl.cap
  if c.busy && decide (c.start ≤ t) && c.left.isNone && d.fld (Fd.CHk_CAP_CTL_TRIG k) == trig then
    (d.modCtl k (fun x => { x with cap := { x.cap with left := some (2048 - d.fld (Fd.CHk_CAP_CTL_PRE k)) } })).putB
      (Fd.CHk_CAP_STATUS_TRIGGERED k) true
  else d

/-- One entry of the buffer: signal A in the low half, B in the high half. -/
def Dev.capPut (d : Dev) (k : Nat) (a b : Int) : Dev :=
  let c := (d.st k).ctl.cap
  if c.left == some 0 then d
  else
    let word : Int := (ux 16 b * 65536 + ux 16 a : Nat)
    let n := min 2048 (d.fld (Fd.CHk_CAP_STATUS_COUNT k) + 1)
    let wr := (c.wr + 1) % 2048
    let full := d.fld (Fd.CHk_CAP_STATUS_COUNT k) == 2048
    let d := d.modCtl k (fun x => { x with cap := { x.cap with
      buf := Store.set zeroed c.buf c.wr word, wr := wr, left := c.left.map (· - 1) } })
    (d.put (Fd.CHk_CAP_STATUS_COUNT k) n).put (Fd.CHk_CAP_STATUS_START k) (if full then wr else 0)

/-- R199: an entry of MODE 0, formed at a boundary, every 2^DEC boundaries. -/
def Dev.capBoundary (d : Dev) (k b : Nat) : Dev :=
  if d.capOn k b false then
    let c := (d.st k).ctl.cap
    if c.decLeft == 0 then
      let s := (d.st k).ctl.sig
      (d.capPut k (lat s (d.fld (Fd.CHk_CAP_CTL_SEL_A k))) (lat s (d.fld (Fd.CHk_CAP_CTL_SEL_B k)))).modCtl k
        (fun x => { x with cap := { x.cap with decLeft := 2 ^ d.fld (Fd.CHk_CAP_CTL_DEC k) - 1 } })
    else d.modCtl k (fun x => { x with cap := { x.cap with decLeft := x.cap.decLeft - 1 } })
  else d

/-- R199: an entry of MODE 1, formed at a decision instant. -/
def Dev.capDecision (d : Dev) (k t : Nat) (sig : List Int) : Dev :=
  if d.capOn k t true then d.capPut k (lat sig (d.fld (Fd.CHk_CAP_CTL_SEL_A k))) (lat sig (d.fld (Fd.CHk_CAP_CTL_SEL_B k)))
  else d

/-! ### The inner loop (R182, R183, R213) -/

/-- R182: the clamp in force at decision instant t. A host write reaches the inner loop 16T after its boundary (R181);
during a probe the clamp is lowered (R310). -/
def Dev.liveLimit (d : Dev) (k t : Nat) : Nat :=
  let l := d.eff (t - 16) (Fd.CHk_ILIM_LIMIT k)
  if d.fld (Fd.CHk_PR_STATUS_PHASE k) == 3 then min l (d.fld (Fd.CHk_PR_PROBE2_PILIM k)) else l

/-- R183: the decision from the clamped reference and the error. -/
def wantOf (err : Int) (hb hb2 : Int) (t up dn : Nat) (level : Int) (nact : Nat) : Want :=
  let w : Want :=
    if hb2 < err then .up
    else if hb < err then (if t < up then .held else .up)
    else if err < -hb2 then .down
    else if err < -hb then (if t < dn then .held else .down)
    else .none
  if w == .up && level = nact then .limited
  else if w == .down && level = -(nact : Int) then .limited
  else w

/-- What the inner loop's decision is worth in a capture (R199). -/
def wantCode (w : Want) : Nat := match w with
  | .none => 0
  | .held => 0
  | .up => 1
  | .down => 2
  | .limited => 3

/-- R182, R183, R213: the decision of a string in closed loop at decision instant t. -/
def Dev.innerDecide (d : Dev) (k t : Nat) : Dev :=
  let (d, _, inj3, first) := d.injForm k t true
  let d := if first then d.capTrigger k t 1 else d
  let s := d.st k
  let x := s.ctl
  let im := s.fi
  let live := d.liveLimit k t
  let raw := sat40 (x.iref + s15to30 inj3)
  let ir := clampI (-(s15to30 live)) (s15to30 live) raw
  let err := ir - s15to30 im
  let level := d.level k
  let nact := d.nact k
  let railN := if im = 32767 || im = -32768 then x.railN + 1 else 0
  let rail := decide (8 ≤ railN)
  let w0 := wantOf err (s15to30 (d.fld (Fd.CHk_IL_BAND_HB k))) (s15to30 (d.fld (Fd.CHk_IL_BAND_HB2 k)))
    t x.holdUp x.holdDn level nact
  let w := if rail && (w0 == .up || w0 == .down) then Want.held else w0
  let start := match x.dec with
    | p :: _ => if p.want == w && p.t + 2 == t then p.start else t
    | [] => t
  let d := d.modCtl k (fun x =>
    { x with dec := ({ t := t, want := w, err := err, im := im, start := start } :: x.dec).take 6
             railN := railN, clamped := x.clamped || ir != raw, limited := x.limited || w == .limited })
  let d := ((d.put (Fd.CHk_ILIM_LIVE k) live).putI (Fd.CHk_CL_STATUS_LEVEL k) level).put (Fd.CHk_CL_STATUS_NACT k) nact
  let d := d.putB (Fd.CHk_FB_STATUS_RAIL k) rail
  d.capDecision k t [im, narrow30 ir, narrow30 err, ((ux 8 level * 256 + wantCode w : Nat) : Int)]

end Sys2Proof.Machine
end

