-- ==== Sys2Proof/Machine/Mortar.lean ====
section
/-! DEFINITION. The Mortar and its ripple tracker (spec file 08, R201 to R207). Bin n of the table of string k is word
1 024·k + n of the Mortar store; the table is memory k of R406. -/
namespace Sys2Proof.Machine

def Dev.morState (d : Dev) (k : Nat) : Nat := d.fld (Fd.CHk_MOR_STATUS_STATE k)

/-- R201: the tracker gives Δθ. -/
def Dev.morTracked (d : Dev) (k : Nat) : Bool := d.bit (Fd.CHk_MOR_CFG_SRC k)

/-- R206: every entry of the table reads zero. -/
def Dev.morClear (d : Dev) (k : Nat) : Dev :=
  let d := { d with mortar := Store.clear (1024 * k) (1024 * (k + 1)) d.mortar }
  (d.eccWriteRange k 0 1024).bump (Fd.CHk_MOR_CNT_CLEAR k)

/-- R204: a read of a bin at tick `t`; a double-bit error reads zero and is a contained error of source MEM (R317). -/
def Dev.morRead (d : Dev) (k bin t : Nat) : Dev × Int :=
  let v := Store.get zeroed d.mortar (1024 * k + bin)
  let e := d.eccAt k bin
  if e == 0 then (d, v)
  else if e == 1 then (d.bump (Fd.CHk_MOR_CNT_ECC_CORR k), v)
  else ((d.bump (Fd.CHk_MOR_CNT_ECC_UNC k)).count k srcMem t, 0)

/-- R205: the live gain of a ramp step. -/
def rampGain (mgain step : Nat) : Nat := (rsh ((mgain * step : Nat) : Int) 5).toNat

/-- R205: what a completed ripple period does to the state, and the gain in force at boundary b (R207). -/
def Dev.morWrap (d : Dev) (k b : Nat) (wrap : Bool) : Dev :=
  let st := d.morState k
  let m := (d.st k).mor
  let mg := d.eff b (Fd.CHk_MOR_GAIN_MGAIN k)
  if st == morObserve then
    let n := if wrap then m.wraps + 1 else m.wraps
    if 8 ≤ n then d.morSet k morRamp 0 0 else if wrap then d.morSet k morObserve n 0 else d
  else if st == morRamp then
    let n := if wrap then m.step + 1 else m.step
    if 32 ≤ n then d.morSet k morFull 0 mg else d.morSet k morRamp n (rampGain mg n)
  else if st == morFull then d.morSet k morFull 0 mg
  else if st == morHold then (if wrap then d.morSet k morHold (m.wraps + 1) m.g else d)
  else d

/-- R203: m of boundary b. -/
def Dev.morCorrect (d : Dev) (k b : Nat) : Dev × Int :=
  let st := d.morState k
  if st == morRamp || st == morFull || st == morHold then
    let m := (d.st k).mor
    let bin := (m.theta / 2 ^ 22 + d.fld (Fd.CHk_MOR_CFG_LEAD k)) % 1024
    let (d, v) := d.morRead k bin b
    let lim : Int := d.fld (Fd.CHk_MOR_LIM_MLIM k)
    -- g is U1.15 and the entry S.23: the product has 38 fraction bits
    (d, clampI (-lim) lim (sat15 (rsh ((m.g : Int) * v) 23)))
  else (d, 0)

/-- R203: the error of a boundary reaches the table; a string that does not learn then discards it. -/
def Dev.morLearn (d : Dev) (k t : Nat) : Dev :=
  match (d.st k).mor.learn with
  | none => d
  | some (e, bin, due) =>
    if due ≤ t then
      let d := d.modMor k (fun m => { m with learn := none })
      let st := d.morState k
      if st == morRamp || st == morFull then
        let (d, x) := d.morRead k bin t
        let leak := d.fld (Fd.CHk_MOR_CFG_LEAK k)
        let x := if leak != 0 then x - rsh x leak else x
        let kl := d.sfld (Fd.CHk_MOR_GAIN_KL k)
        let v := sat23 (x + rsh (kl * e) 22)
        ({ d with mortar := Store.set zeroed d.mortar (1024 * k + bin) v } : Dev).eccWrite k bin
      else d
    else d

/-- R202, R205: lock is set or lost. -/
def Dev.morLock (d : Dev) (k : Nat) (lock : Bool) : Dev :=
  let was := (d.st k).mor.lock
  if lock == was then d
  else
    let d := (d.modMor k (fun m => { m with lock := lock })).putB (Fd.CHk_MOR_STATUS_LOCK k) lock
    let st := d.morState k
    let m := (d.st k).mor
    if lock then
      let d := d.evt (Fd.CHk_FB_EVT_MOR_LOCK k)
      if !(d.morTracked k) then d
      else if st == morSeek then d.morSet k morObserve 0 0
      else if st == morHold then
        if m.back == morRamp then d.morSet k morRamp m.step m.g else d.morSet k morFull 0 m.g
      else d
    else
      let d := (d.evt (Fd.CHk_FB_EVT_MOR_LOST k)).bump (Fd.CHk_MOR_CNT_LOST k)
      if !(d.morTracked k) then d
      else if st == morRamp || st == morFull then
        (d.modMor k (fun m => { m with back := st })).morSet k morHold 0 m.g
      else if st == morObserve then d.morSet k morSeek 0 0
      else d

/-- R202: the tracker at a boundary, from the precise sample `x` of auxiliary input 0. -/
def Dev.track (d : Dev) (k : Nat) (x : Int) : Dev :=
  let m := (d.st k).mor
  let hys : Int := d.fld (Fd.CHk_MOR_TRK_HYS k)
  let pmin := d.fld (Fd.CHk_MOR_DET_PMIN k)
  let pmax := d.fld (Fd.CHk_MOR_DET_PMAX k)
  let dc := m.dc + rsh (x - m.dc) 12
  let a := sat15 (flsh (x - dc) 8)
  let cnt := m.cnt + 1
  let armed := m.armed || a < -hys
  let cross := armed && decide (0 ≤ a)
  let valid := cross && decide (pmin ≤ cnt) && decide (cnt ≤ pmax)
  let sum := if valid then m.sum + cnt else if cross then 0 else m.sum
  let n := if valid then m.n + 1 else if cross then 0 else m.n
  let corr := if valid && m.lock then rsh (sx 32 m.theta) (d.fld (Fd.CHk_MOR_TRK_PH k)) else 0
  let full := valid && n == 16
  let theta := if full && !m.lock then 0 else m.theta
  let dtheta := if full then (rdiv (2 ^ 36) sum).toNat else m.dtheta
  let lock := m.lock || full
  let n := if full then 0 else n
  let sum := if full then 0 else sum
  let armed := armed && !cross
  let cnt := if cross then 0 else cnt
  let out := decide (2 * pmax < cnt)
  let next := ((theta : Int) + dtheta - corr) % 2 ^ 32
  let d := d.modMor k (fun m =>
    { m with dc := dc, cnt := if out then 0 else cnt, n := if out then 0 else n, sum := if out then 0 else sum
             armed := armed && !out, dtheta := dtheta, corr := 0, theta := next.toNat
             wrap := tbit m.theta 31 && !(tbit next.toNat 31) })
  (d.morLock k (lock && !out)).put (Fd.CHk_MOR_DLIVE_DLIVE k) dtheta

/-- R201: θ at a boundary, by the source of Δθ. -/
def Dev.morAdvance (d : Dev) (k : Nat) (x : Int) : Dev :=
  if d.morTracked k then d.track k x
  else
    let dt := d.fld (Fd.CHk_MOR_DTHETA_DTHETA k)
    (d.modMor k (fun m =>
      let next := (m.theta + dt) % 2 ^ 32
      { m with theta := next, wrap := tbit m.theta 31 && !(tbit next 31) })).put (Fd.CHk_MOR_DLIVE_DLIVE k) dt

/-- R206: the Mortar at an entry of the string into RUN. -/
def Dev.morEnterRun (d : Dev) (k : Nat) : Dev :=
  let d := (d.morClear k).modMor k (fun m => { m with learn := none })
  let tracked := d.morTracked k
  let d := if tracked then d else d.modMor k (fun m => { m with theta := 0, wrap := false })
  if d.bit (Fd.CHk_MOR_CFG_EN k) then
    d.morSet k (if tracked && !(d.st k).mor.lock then morSeek else morObserve) 0 0
  else d.morSet k morOff 0 0

/-- R214: the Mortar when the string enters fallback. -/
def Dev.morSuspendNow (d : Dev) (k : Nat) : Dev := if d.morState k == morOff then d else d.morSet k morSuspend 0 0

/-- R217: the Mortar when the string returns to closed loop. -/
def Dev.morResume (d : Dev) (k : Nat) : Dev :=
  if d.morState k == morSuspend then
    if (d.st k).mor.lock || !(d.morTracked k) then d.morSet k morRamp 0 0 else (d.morClear k).morSet k morSeek 0 0
  else d

/-- MORTAR_HOLD_TIMEOUT (R205): HOLD wraps have passed in HOLD without a lock. -/
def execMortarHoldTimeout (k : Fin 8) (s : State) : Host.Outcome State Fault Refusal :=
  onDev s (fun _ d =>
    if d.morState k.val == morHold && decide (d.fld (Fd.CHk_MOR_LIM_HOLD k.val) ≤ (d.st k.val).mor.wraps) then
      (d.morClear k.val).morSet k.val morSeek 0 0
    else d)

end Sys2Proof.Machine
end

