-- ==== Sys2Proof/Machine/Feedback.lean ====
section
/-! DEFINITION. Feedback loss (spec file 08, R208 to R219): the activity, stuck and plausibility detectors, entry into
fallback and the return, and the fallback modulator. -/
namespace Sys2Proof.Machine

/-! ### Detectors (R208 to R212, R451) -/

/-- R210: the sum of vcmd over the ticks from `lo` up to `hi` (not included), from a history newest first. -/
def vSum : List (Nat × Int) → Int → Int → Int
  | [], _, _ => 0
  | (t, v) :: r, lo, hi =>
    if hi ≤ lo then 0
    else if (t : Int) ≤ lo then v * (hi - lo)
    else if (t : Int) < hi then v * (hi - t) + vSum r lo t
    else vSum r lo hi

/-- Keep what a later sum can still reach: entries after `lo`, and the one in force at it. -/
def vKeep (lo : Int) : List (Nat × Int) → List (Nat × Int)
  | [] => []
  | (t, v) :: r => if (t : Int) ≤ lo then [(t, v)] else (t, v) :: vKeep lo r

/-- R208: an input is inactive. -/
def Dev.inactive (d : Dev) (k ones trans : Nat) : Bool :=
  let edge := d.fld (Fd.CHk_FB_ACT_EDGE k)
  decide (trans < d.fld (Fd.CHk_FB_ACT_TMIN k)) || decide (ones ≤ edge) || decide (128 ≤ ones + edge)

/-- R208, R210, R451: the detectors at an entry into ARMED; no level of an earlier phase enters vc. -/
def Dev.fbReset (d : Dev) (k : Nat) : Dev :=
  (d.modFb k (fun f => { f with v := { prev := none, actRun := 0, sameRun := 0 }, i := { prev := none, actRun := 0, sameRun := 0 }
                                fv := 0, fi := 0, plRun := 0, lostNow := false, lostAt := none, det := 0, vHist := [] })).put
    (Fd.CHk_FB_STATUS_GOOD k) 0

/-- R208, R209: one input at a boundary: its record, and whether it is inactive and same. -/
def FbIn.next (f : FbIn) (v : Int) (rep inact : Bool) : FbIn × Bool :=
  let same := match f.prev with
    | none => false
    | some p => rep || p = v
  ({ prev := some v, actRun := if inact then f.actRun + 1 else 0, sameRun := if same then f.sameRun + 1 else 0 }, same)

/-- R208 to R212: the detectors at boundary b. -/
def Dev.detect (d : Dev) (k b : Nat) : Dev :=
  let s := d.st k
  let f := s.fb
  let inV := d.inactive k (vat s.ones 0) (vat s.trans 0)
  let inI := d.inactive k (vat s.ones 1) (vat s.trans 1)
  let (fv', sameV) := f.v.next s.pv s.preciseRep inV
  let (fi', sameI) := f.i.next s.pi s.preciseRep inI
  let actN := d.fld (Fd.CHk_FB_ACT_ACT_N k)
  let stuckN := d.fld (Fd.CHk_FB_STUCK_STUCK_N k)
  -- R210
  let dly : Int := d.fld (Fd.CHk_FB_PL_DLY k)
  let pls := d.fld (Fd.CHk_FB_PL_PLS k)
  let lo := (b : Int) - 64 - dly
  let vc := vSum f.vHist lo ((b : Int) - dly)
  let vm := s23to30 s.pv
  let vmod := sat40 (rsh (vc * (d.fld (Fd.CHk_FB_SCALE_VSCALE k) : Int)) 2)
  let rv := sat40 (vm - vmod)
  let fv := sat40 (f.fv + rsh (rv - f.fv) pls)
  let di := match f.i.prev with
    | some p => sat40 (s23to30 s.pi - s23to30 p)
    | none => 0
  let kipl := d.sfld (Fd.CHk_FB_SCALE_KIPL k) * 2 ^ d.fld (Fd.CHk_FB_PL_ISH k)
  let dip := sat40 (rsh (kipl * sat40 (vmod - vm)) 15)
  let ri := sat40 (di - dip)
  let fi := sat40 (f.fi + rsh (ri - f.fi) pls)
  let vtol := s15to30 (d.fld (Fd.CHk_FB_TOL_VTOL k))
  let itol := s15to30 (d.fld (Fd.CHk_FB_TOL_ITOL k))
  let badV := vtol != 0 && decide (vtol < (fv.natAbs : Int))
  let badI := itol != 0 && decide (itol < (fi.natAbs : Int))
  let bad := badV || badI
  let plRun := if f.neutral then f.plRun else if bad then f.plRun + 1 else 0
  let pl := decide (d.fld (Fd.CHk_FB_PL_PL_N k) ≤ plRun)
  let bitsOf := b2n (decide (actN ≤ fv'.actRun)) + 2 * b2n (decide (actN ≤ fi'.actRun)) +
    4 * b2n (decide (stuckN ≤ fv'.sameRun + 1) && sameV) + 8 * b2n (decide (stuckN ≤ fi'.sameRun + 1) && sameI) +
    16 * b2n (pl && badV) + 32 * b2n (pl && badI)
  let lost := bitsOf % 16 != 0 || pl
  let good := !inV && !inI && !sameV && !sameI && (f.neutral || !bad)
  let n := if good then min 256 (d.fld (Fd.CHk_FB_STATUS_GOOD k) + 1) else 0
  let d := d.modFb k (fun f => { f with v := fv', i := fi', fv := fv, fi := fi, plRun := plRun, neutral := false
                                        lostNow := lost, lostAt := if lost then some b else f.lostAt, det := bitsOf
                                        vHist := vKeep (lo - 256) f.vHist })
  ((d.put (Fd.CHk_FB_STATUS_GOOD k) n).putI (Fd.CHk_FB_RES_FV k) (sat15 (flsh fv 15))).putI (Fd.CHk_FB_RES_FI k)
    (sat15 (flsh fi 15))

/-- R302: a detector of the voltage (or current) input is suspended. -/
def Dev.suspV (d : Dev) (k : Nat) : Bool := tbit (d.st k).fb.det 0 || tbit (d.st k).fb.det 2
def Dev.suspI (d : Dev) (k : Nat) : Bool := tbit (d.st k).fb.det 1 || tbit (d.st k).fb.det 3

/-! ### Entry and return (R214, R217, R219) -/

/-- R214, R219, R316: the string enters fallback at tick t. -/
def Dev.enterFallback (d : Dev) (k t : Nat) : Dev :=
  let det := (d.st k).fb.det
  let d := ((d.put (Fd.CHk_CL_STATUS_MODE k) 2).bump (Fd.CHk_FB_CNT_ENTRIES k)).evt (Fd.CHk_FB_EVT_FALLBACK k)
  let d := ((d.putB (Fd.CHk_FB_STATUS_ACT_V k) (tbit det 0)).putB (Fd.CHk_FB_STATUS_ACT_I k) (tbit det 1)).putB
    (Fd.CHk_FB_STATUS_STUCK_V k) (tbit det 2)
  let d := ((d.putB (Fd.CHk_FB_STATUS_STUCK_I k) (tbit det 3)).putB (Fd.CHk_FB_STATUS_PL_V k) (tbit det 4)).putB
    (Fd.CHk_FB_STATUS_PL_I k) (tbit det 5)
  let d := (d.putB (Fd.CHk_FB_STATUS_RAIL k) false).modCtl k (fun c =>
    { c with railN := 0, dec := [], irefNext := none, modeNext := none })
  let d := (d.modWh k (fun w => { w with pair := none })).injStop k
  let d := d.morSuspendNow k
  let (d, severe) := d.winEvent k srcFb t
  if severe then (d.putB (Fd.CHk_PR_STATUS_FB_PIN k) true).evt (Fd.CHk_PR_EVT_FB_SEVERE k) else d

/-- R217: the string is in closed loop again. -/
def Dev.leaveFallback (d : Dev) (k : Nat) : Dev :=
  let d := ((d.put (Fd.CHk_CL_STATUS_MODE k) 1).bump (Fd.CHk_FB_CNT_RETURNS k)).evt (Fd.CHk_FB_EVT_RETURN k)
  let d := d.modCtl k (fun c => { c with holdUp := 0, holdDn := 0, dec := [], stepped := none, railN := 0, modeNext := none, miNext := none })
  (d.resetZf k).morResume k

/-- R215: the modulation index formed at boundary b, in force 16T later. -/
def Dev.formMi (d : Dev) (k b : Nat) (vr : Int) : Dev :=
  let vs := ((d.aq k).map (d.vbus k)).foldl (· + ·) 0
  let vscale := d.fld (Fd.CHk_FB_SCALE_VSCALE k)
  let mi := if vs == 0 || vscale == 0 then 0 else sat15 (rdiv (vr * 2 ^ 26) (vs * vscale))
  d.modCtl k (fun c => { c with miNext := some (mi, b + 16) })

/-- What a string takes up at tick t: a change of mode, a modulation index, a current reference and boundary trips that
are due (R181, R214, R215, R217, R296). -/
def Dev.takeDue (d : Dev) (k t : Nat) : Dev :=
  let due := (d.st k).pr.due.filter (fun x => x.2 ≤ t)
  let d := d.modPr k (fun p => { p with due := p.due.filter (fun x => t < x.2) })
  let d := match (d.st k).ctl.miNext with
    | some (m, w) => if w ≤ t then d.modCtl k (fun c => { c with mi := m, miNext := none }) else d
    | none => d
  let d := match (d.st k).ctl.irefNext with
    | some (i, w) => if w ≤ t then d.modCtl k (fun c => { c with iref := i, irefNext := none }) else d
    | none => d
  let d := match (d.st k).ctl.modeNext with
    | some (m, w) => if w ≤ t then (if m == 2 then d.enterFallback k w else d.leaveFallback k) else d
    | none => d
  due.foldl (fun d x => d.trip k x.1 x.2) d

/-! ### The fallback modulator (R215, R216) -/

/-- R215: the carrier of cell r of na at issue tick number n. -/
def carrier (n r per na : Nat) : Int :=
  let x := (n + r * per / (2 * na)) % per
  let q16 : Int := (x * 65536 / per : Nat)
  if q16 < 32768 then 2 * q16 - 32768 else 98303 - 2 * q16

/-- R215: the state that the modulator wants of a cell. -/
def pwmWant (mi car : Int) : Nat :=
  if car < mi && !(decide (car < -mi)) then stP
  else if car < -mi && !(decide (car < mi)) then stN
  else if car < mi then stZH
  else stZL

/-- R215, R216: the cell that the fallback modulator commands at issue tick q, and the state. -/
def Dev.pwmCommand (d : Dev) (k q : Nat) : Option (Nat × Nat) :=
  let act := (d.st k).wh.act
  let na := act.length
  if na == 0 then none
  else
    let n := q / 8
    let per := 64 * 2 ^ d.fld (Fd.CHk_FB_PWM_PER k)
    let c := act.getD (n % na) 0
    let want := pwmWant (d.st k).ctl.mi (carrier n (n % na) per na)
    if want != d.cmdOf k c && decide (64 ≤ d.dwell k c q) then some (c, want) else none

end Sys2Proof.Machine
end

