-- ==== Sys2Proof/Machine/Load.lean ====
section
/-! DEFINITION. Load protection of stage 7 (spec file 13): the limiter and its power, thermal and flux demands (R322 to
R327), the pilot tone (R334) and the probe tone (R310). -/
namespace Sys2Proof.Machine

/-- Floor a value to an unsigned 16-bit field, saturated. -/
def field16 (x : Int) : Nat := (satU 16 x).toNat

/-- A demand flag of CHk_LM_STATUS, with its event on a change from 0 to 1 (R326). -/
def Dev.demand (d : Dev) (f ev : Fld) (b : Bool) : Dev := (d.evtIf (b && !(d.bit f)) ev).putB f b

/-- R326: FLOOR is 1 while gl = GMIN with a demand over. -/
def Dev.floorShow (d : Dev) (k : Nat) : Dev :=
  d.demand (Fd.CHk_LM_STATUS_FLOOR k) (Fd.CHk_LM_EVT_FLOOR k)
    (d.fld (Fd.CHk_LM_STATUS_GL k) == d.fld (Fd.CHk_LM_PLIM_GMIN k) &&
      (d.bit (Fd.CHk_LM_STATUS_POVER k) || d.bit (Fd.CHk_LM_STATUS_TOVER k) || d.bit (Fd.CHk_LM_STATUS_FOVER k)))

/-- R323: the power average at a boundary; also q of R324. -/
def Dev.powerAvg (d : Dev) (k : Nat) : Dev :=
  let s := d.st k
  let q := rsh (s23to30 s.pv * s23to30 s.pi) 30
  let l := vat d.load k
  let pa := sat40 (l.pa + rsh (q - l.pa) (d.fld (Fd.CHk_LM_CFG_PSH k)))
  let isOver := decide (s15to30 (d.fld (Fd.CHk_LM_PLIM_PLIM k)) < pa)
  let d := d.modLoad k (fun l => { l with pa := pa, pover := isOver, pfSum := l.pfSum + q })
  (d.put (Fd.CHk_LM_PA_PA k) (field16 (flsh pa 15))).demand (Fd.CHk_LM_STATUS_POVER k) (Fd.CHk_LM_EVT_POWER k) isOver |>.floorShow k

/-- R324: the thermal model at the start `f` of a Rack frame. -/
def Dev.thermal (d : Dev) (k f : Nat) : Dev :=
  let l := vat d.load k
  let pf := rsh l.pfSum 10
  let h := max (rsh (pf * (d.fld (Fd.CHk_LM_TH0_KH k) : Int)) 4) 0
  let tc := sat40 (l.tc + rsh (h - (l.tc - l.tm)) (d.fld (Fd.CHk_LM_TH1_CSH k)))
  let tm := sat40 (l.tm + rsh (rsh ((l.tc - l.tm) * (d.fld (Fd.CHk_LM_TH0_KM k) : Int)) 8 - l.tm) (d.fld (Fd.CHk_LM_TH1_MSH k)))
  -- U9.7 in S9.30
  let isOver := decide ((d.fld (Fd.CHk_LM_TH1_TLIM k) : Int) * 2 ^ 23 < tc)
  let d := d.modLoad k (fun l => { l with tc := tc, tm := tm, pfSum := 0, toverOld := l.tover, tover := isOver, toverAt := f })
  let d := (d.put (Fd.CHk_LM_TEMP_TC k) (field16 (flsh tc 23))).put (Fd.CHk_LM_TEMP_TM k) (field16 (flsh tm 23))
  (d.demand (Fd.CHk_LM_STATUS_TOVER k) (Fd.CHk_LM_EVT_THERM k) isOver).floorShow k

/-- R326: the counts of a Rack frame that has ended. -/
def Dev.demandCounts (d : Dev) (k : Nat) : Dev :=
  let s := (vat d.load k).seen
  let d := if vat s 0 then d.bump (Fd.CHk_LM_CNT_POWER k) else d
  let d := if vat s 1 then d.bump (Fd.CHk_LM_CNT_THERM k) else d
  let d := if vat s 2 then d.bump (Fd.CHk_LM_CNT_FLUX k) else d
  d.modLoad k (fun l => { l with seen := Vector.replicate 3 false })

/-- R326: the next limiter gain. -/
def nextGain (gl gmin : Nat) (p t f : Bool) (patk tatk fatk rel : Nat) : Nat :=
  if p || t || f then
    let cut := max (if p then gl / 2 ^ patk else 0) (max (if t then gl / 2 ^ tatk else 0) (if f then gl / 2 ^ fatk else 0))
    max (gl - max cut 1) gmin
  else if gl < 32768 then min (gl + max 1 ((32768 - gl) / 2 ^ rel)) 32768
  else gl

/-- R325: the flux model after sample y. -/
def Dev.flux (d : Dev) (k : Nat) (y : Int) : Dev :=
  let ri := d.img.cfg.rate
  let l := vat d.load k
  let phi := sat40 (l.phi - rsh l.phi (d.fld (Fd.CHk_LM_FLUX_FLK k) + ri) + y * 2 ^ (3 - ri))
  let isOver := d.bit (Fd.CHk_LM_FLUX_FEN k) && decide ((d.fld (Fd.CHk_LM_FLUX_FLIM k) : Int) * 2 ^ 22 < (phi.natAbs : Int))
  let d := d.modLoad k (fun l => { l with phi := phi, fover := isOver })
  (d.put (Fd.CHk_LM_PA_FLUX k) (field16 (flsh (phi.natAbs : Int) 22))).demand (Fd.CHk_LM_STATUS_FOVER k) (Fd.CHk_LM_EVT_FLUX k) isOver |>.floorShow k

/-- R322: stage 7's limiter at program sample boundary s on x; the second value is y. -/
def Dev.limiter (d : Dev) (k s : Nat) (x : Int) : Dev × Int :=
  let l := vat d.load k
  let tover := if l.toverAt < s then l.tover else l.toverOld
  let gmin := d.fld (Fd.CHk_LM_PLIM_GMIN k)
  let gl := nextGain (d.fld (Fd.CHk_LM_STATUS_GL k)) gmin l.pover tover l.fover (d.fld (Fd.CHk_LM_CFG_PATK k))
    (d.fld (Fd.CHk_LM_CFG_TATK k)) (d.fld (Fd.CHk_LM_CFG_FATK k)) (d.fld (Fd.CHk_LM_CFG_REL k))
  let floor := gl == gmin && (l.pover || tover || l.fover)
  let d := (d.put (Fd.CHk_LM_STATUS_GL k) gl).demand (Fd.CHk_LM_STATUS_FLOOR k) (Fd.CHk_LM_EVT_FLOOR k) floor
  let d := d.modLoad k (fun l =>
    { l with seen := #v[vat l.seen 0 || l.pover, vat l.seen 1 || tover, vat l.seen 2 || l.fover] })
  let y := sat23 (rsh (x * gl) 15)
  (d.flux k y, y)

/-- R327: the limiter at an entry of the string into RUN. DEDUCED, log entry 74: the pilot phase runs on (R334), where
R107 zeroes it at the string's release instant. -/
def Dev.loadEnterRun (d : Dev) (k : Nat) : Dev :=
  let d := d.modLoad k (fun l => { l with pa := 0, phi := 0, pover := false, fover := false })
  let d := ((d.put (Fd.CHk_LM_STATUS_GL k) 32768).putB (Fd.CHk_LM_STATUS_POVER k) false).putB (Fd.CHk_LM_STATUS_FOVER k) false
  ((d.put (Fd.CHk_LM_PA_PA k) 0).put (Fd.CHk_LM_PA_FLUX k) 0).floorShow k

/-- R334: the pilot value at a boundary. -/
def Dev.pilot (d : Dev) (k : Nat) : Int :=
  if d.bit (Fd.CHk_DT_CFG_CLASS k) then
    rsh (d.sfld (Fd.CHk_LM_PILOT_PAMP k) * sinTab ((vat d.load k).theta / 2 ^ 22)) 15
  else 0

/-- R334: θp advances after every boundary. -/
def Dev.pilotAdvance (d : Dev) (k : Nat) : Dev :=
  d.modLoad k (fun l => { l with theta := (l.theta + d.fld (Fd.CHk_LM_PDPH_DPH k)) % 2 ^ 32 })

/-- R310: the probe sample of a program sample boundary, and the phase after it. -/
def Dev.probeSample (d : Dev) (k s : Nat) : Dev × Int :=
  match (d.st k).pr.probe with
  | none => (d, 0)
  | some r =>
    if r.start ≤ s && s < r.start + d.fld (Fd.CHk_PR_PROBE0_LEN k) * 64 then
      (d.modPr k (fun p => { p with probe := some { r with phi := (r.phi + d.fld (Fd.CHk_PR_PROBE1_DPH k)) % 2 ^ 32 } }),
        rsh (d.sfld (Fd.CHk_PR_PROBE0_AMP k) * sinTab (r.phi / 2 ^ 22)) 7)
    else (d, 0)

end Sys2Proof.Machine
end

