-- ==== Sys2Proof/Machine/Diag.lean ====
section
/-! DEFINITION. Pilot measurement (spec file 13, R335 to R337, R342): DIAG's windows, their results and the candidate
baseline. -/
namespace Sys2Proof.Machine

def Dev.modDiag (d : Dev) (k : Nat) (f : DiagSt → DiagSt) : Dev := { d with diag := vmod d.diag k f }

/-- R335: ticks of a window. -/
def Dev.windowTicks (d : Dev) : Nat := 64 * 2 ^ d.fld Fd.DIAG_CFG_WLOG

/-- R335, R336: DIAG takes in boundary b of a supervised string; `ok` says that the string is in RUN with no probe and
no injection and that the samples are valid and new; `run` that it is in RUN. -/
def Dev.diagAccumulate (d : Dev) (k b : Nat) (ok run : Bool) : Dev :=
  let w := d.windowTicks
  let start := b / w * w
  let s := d.st k
  let j := (vat d.load k).theta / 2 ^ 22
  let sn := sinTab j
  let cs := sinTab (j + 256)
  d.modDiag k (fun g =>
    let fresh : DiagWin := { start := start, n := 0, vs := 0, vc := 0, is := 0, ic := 0, good := true, inRun := true }
    let (cur, closed) := if g.win.n == 0 then (fresh, g.closed)
      else if g.win.start == start then (g.win, g.closed) else (fresh, some g.win)
    { g with closed := closed
             win := { cur with n := cur.n + 1, vs := cur.vs + s.pv * sn, vc := cur.vc + s.pv * cs
                               is := cur.is + s.pi * sn, ic := cur.ic + s.pi * cs
                               good := cur.good && ok, inRun := cur.inRun && run } })

/-- The nearest integer to √(a / b), a tie going up; b is positive. -/
def rsqrt (a b : Nat) : Nat := (isqrt (4 * a / b) + 1) / 2

/-- R335: atan(x)/π in 2^40ths for 0 ≤ x ≤ 1 given as a fraction of 2^200, by Euler's series. -/
def fxAtanSeries (q : Int) : Nat → Nat → Int → Int
  | 0, _, _ => 0
  | fuel + 1, n, term => term + fxAtanSeries q fuel (n + 1) (fxMul term q * ((2 * n + 2 : Nat) : Int) / ((2 * n + 3 : Nat) : Int))

/-- atan(a / b) for 0 ≤ a ≤ b, b positive, as a fixed-point real: the series in y = a²/(a² + b²). -/
def fxAtan (a b : Nat) : Int :=
  let q := fxRat ((a * a : Nat) : Int) (a * a + b * b)
  fxAtanSeries q 240 0 (fxRat ((a * b : Nat) : Int) (a * a + b * b))

/-- atan2(y, x)/π as a fixed-point real, in [-1, 1]; 0 at the origin. -/
def fxAtan2 (y x : Int) : Int :=
  let ay := y.natAbs
  let ax := x.natAbs
  if ax == 0 && ay == 0 then 0
  else
    let base := if ay ≤ ax then fxDiv (fxAtan ay ax) fxPi else fxOne / 2 - fxDiv (fxAtan ax ay) fxPi
    let up := if x < 0 then fxOne - base else base
    if y < 0 then -up else up

/-- R335: ZM, ZA, CA and AV of a window's sums. -/
def Dev.diagResult (d : Dev) (k : Nat) (w : DiagWin) : Nat × Int × Nat × Nat :=
  let m2 := (w.vs * w.vs + w.vc * w.vc).toNat
  let j2 := (w.is * w.is + w.ic * w.ic).toNat
  let re := w.is * w.vs + w.ic * w.vc
  let im := w.ic * w.vs - w.is * w.vc
  let zs := d.fld (Fd.DIAG_ZSCALEk_ZSCALE k)
  let zm := if j2 == 0 then 0xFFFFFFFF else satNat 32 (rsqrt (zs * zs * m2) j2)
  let za := sat15 (rsh (-(fxAtan2 im re)) (fxBits - 15))
  let ca := if m2 == 0 then 0 else (satU 32 (rdiv ((d.fld (Fd.DIAG_CSCALEk_CSCALE k) : Int) * im) m2)).toNat
  -- the sums carry 38 fraction bits: 2√M2 / W in 15 fraction bits
  let wn := 2 ^ d.fld Fd.DIAG_CFG_WLOG
  let av := satNat 15 (rsqrt (4 * m2) (wn * wn * 2 ^ 46))
  (zm, za, ca, av)

/-- R342: the candidate baseline after a steady window. -/
def Dev.candidate (d : Dev) (k zm : Nat) (za : Int) (ca : Nat) : Dev :=
  let n := d.fld (Fd.DIAG_Ck_A_CNT k)
  let d :=
    if n == 0 then
      ((d.put (Fd.DIAG_Ck_Z_CZ k) zm).putI (Fd.DIAG_Ck_A_CA_C k) za).put (Fd.DIAG_Ck_C_CC k) ca
    else
      let step (old new : Int) : Int := old + rsh (new - old) 4
      ((d.putI (Fd.DIAG_Ck_Z_CZ k) (step (d.fld (Fd.DIAG_Ck_Z_CZ k)) zm)).putI (Fd.DIAG_Ck_A_CA_C k)
        (step (d.sfld (Fd.DIAG_Ck_A_CA_C k)) za)).putI (Fd.DIAG_Ck_C_CC k) (step (d.fld (Fd.DIAG_Ck_C_CC k)) ca)
  let m := if n == 0 then 1 else min 255 (n + 1)
  (d.put (Fd.DIAG_Ck_A_CNT k) m).evtIf (m == 64 && n == 63) Fd.DIAG_EVT_CAND

/-- R335 to R337, R342: the window of a string that began at `start` ends at tick t. -/
def Dev.diagClose (d : Dev) (k start t : Nat) : Dev :=
  let g := vat d.diag k
  let full := 2 ^ d.fld Fd.DIAG_CFG_WLOG
  let pick : Option (DiagWin × Bool) :=
    if g.win.start == start && g.win.n != 0 then some (g.win, true)
    else match g.closed with
      | some w => if w.start == start then some (w, false) else none
      | none => none
  match pick with
  | none => d
  | some (w, cur) =>
    let (zm, za, ca, av) := d.diagResult k w
    let m2 := (w.vs * w.vs + w.vc * w.vc).toNat
    let j2 := (w.is * w.is + w.ic * w.ic).toNat
    let whole := w.n == full
    let pv := d.fld Fd.DIAG_PVMIN_PVMIN
    -- 4·M2 ≥ (PVMIN·W)², with PVMIN in 15 and the sums in 38 fraction bits
    let strong := decide ((pv * full) * (pv * full) * 2 ^ 46 ≤ 4 * m2)
    let rest := whole && w.good && decide (0 < j2)
    let valid := rest && strong
    let stab := d.fld Fd.DIAG_CFG_STAB
    let steady := valid && (match g.prev with
      | some (pz, pa) => decide ((((zm : Int) - pz).natAbs) ≤ zm / 2 ^ stab) && decide ((za - pa).natAbs ≤ 0x8000 / 2 ^ stab)
      | none => false)
    let d := d.evtIf (whole && w.good && decide (0 < j2) && !strong) Fd.DIAG_EVT_NOPILOT
    let d := d.modDiag k (fun g =>
      { g with win := if cur then { w with n := 0 } else g.win, closed := if cur then g.closed else none
               prev := if valid then some (zm, za) else none
               meas := some { zm := zm, za := za, ca := ca, valid := valid, steady := steady, born := t } })
    let d := ((d.put (Fd.DIAG_Mk_Z_ZM k) zm).putI (Fd.DIAG_Mk_A_ZA k) za).put (Fd.DIAG_Mk_C_CA k) ca
    let d := ((d.put (Fd.DIAG_Mk_V_AV k) av).putB (Fd.DIAG_Mk_A_VALID k) valid).putB (Fd.DIAG_Mk_A_STEADY k) steady
    if steady then d.candidate k zm za ca else d

/-- DIAG_WINDOW_END (R335): the results of the windows that ended one boundary before tick t, of every present
supervised string. -/
def Dev.diagWindowEnd (d : Dev) (t : Nat) : Dev :=
  let w := d.windowTicks
  if t % w == 0 && decide (w ≤ t) && d.domRun domSieve then
    d.each d.strs (fun d k => if d.bit (Fd.CHk_DT_CFG_CLASS k) then d.diagClose k (t - w) t else d)
  else d

def execDiagWindowEnd (s : State) : Host.Outcome State Fault Refusal :=
  onDev s (fun e d => d.diagWindowEnd e.tick)

end Sys2Proof.Machine
end

