-- ==== Sys2Proof/Machine/Phases.lean ====
section
/-! DEFINITION. The phases of a string (R99 to R106): entry into each, the start tests (R329 to R333, R454), entry into
RUN (R105, R178, R308, R310) and the probe's verdict (R311). -/
namespace Sys2Proof.Machine

/-- A command that concerns string k acts on a Rack frame start, once the foreground runs. -/
def Env.frameStart (e : Env) : Bool := e.started && e.tick % 65536 == 0

/-! ### Failed start phases (R100, R103, R309) -/

/-- R103, R309: entry into START_WAIT at tick f, or into LATCHED when RETRY is already severe. -/
def Dev.startWait (d : Dev) (k f : Nat) (testFailed : Bool) : Dev :=
  if d.severe k srcRetry f then d.latchStr k
  else
    let d := ((d.setPhase k phStartWait).strEn k false).evt Fd.SYS_EVT_START_FAIL
    let d := d.modPr k (fun p => { p with since := f, frames := 0 })
    if testFailed then (d.winEvent k srcRetry f).1 else d

/-- What ends at once when string k is taken out of service (R49, R103, R306). -/
def Dev.strHalt (d : Dev) (k : Nat) : Dev :=
  let d := (if d.inRun k then d.leaveRun k else d).strEn k false
  (d.modPr k (fun p => { p with handling := false, forceDue := false, forced := [], due := [], enLowDue := false })).put
    (Fd.CHk_PR_STATUS_PHASE k) 0

/-- R100, R103: entry into START_FAIL. -/
def Dev.startFail (d : Dev) (k : Nat) : Dev := ((d.strHalt k).setPhase k phStartFail).evt Fd.SYS_EVT_START_FAIL

/-- R103: the domain of string k is in FAULT-OFF and the string is not in START_FAIL yet. -/
def Dev.lostDomain (d : Dev) (k : Nat) : Bool := decide (vat d.pwr.dom (domCh k) = .faultOff) && d.phase k != phStartFail

/-! ### ENUM and PRECHARGE (R99 to R102, R261, R312) -/

/-- R99, R233, R251, R261, R342: entry into ENUM at tick f. -/
def Dev.enterEnum (d : Dev) (k f : Nat) : Dev :=
  let d := (d.setPhase k phEnum).strEn k true
  let d := (d.put (Fd.CHk_WH_MARKS_FAILED k) 0).put (Fd.CHk_WH_MARKS_BYPASSED k) 0
  let d := d.setReg (Reg.CHk_LK_STATUS k) 0
  let d := d.each positions (fun d p => d.enumLink k p)
  let d := (d.put (Fd.CHk_PR_STATUS_PHASE k) 0).put (Fd.DIAG_Ck_A_CNT k) 0
  d.modPr k (fun p => { p with since := f, frames := 0, preOk := 0, stray := false, restart := false, handling := false
                               forceDue := false, forced := [], due := [], enLowDue := false })

/-- R312: entry into ENUM out of LATCHED closes every window; a return from START_WAIT leaves the RETRY window open, as
R309 needs (log entry 75). -/
def Dev.restartEnum (d : Dev) (k f : Nat) : Dev := (d.winClear k).enterEnum k f

/-- Every cell that start-up has found wanting is marked failed (R232). -/
def Dev.failStart (d : Dev) (k : Nat) (bad : Nat → Bool) : Dev :=
  d.each positions (fun d p => if d.cellHere k p && bad p then d.failCell k p .start else d)

/-- R264, R232: when ENUM ends, links still in TRAINING or MANAGE are rejected, and every rejected cell is a failed cell. -/
def Dev.endLinks (d : Dev) (k : Nat) : Dev :=
  let d := d.each positions (fun d p =>
    if !(d.cellHere k p) then d
    else if d.linkState k p == lkTraining then d.rejectLink k p 0x01
    else if d.linkState k p == lkManage then d.rejectLink k p 0x06
    else d)
  d.failStart k (fun p => d.linkState k p == lkRejected)

/-- The phase that follows ENUM (R102). -/
def Dev.endEnum (d : Dev) (k f : Nat) : Dev :=
  if d.enoughCells k then
    (d.setPhase k phPrecharge).modPr k (fun p => { p with since := f, frames := 0, preOk := 0 })
  else d.startWait k f false

/-- The cells that precharge judges: present, accepted and not failed. -/
def Dev.preCells (d : Dev) (k : Nat) : List Nat :=
  positions.filter (fun p => d.cellHere k p && !(d.failed k p))

/-- R101: a code within its class window. -/
def Dev.inWindow (d : Dev) (k p : Nat) : Bool :=
  let v := d.vbus k p
  if d.classH k p then decide (1920 ≤ v) && decide (v ≤ 3200) else decide (1280 ≤ v) && decide (v ≤ 2304)

/-- R101: the auxiliary-input condition. -/
def Dev.preAux (d : Dev) (k : Nat) : Bool :=
  let x := vat (d.st k).aux 0
  decide (d.sfld Fd.SYS_START3_CBUS_LO * 2 ^ 8 ≤ x) && decide (x ≤ d.sfld Fd.SYS_START3_CBUS_HI * 2 ^ 8)

/-- A tick lies in the Rack frame that ends at f. -/
def inFrameBefore (f : Nat) (t : Option Nat) : Bool := match t with
  | some t => decide (f ≤ t + 65536)
  | none => false

/-- R101: every precharge condition, over the Rack frame that ends at f. -/
def Dev.preOk (d : Dev) (k f : Nat) : Bool :=
  let l := d.preCells k
  let v := l.map (d.vbus k)
  let hi := v.foldl max 0
  let lo := v.foldl min 4095
  let stable (p : Nat) : Bool := match (d.cellC k p).vbusSpan with
    | some (n, a, b) => n + 1 == f / 65536 && decide (b - a ≤ d.fld Fd.SYS_START2_STABLE)
    | none => false
  l.all (d.inWindow k) && decide (hi - lo ≤ d.fld Fd.SYS_START1_IMBALANCE) && l.all stable && d.preAux k

/-! ### The start tests (R329 to R333, R454) -/

def Dev.tst (d : Dev) (k : Nat) : TestSt := vat d.test k
def Dev.logS (d : Dev) (k : Nat) : Nat := 2 ^ d.fld (Fd.CHk_DT_CFG_SLOG k)
def Dev.logM (d : Dev) (k : Nat) : Nat := 2 ^ d.fld (Fd.CHk_DT_CFG_MLOG k)

/-- R329: the test cell. -/
def Dev.testCell (d : Dev) (k : Nat) : Option Nat :=
  positions.find? (fun p => d.cellHere k p && !(d.failed k p) && !(d.isSpare k p))

/-- R329: the sequence starts at frame start f. -/
def Dev.testStart (d : Dev) (k f p : Nat) : Dev :=
  let d := d.modTest k (fun t =>
    { t with f0 := f, pos := p, zl := d.preCells k, sum := Vector.replicate 9 0, isOn := false, abort := none
             zlDue := false, restart := false })
  d.put (Fd.CHk_DT_STATUS_STEP k) 1

/-- End of PRECHARGE: TEST begins (R99, R329). -/
def Dev.enterTest (d : Dev) (k f : Nat) : Dev :=
  match d.testCell k with
  | some p => ((d.setPhase k phTest).modPr k (fun r => { r with since := f, frames := 0 })).testStart k f p
  | none => d.startWait k f false

/-- R329: the test cell has failed: the sequence restarts with the next position. -/
def Dev.testRestart (d : Dev) (k f : Nat) : Dev :=
  match d.testCell k with
  | some p => (d.testStart k f p).bump (Fd.CHk_DT_STATUS_RESTARTS k)
  | none => (d.put (Fd.CHk_DT_STATUS_STEP k) 0).startWait k f false

/-- R329: the step of a frame count: 1 QUIET, 2 POS, 3 NEG, 4 DRAIN. -/
def testStepOf (s m n : Nat) : Nat :=
  if n < s + m then 1 else if n < 2 * s + 2 * m then 2 else if n < 3 * s + 3 * m then 3 else 4

/-- R331: the measuring frames of a step, as the index of its sums. -/
def testMeasures (s m n : Nat) : Option Nat :=
  if s ≤ n && n < s + m then some 0
  else if 2 * s + m ≤ n && n < 2 * s + 2 * m then some 1
  else if 3 * s + 2 * m ≤ n && n < 3 * s + 3 * m then some 2
  else none

/-- R331, R332: the start-test unit at boundary b of a string in TEST. -/
def Dev.testBoundary (d : Dev) (k b : Nat) : Dev :=
  let t := d.tst k
  let s := d.st k
  let n := (b - t.f0) / 65536
  let d := match testMeasures (d.logS k) (d.logM k) n with
    | some j => d.modTest k (fun t =>
        { t with sum := vmod (vmod (vmod t.sum (3 * j) (· + s.pv)) (3 * j + 1) (· + s.pi)) (3 * j + 2) (· + vat s.aux 2) })
    | none => d
  let step := d.fld (Fd.CHk_DT_STATUS_STEP k)
  let isOver := decide ((d.fld (Fd.CHk_DT_LIM1_ILIM k) : Int) * 2 ^ 8 ≤ (s.pi.natAbs : Int))
  if (step == 2 || step == 3) && t.abort.isNone && isOver then
    (d.modTest k (fun t => { t with abort := some b, zlDue := true })).putB (Fd.CHk_DT_STATUS_ABORT k) true
  else d

/-- R332, R50: the test has aborted by tick q; the sample that shows it is taken up 4T after its boundary. -/
def TestSt.cutBy (t : TestSt) (q : Nat) : Bool := match t.abort with
  | some b => decide (b + 4 ≤ q)
  | none => false

/-- R329, R330, R332: the command of the start-test unit at issue tick q: the cell and its state. -/
def Dev.testCommand (d : Dev) (k q : Nat) : Dev × Option (Nat × Nat) :=
  let t := d.tst k
  let live := t.zl.filter (fun p => !(d.failed k p))
  let i := q / 1024 * 1024
  let ton := d.fld (Fd.CHk_DT_CFG_TON k)
  let step := d.fld (Fd.CHk_DT_STATUS_STEP k)
  let cut := t.cutBy q
  if t.zlDue && cut then (d.modTest k (fun t => { t with zlDue := false, isOn := false }), if d.failed k t.pos then none else some (t.pos, stZL))
  else match live with
    | p :: r => (d.modTest k (fun t => { t with zl := r }), some (p, stZL))
    | [] =>
      if (step == 2 || step == 3) && !cut && !(d.failed k t.pos) then
        if q < i + 8 then (d.modTest k (fun t => { t with isOn := true }), some (t.pos, if step == 2 then stP else stN))
        else if i + ton ≤ q && t.isOn then (d.modTest k (fun t => { t with isOn := false }), some (t.pos, stZL))
        else (d, none)
      else (d, none)

/-- R333: result codes. -/
def resPass : Nat := 1
def resShort : Nat := 2
def resOpen : Nat := 3
def resGround : Nat := 4
def resSupply : Nat := 5

/-- R331: the loop resistance from the means of a test. -/
def loopR (zscale : Nat) (vp vn ip in' : Int) : Nat :=
  if ip - in' ≤ 0 then 0xFFFFFFFF else (satU 32 (rdiv ((zscale : Int) * (vp - vn)) (ip - in').toNat)).toNat

/-- R331, R333, R454: the result of a start test and r. -/
def Dev.testResult (d : Dev) (k : Nat) (m : Vector Int 9) (aborted : Bool) : Nat × Nat :=
  let lim (f : Fld) : Int := (d.fld f : Int) * 2 ^ 8
  let supply := decide (lim (Fd.CHk_DT_LIM0_ISUP k) < (vat m 1).natAbs) || decide (lim (Fd.CHk_DT_LIM0_VSUP k) < (vat m 0).natAbs)
  if aborted then (if supply then resSupply else resShort, 0)
  else
    let r := loopR (d.fld (Fd.CHk_DT_ZSCALE_ZSCALE k)) (vat m 3) (vat m 6) (vat m 4) (vat m 7)
    let ground := d.bit (Fd.CHk_DT_CFG_EGND_EN k) &&
      decide (lim (Fd.CHk_DT_LIM1_EGND k) < ((vat m 5 - vat m 8).natAbs : Int))
    let base := d.fld (Fd.CHk_DT_RBASE_RBASE k)
    let tol := d.fld (Fd.CHk_DT_RTOL_RTOL k)
    let based := d.bit (Fd.CHk_DT_STATUS_BVALID k)
    let short := decide (r < d.fld (Fd.CHk_DT_RMIN_RMIN k)) ||
      (based && decide ((r : Int) * 2 ^ 15 < (base : Int) * (2 ^ 15 - (tol : Int))))
    let opn := decide (d.fld (Fd.CHk_DT_RMAX_RMAX k) < r) || (based && decide (base * (2 ^ 15 + tol) < r * 2 ^ 15))
    (if supply then resSupply else if ground then resGround else if short then resShort else if opn then resOpen else resPass, r)

/-- R99, R208, R223, R242, R243, R451: entry into ARMED at frame start f. -/
def Dev.enterArmed (d : Dev) (k f : Nat) : Dev :=
  let d := ((d.setPhase k phArmed).fbReset k).formRoles k
  let d := d.each positions (fun d p => d.modCell k p (fun c =>
    { c with activeAll := (d.aq k).contains p, gotCmd := false, parkSent := false }))
  d.modPr k (fun p => { p with since := f, frames := 0 })

/-- R333, R454: judge the start test of a string at frame start f. -/
def Dev.testJudge (d : Dev) (k f : Nat) : Dev :=
  let t := d.tst k
  let m := t.sum.toList.map (fun x => rsh x (10 + d.fld (Fd.CHk_DT_CFG_MLOG k)))
  let mean : Vector Int 9 := #v[lat m 0, lat m 1, lat m 2, lat m 3, lat m 4, lat m 5, lat m 6, lat m 7, lat m 8]
  let (res, r) := d.testResult k mean t.abort.isSome
  let d := d.modTest k (fun t => { t with mean := mean, zlDue := false, isOn := false })
  let d := (((d.put (Fd.CHk_DT_STATUS_RESULT k) res).putB (Fd.CHk_DT_STATUS_ABORT k) t.abort.isSome).put
    (Fd.CHk_DT_STATUS_STEP k) 0).put (Fd.CHk_DT_RES_R k) r
  let d := (d.evt (Fd.CHk_LM_EVT_TEST_DONE k)).evtIf (res != resPass) (Fd.CHk_LM_EVT_TEST_FAIL k)
  if res == resPass then (d.put (Fd.DIAG_Ck_R_CRDC k) r).enterArmed k f else d.startWait k f true

/-! ### Entry into RUN (R105, R107, R178, R223, R308, R310) -/

/-- How a string enters RUN: at its release instant from ARMED, by a Plain entry, or by a Probe entry. -/
inductive RunEntry where
  | release
  | plain
  | probe
  deriving DecidableEq, Repr

/-- R107, R178, R225, R226, R242, R297: what starts afresh at an entry into RUN, the count of good boundaries with it. -/
def Dev.runFresh (d : Dev) (k f : Nat) : Dev :=
  let d := d.each positions (fun d p =>
    (d.modCell k p (fun c => { c with dwellFrom := (f : Int) - 64, fa := 0, moved := none, movedBefore := none, cleanRun := 0
                                      activeAll := (d.aq k).contains p, gotCmd := false, hadExceed := false
                                      vcRun := 0, tcRun := 0 })).put (Fd.CHk_WH_FAVGp_FAVG k p) 0)
  let d := (d.put (Fd.CHk_WH_MARKS_SLOW k) 0).modWh k (fun w => { w with rotFrames := 0, rot := none, pair := none })
  let d := d.modCtl k (fun c =>
    { c with e1 := 0, e2 := 0, c1 := 0, c2 := 0, i := 0, us := 0, sat := false, ran := false, iref := 0, irefNext := none
             modeNext := none, holdUp := 0, holdDn := 0, dec := [], stepped := none, railN := 0, clamped := false
             limited := false, mi := 0, miNext := none })
  let d := d.put (Fd.CHk_FB_STATUS_GOOD k) 0
  d.modPr k (fun p => { p with sRun := 0, lRun := 0, rRun := 0, pr := 0, ocRun := 0, auxRun := Vector.replicate 3 0
                               due := [], entry := f, handling := false, forced := [], forceDue := false })

/-- R308: an entry that finds nact below NMIN becomes LATCHED with cause HEADROOM. -/
def Dev.entryHeadroom (d : Dev) (k f : Nat) : Dev :=
  ((d.tripSet k causeHeadroom f).tripCount k).latchStr k

/-- The string enters RUN at frame start f. The zero forms start afresh at every entry (R107, R178, R222; log entry 66). -/
def Dev.enterRun (d : Dev) (k f : Nat) (how : RunEntry) : Dev :=
  let (d, lost) := (d.formRoles k).headroom k true
  if lost then d.entryHeadroom k f
  else
    let hostReturn := (d.st k).pr.kind == kindHold
    let d := ((d.setPhase k phRun).runFresh k f).resetZf k
    let d := (d.put (Fd.CHk_CL_STATUS_MODE k) 1).evt Fd.SYS_EVT_STR_RUN
    let d := ((d.loadEnterRun k).morEnterRun k).putB (Fd.CHk_FB_STATUS_RAIL k) false
    let d := match how with
      | .probe => d.put (Fd.CHk_PR_STATUS_PHASE k) 3
      | _ => d.put (Fd.CHk_PR_STATUS_PHASE k) 0
    let d := d.modPr k (fun p =>
      { p with release := if how == .probe then none else some f
               probe := if how == .probe then some { start := f, phi := 0, sv := 0, si := 0 } else none })
    if how == .release then d
    else
      let d := if hostReturn then d else (d.winEvent k srcRetry f).1
      (d.bump (Fd.CHk_PR_CNT_RETRIES k)).evt (Fd.CHk_PR_EVT_RETRY k)

/-- R313: a stop level in force at the frame start that would end ARMED. -/
def Dev.holdAtArmed (d : Dev) (k f : Nat) : Dev :=
  let d := (((d.setPhase k phSafe).tripSet k causeHost f).tripCount k).put (Fd.CHk_PR_STATUS_PHASE k) 5
  d.modPr k (fun p => { p with handling := false, forceDue := false, forced := [] })

/-- R308, R313: a string in SAFE may return at frame start f. -/
def Dev.mayReturn (d : Dev) (k f : Nat) : Bool :=
  let p := (d.st k).pr
  let w := if p.kind == kindHold then 0
    else if d.fld (Fd.CHk_PR_STATUS_CAUSE k) == causeRelay then d.fld (Fd.CHk_PR_WAIT_RLY_WAIT k)
    else d.fld (Fd.CHk_PR_WAIT_RETRY_WAIT k)
  d.phase k == phSafe && !p.handling && !p.stop && !(inFrameBefore f p.cbusBadAt) && decide (p.d + w * 4096 ≤ f) && decide (p.d < f) &&
    p.kind != kindLatch

/-! ### The commands -/

/-- ENUM_TIMEOUT (R99, R264): what is not accepted is rejected and failed. -/
def Dev.enumTimeout (d : Dev) (k f : Nat) : Dev :=
  if d.phase k == phEnum && !(d.st k).pr.pinMode && decide (d.fld Fd.SYS_START0_ENUM_TO ≤ (d.st k).pr.frames) then
    (d.endLinks k).endEnum k f
  else d

/-- PRECHARGE_TIMEOUT (R99, R101): cells outside their window are failed; the string goes on if the conditions then
hold for the rest. -/
def Dev.prechargeTimeout (d : Dev) (k f : Nat) : Dev :=
  if d.phase k == phPrecharge && decide (d.fld Fd.SYS_START0_PRECHARGE_TO ≤ (d.st k).pr.frames) then
    let d := d.failStart k (fun p => !(d.inWindow k p))
    if d.enoughCells k && d.preOk k f then d.enterTest k f else d.startWait k f false
  else d

/-- ARM_COMPLETE (R99, R105, R313): ARMED ends. -/
def Dev.armComplete (d : Dev) (k f : Nat) : Dev :=
  if d.phase k == phArmed && decide (d.fld Fd.SYS_START0_ARM_FRAMES ≤ (d.st k).pr.frames) then
    if inFrameBefore f (d.st k).fb.lostAt then d.startWait k f false
    else if (d.st k).pr.stop then d.holdAtArmed k f
    else d.enterRun k f .release
  else d

/-- START_WAIT_EXPIRY (R103): 4.000 s after entry, back to ENUM. -/
def Dev.startWaitExpiry (d : Dev) (k f : Nat) : Dev :=
  if d.phase k == phStartWait && decide ((d.st k).pr.since + 98304000 ≤ f) then
    (d.bump (Fd.SYS_RESTART_CNT k)).enterEnum k f
  else d

def execStartWaitExpiry (k : Fin 8) (s : State) : Host.Outcome State Fault Refusal :=
  onDev s (fun e d => if e.frameStart && d.islandOk (islCh k.val) then d.startWaitExpiry k.val e.tick else d)

/-- START_TEST_STEP (R329). -/
def execStartTestStep (k : Fin 8) (s : State) : Host.Outcome State Fault Refusal :=
  onDev s (fun e d =>
    let t := d.tst k.val
    if e.frameStart && d.islandOk (islCh k.val) && d.phase k.val == phTest && t.abort.isNone && !t.restart then
      d.put (Fd.CHk_DT_STATUS_STEP k.val) (testStepOf (d.logS k.val) (d.logM k.val) ((e.tick - t.f0) / 65536))
    else d)

/-- STRING_RETRY_ENTRY (R308, R310, R313). -/
def execStringRetryEntry (k : Fin 8) (s : State) : Host.Outcome State Fault Refusal :=
  onDev s (fun e d =>
    if e.frameStart && d.islandOk (islCh k.val) && d.mayReturn k.val e.tick then
      d.enterRun k.val e.tick (if (d.st k.val).pr.kind == kindProbe then .probe else .plain)
    else d)

/-- PROBE_JUDGEMENT (R311). -/
def Dev.probeJudge (d : Dev) (k t : Nat) : Dev :=
  match (d.st k).pr.probe with
  | none => d
  | some p =>
    let be := p.start + d.fld (Fd.CHk_PR_PROBE0_LEN k) * 64
    if t == be + 16 then
      if (d.fld (Fd.CHk_PR_SHORT0_ZTH k) : Int) * p.si ≤ p.sv * 2 ^ 15 then
        ((d.modPr k (fun r => { r with probe := none, release := some be })).put (Fd.CHk_PR_STATUS_PHASE k) 0).evt
          (Fd.CHk_PR_EVT_PROBE_PASS k)
      else d.trip k causeProbe t
    else d

def execProbeJudgement (k : Fin 8) (s : State) : Host.Outcome State Fault Refusal :=
  onDev s (fun e d => if e.started then d.probeJudge k.val e.tick else d)

/-- Sources of FAULT_WINDOW_CLOSE as window numbers. -/
def winIx : WinSrc → Nat
  | .limit => srcLimit
  | .retry => srcRetry
  | .audio => srcAudio
  | .mem => srcMem
  | .link => srcLink

/-- FAULT_WINDOW_CLOSE (R315): a window whose length has run out closes. -/
def execFaultWindowClose (k : Fin 8) (w : WinSrc) (s : State) : Host.Outcome State Fault Refusal :=
  onDev s (fun e d =>
    match vat (d.st k.val).pr.win (winIx w) with
    | some x => if x.start + (d.winCfg k.val (winIx w)).2 ≤ e.tick then d.winPut k.val (winIx w) none else d
    | none => d)

end Sys2Proof.Machine
end

