-- ==== Sys2Proof/Machine/Control.lean ====
section
/-! DEFINITION. What a string does at issue ticks (R231, R243, R303), at decision instants (R183, R298) and at
outer-loop boundaries (R180 to R193, R297, R300, R311). -/
namespace Sys2Proof.Machine

/-! ### Issue ticks -/

/-- R303: the forcing commands, all on one tick. For FATAL every cell goes to ZL. -/
def Dev.forceCells (d : Dev) (k q : Nat) : Dev × List Nat :=
  let fatal := d.fld (Fd.CHk_PR_STATUS_CAUSE k) == causeFatal
  let l := positions.filter (fun p => d.cellHere k p && !(d.failed k p) && d.linkState k p == lkAccepted &&
    (fatal || d.cmdOf k p == stP || d.cmdOf k p == stN))
  let d := d.each l (fun d p => if fatal then d.command k p stZL q else d.commandZero k p q)
  (d.modPr k (fun r => { r with forceDue := false, forced := l }), l)

/-- R186, R231: the Whisk's command at issue tick q in closed loop. -/
def Dev.whiskCommand (d : Dev) (k q : Nat) : Dev × List Nat :=
  let x := (d.st k).ctl
  let dec := x.dec.find? (fun y => decide (y.t + 2 ≤ q))
  let want := match dec with
    | some y => y.want
    | none => .none
  let err := (dec.map (·.err)).getD 0
  let im := (dec.map (·.im)).getD 0
  -- the cell that a change of d's last command names
  let moved (d' : Dev) : List Nat := positions.filter (fun p => d'.cmdOf k p != d.cmdOf k p || (d'.cellC k p).dwellFrom != (d.cellC k p).dwellFrom)
  if want == .up || want == .down then
    let d := d.modWh k (fun w => { w with pair := none })
    let (d', out) := d.levelStep k (want == .up) im q
    match out with
    | .limited => (d'.modCtl k (fun c => { c with limited := true }), [])
    | .declined => (d'.bump (Fd.CHk_DLY_STAT_DECLINED k), [])
    | .issued =>
      let cells := moved d'
      let hold := q + d.fld (Fd.CHk_IL_HOLD_HOLD k)
      let start := (dec.map (·.start)).getD q
      let d' := d'.put (Fd.CHk_STEP_CNT_STEPS k) (d'.fld (Fd.CHk_STEP_CNT_STEPS k) + 1)
      let d' := if x.stepped == some start then d' else
        d'.put (Fd.CHk_DLY_STAT_MAX_WAIT k) (max (d'.fld (Fd.CHk_DLY_STAT_MAX_WAIT k)) (satNat 7 (q - start)))
      (d'.modCtl k (fun c => { c with stepped := some start, holdUp := if want == .up then hold else c.holdUp
                                      holdDn := if want == .down then hold else c.holdDn }), cells)
  else
    let valid (p : Nat) : Bool := (d.aq k).contains p && !(d.failed k p)
    match (d.st k).wh.pair.filter (fun pr => valid pr.h && valid pr.d) with
    | some pr => (d.closePair k q pr, [pr.pos])
    | none =>
      let d := d.modWh k (fun w => { w with pair := none })
      match d.bypDue k with
      | some p => (d.command k p stBYP q, [p])
      | none =>
        let w := (d.st k).wh
        let rest (p : Nat) : Bool := (w.pq.contains p || (w.heldSpare && d.isSpare k p)) && d.cmdOf k p == stZH &&
          decide (64 ≤ d.dwell k p q)
        match positions.find? rest with
        | some p => (d.command k p stZL q, [p])
        | none => match d.findPair k im q with
          | some pl => (d.startPair k q pl (decide (0 ≤ err)), [if decide (0 ≤ err) then pl.raise.1 else pl.lower.1])
          | none => (d, [])

/-- R104, R243: the command at issue tick q in ARMED. -/
def Dev.armedCommand (d : Dev) (k q : Nat) : Dev × List Nat :=
  let act := (sorted7 (d.aq k))
  let j := q % 512 / 8
  match act[j]? with
  | some p => if d.failed k p then (d, []) else (d.command k p (if q / 512 % 2 == 0 then stZL else stZH) q, [p])
  | none =>
    let w := (d.st k).wh
    let byp (p : Nat) : Bool := d.cellHere k p && d.failed k p && d.linkState k p == lkAccepted && !(d.cellC k p).bypSent
    let park (p : Nat) : Bool := (w.pq.contains p || (w.heldSpare && d.isSpare k p)) &&
      (!(d.cellC k p).parkSent || d.cmdOf k p != stZL) && decide (64 ≤ d.dwell k p q)
    match positions.find? (fun p => byp p || park p) with
    | some p => ((d.command k p (if byp p then stBYP else stZL) q).modCell k p (fun c => { c with parkSent := true }), [p])
    | none => (d, [])

/-- R215, R216: the command at issue tick q in fallback. -/
def Dev.fallbackCommand (d : Dev) (k q : Nat) : Dev × List Nat :=
  match d.pwmCommand k q with
  | some (p, st) => (d.command k p st q, [p])
  | none => match d.bypDue k with
    | some p => (d.command k p stBYP q, [p])
    | none => (d, [])

/-- The string's command at issue tick q, by its state: at most one, but for the forcing commands of a trip. -/
def Dev.issueCommand (d : Dev) (k q : Nat) : Dev × List Nat :=
  let ph := d.phase k
  let p := (d.st k).pr
  if ph == phSafe then (if p.forceDue && decide (p.d < q) then d.forceCells k q else (d, []))
  else if ph == phArmed then d.armedCommand k q
  else if ph == phTest then
    match d.testCommand k q with
    | (d, some (p, st)) => (d.command k p st q, [p])
    | (d, none) => (d, [])
  else if ph == phRun then
    if d.closed k then d.whiskCommand k q else if d.inFallback k then d.fallbackCommand k q else (d, [])
  else (d, [])

/-- R5, R231, R248: issue tick q. -/
def Dev.issue (d : Dev) (q : Nat) : Dev :=
  let k := q % 8
  if d.present k && d.islandOk (islCh k) then
    let d := d.takeDue k q
    let (d, cells) := d.issueCommand k q
    (d.sendFrames k q cells).noteV k q
  else d

/-- ISSUE_TICK (R231). -/
def execIssueTick (s : State) : Host.Outcome State Fault Refusal :=
  onDev s (fun e d => if e.started then d.issue e.tick else d)

/-! ### Decision instants -/

/-- R298, R319: fast over-current at decision instant t of a string that is in RUN, or left it on this tick. -/
def Dev.ocFast (d : Dev) (k t : Nat) : Dev :=
  if d.ranAt k t then
    let n := if d.suspI k then 0
      else if d.fld (Fd.CHk_PR_OCF_LEVEL k) ≤ (d.st k).fi.natAbs then (d.st k).pr.ocRun + 1 else 0
    let d := d.modPr k (fun p => { p with ocRun := n })
    if n == d.fld (Fd.CHk_PR_OCF_N k) then d.trip k causeOcFast t else d
  else d

/-- The signals of a capture entry at a decision instant at which the inner loop does not decide (log entry 40). -/
def Dev.idleSignals (d : Dev) (k : Nat) : List Int :=
  let s := d.st k
  let (err, im) := match s.ctl.dec with
    | x :: _ => (x.err, x.im)
    | [] => (0, 0)
  [s.fi, narrow30 (err + s15to30 im), narrow30 err, ((ux 8 (d.level k) * 256 : Nat) : Int)]

/-- A string at decision instant t, its fast sample taken up. -/
def Dev.decisionStr (d : Dev) (k t : Nat) : Dev :=
  let d := (d.takeDue k t).dropFailed k t
  let d := d.morLearn k t
  let d := d.ocFast k t
  let d := if d.inRun k && d.closed k then d.innerDecide k t else d.capDecision k t (d.idleSignals k)
  d.noteV k t

/-! ### Outer-loop boundaries -/

/-- A run of consecutive boundaries. -/
def nextRun (n : Nat) (c : Bool) : Nat := if c then n + 1 else 0

/-- R297, R302: the detectors of a string in RUN at boundary b; a trip falls at b + 16. -/
def Dev.lineDetect (d : Dev) (k b : Nat) (vr : Int) : Dev :=
  let s := d.st k
  let vm := s.pv
  let im := s.pi
  let av : Int := vm.natAbs
  let ai : Int := im.natAbs
  let f (x : Fld) : Int := d.fld x
  -- S.23 values against U0.15 thresholds: scale by 2^8; vr is S.15
  let gap := if 0 ≤ vr then vr * 2 ^ 8 - vm else vm - vr * 2 ^ 8
  let sbad := decide (f (Fd.CHk_PR_SHORT0_IMIN k) * 2 ^ 8 ≤ ai) && decide (av * 2 ^ 15 < f (Fd.CHk_PR_SHORT0_ZTH k) * ai) &&
    decide (f (Fd.CHk_PR_SHORT1_VCOL k) * 2 ^ 8 ≤ gap)
  let lbad := decide (f (Fd.CHk_PR_LINE_VLINE k) * 2 ^ 8 < av)
  let q := rsh (s23to30 vm * s23to30 im) 30
  let pr := sat40 (s.pr.pr + rsh (q - s.pr.pr) (d.fld (Fd.CHk_PR_REV_RSH k)))
  let prev := d.fld (Fd.CHk_PR_REV_PREV k)
  let rbad := prev != 0 && decide (pr < -(s15to30 prev))
  let sv := d.suspV k
  let si := d.suspI k
  let sRun := nextRun s.pr.sRun (sbad && !sv && !si)
  let lRun := nextRun s.pr.lRun (lbad && !sv)
  let rRun := nextRun s.pr.rRun (rbad && !sv && !si)
  let due := (if sRun == d.fld (Fd.CHk_PR_SHORT1_N k) then [(causeShort, b + 16)] else []) ++
    (if lRun == d.fld (Fd.CHk_PR_LINE_N k) then [(causeLineOv, b + 16)] else []) ++
    (if rRun == d.fld (Fd.CHk_PR_REV_N k) then [(causeReverse, b + 16)] else [])
  d.modPr k (fun p => { p with pr := pr, sRun := sRun, lRun := lRun, rRun := rRun, due := p.due ++ due })

/-- R300: the common inputs at boundary b, each string with its own thresholds. -/
def Dev.auxDetect (d : Dev) (k b : Nat) : Dev :=
  let s := d.st k
  let x (i : Nat) : Int := vat s.aux i
  let n := d.fld (Fd.CHk_PR_CFG_AUX_N k)
  let out := decide (d.sfld (Fd.CHk_PR_CBUS_HI k) * 2 ^ 8 < x 0) || decide (x 0 < d.sfld (Fd.CHk_PR_CBUS_LO k) * 2 ^ 8)
  let cb := decide ((d.fld (Fd.CHk_PR_AUX_CBI k) : Int) * 2 ^ 8 < (x 1).natAbs)
  let earth := d.bit (Fd.CHk_PR_CFG_EARTH_EN k) && decide ((d.fld (Fd.CHk_PR_AUX_EARTH k) : Int) * 2 ^ 8 < (x 2).natAbs)
  let r0 := nextRun (vat s.pr.auxRun 0) out
  let r1 := nextRun (vat s.pr.auxRun 1) cb
  let r2 := nextRun (vat s.pr.auxRun 2) earth
  let d := d.evtIf (r1 == n) (Fd.CHk_PR_EVT_CBUS_I k)
  let d := d.evtIf (r2 == n) (Fd.CHk_PR_EVT_EARTH k)
  let live := d.inRun k || d.phase k == phSafe
  let due := (if live && r0 == n then [(causeCbus, b + 16)] else []) ++
    (if live && r1 == n && d.bit (Fd.CHk_PR_CFG_CBI_ACT k) then [(causeCbusI, b + 16)] else [])
  d.modPr k (fun p => { p with auxRun := #v[r0, r1, r2], cbusBad := out, cbusBadAt := if out then some b else p.cbusBadAt
                               due := p.due ++ due })

/-- R311: the sums of the probe. -/
def Dev.probeSum (d : Dev) (k b : Nat) : Dev :=
  d.modPr k (fun p => match p.probe with
    | none => p
    | some r =>
      let len := d.fld (Fd.CHk_PR_PROBE0_LEN k)
      if r.start + len / 2 * 64 ≤ b && b < r.start + len * 64 then
        { p with probe := some { r with sv := r.sv + (d.st k).pv.natAbs, si := r.si + (d.st k).pi.natAbs } }
      else p)

/-- R307: the foreground reads the cell records once per boundary and writes them back (log entry 41). -/
def Dev.cellRecords (d : Dev) (k b : Nat) : Dev :=
  let l := d.ecc.filter (fun e => eccKey (8 + k) 0 ≤ e.1 && e.1 < eccKey (9 + k) 0)
  if l.isEmpty then d
  else
    let d := d.eccWriteRange (8 + k) 0 64
    let d := l.foldl (fun d e => if e.2 == 1 then d.bump (Fd.CHk_PR_ECC_CORR k) else d) d
    if l.any (fun e => e.2 != 1) then d.trip k causeFatal b else d

/-- R180, R191, R214, R215, R217, R218: the loops of a string in RUN at boundary b; the result is vr. -/
def Dev.runLoops (d : Dev) (k b : Nat) (swap : Bool) (pilot m : Int) : Dev × Int :=
  let s := d.st k
  let lost := s.fb.lostNow
  let d := if d.closed k && lost && s.pr.entry == b then d.enterFallback k b else d      -- R218
  let q := d.bank k (d.fld (Fd.CHk_CL_STATUS_ACTIVE k)) b
  if d.closed k then
    let (d, point, inj, first) := d.injForm k b false
    let d := if first then d.capTrigger k b 1 else d
    let v (i : Nat) : Int := if point == i then inj else 0
    let vr := d.refOf k b pilot (v 0)
    let x := (d.st k).ctl
    let preset := swap && x.ran
    let d := if preset && x.sat then d.swapSat k else d
    let o := evalOuter q x vr s.pv m (v 1) (v 2) (if preset then some x.us else none)
    let d := d.putOuter k b q o false
    let d := d.modCtl k (fun c => { c with sig := [o.vr, narrow23 s.pv, narrow30 o.e, narrow30 o.c, narrow30 o.i, narrow30 o.u,
                                                   narrow30 o.us, m, inj] })
    let d := d.modMor k (fun r => { r with learn := some (o.e, r.theta / 2 ^ 22, b + 16) })
    let d := if o.u != o.us then d.capTrigger k b 3 else d
    if lost then
      ((d.modCtl k (fun c => { c with irefNext := none, modeNext := some (2, b + 16) })).formMi k b
        (d.refOf k b pilot 0), vr)
    else (d, vr)
  else
    let vr := d.refOf k b pilot 0
    if d.fld (Fd.CHk_FB_STATUS_GOOD k) == 256 && !(d.bit (Fd.CHk_PR_STATUS_FB_PIN k)) && d.inFallback k then
      let o := evalReturn q vr s.pv s.pi
      let d := d.putOuter k b q o true
      let d := d.modMor k (fun r => { r with learn := some (o.e, r.theta / 2 ^ 22, b + 16) })
      let d := if o.u != o.us then d.capTrigger k b 3 else d
      (d.modCtl k (fun c => { c with modeNext := some (1, b + 16)
                                     sig := [o.vr, narrow23 s.pv, narrow30 o.e, narrow30 o.c, narrow30 o.i, narrow30 o.u,
                                             narrow30 o.us, 0, 0] }), vr)
    else
      let d := (d.formMi k b vr).modCtl k (fun c =>
        { c with vr := vr, ran := false, sig := [vr, narrow23 s.pv] ++ (c.sig.drop 2).take 5 ++ [0, 0] })
      (d, vr)

/-- A present string at boundary b, its precise samples taken up. `im` is the fast current sample taken up at b. -/
def Dev.boundaryStr (d : Dev) (k b : Nat) (im : Int) : Dev :=
  let d := d.endPeriod k
  let d := (d.cellRecords k b).membership k b
  let (d, swap) := d.swapBank k b
  let ph := d.phase k
  let wrap := (d.st k).mor.wrap
  let d := d.morWrap k b wrap
  let (d, m) := d.morCorrect k b
  let d := if ph == phArmed || ph == phRun || ph == phSafe then d.detect k b
    else d.modFb k (fun f => { f with neutral := false })                          -- R211: the period has passed
  let pilot := d.pilot k
  let run := d.inRun k
  let (d, vr) := if run then d.runLoops k b swap pilot m
    else (d.modCtl k (fun c => { c with ran := false, sig := [0, narrow23 (d.st k).pv] ++ (c.sig.drop 2).take 5 ++ [0, 0] }), 0)
  let d := if swap then d.capTrigger k b 2 else d
  let d := if run then (d.lineDetect k b vr).probeSum k b else d
  let d := d.auxDetect k b
  let d := d.powerAvg k
  let d := if ph == phTest then d.testBoundary k b else d
  let d := if d.bit (Fd.CHk_DT_CFG_CLASS k) then
      let s := d.st k
      let ok := run && s.pr.probe.isNone && s.ctl.inj.isNone && !s.preciseRep && d.bit Fd.SIEVE_VALID_PRECISE
      d.diagAccumulate k b ok run
    else d
  let d := d.modCtl k (fun c => { c with sig := c.sig.take 9 ++ [d.level k, im] })
  let d := (d.capTrigger k b 0).capBoundary k b
  let d := d.morAdvance k (vat (d.st k).aux 0)
  (d.pilotAdvance k).noteV k b

end Sys2Proof.Machine
end

