-- ==== Sys2Proof/Machine/Sieve.lean ====
section
/-! DEFINITION. The Sieve (spec file 06, R165 to R176): capture, the fast, precise and monitor paths, activity figures
and threshold flags; and decision instants, at which the strings take up fast samples (R50). -/
namespace Sys2Proof.Machine

def inputs20 : List Nat := upTo 20

def Dev.modSieve (d : Dev) (n : Nat) (f : SieveIn → SieveIn) : Dev := { d with sieve := vmod d.sieve n f }

/-- R165: two capture edges of one tick; `b0` is the earlier. -/
def Dev.capture (d : Dev) (sd0 sd1 : BitVec 20) : Dev :=
  if d.islandOk islSieve then
    d.each inputs20 (fun d n => d.modSieve n (fun x =>
      { x with bits := (sd1.getLsbD n :: sd0.getLsbD n :: x.bits).take 320 }))
  else d

/-- A captured bit as a chain value. -/
def pm (b : Bool) : Int := if b then 1 else -1

/-- R165: the latest `len` chain values of input n from edge 2t - 2 back, as captured by the end of tick t. -/
def Dev.chain (d : Dev) (n len : Nat) : List Int :=
  (((vat d.sieve n).bits.drop (1 + d.fld (Fd.SIEVE_INn_CFG_PHASE n))).take len).map pm

/-- R175: an output that saturates is counted. -/
def Dev.countSat (d : Dev) (f : Fld) (raw out : Int) : Dev :=
  if raw = out then d else (d.bump f).evt Fd.SIEVE_EVT_SAT

/-- A number scaled by 2^(w - s): a shift either way, rounded (R8). -/
def scaleTo (x : Int) (w s : Nat) : Int := if s ≤ w then x * 2 ^ (w - s) else rsh x (s - w)

/-- R166: M. -/
def fastM (fastwin : Nat) : Nat := 4 * 2 ^ fastwin

/-- R166: the coefficients of the fast path. -/
def Dev.fastCoefs (d : Dev) : List Int := boxPow (fastM (d.fld Fd.SIEVE_CFG_FASTWIN)) 3

/-- R166: the fast sample of input n at a decision instant, with the coefficients `c`. -/
def Dev.fastSample (d : Dev) (c : List Int) (n : Nat) : Dev :=
  let v := dot c (d.chain n c.length)
  let raw := scaleTo v 15 (d.fld (Fd.SIEVE_INn_CFG_SHIFTF n))
  (d.modSieve n (fun x => { x with fast := sat15 raw })).countSat Fd.SIEVE_SAT_CNT_FAST raw (sat15 raw)

/-- R167, stage 1: the output at edge 2t - 2, when that edge is one of its edges. -/
def Dev.stage1 (d : Dev) (t : Nat) : Dev :=
  let r1 := presetR1 (d.fld Fd.SIEVE_CFG_PRESET)
  if d.islandOk islSieve && 2 * t % r1 == 0 then
    let c := boxPow r1 4
    d.each inputs20 (fun d n =>
      let raw := scaleTo (dot c (d.chain n c.length)) 23 (d.fld (Fd.SIEVE_INn_CFG_SHIFT1 n))
      (d.modSieve n (fun x => { x with s1 := (sat23 raw :: x.s1).take 32 })).countSat Fd.SIEVE_SAT_CNT_PRECISE raw (sat23 raw))
  else d

/-- R167, R168: the stage-2 taps in use. -/
def Dev.taps2 (d : Dev) : List Int := stage2Taps (d.bit Fd.SIEVE_CFG_MINPHASE) (d.fld Fd.SIEVE_CFG_PRESET)

/-- R167, stage 2: the precise sample of input n at a boundary, with the taps `h`. -/
def Dev.stage2 (d : Dev) (h : List Int) (n : Nat) : Dev :=
  let raw := rsh (dot h (vat d.sieve n).s1 * 2 ^ d.fld (Fd.SIEVE_INn_CFG_SHIFT2 n)) 23
  (d.modSieve n (fun x => { x with precise := sat23 raw, pHist := (sat23 raw :: x.pHist).take 64 })).countSat
    Fd.SIEVE_SAT_CNT_PRECISE raw (sat23 raw)

/-- The values of a list and zeros after them, `n` in all. -/
def padTo : Nat → List Int → List Int
  | 0, _ => []
  | n + 1, [] => 0 :: padTo n []
  | n + 1, x :: l => x :: padTo n l

/-- Changes between neighbours of a list. -/
def changes : List Int → Nat
  | a :: b :: l => (if a = b then 0 else 1) + changes (b :: l)
  | _ => 0

/-- R173: the activity figures of a boundary. -/
def Dev.activity (d : Dev) (n : Nat) : Dev :=
  let l := padTo 129 (d.chain n 129)
  let ones := ((l.take 128).filter (fun x => x = 1)).length
  let tr := changes l
  ((d.modSieve n (fun x => { x with ones := ones, trans := tr })).put (Fd.SIEVE_ACTn_ONES n) ones).put (Fd.SIEVE_ACTn_TRANS n) tr

/-- R174: one threshold flag: whether it reads 1 and its run, before and after a sample. A flag whose enable bit is 0
reads 0 and has no run (log entry 42). -/
def flagStep (on enable : Bool) (run count : Nat) (valid sets clears : Bool) : Bool × Nat :=
  if !enable then (false, 0)
  else if !valid then (on, 0)
  else
    let run := if (if on then clears else sets) then run + 1 else 0
    if count ≤ run then (!on, 0) else (on, run)

/-- R174: both flags of an input at boundary b. -/
def Dev.thresholds (d : Dev) (n b : Nat) : Dev :=
  let s := vat d.sieve n
  let u := flsh s.precise 8
  let hi := d.effI b (Fd.SIEVE_THn_LVL_HI n)
  let lo := d.effI b (Fd.SIEVE_THn_LVL_LO n)
  let hyst : Int := d.eff b (Fd.SIEVE_THn_CTL_HYST n)
  let count := d.eff b (Fd.SIEVE_THn_CTL_COUNT n)
  let valid := d.bit Fd.SIEVE_VALID_PRECISE
  let ab := d.fld Fd.SIEVE_ABOVE_FLAG
  let be := d.fld Fd.SIEVE_BELOW_FLAG
  let a := flagStep (tbit ab n) (d.eff b (Fd.SIEVE_THn_CTL_HI_EN n) == 1) s.aboveRun count valid (hi ≤ u) (u < hi - hyst)
  let l := flagStep (tbit be n) (d.eff b (Fd.SIEVE_THn_CTL_LO_EN n) == 1) s.belowRun count valid (u ≤ lo) (lo + hyst < u)
  let d := d.modSieve n (fun x => { x with aboveRun := a.2, belowRun := l.2 })
  let d := (d.put Fd.SIEVE_ABOVE_FLAG (putBit ab n a.1)).put Fd.SIEVE_BELOW_FLAG (putBit be n l.1)
  d.evtIf (a.1 != tbit ab n || l.1 != tbit be n) Fd.SIEVE_EVT_THRESH

/-- R167, R172 to R174: the Sieve at boundary b. -/
def Dev.sieveBoundary (d : Dev) (b : Nat) : Dev :=
  if d.islandOk islSieve then
    let d := if 448 ≤ b then d.putB Fd.SIEVE_VALID_PRECISE true else d
    let h := d.taps2
    d.each inputs20 (fun d n => ((d.stage2 h n).activity n).thresholds n b)
  else d

/-- R171, R172: the monitor samples of program sample boundary s. AUDIO takes up those of s - P. -/
def Dev.sieveMonitor (d : Dev) (s : Nat) : Dev :=
  let p := d.period
  let h := stage3Taps p
  let d := d.each inputs20 (fun d n => d.modSieve n (fun x => { x with monTaken := x.mon }))
  if d.islandOk islSieve then
    let d := d.each inputs20 (fun d n =>
      let raw := rsh (dot h (vat d.sieve n).pHist * 2 ^ d.fld (Fd.SIEVE_INn_CFG_SHIFT3 n)) 23
      (d.modSieve n (fun x => { x with mon := sat23 raw })).countSat Fd.SIEVE_SAT_CNT_PRECISE raw (sat23 raw))
    if 448 + 64 * (8 * (p / 64)) ≤ s && !(d.bit Fd.SIEVE_VALID_MONITOR) then
      (d.putB Fd.SIEVE_VALID_MONITOR true).evt Fd.SIEVE_EVT_VALID
    else d
  else d

/-- R170: the group delays that SIEVE_GD reports: the precise path in half-ticks and the fast path in quarter-ticks. -/
def Dev.groupDelay (d : Dev) : Dev :=
  let p := d.fld Fd.SIEVE_CFG_PRESET
  let precise := if d.bit Fd.SIEVE_CFG_MINPHASE then (if p == 0 then 124 else if p == 1 then 168 else 248)
    else (if p == 0 then 288 else if p == 1 then 312 else 360)
  let fast := d.fld Fd.SIEVE_CFG_FASTWIN
  (d.put Fd.SIEVE_GD_PRECISE precise).put Fd.SIEVE_GD_FAST (if fast == 0 then 21 else if fast == 1 then 33 else 57)

/-- SIEVE_ROM_DATA: tap j of the table that SIEVE_ROM_ADDR names. -/
def Dev.sieveRom (d : Dev) : Nat :=
  let l := if d.bit Fd.SIEVE_ROM_ADDR_STAGE then stage3Taps d.period
    else d.taps2
  ux 32 (lat l (d.fld Fd.SIEVE_ROM_ADDR_TAP))

/-! ### Take-up by the strings (R50, R52) -/

/-- R50: at decision instant t a string takes up the fast samples of t - 2. -/
def Dev.takeFast (d : Dev) (k t : Nat) : Dev :=
  if d.produced islSieve (t - 2) then
    d.modStr k (fun s => { s with fv := (vat d.sieve k).fast, fi := (vat d.sieve (8 + k)).fast, fastRep := false })
  else d.modStr k (fun s => { s with fastRep := true })

/-- R50: a string takes up the precise samples and activity figures of a boundary. -/
def Dev.takePrecise (d : Dev) (k : Nat) : Dev :=
  if d.islandOk islSieve then
    let x (n : Nat) : SieveIn := vat d.sieve n
    d.modStr k (fun s =>
      { s with pv := (x k).precise, pi := (x (8 + k)).precise
               aux := #v[(x 16).precise, (x 17).precise, (x 18).precise, (x 19).precise]
               ones := #v[(x k).ones, (x (8 + k)).ones], trans := #v[(x k).trans, (x (8 + k)).trans], preciseRep := false })
  else d.modStr k (fun s => { s with preciseRep := true })

/-- The present strings whose island works. -/
def Dev.liveStrs (d : Dev) : List Nat := d.strs.filter (fun k => d.islandOk (islCh k))

/-- R183: decision instant t: the strings decide on the fast samples of t - 2, and the Sieve produces those of t. -/
def Dev.decision (d : Dev) (t : Nat) : Dev :=
  let d := if 2 ≤ t then d.each d.liveStrs (fun d k => d.takeFast k t) else d
  let d := d.each d.liveStrs (fun d k => d.decisionStr k t)
  if d.islandOk islSieve then
    let d := if 32 ≤ t then d.putB Fd.SIEVE_VALID_FAST true else d
    let c := d.fastCoefs
    d.each inputs20 (fun d n => d.fastSample c n)
  else d

/-- DECISION_INSTANT (R183). -/
def execDecisionInstant (s : State) : Host.Outcome State Fault Refusal :=
  onDev s (fun e d => if e.started && e.tick % 2 == 0 then d.decision e.tick else d)

end Sys2Proof.Machine
end

