-- ==== Sys2Proof/Machine/Power.lean ====
section
/-! DEFINITION. Power domains and clocks: power-on reset and shutdown (R58, R72, R429), main-oscillator lock (R73), the
domain sequence (R56, R57), reference loss (R45, R46), failure of the main oscillator (R47) and memory initialisation
(R74). Times of the power-up sequence are ticks since lock. -/
namespace Sys2Proof.Machine

/-- R56: the order in which domains are switched on, the CH domains last. -/
def powerOrder : List Nat := [domNvm, domHost, domAudio, domFir, domSieve, domDstore, domLid]

def domSt (d : Dev) (i : Nat) : DomSt := vat d.pwr.dom i

def Dev.setDom (d : Dev) (i : Nat) (x : DomSt) : Dev := { d with pwr := { d.pwr with dom := vset d.pwr.dom i x } }

/-- R58: a powered domain is one in RAMP or RUN. -/
def Dev.powered (d : Dev) (i : Nat) : Bool := decide (domSt d i = .ramp) || decide (domSt d i = .run)

/-- R57: a domain whose failure blocks the CH domains. -/
def blocking (i : Nat) : Bool := i == domNvm || i == domAudio || i == domFir || i == domSieve || i == domDstore

/-- R57: some blocking domain is in FAULT-OFF. -/
def Dev.blocked (d : Dev) : Bool := powerOrder.any (fun i => blocking i && decide (domSt d i = .faultOff))

/-- R34: the relay pads are held released. -/
def Dev.holdRelays (d : Dev) (b : Bool) : Dev := { d with pwr := { d.pwr with relayHeld := b } }

/-- R34, R370: the relay pads are released and held so; an energised relay has changed. -/
def Dev.releaseRelays (d : Dev) : Dev :=
  (d.each [0, 1, 2, 3] (fun d r => if d.ebit Fd.LID_RLY_ENERGISED r then (d.putE Fd.LID_RLY_ENERGISED r false).evt Fd.LID_EVT_RELAY
    else d)).holdRelays true

def Dev.modBg (d : Dev) (f : BgSt → BgSt) : Dev := { d with bg := f d.bg }

/-- R415: HOST has reset, failed or gone off while a snapshot was being taken. -/
def Dev.snapLost (d : Dev) : Dev :=
  if d.bg.snap.isSome then (d.modBg (fun b => { b with snap := none })).evt Fd.BG_EVT_SNAP_LOST else d

/-- A domain is switched off into `x`; AON takes over the pads it drives (R34, R49). A string whose domain enters
FAULT-OFF reaches START_FAIL at the next Rack frame start (R99, R103). -/
def Dev.domOff (d : Dev) (i : Nat) (x : DomSt) : Dev :=
  let d := d.setDom i x
  let d := if i == domLid then d.releaseRelays else if i == domHost then d.snapLost else d
  if 8 ≤ i && i < 16 then
    if x = .faultOff then d.strHalt (i - 8) else (d.strEn (i - 8) false).setPhase (i - 8) phOff
  else d

/-- R49, R57: a domain enters FAULT-OFF. -/
def Dev.domFault (d : Dev) (i : Nat) : Dev := (d.domOff i .faultOff).evt Fd.CLK_EVT_PD_FAULT

/-! ### Power-on reset and shutdown -/

/-- POWER_ON_RESET (R72, R429): the controller starts again from its reset state; fuses and flash devices keep what
they hold. -/
def execPowerOnReset (clksel : Bool) (s : State) : Host.Outcome State Fault Refusal :=
  onEnvDev s (fun e _ => ({ e with tick := 0, started := false, lockTicks := 0 }, Dev.reset clksel e.fuses))

/-- R56, R58: every domain but AON, in the reverse of the power-up order. -/
def shutOrder : List Nat := [15, 14, 13, 12, 11, 10, 9, 8] ++ powerOrder.reverse

/-- R58: the next powered domain is switched off, and the step after it is due 256T later. -/
def Dev.shutStep (d : Dev) (now : Nat) : Dev :=
  let d := match shutOrder.find? d.powered with
    | some i => d.domOff i .off
    | none => d
  { d with pwr := { d.pwr with shutDue := now + 256 } }

/-- R58: brown-out, or RESETN: STR_EN low and relays released, and the first domain off, on the same tick. -/
def Dev.shutdown (d : Dev) (now : Nat) : Dev :=
  if d.pwr.shutdown then d
  else
    let d := (d.each strings8 (fun d k => d.strEn k false)).releaseRelays
    ({ d with pwr := { d.pwr with shutdown := true } } : Dev).shutStep now

/-- R429, R430: a rail is below its threshold. -/
def Dev.railFall (d : Dev) : Dev := { d with pwr := { d.pwr with railLow := true } }

/-- BROWN_OUT (R58, R429, R430). -/
def execBrownOut (s : State) : Host.Outcome State Fault Refusal :=
  onDev s (fun e d => (d.shutdown e.lockTicks).railFall)

/-- R430: what TDM port n drives at its SD ball, by bit position; none is high impedance. -/
def Dev.sdPad (d : Dev) (n : Nat) : List (Option Bool) := if d.pwr.railLow then [] else (vat d.port n).tx

/-- R126, R430: what a master transmit port n drives at its FSY ball, by bit position. -/
def Dev.fsyPad (d : Dev) (n : Nat) : List Bool := if d.pwr.railLow then [] else (vat d.port n).fs

/-- R394, R430: the HINTh ball is driven low. -/
def Dev.hintPad (d : Dev) (h : Nat) : Bool := d.hint h && !d.pwr.railLow

/-- R430: what port p sends to its host, if it drives its balls. -/
def Dev.hostPad (d : Dev) (p : Nat) : Option PortOut := if d.pwr.railLow then none else some (vat d.req p).out

/-- R246, R248, R430: the first n bits at the LKDc ball of a cell's link from the start of its latest frame, if the ball is driven. -/
def Dev.linkPad (d : Dev) (k p n : Nat) : Option (List Bool) :=
  if d.pwr.railLow then none else some (laneBits (d.cellC k p).lane (d.cellC k p).sent n)

/-- RESETN_ASSERT (R58, R429). -/
def execResetnAssert (s : State) : Host.Outcome State Fault Refusal := onDev s (fun e d => d.shutdown e.lockTicks)

/-- SHUTDOWN_DOMAIN_OFF (R58). -/
def execShutdownDomainOff (s : State) : Host.Outcome State Fault Refusal :=
  onDev s (fun e d => if d.pwr.shutdown && decide (d.pwr.shutDue ≤ e.lockTicks) then d.shutStep e.lockTicks else d)

/-! ### Lock and the domain sequence -/

/-- MAIN_OSC_LOCK (R73): the tick starts running; NVM begins to ramp 512T later. -/
def execMainOscLock (s : State) : Host.Outcome State Fault Refusal :=
  onEnvDev s (fun e d =>
    if d.pwr.locked || d.pwr.shutdown || d.fld Fd.SYS_STATE_STATE != 0 then (e, d)
    else ({ e with lockTicks := 0 },
      ({ d with pwr := { d.pwr with locked := true, rampDue := 512 } } : Dev).putB Fd.CLK_STATUS_LOCK true))

/-- LOCK_TIMEOUT (R73): SYS_STATE becomes CLOCK_FAIL. -/
def execLockTimeout (s : State) : Host.Outcome State Fault Refusal :=
  onDev s (fun _ d => if d.pwr.locked || d.fld Fd.SYS_STATE_STATE != 0 then d else d.put Fd.SYS_STATE_STATE 0xA)

/-- An apply pass has been granted, so the CH domains of present strings may be switched on (R56, step 9). -/
def Dev.chAllowed (d : Dev) : Bool := match d.img.phase with
  | .apply _ => !d.blocked
  | _ => false

/-- R33, R56: the next domain to switch on. LID depends on NVM. -/
def Dev.nextDomain (d : Dev) : Option Nat :=
  let ready (i : Nat) : Bool := decide (domSt d i = .off) && (i != domLid || d.domRun domNvm) && (i != domHost || d.pwr.hostDue.isNone)
  match powerOrder.find? ready with
  | some i => some i
  | none => if d.chAllowed then (strings8.map (8 + ·)).find? (fun i => ready i && d.present (i - 8)) else none

/-- The domain in RAMP. -/
def Dev.ramping (d : Dev) : Option Nat := (upTo 16).find? (fun i => decide (domSt d i = .ramp))

/-- DOMAIN_RAMP_START (R56). -/
def execDomainRampStart (s : State) : Host.Outcome State Fault Refusal :=
  onDev s (fun e d =>
    if d.pwr.locked && !d.pwr.shutdown && d.ramping.isNone && decide (d.pwr.rampDue ≤ e.lockTicks) then
      match d.nextDomain with
      | some i => { d.setDom i .ramp with pwr := { (d.setDom i .ramp).pwr with rampStart := e.lockTicks } }
      | none => d
    else d)

/-- DOMAIN_REACHES_RUN (R56, R57): within 256T of its ramp's start. -/
def execDomainReachesRun (s : State) : Host.Outcome State Fault Refusal :=
  onDev s (fun e d => match d.ramping with
    | some i =>
      if e.lockTicks ≤ d.pwr.rampStart + 256 then
        let d := d.setDom i .run
        let d := { d with pwr := { d.pwr with rampDue := e.lockTicks + 512 } }
        if i == domLid && !d.pwr.shutdown then d.holdRelays false else d
      else d
    | none => d)

/-- DOMAIN_RAMP_TIMEOUT (R57). -/
def execDomainRampTimeout (s : State) : Host.Outcome State Fault Refusal :=
  onDev s (fun e d => match d.ramping with
    | some i =>
      if d.pwr.rampStart + 257 ≤ e.lockTicks then
        let d := d.domFault i
        let d := { d with pwr := { d.pwr with rampDue := e.lockTicks + 512 } }
        if blocking i then d.put Fd.SYS_STATE_STATE 0xB else d
      else d
    | none => d)

/-- R74: word 0 of each coefficient bank is a unit impulse, every other word of the FIR memories zero. -/
def firInit (a : Nat) : Int := if a % 1152 == 0 || a % 1152 == 384 then 0x7FFFFF else 0

/-- MEMORY_INIT_DONE (R74). Banks that an apply pass has written already keep what it wrote (R75, R88). -/
def execMemoryInitDone (s : State) : Host.Outcome State Fault Refusal :=
  onDev s (fun e d =>
    if d.domRun domDstore && !d.img.memInit && !e.started then
      { d with dstore := [], mortar := [], ecc := [], firMem := if d.img.applyDone || d.img.passPos != 0 then d.firMem else []
               img := { d.img with memInit := true, readyAt := max d.img.readyAt e.lockTicks } }
    else d)

/-! ### The reference and the main oscillator -/

/-- REFERENCE_LOSS (R45): holdover. -/
def execReferenceLoss (s : State) : Host.Outcome State Fault Refusal :=
  onDev s (fun _ d =>
    if d.pwr.locked && !(d.bit Fd.CLK_STATUS_HOLDOVER) then
      (d.putB Fd.CLK_STATUS_HOLDOVER true).evt Fd.CLK_EVT_REF_LOSS
    else d)

/-- REFERENCE_RETURN (R46): holdover ends. -/
def execReferenceReturn (s : State) : Host.Outcome State Fault Refusal :=
  onDev s (fun _ d =>
    if d.bit Fd.CLK_STATUS_HOLDOVER then (d.putB Fd.CLK_STATUS_HOLDOVER false).evt Fd.CLK_EVT_REF_BACK else d)

/-- R49: an island's clock has failed at tick t. -/
def Dev.islandFail (d : Dev) (t i : Nat) : Dev :=
  ({ d with pwr := { d.pwr with islandBad := vset d.pwr.islandBad i true, badAt := vset d.pwr.badAt i t } } : Dev).evt
    Fd.CLK_EVT_ISLAND_FAIL

/-- R47: the main oscillator has failed: every powered domain but AON goes to FAULT-OFF. -/
def Dev.oscFail (d : Dev) (t : Nat) : Dev :=
  let d := (d.each strings8 (fun d k => d.strEn k false)).releaseRelays
  let d := d.islandFail t islAon
  ((upTo 16).filter (fun i => i != domAon && d.powered i)).foldl (fun d i => d.domFault i) (d.evt Fd.CLK_EVT_PD_FAULT)

/-- MAIN_OSC_FAIL (R47). -/
def execMainOscFail (s : State) : Host.Outcome State Fault Refusal :=
  onDev s (fun e d => if d.pwr.locked then d.oscFail e.tick else d)

end Sys2Proof.Machine
end

