-- ==== Sys2Proof/Machine/Align.lean ====
section
/-! DEFINITION. Alignment groups, the steering loop and the rate converters (spec file 05, R134 to R145). Ports are
numbered 0 to 3 for TDM0 to TDM3, 4 for AES0 and 5 for AES1. Timestamps count quarter-ticks. -/
namespace Sys2Proof.Machine

def ports6 : List Nat := [0, 1, 2, 3, 4, 5]

/-! ### What the image says of a port (R110, R127, R134) -/

/-- A TDM port with FRAME_BITS other than 0, or an enabled AES receiver. -/
def Dev.portUsed (d : Dev) (n : Nat) : Bool :=
  if n < 4 then d.fld (Fd.TDMn_CFG_FRAME_BITS n) != 0 else d.bit (Fd.AESn_CFG_ENABLE (n - 4))

def Dev.portRx (d : Dev) (n : Nat) : Bool := d.portUsed n && (decide (4 ≤ n) || !(d.bit (Fd.TDMn_CFG_ROLE n)))
def Dev.portTx (d : Dev) (n : Nat) : Bool := d.portUsed n && decide (n < 4) && d.bit (Fd.TDMn_CFG_ROLE n)
def Dev.txMaster (d : Dev) (n : Nat) : Bool := d.portTx n && d.bit (Fd.TDMn_CFG_CLKMODE n)
def Dev.txSlave (d : Dev) (n : Nat) : Bool := d.portTx n && !(d.bit (Fd.TDMn_CFG_CLKMODE n))

/-- P_src of R135: the nominal frame period in ticks. -/
def Dev.srcPeriod (d : Dev) (n : Nat) : Nat :=
  512 / 2 ^ (if n < 4 then d.fld (Fd.TDMn_CFG_RATE n) else d.fld (Fd.AESn_CFG_RATE (n - 4)))

def Dev.group (d : Dev) (n : Nat) : Nat := d.fld (Fd.ALIGN_GRP_G n)
def Dev.refPort (d : Dev) : Nat := d.fld Fd.ALIGN_CFG_REF
def Dev.isMaster (d : Dev) (n : Nat) : Bool := d.portRx n && d.group n == n

/-- R134: the port is the master of a group that a rate converter serves. -/
def Dev.convMaster (d : Dev) (n : Nat) : Bool := d.isMaster n && n != d.refPort

/-- R134: the port uses a rate converter. -/
def Dev.usesConv (d : Dev) (n : Nat) : Bool := d.txSlave n || (d.portRx n && d.group n != d.refPort)

def Dev.conv1 (d : Dev) (n : Nat) : ConvSt := vat d.conv n
def Dev.port1 (d : Dev) (n : Nat) : PortSt := vat d.port n

/-! ### Registers that TDM ports and AES3 receivers share -/

def fdAccept (n : Nat) : Fld := if n < 4 then Fd.TDMn_STATUS_ACCEPT n else Fd.AESn_STATUS_ACCEPT (n - 4)
def fdClean (n : Nat) : Fld := if n < 4 then Fd.TDMn_STATUS_CLEAN n else Fd.AESn_STATUS_CLEAN (n - 4)
def fdPeriod (n : Nat) : Fld := if n < 4 then Fd.TDMn_PERIOD_PERIOD n else Fd.AESn_PERIOD_PERIOD (n - 4)
def fdTol (n : Nat) : Fld := if n < 4 then Fd.TDMn_CLKMON_TOL n else Fd.AESn_CLKMON_TOL (n - 4)
def fdLoss (n : Nat) : Fld := if n < 4 then Fd.TDMn_ERR_CNT_LOSS n else Fd.AESn_ERR_CNT_LOSS (n - 4)
def fdEvtLoss (n : Nat) : Fld := if n < 4 then Fd.TDMn_EVT_LOSS n else Fd.AESn_EVT_LOSS (n - 4)
def fdEvtLock (n : Nat) : Fld := if n < 4 then Fd.TDMn_EVT_LOCK n else Fd.AESn_EVT_LOCK (n - 4)
def fdUnder (n : Nat) : Fld := if n < 4 then Fd.ALIGN_UNDER0_CNT n else Fd.ALIGN_UNDER1_CNT (n - 4)

/-- The receiver is accepted (R117, R129). -/
def Dev.accepted (d : Dev) (n : Nat) : Bool := d.bit (fdAccept n)

/-- Set a receive FIFO; TDMn_STATUS.FILL shows its fill (R119). -/
def Dev.setFifo (d : Dev) (n : Nat) (l : List AFrame) : Dev :=
  let d := d.modPort n (fun p => { p with fifo := l })
  if n < 4 then d.put (Fd.TDMn_STATUS_FILL n) l.length else d

/-- R119: a read finds the FIFO empty. -/
def Dev.underflow (d : Dev) (n : Nat) : Dev :=
  if n < 4 then (d.bump (Fd.TDMn_FIFO_CNT_UNDERFLOW n)).evt (Fd.TDMn_EVT_FIFO n) else d

/-! ### The grid of a group (R135) -/

/-- Quarter-ticks of a source frame as the group's ratio predicts it, as a fraction: numerator and denominator. -/
def Dev.framePeriod (d : Dev) (g : Nat) : Int × Nat :=
  if g == d.refPort then ((4 * d.srcPeriod g : Nat), 1) else ((4 * d.period : Nat) * 2 ^ 28, (d.conv1 g).rho.toNat)

/-- The number that the predicted grid gives a timestamp. -/
def Dev.predictNum (d : Dev) (g ts : Nat) : Int := match (d.conv1 g).grid with
  | [] => 0
  | (m, t) :: _ =>
    let (a, b) := d.framePeriod g
    m + rdiv (((ts : Int) - t) * b) a.toNat

/-- grid(m) of R140: the timestamp of master frame m, or its predicted time. -/
def Dev.gridTime (d : Dev) (g : Nat) (m : Int) : Int :=
  let l := (d.conv1 g).grid
  match l.find? (fun x => x.1 = m), l with
  | some x, _ => x.2
  | none, [] => 0
  | none, (m0, t0) :: _ =>
    let (a, b) := d.framePeriod g
    t0 + rdiv ((m - m0) * a) b

/-- The number of a member frame: that of the master frame within half a frame of it, or the predicted one. Of two master
frames at exactly half a frame, the newer gives its number (log entry 79). -/
def Dev.memberNum (d : Dev) (g ts : Nat) : Int :=
  match (d.conv1 g).grid.find? (fun x => decide ((((ts : Int) - x.2).natAbs) ≤ 2 * d.srcPeriod g)) with
  | some x => x.1
  | none => d.predictNum g ts

/-- A frame of an accepted master begins at `qt`: it takes its number. -/
def Dev.gridPush (d : Dev) (n qt : Nat) : Dev :=
  let num := if (d.conv1 n).nextNum < 0 then d.predictNum n qt else (d.conv1 n).nextNum
  d.modConv n (fun c => { c with grid := ((num, qt) :: c.grid).take 400, nextNum := num + 1 })

/-- The group's current read number (R135, R145). -/
def Dev.readNumber (d : Dev) (g : Nat) : Option Int :=
  if g == d.refPort then d.align.readNum
  else if (d.conv1 g).acq then some ((d.conv1 g).pos / 2 ^ 28) else none

/-- R119, R135: a delivered frame reaches the FIFO of its port. -/
def Dev.deliver (d : Dev) (n ts : Nat) (ch : List Int) : Dev :=
  let g := d.group n
  let c := d.conv1 g
  let num := if n == g then ((c.grid.head?).map (·.1)).getD 0 else d.memberNum g ts
  let d := if n == g then d.modConv n (fun c => { c with gridOn := true }) else d
  let old := match d.readNumber g with
    | some r => decide (num < r)
    | none => false
  if (n != g && !c.gridOn) || old then d
  else if 16 ≤ (d.port1 n).fifo.length then
    if n < 4 then (d.bump (Fd.TDMn_FIFO_CNT_OVERFLOW n)).evt (Fd.TDMn_EVT_FIFO n) else d
  else d.setFifo n ((d.port1 n).fifo ++ [{ num := num, ts := ts, ch := ch }])

/-! ### Underrun and re-entry (R145) -/

/-- N of R145. -/
def Dev.fadeN (d : Dev) : Nat := 24576 / d.period

/-- The factor of a fade of N steps after i of them, U1.15 (R145, R148). -/
def fadeGain (n i : Nat) : Int := (32768 * i / n : Nat)

def scaleList (g : Int) (l : List Int) : List Int := l.map (fun x => rsh (x * g) 15)

/-- One read of a member: the frame it needs, if present. The flag says that an underrun begins. A member of a converter's group
fades from the converter's last output (log entry 79). -/
def ConvSt.read (c : ConvSt) (n : Nat) (x : Option (List Int)) : ConvSt × Bool :=
  match x with
  | none =>
    match c.under with
    | .fadeOut i =>
      if i < n then ({ c with under := .fadeOut (i + 1), lastOut := scaleList (fadeGain n (n - (i + 1))) c.fadeBase }, false)
      else ({ c with under := .silent, lastOut := [] }, false)
    | .silent => ({ c with lastOut := [] }, false)
    | _ => ({ c with under := .fadeOut 1, fadeBase := c.lastOut, lastOut := scaleList (fadeGain n (n - 1)) c.lastOut }, true)
  | some v =>
    match c.under with
    | .playing => ({ c with lastOut := v }, false)
    | .fadeIn i =>
      if i + 1 < n then ({ c with under := .fadeIn (i + 1), lastOut := scaleList (fadeGain n (i + 1)) v }, false)
      else ({ c with under := .playing, lastOut := v }, false)
    | _ => ({ c with under := .fadeIn 1, lastOut := scaleList (fadeGain n 1) v }, false)

/-- A member is read; its channels stand in `lastOut`. -/
def Dev.readMember (d : Dev) (n : Nat) (x : Option (List Int)) : Dev :=
  let (c, under) := (d.conv1 n).read d.fadeN x
  let d := d.modConv n (fun _ => c)
  if under then (d.bump (fdUnder n)).evt Fd.ROUTE_EVT_UNDERRUN else d

/-! ### The reference group (R137 to R139) -/

/-- R137, R138: the reads at program sample boundary s. -/
def Dev.readReference (d : Dev) (s : Nat) : Dev :=
  let ref := d.refPort
  if 5 < ref then d
  else
    let target := d.fld Fd.ALIGN_CFG_TARGET
    let now := match d.align.readNum with
      | some r => some r
      | none => if d.accepted ref && decide (target ≤ (d.port1 ref).fifo.length) then some 0 else none
    match now with
    | none => d
    | some r =>
      let d := (ports6.filter (fun n => d.portRx n && d.group n == ref)).foldl (fun d n =>
        let l := (d.port1 n).fifo.dropWhile (fun f => f.num < r)
        let d := if l.isEmpty then d.underflow n else d
        match l with
        | f :: t =>
          if f.num = r then
            let d := (d.setFifo n t).readMember n (some f.ch)
            let d := if n == ref then
                { d with align := { d.align with eSum := d.align.eSum + (4 * (s : Int) - f.ts) - (4 * d.period * target : Nat) } }
              else d
            d.modConv n (fun c => { c with out := c.lastOut })
          else
            let d := (d.setFifo n l).readMember n none
            let d := if n == ref then { d with align := { d.align with missed := true } } else d
            d.modConv n (fun c => { c with out := c.lastOut })
        | [] =>
          let d := (d.setFifo n []).readMember n none
          let d := if n == ref then { d with align := { d.align with missed := true } } else d
          d.modConv n (fun c => { c with out := c.lastOut })) d
      { d with align := { d.align with readNum := some (r + 1) } }

/-- R139: the reference is no longer locked. -/
def Dev.refUnlock (d : Dev) : Dev :=
  let d := { d with align := { d.align with goodRun := 0 } }
  if d.bit Fd.ALIGN_STATUS_REF_LOCK then (d.putB Fd.ALIGN_STATUS_REF_LOCK false).evt Fd.ROUTE_EVT_REF_UNLOCK else d

/-- R138, R139: the steering loop at a Rack frame start. With REF = 7 nothing changes and HOLD stays 0; KP and KI count as
unsigned (log entry 79). -/
def Dev.steerFrame (d : Dev) : Dev :=
  if 5 < d.refPort then d
  else
    let a := d.align
    let d := { d with align := { a with eSum := 0, missed := false } }
    if !(d.accepted d.refPort) || a.missed then
      ({ d with align := { d.align with goodRun := 0 } } : Dev).putB Fd.ALIGN_STATUS_HOLD true
    else
      let lim : Int := d.fld Fd.CLK_STEER_LIM_LIM
      let e := rsh a.eSum (Nat.log2 (65536 / d.period))
      let i := clampI (-lim) lim (a.i + rsh ((d.fld Fd.ALIGN_GAIN_KI : Int) * e) 8)
      let req := clampI (-lim) lim (i + rsh ((d.fld Fd.ALIGN_GAIN_KP : Int) * e) 4)
      let win := d.fld Fd.ALIGN_CFG_LOCK_WIN
      let run := if e.natAbs ≤ win then a.goodRun + 1 else 0
      let d := { d with align := { d.align with i := i, req := req, goodRun := run } }
      let d := ((d.putB Fd.ALIGN_STATUS_HOLD false).putI Fd.ALIGN_STATUS_ERR (sat 24 e)).putI Fd.ALIGN_REQ_REQ req
      if 4 * win < e.natAbs then d.refUnlock
      else if 16 ≤ run && !(d.bit Fd.ALIGN_STATUS_REF_LOCK) then
        (d.putB Fd.ALIGN_STATUS_REF_LOCK true).evt Fd.ROUTE_EVT_REF_LOCK
      else d

/-! ### Rate converters (R140 to R144) -/

/-- Source period and output period, in ticks, of the converter of port n (R141, R144). -/
def Dev.convRates (d : Dev) (n : Nat) : Nat × Nat :=
  if d.txSlave n then (d.period, d.srcPeriod n) else (d.srcPeriod n, d.period)

/-- R141: the coefficients for the fraction f of a position. -/
def asrcCoefs (src out f : Nat) : List Int :=
  let (num, den, taps) := if src < out then (out, src, 64 * out / src) else (1, 1, 64)
  let φ := bits f 20 8
  let w : Int := bits f 4 16
  (upTo taps).map (fun j => rsh (asrcTap num den taps φ j * (65536 - w) + asrcTap num den taps (φ + 1) j * w) 16)

/-- R141: the output of every channel at a position, from the frames of `hist`; a frame that is absent counts as zero. -/
def asrcOutput (coefs : List Int) (hist : List (Int × List Int)) (m : Int) (chans : Nat) : List Int :=
  let lo := m - ((coefs.length : Int) - 1)
  let use := (hist.filter (fun x => lo ≤ x.1 && x.1 ≤ m)).map (fun x => (lat coefs (x.1 - lo).toNat, x.2))
  (upTo chans).map (fun ch => sat23 (rsh (use.foldl (fun acc x => acc + x.1 * lat x.2 ch) 0) 23))

/-- The registers that show a converter's ratio, position and state. -/
def Dev.showConv (d : Dev) (n : Nat) : Dev :=
  let c := d.conv1 n
  let d := (d.putI (Fd.ASRCn_RATIO_RATIO n) c.rho).putI (Fd.ASRCn_POS_POS n) (c.pos / 2 ^ 28)
  ((d.putB (Fd.ASRCn_STATUS_LOCK n) c.lock).putB (Fd.ASRCn_STATUS_MUTE n) (!c.lock && c.fade == 0)).putB
    (Fd.ASRCn_STATUS_HOLD n) c.hold.isSome

/-- R140, R144: a converter acquires, its position in U32.28 (R9: a number below LAT gives position 0); `newest` is the number of the newest source frame. -/
def Dev.acquire (d : Dev) (n : Nat) (newest : Int) : Dev :=
  let per := d.fld (fdPeriod n)
  let rho := if d.txSlave n then satU 32 (rdiv (per * 2 ^ 28 : Nat) (256 * d.period))
    else satU 32 (rdiv (256 * d.period * 2 ^ 28 : Nat) per)
  (d.modConv n (fun c =>
    { c with acq := true, rho := rho, rhoI := rho, pos := satU 60 ((newest - (d.fld Fd.ASRC_CFG_LAT : Int)) * 2 ^ 28)
             eSum := 0, eN := 0, lockRun := 0, hold := none })).showConv n

/-- R142: a converter unlocks: its channels fade out, and it waits for the next accepting run. -/
def Dev.convUnlock (d : Dev) (n : Nat) : Dev :=
  let was := (d.conv1 n).lock
  ((d.modConv n (fun c => { c with lock := false, acq := false, lockRun := 0, hold := none })).evtIf was
    Fd.ROUTE_EVT_ASRC_UNLOCK).showConv n

/-- R140, R142: a converter at a Rack frame start. A held converter keeps its ratio (R143). KP and KI count as unsigned
(log entry 79). -/
def Dev.convFrame (d : Dev) (n : Nat) : Dev :=
  let c := d.conv1 n
  let d := d.modConv n (fun c => { c with eSum := 0, eN := 0, hold := c.hold.map (· + 1) })
  if !c.acq || c.hold.isSome || c.eN == 0 then d
  else
    let e := rdiv c.eSum c.eN
    let rhoI := satU 32 (c.rhoI + rsh ((d.fld Fd.ASRC_GAIN_KI : Int) * e) 12)
    let rho := satU 32 (rhoI + rsh ((d.fld Fd.ASRC_GAIN_KP : Int) * e) 4)
    let win := d.fld Fd.ASRC_CFG_LOCK_WIN
    let run := if e.natAbs ≤ win then c.lockRun + 1 else 0
    let d := (d.modConv n (fun c => { c with rhoI := rhoI, rho := rho, lockRun := run })).putI (Fd.ASRCn_STATUS_ERR n) (sat 24 e)
    if c.lock && decide (4 * win < e.natAbs) then d.convUnlock n
    else if !c.lock && decide (16 ≤ run) then
      ((d.modConv n (fun c => { c with lock := true })).evt Fd.ROUTE_EVT_ASRC_LOCK).showConv n
    else d.showConv n

/-- The next step of the fade of R142 over `n` samples. -/
def ConvSt.fadeStep (c : ConvSt) (n : Nat) : Nat := if c.lock then min n (c.fade + 1) else c.fade - 1

/-- R140: a converter moves to its next position, taken at quarter-tick `at4`, and notes its error. -/
def Dev.convAdvance (d : Dev) (n at4 : Nat) : Dev :=
  let c := d.conv1 n
  let pos := satU 60 (c.pos + c.rho)
  let m := pos / 2 ^ 28
  let (src, _) := d.convRates n
  let grid : Int := if d.txSlave n then 4 * (d.period : Int) * m else d.gridTime n m
  let e := (at4 : Int) - grid - (4 * d.fld Fd.ASRC_CFG_LAT * src : Nat)
  d.modConv n (fun c =>
    if c.acq && c.hold.isNone then { c with pos := pos, eSum := c.eSum + e, eN := c.eN + 1 } else { c with pos := pos })

/-- Channels of a port. -/
def chansOf (n : Nat) : Nat := if n < 4 then 32 else 2

/-- R406: the memory of the converters' histories, and the words of sample number `num` of port n there (log entry 78). -/
def memConv : Nat := 24
def Dev.histWrite (d : Dev) (n : Nat) (num : Int) : Dev :=
  let lo := 2048 * n + chansOf n * num.toNat % 2048
  d.eccWriteRange memConv lo (lo + chansOf n)

/-- R141, R145: one member of the group of converter g at position m with coefficients `coefs`. -/
def Dev.convMember (d : Dev) (n : Nat) (coefs : List Int) (m : Int) (gain : Int) : Dev :=
  let l := (d.port1 n).fifo
  let due := l.filter (fun f => f.num ≤ m)
  let d := d.modConv n (fun c => { c with hist := (due.foldl (fun h f => (f.num, f.ch) :: h) c.hist).take coefs.length })
  let d := due.foldl (fun d f => d.histWrite n f.num) d
  let d := d.setFifo n (l.filter (fun f => m < f.num))
  let c := d.conv1 n
  let here := c.hist.any (fun x => x.1 = m)
  let d := if !here && (d.port1 n).fifo.isEmpty then d.underflow n else d
  let d := d.readMember n (if here then some (asrcOutput coefs c.hist m (chansOf n)) else none)
  d.modConv n (fun c => { c with out := scaleList gain c.lastOut })

/-- R140 to R145: the converter of group master g at program sample boundary s. -/
def Dev.convBoundary (d : Dev) (g s : Nat) : Dev :=
  let c := d.conv1 g
  let members := ports6.filter (fun n => d.portRx n && d.group n == g)
  if !c.acq && c.fade == 0 then d.each members (fun d n => d.modConv n (fun c => { c with out := [] }))
  else
    let d := d.convAdvance g (4 * s)
    let pos := (d.conv1 g).pos
    let (src, out) := d.convRates g
    let coefs := asrcCoefs src out (pos % 2 ^ 28).toNat
    let fade := c.fadeStep d.fadeN
    let gain := fadeGain d.fadeN fade
    let d := d.each members (fun d n => d.convMember n coefs (pos / 2 ^ 28) gain)
    (d.modConv g (fun c => { c with fade := fade })).showConv g

/-- R144: the converter of a slave transmit port at a frame sync at quarter-tick qt: the sources of the port's frame. -/
def Dev.convSync (d : Dev) (n qt : Nat) : Dev :=
  let c := d.conv1 n
  if !c.acq && c.fade == 0 then d.modConv n (fun c => { c with out := [] })
  else
    let d := d.convAdvance n qt
    let pos := (d.conv1 n).pos
    let (src, out) := d.convRates n
    let steps := 24576 / out
    let fade := c.fadeStep steps
    let y := asrcOutput (asrcCoefs src out (pos % 2 ^ 28).toNat) c.hist (pos / 2 ^ 28) 33
    (d.modConv n (fun c => { c with fade := fade, out := scaleList (fadeGain steps fade) y })).showConv n

/-! ### Acceptance and loss of a port, for its group (R135, R140, R143) -/

/-- The port has completed an accepting run at quarter-tick qt. -/
def Dev.groupAccept (d : Dev) (n qt : Nat) : Dev :=
  let c := d.conv1 n
  if d.txSlave n then (if c.acq || c.fade != 0 then d else d.acquire n ((qt / 4 / d.period : Nat) : Int))
  else if d.convMaster n then
    if c.hold.isSome then (d.modConv n (fun c => { c with hold := none })).showConv n
    else if c.acq || c.fade != 0 then d
    else d.acquire n (max 0 c.nextNum)
  else d

/-- The group begins its numbers afresh. Frames that members hold keep the numbers they have (log entry 79). -/
def Dev.gridClear (d : Dev) (n : Nat) : Dev := d.modConv n (fun c => { c with grid := [], gridOn := false, nextNum := 0 })

/-- The port has lost acceptance; the frame in progress is discarded. -/
def Dev.groupLoss (d : Dev) (n : Nat) : Dev :=
  let c := d.conv1 n
  if d.txSlave n then (d.modConv n (fun c => { c with fade := 0, out := [] })).convUnlock n
  else if d.isMaster n then
    -- the sync of a frame 0 that is discarded still dates the predicted grid
    let d := d.modConv n (fun c => { c with grid := if c.gridOn then c.grid.drop 1 else c.grid, nextNum := -1 })
    if n == d.refPort then
      let d := if d.align.readNum.isNone then d.gridClear n else d
      d.refUnlock
    else if c.acq then (d.modConv n (fun c => { c with hold := some 0 })).showConv n
    else d.gridClear n
  else d

/-- ASRC_HOLD_TIMEOUT (R143): the master has not come back in time. -/
def execAsrcHoldTimeout (n : Fin 6) (s : State) : Host.Outcome State Fault Refusal :=
  onDev s (fun _ d => match (d.conv1 n.val).hold with
    | some h => if d.fld Fd.ASRC_CFG_HOLD ≤ h then (d.convUnlock n.val).gridClear n.val else d
    | none => d)

end Sys2Proof.Machine
end

