-- ==== Sys2Proof/Machine/Companion.lean ====
section
/-! DEFINITION. The cell companion (spec file 11) and its end of the cell link (spec file 10). Times are ns on the
companion's own time base. Switches are numbered AH 0, AL 1, BH 2, BL 3. -/
namespace Sys2Proof.Machine

/-! ### Switch sets and state codes (R249, R290) -/

def SwSet.get (w : SwSet) (i : Nat) : Bool :=
  if i == 0 then w.ah else if i == 1 then w.al else if i == 2 then w.bh else w.bl

def SwSet.set (w : SwSet) (i : Nat) (b : Bool) : SwSet :=
  if i == 0 then { w with ah := b } else if i == 1 then { w with al := b }
  else if i == 2 then { w with bh := b } else { w with bl := b }

/-- R273: the switches of state codes 0 to 3; 4 is a zero bypass in ZL (R285); any other code is all off. -/
def SwSet.ofState (code : Nat) : SwSet :=
  if code == 0 || code == 4 then ⟨false, true, false, true⟩
  else if code == 1 then ⟨true, false, true, false⟩
  else if code == 2 then ⟨true, false, false, true⟩
  else if code == 3 then ⟨false, true, true, false⟩
  else ⟨false, false, false, false⟩

/-- The state code of a switch set: 0 to 3, or 7 for any other combination (R290). -/
def SwSet.state (w : SwSet) : Nat :=
  if w == .ofState 0 then 0 else if w == .ofState 1 then 1 else if w == .ofState 2 then 2
  else if w == .ofState 3 then 3 else 7

/-- The other switch of the same leg. -/
def partner (i : Nat) : Nat := if i % 2 == 0 then i + 1 else i - 1

/-- A switch by its number. -/
def switchIx : Switch → Nat
  | .ah => 0
  | .al => 1
  | .bh => 2
  | .bl => 3

def legIx : Leg → Nat
  | .a => 0
  | .b => 1

/-! ### Configuration words (R293) -/

def Comp.cc (c : Comp) (n : Nat) : Nat := vat c.ccfg n
/-- R273: dead time. -/
def Comp.tDT (c : Comp) : Nat := 20 + 10 * bits (c.cc 0) 12 4
/-- R278: blanking time. -/
def Comp.tBL (c : Comp) : Nat := 100 * (bits (c.cc 0) 8 3 + 1)
/-- R279: limit hold. -/
def Comp.tOff (c : Comp) : Nat := 100 * (bits (c.cc 3) 4 3 + 1)
def Comp.rlyAll (c : Comp) : Bool := tbit (c.cc 3) 7

/-- R293: a CCFG word is answered with ERR when it sets a reserved bit or holds an invalid value. -/
def ccfgOk (classH : Bool) (n v : Nat) : Bool :=
  if n == 0 then !(tbit v 11) && !(tbit v 7) && decide (8 ≤ bits v 0 7)
  else if n == 1 then classH || (bits v 0 2 == 0 && decide (bits v 10 6 ≤ 32) && decide (bits v 4 6 ≤ 32))
  else if n == 2 then
    decide (bits v 8 8 ≤ (if classH then 0xDC else 0xA0)) && decide (bits v 0 8 < bits v 8 8) && bits v 0 8 != 0
  else bits v 0 4 == 0 && decide (0xBE ≤ bits v 8 8) && decide (bits v 8 8 ≤ 0xE5)

/-! ### Conditions and latched codes (R282 to R285) -/

/-- A reported condition becomes present or stops being present (R283). -/
def Comp.cond (c : Comp) (n : Nat) (b : Bool) : Comp :=
  { c with present := putBit c.present n b, seen := if b then putBit c.seen n true else c.seen }

/-- R270: the gates may be driven. -/
def Comp.gatesOk (c : Comp) : Bool := c.en && c.vccOk && c.vddOk

/-- R275, R276: the current in mA that turns switch i on, or off: by CCFG1 in class H, by its strength code in class L. -/
def Comp.driveCurrent (c : Comp) (i : Nat) (on : Bool) : Nat :=
  if c.classH then 250 * (bits (c.cc 1) (if i % 2 == 0 then (if on then 12 else 8) else (if on then 4 else 0)) 4 + 1)
  else 200 + 150 * vat c.strength (2 * i + b2n (!on))

/-- Turn one switch off, softly with 0.5 A where a trip of R280 does so. A blanking time that runs goes on (R278). -/
def Comp.turnOff (c : Comp) (soft : Bool) (t i : Nat) : Comp :=
  if c.on.get i then
    { c with on := c.on.set i false, offAt := vset c.offAt i t, softAt := vset c.softAt i (if soft then some t else none)
             gate := vset c.gate i (if soft then 500 else c.driveCurrent i false) }
  else c

/-- Turn every switch off and cancel what was to turn on. -/
def Comp.allOff (c : Comp) (soft : Bool) (t : Nat) : Comp :=
  let c1 := [0, 1, 2, 3].foldl (fun c i => c.turnOff soft t i) c
  { c1 with inc := Vector.replicate 4 none, nextDue := none, limit := none }

/-- R284: codes 0x10 to 0x17 bypass by relay. -/
def relayCode (code : Nat) : Bool := decide (0x10 ≤ code) && decide (code < 0x18)

/-- R283, R284: latch a code. The first stays in FAULT; a later one takes its protective action only. `trip` marks the
codes of R280, which turn the switches off softly, and even when merged. -/
def Comp.latch (c : Comp) (t code : Nat) (trip : Bool) : Comp :=
  match c.fault with
  | none =>
    let c1 := { c.allOff trip t with fault := some code, latchAt := t }
    if relayCode code then { c1 with byp := true, zero := false, holdoff := none }
    else { c1 with byp := c.byp || c.rlyAll, zero := false, holdoff := some (t + 1000) }
  | some _ =>
    if relayCode code then { c.allOff trip t with byp := true, zero := false, holdoff := none }
    else if trip && (c.zero || c.holdoff.isSome) then
      { c.allOff true t with zero := false, holdoff := some (t + 1000) }
    else c

/-- R282: the zero form of a latched code. -/
def zeroForm (code : Nat) : Nat := if code == 0x18 || code == 0x1A then 1 else 0

/-! ### Turning switches on (R272, R273, R278) -/

/-- R272: a high-side switch whose bootstrap has passed its threshold and fallen again may not turn on. -/
def Comp.bootFault (c : Comp) (l : List Nat) : Bool :=
  l.any (fun i => i % 2 == 0 && vat c.bootPassed (i / 2) && !(vat c.bootOk (i / 2)))

/-- Turn one switch on, with fresh blanking (R278). -/
def Comp.turnOn (c : Comp) (t i : Nat) : Comp :=
  { c with
    on := c.on.set i true
    inc := vset c.inc i none
    gate := vset c.gate i (c.driveCurrent i true)
    softAt := vset c.softAt i none
    blank := vset c.blank i (some (t + c.tBL))
    legIn := vset c.legIn (i / 2) (some (i, t)) }

/-- Turn several switches on together; a failed bootstrap latches 0x1F instead (R272). -/
def Comp.turnOnAll (c : Comp) (t : Nat) (l : List Nat) : Comp :=
  if l.isEmpty then c
  else if !c.gatesOk then { c with inc := l.foldl (fun v i => vset v i none) c.inc }
  else if c.bootFault l then c.latch t 0x1F false
  else l.foldl (fun c i => c.turnOn t i) c

/-- R273: change to a switch set, leg by leg; a leg in which no switch was on turns on without a dead time. -/
def Comp.change (c : Comp) (t : Nat) (w : SwSet) : Comp :=
  if !c.gatesOk then c
  else
    let outgoing := [0, 1, 2, 3].filter (fun i => c.on.get i && !(w.get i))
    let incoming := [0, 1, 2, 3].filter (fun i => w.get i && !(c.on.get i))
    let late := incoming.filter (fun i => outgoing.contains (partner i))
    let now := incoming.filter (fun i => !(outgoing.contains (partner i)))
    let c0 := outgoing.foldl (fun c i => { c.turnOff false t i with
      legOut := vset c.legOut (i / 2) (some i), legIn := vset c.legIn (i / 2) none, legAt := vset c.legAt (i / 2) t }) c
    let c1 := now.foldl (fun c i => { c with legOut := vset c.legOut (i / 2) none, legAt := vset c.legAt (i / 2) t }) c0
    let c2 := { c1 with inc := late.foldl (fun v i => vset v i (some (t + c.tDT))) c1.inc }
    c2.turnOnAll t now

/-- R272: the set applied for a state code: a leg whose high switch has no charged bootstrap takes its low switch. -/
def Comp.target (c : Comp) (code : Nat) : SwSet × Bool :=
  let w := SwSet.ofState code
  let a := w.ah && !(vat c.bootPassed 0)
  let b := w.bh && !(vat c.bootPassed 1)
  let w1 : SwSet := if a then { w with ah := false, al := true } else w
  let w2 : SwSet := if b then { w1 with bh := false, bl := true } else w1
  (w2, a || b)

/-- R279: the zero form a limited cycle goes back to. -/
def Comp.noteBack (c : Comp) (w : SwSet) : Comp :=
  if (w.state == 2 || w.state == 3) && w != c.on then
    { c with back := if c.on.state == 1 then 1 else 0 }
  else c

/-- Apply a state code now (R272, R273); the under-voltage latch is armed by states 0 to 3 (R286). -/
def Comp.applyNow (c : Comp) (t code : Nat) : Comp :=
  let (w, sub) := c.target code
  let c1 := (c.noteBack w).cond 7 sub
  { c1 with uvArmed := c1.uvArmed || decide (code ≤ 3) }.change t w

/-- A leg is inside its dead time (R274). -/
def Comp.inDead (c : Comp) : Bool := [0, 1, 2, 3].any (fun i => (vat c.inc i).isSome)

/-- R274: a state that becomes due inside a dead time waits for its end; only the latest is applied. -/
def Comp.due (c : Comp) (t code : Nat) : Comp :=
  if c.inDead then { c with nextDue := some code } else c.applyNow t code

/-- Commands act: no latched code and no BYP command since reset (R280, R285). -/
def Comp.listens (c : Comp) : Bool := c.en && c.fault.isNone && !c.bypCmd

/-- A commanded state (R252, R279, R285). -/
def Comp.command (c : Comp) (t code seq : Nat) : Comp :=
  let same := code == c.cmd && (code == 2 || code == 3)
  let c1 := { c with cmd := code, seq := seq }
  if c1.limit.isSome && same then c1
  else
    let c2 := { c1 with limit := none, bypCmd := c1.bypCmd || code == 4, byp := c1.byp || (code == 4 && c1.rlyAll) }
    c2.due t code

/-! ### Downstream frames (R252, R261) -/

/-- Any valid downstream frame: it restarts the timeout of R267 and counts towards training. -/
def Comp.heard (c : Comp) (t : Nat) : Comp := { c with lastValid := t, validRun := min 16 (c.validRun + 1) }

/-- R253, R261: a poll is answered once 16 consecutive valid frames have been received. -/
def Comp.polled (c : Comp) (isPoll : Bool) : Comp :=
  if isPoll && c.validRun == 16 then { c with poll := true, tx := [] } else c

/-- A discarded frame (R252). -/
def Comp.badFrame (c : Comp) : Comp :=
  if !c.en then c
  else { c with derr := true, validRun := if c.validRun < 16 then 0 else 16 }

/-- R252: a valid command or idle frame with command byte `cb`; states 5 and 6 are code errors (R249). -/
def Comp.frame (c : Comp) (t : Nat) (cb : Nat) : Comp :=
  let state := bits cb 3 3
  let seq := bits cb 0 3
  if !c.en then c
  else if state == 5 || state == 6 then c.badFrame
  else
    let c1 := c.heard t
    let c2 :=
      if c1.mode == .pin || !c1.listens then c1
      else if tbit cb 6 then c1.command t state seq
      else if seq != c1.seq then { c1.command t state seq with rsync := true }
      else c1
    c2.polled (tbit cb 7)

/-- R252: a valid command frame. -/
def execCommandFrame (c : Fin 56) (t : Nat) (cb : Byte) (s : State) : Host.Outcome State Fault Refusal :=
  onComp s c (fun x => if tbit cb.toNat 6 then x.frame t cb.toNat else x)

/-- R252: a valid idle frame. -/
def execIdleFrame (c : Fin 56) (t : Nat) (cb : Byte) (s : State) : Host.Outcome State Fault Refusal :=
  onComp s c (fun x => if tbit cb.toNat 6 then x else x.frame t cb.toNat)

/-- R252: a frame with a code, disparity or CRC8 error is discarded; its time does not matter. -/
def execBadDownstreamFrame (c : Fin 56) (_t : Nat) (s : State) : Host.Outcome State Fault Refusal :=
  onComp s c Comp.badFrame

/-! ### Reset and supplies (R270, R271) -/

/-- R271: the reset of a companion. The conditions of its supply, temperature and bus stay as they are measured (R282, R283). -/
def Comp.resetNow (c : Comp) (t : Nat) : Comp :=
  { c with
    mode := .manage, validRun := 0, ccfg := ccfgReset c.classH
    cmd := 7, seq := 0, derr := false, rsync := false, fseq := 0
    inc := Vector.replicate 4 none, nextDue := none, limit := none, back := 0
    softAt := Vector.replicate 4 none, blank := Vector.replicate 4 none, blankOver := Vector.replicate 4 none, tripAt := Vector.replicate 2 none
    bypCmd := false, byp := c.byp && c.fault.isSome
    strength := Vector.replicate 8 16, limRun := Vector.replicate 8 0
    legOut := Vector.replicate 2 none, legIn := Vector.replicate 2 none
    uvArmed := false
    bootPassed := c.bootOk, ilock := [], lastValid := t, poll := false, resp := none, tx := []
    present := c.present &&& 0x3C, seen := c.present &&& 0x3C }

/-- R271: the latched code is cleared, and with it BYP. -/
def Comp.clearFault (c : Comp) : Comp := { c with fault := none, holdoff := none, zero := false, byp := false }

/-- R284: the zero form of the latched code is on whenever the gates may be driven. -/
def Comp.holdZero (c : Comp) (t : Nat) : Comp :=
  match c.fault with
  | some f =>
    if c.zero then
      let w := SwSet.ofState (zeroForm f)
      c.turnOnAll t ([0, 1, 2, 3].filter (fun i => w.get i && !(c.on.get i)))
    else c
  | none => c

/-- R271: EN has been low for `low` ns: below 0.3 µs that is ignored, from 0.5 µs on the filter has passed it, and between the
two it may or may not have (log entry 13). -/
def Comp.enLow (c : Comp) (ix t low : Nat) : Comp :=
  if !c.en || decide (low < 300) then c
  else
    let c1 := if low < 500 then { c with free := c.free + 1 } else c
    if decide (500 ≤ low) || Config.enWindow (c.free * 56 + ix) then { c1.allOff false t with en := false, poll := false, resp := none }
    else c1

/-- R271: EN rises after `low` ns; one that the filter has not passed changes nothing. Lows of 0.3 to 0.5 µs may or may not reset, and lows of 1.5 to 2.0 µs may or may not
clear a latched code: the outcome is free (log entry 13). -/
def Comp.enHigh (c : Comp) (ix t low : Nat) (classH : Bool) : Comp :=
  if c.en then c
  else
    let free := Config.enWindow (c.free * 56 + ix)
    let doReset := decide (500 ≤ low) || free
    let doClear := decide (2000 ≤ low) || (decide (1500 < low) && free)
    let c1 := { c with en := true, classH := classH, free := c.free + 1 }
    let c2 := if doClear then c1.clearFault else c1
    let c3 := if doReset then c2.resetNow t else c2
    c3.holdZero t

/-- R271: EN has fallen and is low. -/
def execEnFall (c : Fin 56) (p : LowPulse) (s : State) : Host.Outcome State Fault Refusal :=
  onComp s c (fun x => x.enLow c p.t p.lowNs)

/-- R271: EN has risen after `lowNs` ns. -/
def execEnRise (c : Fin 56) (t lowNs : Nat) (classH : Bool) (s : State) : Host.Outcome State Fault Refusal :=
  onComp s c (fun x => x.enHigh c t lowNs classH)

/-- R270: VDD3 is above its power-good threshold, or is not: the gates are then held off (log entry 81). -/
def Comp.vdd (c : Comp) (t : Nat) (ok : Bool) : Comp :=
  if ok then { c with vddOk := true }.holdZero t else { c.allOff false t with vddOk := false }

/-- R270: VCC crosses its lockout; a rise while the companion runs latches 0x12. -/
def Comp.vcc (c : Comp) (t : Nat) (rising : Bool) : Comp :=
  if rising then
    if c.vccOk then c
    else
      let c1 := { c with vccOk := true }.cond 5 c.vccLow
      if c1.en then c1.latch t 0x12 false else c1
  else { c.allOff false t with vccOk := false }.cond 5 false

/-- R270. -/
def execVccUvlo (c : Fin 56) (t : Nat) (rails : Rails) (s : State) : Host.Outcome State Fault Refusal :=
  onComp s c (fun x => (x.vcc t rails.rising).vdd t rails.vdd)

/-- R282: VCC is below 10.5 V and above its lockout. The time of the crossing does not matter. -/
def execVccWarn (c : Fin 56) (_t : Nat) (below : Bool) (s : State) : Host.Outcome State Fault Refusal :=
  onComp s c (fun x => { x with vccLow := below }.cond 5 (below && x.vccOk))

/-- R282: oscillator or self-check failure latches 0x15. -/
def execOscillatorOrSelfCheckFailure (c : Fin 56) (t : Nat) (s : State) : Host.Outcome State Fault Refusal :=
  onComp s c (fun x => x.latch t 0x15 false)

/-- R272: a bootstrap crosses its lockout: a rise ends the substitution, a fall under a conducting high switch latches 0x1F. -/
def Comp.boot (c : Comp) (t l : Nat) (rising : Bool) : Comp :=
  if rising then
    let c1 := { c with bootOk := vset c.bootOk l true, bootPassed := vset c.bootPassed l true }
    if tbit c.present 7 && !(c1.target c1.cmd).2 then
      if c1.listens && c1.limit.isNone then c1.due t c1.cmd else c1.cond 7 false
    else c1
  else
    let c1 := { c with bootOk := vset c.bootOk l false }
    if vat c.bootPassed l && c.on.get (2 * l) then c1.latch t 0x1F false else c1

/-- R272. -/
def execBootstrapThreshold (c : Fin 56) (t : Nat) (leg : Leg) (rising : Bool) (s : State) :
    Host.Outcome State Fault Refusal :=
  onComp s c (fun x => x.boot t (legIx leg) rising)

/-! ### Pin mode (R288, R289) -/

/-- R289: a leg with both inputs high is held off. -/
def pinWant (w : SwSet) (i : Nat) : Bool := w.get i && !(w.get (partner i))

/-- R276: the time in which the last change of leg l is measured has passed at t: t_DT + 100 ns. -/
def Comp.legOver (c : Comp) (l t : Nat) : Bool := decide (vat c.legAt l + c.tDT + 100 < t)

/-- R288: each gate follows its input; an input turns its switch on no sooner than the dead time after its partner
began to turn off. -/
def Comp.applyPins (c : Comp) (t : Nat) : Comp :=
  let w : SwSet := ⟨pinWant c.pins 0, pinWant c.pins 1, pinWant c.pins 2, pinWant c.pins 3⟩
  let c0 := c.noteBack w
  let c1 := [0, 1, 2, 3].foldl (fun c i =>
    if w.get i then c
    else if c.on.get i then { c.turnOff false t i with
      inc := vset c.inc i none, legOut := vset c.legOut (i / 2) (some i), legIn := vset c.legIn (i / 2) none
      legAt := vset c.legAt (i / 2) t }
    else { c with inc := vset c.inc i none }) c0
  let rising := [0, 1, 2, 3].filter (fun i => w.get i && !(c1.on.get i))
  let (late, now) := rising.partition (fun i => decide (t < vat c1.offAt (partner i) + c1.tDT))
  let c2 := { c1 with inc := late.foldl (fun v i => vset v i (some (vat c1.offAt (partner i) + c1.tDT))) c1.inc }
  let c2 := now.foldl (fun c i =>
    if c.legOver (i / 2) t then { c with legOut := vset c.legOut (i / 2) none, legAt := vset c.legAt (i / 2) t } else c) c2
  let c3 := c2.turnOnAll t now
  { c3 with uvArmed := c3.uvArmed || decide (w.state ≤ 3) }

/-- R289: each rising of a both-high condition is an interlock event; the third within 10 ms latches 0x14. The window ends
between 9.5 and 10.5 ms (R295): whether an event of that age counts is free (log entry 14). -/
def Comp.interlock (c : Comp) (ix t : Nat) : Comp :=
  let l := c.ilock.filter (fun x => decide (t < x + 10500000))
  let sure := l.filter (fun x => decide (t < x + 9500000))
  let old := decide (sure.length < l.length)
  let n := if old && Config.companionChoice ix c.free % 2 == 0 then l.length else sure.length
  let c1 := { c with ilock := l ++ [t], seen := putBit c.seen 1 true, free := if old then c.free + 1 else c.free }
  if 2 ≤ n then c1.latch t 0x14 false else c1

/-- R288, R289: the IN pins change. -/
def Comp.pinChange (c : Comp) (ix t : Nat) (w : SwSet) : Comp :=
  let old := c.pins
  let c1 := { c with pins := w }
  if c.mode != .pin || !c.en then c1
  else
    let c2 := if w.ah && w.al && !(old.ah && old.al) then c1.interlock ix t else c1
    let c3 := if w.bh && w.bl && !(old.bh && old.bl) then c2.interlock ix t else c2
    if c3.fault.isSome || !c3.gatesOk then c3 else { c3 with limit := none }.applyPins t

/-- R288. -/
def execInPinChange (c : Fin 56) (t : Nat) (ah al bh bl : Bool) (s : State) : Host.Outcome State Fault Refusal :=
  onComp s c (fun x => x.pinChange c t ⟨ah, al, bh, bl⟩)

/-! ### Dead times, blanking and limiting (R274, R278, R279) -/

/-- R274: a dead time ends, within its error of 5 ns + 5 % (R295): incoming switches turn on, then a state due since. -/
def Comp.deadEnd (c : Comp) (t : Nat) : Comp :=
  let ready := [0, 1, 2, 3].filter (fun i =>
    match vat c.inc i with
    | some d => decide (d ≤ t + 5 + c.tDT / 20)
    | none => false)
  let c1 := c.turnOnAll t ready
  if c1.inDead then c1
  else
    match c1.nextDue with
    | none => c1
    | some code =>
      let c2 := { c1 with nextDue := none }
      if c2.fault.isSome then c2
      else if c2.mode == .pin then c2.applyPins t
      else c2.applyNow t code

/-- R274. -/
def execDeadTimeEnd (c : Fin 56) (t : Nat) (s : State) : Host.Outcome State Fault Refusal :=
  onComp s c (fun x => x.deadEnd t)

/-- R278: a blanking time ends, within its error of 10 % (R295). -/
def Comp.blankEnd (c : Comp) (i t : Nat) : Comp :=
  match vat c.blank i with
  | some e =>
    if e ≤ t + c.tBL / 10 then { c with blank := vset c.blank i none, blankOver := vset c.blankOver i (some t) } else c
  | none => c

/-- R278. -/
def execBlankingEnd (c : Fin 56) (sw : Switch) (t : Nat) (s : State) : Host.Outcome State Fault Refusal :=
  onComp s c (fun x => x.blankEnd (switchIx sw) t)

/-- Switch `i` is in its blanking time at `t`: it has not ended, and its longest time (R295) has not passed. -/
def Comp.inBlank (c : Comp) (i t : Nat) : Bool :=
  match vat c.blank i with
  | some e => decide (t ≤ e + c.tBL / 10)
  | none => false

/-- The switches in their blanking time (R278). -/
def Comp.blanking (c : Comp) (t : Nat) : List Nat := [0, 1, 2, 3].filter (fun i => c.inBlank i t)

/-- The end of the last blanking of switch `i`, once over. -/
def Comp.blankedTo (c : Comp) (i : Nat) : Option Nat :=
  match vat c.blank i with
  | some e => some e
  | none => vat c.blankOver i

/-- R277, R294: a comparator on V_CS with threshold k mV × OCTH may trip at `mv`: its error is the given mV and 5 %. -/
def Comp.overCurrent (c : Comp) (k err mv : Nat) : Bool := decide (95 * (k * bits (c.cc 0) 0 7) < 100 * (mv + err))

/-- R277, R279: OC trips in P or N outside blanking: back to a zero form for t_OFF. The hold runs from the trip (log entry 31). -/
def Comp.oc (c : Comp) (t mv : Nat) : Comp :=
  let st := c.on.state
  if c.overCurrent 4 3 mv && (st == 2 || st == 3) && (c.blanking t).isEmpty && c.fault.isNone && c.limit.isNone && c.gatesOk && !c.inDead then
    let c1 := c.change t (SwSet.ofState c.back)
    { c1 with limit := if c1.fault.isSome then none else some (t + c.tOff), limcnt := (c.limcnt + 1) % 16 }
  else c

/-- R279. -/
def execOcTrip (c : Fin 56) (v : TripLevel) (s : State) : Host.Outcome State Fault Refusal :=
  onComp s c (fun x => x.oc v.t v.mv)

/-- R279: the hold ends and the commanded state is applied again. -/
def Comp.holdEnd (c : Comp) (t : Nat) : Comp :=
  match c.limit with
  | some e =>
    if e ≤ t then
      let c1 := { c with limit := none }
      if c1.mode == .pin then (if c1.inDead then { c1 with nextDue := some 7 } else c1.applyPins t)
      else c1.due t c1.cmd
    else c
  | none => c

/-- R279. -/
def execLimitHoldEnd (c : Fin 56) (t : Nat) (s : State) : Host.Outcome State Fault Refusal :=
  onComp s c (fun x => x.holdEnd t)

/-! ### Trips that latch (R280, R281) -/

/-- A trip in the other leg within 200 ns (R281). -/
def Comp.otherLegTrip (c : Comp) (l t : Nat) : Bool :=
  match vat c.tripAt (1 - l) with
  | some u => decide (t ≤ u + 200)
  | none => false

/-- R281: the code of a latching trip of the leg `l`; `susp` is the switch it is attributed to, if any. -/
def tripCode (c : Comp) (susp : Option Nat) (l t : Nat) : Nat :=
  match susp with
  | some i => 0x18 + partner i
  | none => if c.otherLegTrip l t then 0x10 else 0x11

/-- R277: the desaturation comparator of switch `i` can trip: its input is above the least threshold of R294, and the switch is
on, or is being turned off softly, which ends within 300 ns (R280). -/
def Comp.desatActs (c : Comp) (i t mv : Nat) : Bool :=
  decide (6500 < mv) && (c.on.get i || (match vat c.softAt i with
    | some u => decide (t ≤ u + 300)
    | none => false))

/-- R281: the trip whose code stands in FAULT was an unattributed one in leg `l`, within 200 ns. -/
def Comp.firstOfTwo (c : Comp) (l t : Nat) : Bool :=
  c.fault == some 0x11 && c.otherLegTrip (1 - l) t && vat c.tripAt l == some c.latchAt

/-- R280, R281: the desaturation comparator of switch `i` trips. An unattributed trip in the other leg within 200 ns of the one
that latched makes the two a two-leg fault. -/
def Comp.desat (c : Comp) (i t mv : Nat) : Comp :=
  if !(c.desatActs i t mv) || c.inBlank i t then c
  else
    let near := match c.blankedTo i with
      | some e => decide (t ≤ e + 200)
      | none => false
    let code := tripCode c (if near then some i else none) (i / 2) t
    let c1 := if !near && c.firstOfTwo (1 - i / 2) t then { c with fault := some 0x10 } else c
    { c1.latch t code true with tripAt := vset c.tripAt (i / 2) (some t) }

/-- R280. -/
def execDesatTrip (c : Fin 56) (sw : Switch) (v : TripLevel) (s : State) : Host.Outcome State Fault Refusal :=
  onComp s c (fun x => x.desat (switchIx sw) v.t v.mv)

/-- R277, R280, R281: OC2 trips; it is attributed when one switch alone is in blanking. -/
def Comp.oc2 (c : Comp) (t mv : Nat) : Comp :=
  if !(c.overCurrent 8 5 mv) then c
  else match c.blanking t with
    | [i] => { c.latch t (0x18 + partner i) true with tripAt := vset c.tripAt (i / 2) (some t) }
    | _ => c.latch t 0x11 true

/-- R280. -/
def execOc2Trip (c : Fin 56) (v : TripLevel) (s : State) : Host.Outcome State Fault Refusal :=
  onComp s c (fun x => x.oc2 v.t v.mv)

/-- R284: the zero form turns on 1.0 µs after the latch, within 50 ns (R295). -/
def Comp.holdoffEnd (c : Comp) (t : Nat) : Comp :=
  match c.holdoff with
  | some h => if h ≤ t + 50 then { c with holdoff := none, zero := true }.holdZero t else c
  | none => c

/-- R284. -/
def execZeroBypassHoldoffEnd (c : Fin 56) (t : Nat) (s : State) : Host.Outcome State Fault Refusal :=
  onComp s c (fun x => x.holdoffEnd t)

/-- R267: no valid downstream frame for 1.2 µs or more. -/
def execLinkLossTimeout (c : Fin 56) (t : Nat) (s : State) : Host.Outcome State Fault Refusal :=
  onComp s c (fun x => if x.en && decide (x.lastValid + 1200 ≤ t) then x.latch t 0x1E false else x)

/-! ### Adaptive drive (R276) -/

/-- R276: one update of a strength code from a measured time. `i` is 2·switch, plus 1 for its OFF code. -/
def Comp.adapt (c : Comp) (i meas : Nat) : Comp :=
  let cc1 := c.cc 1
  let target := 8 + (if i % 2 == 0 then bits cc1 10 6 else bits cc1 4 6)
  let tol := bits cc1 2 2 + 1
  let code := vat c.strength i
  let slow := decide (target + tol < meas)
  let quick := decide (meas + tol < target)
  let code1 := if slow then min (code + 1) 31 else if quick then code - 1 else code
  let run := if (code == 31 && slow) || (code == 0 && quick) then vat c.limRun i + 1 else 0
  let c1 := { c with strength := vset c.strength i code1, limRun := vset c.limRun i run }
  c1.cond 6 ([0, 1, 2, 3, 4, 5, 6, 7].any (fun j => decide (16 ≤ vat c1.limRun j)))

/-- R276: a transition from `a` to `b`, in quarter-nanoseconds; one that ends after t_DT + 100 ns is not measured. Its length is measured to 1 ns; whether a part is rounded
up, and what a transition that straddles the incoming turn-on counts for, the companion chooses (log entry 14). -/
def Comp.transition (c : Comp) (ix l a b : Nat) : Comp :=
  if c.classH then c
  else if c.legOver l (b / 4) then { c with legOut := vset c.legOut l none, legIn := vset c.legIn l none }
  else
    let pick := Config.companionChoice ix c.free
    let c0 := { c with free := c.free + 1, legOut := vset c.legOut l none, legIn := vset c.legIn l none }
    let meas := (b - a) / 4 + (if (b - a) % 4 == 0 then 0 else pick % 2)
    match vat c.legOut l, vat c.legIn l with
    | some o, none => c0.adapt (2 * o + 1) meas
    | none, some (i, _) => c0.adapt (2 * i) meas
    | some o, some (i, t) =>
      if b ≤ 4 * t then c0.adapt (2 * o + 1) meas
      else if 4 * t ≤ a then c0.adapt (2 * i) meas
      else if pick / 2 % 3 == 0 then c0.adapt (2 * o + 1) meas
      else if pick / 2 % 3 == 1 then c0.adapt (2 * i) meas
      else c0
    | none, none => c

/-- R276. -/
def execSwitchTransitionMeasured (c : Fin 56) (leg : Leg) (tStart tEnd : Nat) (s : State) :
    Host.Outcome State Fault Refusal :=
  onComp s c (fun x => x.transition c (legIx leg) tStart tEnd)

/-! ### Bus voltage and temperature (R286, R287) -/

/-- The length of a run after one more sample. -/
def runOf (c : Bool) (n : Nat) : Nat := if c then n + 1 else 0

/-- R286: one conversion of the bus; VOV and VUV count 0.5 V, 16 codes each. -/
def Comp.convert (c : Comp) (t code : Nat) : Comp :=
  let vov := 16 * bits (c.cc 2) 8 8
  let vuv := 16 * bits (c.cc 2) 0 8
  let ov := runOf (decide (vov ≤ code)) c.ovRun
  let uv := runOf (decide (code ≤ vuv)) c.uvRun
  let hi := runOf (decide (vov ≤ code + 128)) c.hiRun
  let lo := runOf (decide (code ≤ vuv + 128)) c.loRun
  let c1 := { c with vbus := code, ovRun := min ov 64, uvRun := min uv 64, hiRun := min hi 64, loRun := min lo 64 }
  let c2 := (c1.cond 3 (decide (8 ≤ hi))).cond 4 (decide (64 ≤ lo))
  let c3 := if 8 ≤ ov then c2.latch t 0x1C false else c2
  if 64 ≤ uv && c3.uvArmed then c3.latch t 0x1D false else c3

/-- R286. -/
def execVbusConversion (c : Fin 56) (t : Nat) (code : BitVec 12) (s : State) : Host.Outcome State Fault Refusal :=
  onComp s c (fun x => x.convert t code.toNat)

/-- R287: the die temperature is measured. -/
def Comp.measureTemp (c : Comp) (t code : Nat) : Comp :=
  let tsd := bits (c.cc 3) 8 8
  let c1 := { c with temp := code }.cond 2 (decide (tsd ≤ code + 15))
  if tsd ≤ code then c1.latch t 0x13 false else c1

/-- R287. -/
def execTempMeasurement (c : Fin 56) (t : Nat) (code : BitVec 8) (s : State) : Host.Outcome State Fault Refusal :=
  onComp s c (fun x => x.measureTemp t code.toNat)

/-! ### Upstream frames (R253 to R255, R263) -/

/-- R290: the state reported. -/
def Comp.state (c : Comp) : Nat :=
  if (c.zero && c.fault.isSome && c.on.state ≤ 1) || (c.bypCmd && c.on.state == 0) then 4 else c.on.state

/-- R283: the FAULT field: the latched code, or the lowest-numbered condition present since the last upstream frame. -/
def Comp.faultField (c : Comp) : Nat :=
  match c.fault with
  | some f => f
  | none => ([1, 2, 3, 4, 5, 6, 7].find? (fun n => tbit c.seen n || tbit c.present n)).getD 0

/-- R254: bytes 0 to 4 of a telemetry frame. -/
def Comp.telemetry (c : Comp) : List Nat :=
  [c.vbus % 256, c.limcnt * 16 + c.vbus / 256 % 16, c.temp, c.faultField * 8 + c.seq,
   c.state * 32 + c.fseq * 4 + b2n c.derr * 2 + b2n c.rsync]

/-- An upstream frame leaves: flags since the last upstream frame start afresh. -/
def Comp.send (c : Comp) (mgmt : Bool) (bytes : List Nat) : Comp :=
  let r := encFrame mgmt c.rd (bytes ++ hiLo (crc16 bytes))
  { c with tx := r.1, rd := r.2, derr := false, rsync := false, seen := c.present }

/-- R246: the first n bits of the upstream lane from the start of the latest frame: its fill comes while VDD3 is good (log entry 82). -/
def Comp.txPad (c : Comp) (n : Nat) : List Bool := laneBits c.vddOk c.tx n

/-- R254: the answer to a poll. -/
def execTelemetryFrameSend (c : Fin 56) (_t : Nat) (s : State) : Host.Outcome State Fault Refusal :=
  onComp s c (fun x =>
    if x.en && x.poll then { x.send false x.telemetry with poll := false, fseq := (x.fseq + 1) % 8 } else x)

/-- R263: the answer to a management frame. -/
def execMgmtResponseSend (c : Fin 56) (_t : Nat) (s : State) : Host.Outcome State Fault Refusal :=
  onComp s c (fun x =>
    match x.resp with
    | some (rctl, maddr, md0, md1) =>
      if x.en then { x.send true [rctl, maddr, md0, md1, 0] with resp := none } else x
    | none => x)

/-! ### Management frames (R263, R264, R288, R293) -/

/-- Management frames reach the registers between training and the write of OPER (R264). -/
def Comp.manages (c : Comp) : Bool := c.en && c.mode == .manage && c.validRun == 16

/-- R263: the response prepared for a management frame. -/
def Comp.answer (c : Comp) (wr err : Bool) (tag addr v : Nat) : Comp :=
  { c with resp := some (b2n wr * 128 + b2n err * 64 + tag % 16, addr % 256, v % 256, v / 256 % 256), tx := [] }

/-- R293: the value of a register, or none at an address the companion does not implement. -/
def Comp.mgmtReg (c : Comp) (addr : Nat) : Option Nat :=
  if addr == 0x00 then some 0x0160
  else if addr == 0x01 then some (c.dieRev * 256 + c.maxProfile)
  else if addr == 0x02 then some (b2n c.classH)
  else if addr == 0x10 then some (c.cc 0) else if addr == 0x11 then some (c.cc 1)
  else if addr == 0x12 then some (c.cc 2) else if addr == 0x13 then some (c.cc 3)
  else if addr == 0x1F then some 0
  else none

/-- R263, R293: a management read. The data of an answer with ERR is not stated: a free value (log entry 15). -/
def Comp.mgmtRead (c : Comp) (t tag addr : Nat) : Comp :=
  let c1 := if c.en then c.heard t else c
  if !c1.manages then c1
  else match c1.mgmtReg addr with
    | some v => c1.answer false false tag addr v
    | none => c1.answer false true tag addr (ux 16 (Config.openValue 1 addr))

/-- R263. -/
def execMgmtRead (c : Fin 56) (t : Nat) (tag : Nat) (addr : Nat) (s : State) : Host.Outcome State Fault Refusal :=
  onComp s c (fun x => x.mgmtRead t tag addr)

/-- R264, R288, R293: a management write. -/
def Comp.mgmtWrite (c : Comp) (t tag addr v : Nat) : Comp :=
  let c1 := if c.en then c.heard t else c
  if !c1.manages then c1
  else if 0x10 ≤ addr && addr ≤ 0x13 && ccfgOk c1.classH (addr - 0x10) v then
    { c1 with ccfg := vset c1.ccfg (addr - 0x10) v }.answer true false tag addr v
  else if addr == 0x1F && v == 1 then { c1 with mode := .operation }.answer true false tag addr v
  else if addr == 0x1F && v == 2 then (let c2 := { c1.answer true false tag addr v with mode := .pin }
    if c2.fault.isSome then c2 else c2.applyPins t)
  else c1.answer true true tag addr v

/-- R293. -/
def execMgmtWriteCcfg (c : Fin 56) (t : Nat) (tag : Nat) (addr : Nat) (v : BitVec 16) (s : State) :
    Host.Outcome State Fault Refusal :=
  onComp s c (fun x => x.mgmtWrite t tag addr v.toNat)

/-- R264: OPER is written with 0x0001. -/
def execOperEnterOperation (c : Fin 56) (t : Nat) (tag : Nat) (s : State) : Host.Outcome State Fault Refusal :=
  onComp s c (fun x => x.mgmtWrite t tag 0x1F 1)

/-- R288: OPER is written with 0x0002. -/
def execOperEnterPinMode (c : Fin 56) (t : Nat) (tag : Nat) (s : State) : Host.Outcome State Fault Refusal :=
  onComp s c (fun x => x.mgmtWrite t tag 0x1F 2)

end Sys2Proof.Machine
end

