-- ==== Sys2Proof/Machine/Crypto.lean ====
section
/-! DEFINITION. The cryptographic checks that the spec names by their standards: SHA-256 (R91, R93, R397), HMAC-SHA-256
(R398) and ECDSA on curve P-256 (R93). Bytes are naturals below 256, numbers big-endian as in SEC 1 (R80). -/
namespace Sys2Proof.Machine

/-! ### SHA-256 (FIPS 180-4) -/

/-- The round constants. -/
def shaK : List Nat :=
  [0x428A2F98, 0x71374491, 0xB5C0FBCF, 0xE9B5DBA5, 0x3956C25B, 0x59F111F1, 0x923F82A4, 0xAB1C5ED5,
   0xD807AA98, 0x12835B01, 0x243185BE, 0x550C7DC3, 0x72BE5D74, 0x80DEB1FE, 0x9BDC06A7, 0xC19BF174,
   0xE49B69C1, 0xEFBE4786, 0x0FC19DC6, 0x240CA1CC, 0x2DE92C6F, 0x4A7484AA, 0x5CB0A9DC, 0x76F988DA,
   0x983E5152, 0xA831C66D, 0xB00327C8, 0xBF597FC7, 0xC6E00BF3, 0xD5A79147, 0x06CA6351, 0x14292967,
   0x27B70A85, 0x2E1B2138, 0x4D2C6DFC, 0x53380D13, 0x650A7354, 0x766A0ABB, 0x81C2C92E, 0x92722C85,
   0xA2BFE8A1, 0xA81A664B, 0xC24B8B70, 0xC76C51A3, 0xD192E819, 0xD6990624, 0xF40E3585, 0x106AA070,
   0x19A4C116, 0x1E376C08, 0x2748774C, 0x34B0BCB5, 0x391C0CB3, 0x4ED8AA4A, 0x5B9CCA4F, 0x682E6FF3,
   0x748F82EE, 0x78A5636F, 0x84C87814, 0x8CC70208, 0x90BEFFFA, 0xA4506CEB, 0xBEF9A3F7, 0xC67178F2]

/-- The initial hash value. -/
def shaH0 : List Nat :=
  [0x6A09E667, 0xBB67AE85, 0x3C6EF372, 0xA54FF53A, 0x510E527F, 0x9B05688C, 0x1F83D9AB, 0x5BE0CD19]

def rotr (x n : Nat) : Nat := (x / 2 ^ n + x * 2 ^ (32 - n)) % 2 ^ 32

/-- A big-endian number from its bytes. -/
def beNat (l : List Nat) : Nat := l.foldl (fun a b => a * 256 + b) 0

/-- The low `n` bytes of a number, most significant first. -/
def natBe : Nat → Nat → List Nat
  | 0, _ => []
  | n + 1, v => (v / 256 ^ n % 256) :: natBe n v

/-- Words 16 to 63 of the message schedule; `w` holds the words so far, newest first. -/
def shaSchedule : Nat → List Nat → List Nat
  | 0, w => w
  | n + 1, w =>
    let x2 := w.getD 1 0
    let x15 := w.getD 14 0
    let s0 := (rotr x15 7 ^^^ rotr x15 18) ^^^ (x15 / 2 ^ 3)
    let s1 := (rotr x2 17 ^^^ rotr x2 19) ^^^ (x2 / 2 ^ 10)
    shaSchedule n (((w.getD 15 0 + s0 + w.getD 6 0 + s1) % 2 ^ 32) :: w)

/-- One round: the eight working variables, a round constant and a schedule word. -/
def shaRound (v : List Nat) (kw : Nat × Nat) : List Nat :=
  let a := v.getD 0 0
  let b := v.getD 1 0
  let c := v.getD 2 0
  let d := v.getD 3 0
  let e := v.getD 4 0
  let f := v.getD 5 0
  let g := v.getD 6 0
  let h := v.getD 7 0
  let s1 := (rotr e 6 ^^^ rotr e 11) ^^^ rotr e 25
  let ch := (e &&& f) ^^^ ((2 ^ 32 - 1 - e) &&& g)
  let t1 := h + s1 + ch + kw.1 + kw.2
  let s0 := (rotr a 2 ^^^ rotr a 13) ^^^ rotr a 22
  let mj := ((a &&& b) ^^^ (a &&& c)) ^^^ (b &&& c)
  [(t1 + s0 + mj) % 2 ^ 32, a, b, c, (d + t1) % 2 ^ 32, e, f, g]

/-- The 16 big-endian words of a block. -/
def blockWords : Nat → List Nat → List Nat
  | 0, _ => []
  | n + 1, l => beNat (l.take 4) :: blockWords n (l.drop 4)

/-- Compress one block of 64 bytes. -/
def shaBlock (h : List Nat) (block : List Nat) : List Nat :=
  let w := (shaSchedule 48 (blockWords 16 block).reverse).reverse
  let v := (shaK.zip w).foldl shaRound h
  List.zipWith (fun x y => (x + y) % 2 ^ 32) h v

/-- Compress the blocks of a padded message. -/
def shaBlocks : Nat → List Nat → List Nat → List Nat
  | 0, h, _ => h
  | n + 1, h, l => shaBlocks n (shaBlock h (l.take 64)) (l.drop 64)

/-- SHA-256 of some bytes: 32 bytes. -/
def sha256 (msg : List Nat) : List Nat :=
  let n := msg.length
  let pad := (119 - n % 64) % 64
  let m := msg ++ [0x80] ++ List.replicate pad 0 ++ natBe 8 (8 * n)
  (shaBlocks ((n + 9 + pad) / 64) shaH0 m).flatMap (natBe 4)

/-- HMAC-SHA-256 with a key of at most 64 bytes. -/
def hmac (key msg : List Nat) : List Nat :=
  let k := key ++ List.replicate (64 - key.length) 0
  sha256 (k.map (· ^^^ 0x5C) ++ sha256 (k.map (· ^^^ 0x36) ++ msg))

/-! ### ECDSA on P-256 (SEC 1, FIPS 186) -/

def p256p : Nat := 0xFFFFFFFF00000001000000000000000000000000FFFFFFFFFFFFFFFFFFFFFFFF
def p256n : Nat := 0xFFFFFFFF00000000FFFFFFFFFFFFFFFFBCE6FAADA7179E84F3B9CAC2FC632551
def p256b : Nat := 0x5AC635D8AA3A93E7B3EBBD55769886BC651D06B0CC53B0F63BCE3C3E27D2604B
def p256gx : Nat := 0x6B17D1F2E12C4247F8BCE6E563A440F277037D812DEB33A0F4A13945D898C296
def p256gy : Nat := 0x4FE342E2FE1A7F9B8EE7EB4A7C0F9E162BCE33576B315ECECBB6406837BF51F5

/-- a^e mod m, over the low `fuel` bits of e. -/
def powMod (m : Nat) : Nat → Nat → Nat → Nat
  | 0, _, _ => 1 % m
  | fuel + 1, a, e =>
    let r := powMod m fuel (a * a % m) (e / 2)
    if e % 2 == 1 then r * a % m else r

/-- The inverse modulo a prime of 256 bits. -/
def invMod (m a : Nat) : Nat := powMod m 256 (a % m) (m - 2)

/-- A point in Jacobian coordinates; z = 0 is the point at infinity. -/
structure EcPoint where
  x : Nat
  y : Nat
  z : Nat
  deriving DecidableEq, Repr

def EcPoint.inf : EcPoint := { x := 1, y := 1, z := 0 }

/-- Difference modulo p. -/
def subP (a b : Nat) : Nat := (a + p256p - b % p256p) % p256p

/-- Twice a point, on a curve with a = -3. -/
def EcPoint.double (q : EcPoint) : EcPoint :=
  if q.z == 0 || q.y == 0 then .inf
  else
    let p := p256p
    let yy := q.y * q.y % p
    let s := 4 * q.x * yy % p
    let zz := q.z * q.z % p
    let m := 3 * (subP q.x zz * ((q.x + zz) % p)) % p
    let x := subP (m * m) (2 * s)
    { x := x, y := subP (m * subP s x) (8 * (yy * yy)), z := 2 * q.y * q.z % p }

/-- The sum of two points. -/
def EcPoint.add (a b : EcPoint) : EcPoint :=
  if a.z == 0 then b
  else if b.z == 0 then a
  else
    let p := p256p
    let za := a.z * a.z % p
    let zb := b.z * b.z % p
    let u1 := a.x * zb % p
    let u2 := b.x * za % p
    let s1 := a.y * (zb * b.z % p) % p
    let s2 := b.y * (za * a.z % p) % p
    if u1 == u2 then (if s1 == s2 then a.double else .inf)
    else
      let h := subP u2 u1
      let r := subP s2 s1
      let hh := h * h % p
      let hhh := hh * h % p
      let v := u1 * hh % p
      let x := subP (subP (r * r) hhh) (2 * v)
      { x := x, y := subP (r * subP v x) (s1 * hhh), z := h * (a.z * b.z % p) % p }

/-- The low `fuel` bits of k times a point. -/
def EcPoint.mul : Nat → Nat → EcPoint → EcPoint
  | 0, _, _ => .inf
  | fuel + 1, k, q =>
    let r := EcPoint.mul fuel (k / 2) q.double
    if k % 2 == 1 then r.add q else r

/-- The affine x of a point other than infinity. -/
def EcPoint.affineX (q : EcPoint) : Nat :=
  let zi := invMod p256p q.z
  q.x * (zi * zi % p256p) % p256p

/-- R93: the signature (r, s) over a digest verifies under the public key (x, y). -/
def ecdsaVerify (digest : List Nat) (x y r s : Nat) : Bool :=
  let n := p256n
  let onCurve := decide (x < p256p) && decide (y < p256p) &&
    y * y % p256p == (x * x % p256p * x + p256b + 3 * (p256p - x)) % p256p
  if onCurve && decide (1 ≤ r) && decide (r < n) && decide (1 ≤ s) && decide (s < n) then
    let e := beNat digest
    let w := invMod n s
    let g : EcPoint := { x := p256gx, y := p256gy, z := 1 }
    let q : EcPoint := { x := x, y := y, z := 1 }
    let pt := (EcPoint.mul 256 (e * w % n) g).add (EcPoint.mul 256 (r * w % n) q)
    pt.z != 0 && pt.affineX % n == r
  else false

end Sys2Proof.Machine
end

