-- ==== Sys2Proof/Machine/ImgFields.lean ====
section
/-! DEFINITION. The fields that an image loads, block by block: the place of each, and the values that its description
admits (R86). A field with no stated range admits every value it can hold (log entry 43). -/
namespace Sys2Proof.Machine

/-- One image field of a block: the offset and index ranges of its register as in `RegRow`, its lowest bit, its width
and the ranges (low, high, step) of its valid values; an empty list admits every value. -/
structure ImgField where
  off : Nat
  n1 : Nat
  s1 : Nat
  n2 : Nat
  s2 : Nat
  lo : Nat
  w : Nat
  ok : List (Nat × Nat × Nat)
  deriving DecidableEq, Repr

/-- The field lies in the register at offset `o` of its block. -/
def ImgField.holds (r : ImgField) (o : Nat) : Bool :=
  if o < r.off then false
  else
    let q := o - r.off
    if r.s1 == 0 then q == 0
    else if r.s2 == 0 then q % r.s1 == 0 && q / r.s1 < r.n1
    else q / r.s1 < r.n1 && (q % r.s1) % r.s2 == 0 && (q % r.s1) / r.s2 < r.n2

/-- R86: the value of a field in a word is valid by itself. -/
def ImgField.valid (f : ImgField) (word : Nat) : Bool :=
  let v := bits word f.lo f.w
  f.ok.isEmpty || f.ok.any (fun r => decide (r.1 ≤ v) && decide (v ≤ r.2.1) && (v - r.1) % r.2.2 == 0)

def sysFields0 : List ImgField :=
  [ ⟨0x18, 1, 0, 1, 0, 16, 16, [(1, 0xFFFF, 1)]⟩,
    ⟨0x18, 1, 0, 1, 0, 8, 8, [(1, 0xFF, 1)]⟩,
    ⟨0x18, 1, 0, 1, 0, 0, 8, [(1, 0xFF, 1)]⟩,
    ⟨0x1C, 1, 0, 1, 0, 16, 16, [(1, 0xFFFF, 1)]⟩,
    ⟨0x1C, 1, 0, 1, 0, 0, 16, []⟩,
    ⟨0x20, 1, 0, 1, 0, 0, 16, []⟩,
    ⟨0x24, 1, 0, 1, 0, 16, 16, []⟩,
    ⟨0x24, 1, 0, 1, 0, 0, 16, []⟩ ]

/-- The image fields of the SYS block. -/
def sysFields : List ImgField :=
  sysFields0

def clkFields0 : List ImgField :=
  [ ⟨8, 1, 0, 1, 0, 0, 23, []⟩,
    ⟨0xC, 1, 0, 1, 0, 0, 12, []⟩ ]

/-- The image fields of the CLK block. -/
def clkFields : List ImgField :=
  clkFields0

def rackFields0 : List ImgField :=
  [ ⟨0x20, 1, 0, 1, 0, 24, 8, []⟩,
    ⟨0x20, 1, 0, 1, 0, 16, 8, []⟩,
    ⟨0x20, 1, 0, 1, 0, 8, 8, []⟩,
    ⟨0x20, 1, 0, 1, 0, 0, 8, []⟩,
    ⟨0x24, 1, 0, 1, 0, 16, 8, []⟩,
    ⟨0x24, 1, 0, 1, 0, 8, 8, []⟩,
    ⟨0x24, 1, 0, 1, 0, 0, 8, []⟩,
    ⟨0x400, 128, 4, 1, 0, 16, 16, []⟩,
    ⟨0x400, 128, 4, 1, 0, 0, 16, []⟩,
    ⟨0x600, 128, 4, 1, 0, 16, 16, []⟩,
    ⟨0x600, 128, 4, 1, 0, 0, 16, []⟩ ]

/-- The image fields of the RACK block. -/
def rackFields : List ImgField :=
  rackFields0

def tdmFields0 : List ImgField :=
  [ ⟨0, 1, 0, 1, 0, 16, 11, [(0, 0, 1), (0x10, 0x400, 1)]⟩,
    ⟨0, 1, 0, 1, 0, 8, 2, [(0, 2, 1)]⟩,
    ⟨0, 1, 0, 1, 0, 6, 1, []⟩,
    ⟨0, 1, 0, 1, 0, 5, 1, []⟩,
    ⟨0, 1, 0, 1, 0, 4, 1, []⟩,
    ⟨0, 1, 0, 1, 0, 3, 1, []⟩,
    ⟨0, 1, 0, 1, 0, 1, 1, []⟩,
    ⟨0, 1, 0, 1, 0, 0, 1, []⟩,
    ⟨4, 1, 0, 1, 0, 16, 6, [(1, 0x20, 1)]⟩,
    ⟨4, 1, 0, 1, 0, 12, 2, []⟩,
    ⟨4, 1, 0, 1, 0, 8, 2, [(0, 2, 1)]⟩,
    ⟨4, 1, 0, 1, 0, 0, 5, []⟩,
    ⟨8, 1, 0, 1, 0, 0, 32, []⟩,
    ⟨0x18, 1, 0, 1, 0, 0, 11, [(0x32, 0x7D0, 1)]⟩,
    ⟨0x100, 32, 4, 1, 0, 5, 3, [(0, 5, 1)]⟩,
    ⟨0x100, 32, 4, 1, 0, 0, 3, []⟩ ]

/-- The image fields of the TDM block. -/
def tdmFields : List ImgField :=
  tdmFields0

def aesFields0 : List ImgField :=
  [ ⟨0, 1, 0, 1, 0, 7, 2, [(0, 2, 1)]⟩,
    ⟨0, 1, 0, 1, 0, 6, 1, []⟩,
    ⟨0, 1, 0, 1, 0, 5, 1, []⟩,
    ⟨0, 1, 0, 1, 0, 4, 1, []⟩,
    ⟨0, 1, 0, 1, 0, 3, 1, []⟩,
    ⟨0, 1, 0, 1, 0, 0, 1, []⟩,
    ⟨8, 1, 0, 1, 0, 0, 11, [(0x32, 0x7D0, 1)]⟩ ]

/-- The image fields of the AES block. -/
def aesFields : List ImgField :=
  aesFields0

def routeFields0 : List ImgField :=
  [ ⟨0, 1, 0, 1, 0, 16, 8, [(1, 0xFF, 1)]⟩,
    ⟨0, 1, 0, 1, 0, 8, 4, [(2, 0xE, 1)]⟩,
    ⟨0, 1, 0, 1, 0, 0, 3, [(0, 5, 1), (7, 7, 1)]⟩,
    ⟨4, 1, 0, 1, 0, 0, 3, [(0, 5, 1)]⟩,
    ⟨4, 1, 0, 1, 0, 3, 3, [(0, 5, 1)]⟩,
    ⟨4, 1, 0, 1, 0, 6, 3, [(0, 5, 1)]⟩,
    ⟨4, 1, 0, 1, 0, 9, 3, [(0, 5, 1)]⟩,
    ⟨4, 1, 0, 1, 0, 12, 3, [(0, 5, 1)]⟩,
    ⟨4, 1, 0, 1, 0, 15, 3, [(0, 5, 1)]⟩,
    ⟨8, 1, 0, 1, 0, 16, 16, []⟩,
    ⟨8, 1, 0, 1, 0, 0, 16, []⟩,
    ⟨0x40, 1, 0, 1, 0, 24, 8, [(1, 0xFF, 1)]⟩,
    ⟨0x40, 1, 0, 1, 0, 16, 8, [(1, 0xFF, 1)]⟩,
    ⟨0x40, 1, 0, 1, 0, 0, 4, [(2, 0xC, 1)]⟩,
    ⟨0x44, 1, 0, 1, 0, 16, 16, []⟩,
    ⟨0x44, 1, 0, 1, 0, 0, 16, []⟩,
    ⟨0x400, 8, 0x10, 4, 4, 16, 8, [(0, 0x84, 1), (0xFF, 0xFF, 1)]⟩,
    ⟨0x400, 8, 0x10, 4, 4, 0, 16, []⟩,
    ⟨0x600, 1, 0, 1, 0, 0, 8, []⟩,
    ⟨0x700, 8, 4, 1, 0, 0, 17, [(0, 0x17700, 1)]⟩ ]

/-- The image fields of the ROUTE, ASRC and ALIGN block. -/
def routeFields : List ImgField :=
  routeFields0

def firFields0 : List ImgField :=
  [ ⟨0, 1, 0, 1, 0, 0, 4, [(4, 0xC, 1)]⟩,
    ⟨0x100, 8, 4, 1, 0, 0, 1, []⟩ ]

/-- The image fields of the FIR block. -/
def firFields : List ImgField :=
  firFields0

def sieveFields0 : List ImgField :=
  [ ⟨0, 1, 0, 1, 0, 4, 2, [(0, 2, 1)]⟩,
    ⟨0, 1, 0, 1, 0, 2, 1, []⟩,
    ⟨0, 1, 0, 1, 0, 0, 2, [(0, 2, 1)]⟩,
    ⟨0x100, 20, 4, 1, 0, 24, 3, [(0, 3, 1)]⟩,
    ⟨0x100, 20, 4, 1, 0, 20, 3, [(0, 3, 1)]⟩,
    ⟨0x100, 20, 4, 1, 0, 16, 4, []⟩,
    ⟨0x100, 20, 4, 1, 0, 8, 5, [(0, 0x18, 1)]⟩,
    ⟨0x100, 20, 4, 1, 0, 0, 4, []⟩,
    ⟨0x200, 20, 8, 1, 0, 16, 16, []⟩,
    ⟨0x200, 20, 8, 1, 0, 0, 16, []⟩,
    ⟨0x204, 20, 8, 1, 0, 25, 1, []⟩,
    ⟨0x204, 20, 8, 1, 0, 24, 1, []⟩,
    ⟨0x204, 20, 8, 1, 0, 16, 5, [(1, 0x10, 1)]⟩,
    ⟨0x204, 20, 8, 1, 0, 0, 15, []⟩ ]

/-- The image fields of the SIEVE block. -/
def sieveFields : List ImgField :=
  sieveFields0

def chFields0 : List ImgField :=
  [ ⟨0x80, 1, 0, 1, 0, 0, 16, []⟩,
    ⟨0x100, 1, 0, 1, 0, 0, 16, []⟩,
    ⟨0x104, 1, 0, 1, 0, 0, 1, []⟩,
    ⟨0x140, 2, 0x20, 1, 0, 16, 16, []⟩,
    ⟨0x140, 2, 0x20, 1, 0, 0, 16, []⟩,
    ⟨0x144, 2, 0x20, 1, 0, 16, 16, []⟩,
    ⟨0x144, 2, 0x20, 1, 0, 0, 16, []⟩,
    ⟨0x148, 2, 0x20, 1, 0, 16, 16, []⟩,
    ⟨0x148, 2, 0x20, 1, 0, 0, 16, []⟩,
    ⟨0x14C, 2, 0x20, 1, 0, 16, 2, [(0, 3, 1)]⟩,
    ⟨0x14C, 2, 0x20, 1, 0, 0, 16, []⟩,
    ⟨0x150, 2, 0x20, 1, 0, 0, 16, [(0, 0x7FFF, 1)]⟩,
    ⟨0x154, 2, 0x20, 1, 0, 0, 16, [(0, 0x7FFF, 1)]⟩,
    ⟨0x180, 1, 0, 1, 0, 16, 16, []⟩,
    ⟨0x180, 1, 0, 1, 0, 0, 16, [(1, 0x7FFF, 1)]⟩,
    ⟨0x184, 1, 0, 1, 0, 0, 6, []⟩,
    ⟨0x188, 1, 0, 1, 0, 0, 16, [(0, 0x7FFF, 1)]⟩,
    ⟨0x200, 1, 0, 1, 0, 31, 1, []⟩,
    ⟨0x200, 1, 0, 1, 0, 30, 1, []⟩,
    ⟨0x200, 1, 0, 1, 0, 16, 4, [(0, 0, 1), (8, 0xF, 1)]⟩,
    ⟨0x200, 1, 0, 1, 0, 0, 8, []⟩,
    ⟨0x204, 1, 0, 1, 0, 16, 16, [(0, 0x7FFF, 1)]⟩,
    ⟨0x204, 1, 0, 1, 0, 0, 16, [(0, 0x8000, 1)]⟩,
    ⟨0x208, 1, 0, 1, 0, 24, 8, [(1, 0xFF, 1)]⟩,
    ⟨0x208, 1, 0, 1, 0, 0, 16, [(0, 0x7FFF, 1)]⟩,
    ⟨0x20C, 1, 0, 1, 0, 16, 16, []⟩,
    ⟨0x20C, 1, 0, 1, 0, 0, 16, [(0x400, 0xFFFF, 1)]⟩,
    ⟨0x210, 1, 0, 1, 0, 16, 4, [(1, 8, 1)]⟩,
    ⟨0x210, 1, 0, 1, 0, 0, 16, [(0, 0x7FFF, 1)]⟩,
    ⟨0x214, 1, 0, 1, 0, 0, 32, [(1, 0x400000, 1)]⟩,
    ⟨0x240, 1, 0, 1, 0, 16, 8, [(0, 0x7F, 1)]⟩,
    ⟨0x240, 1, 0, 1, 0, 8, 8, [(0, 0x3F, 1)]⟩,
    ⟨0x240, 1, 0, 1, 0, 0, 4, [(1, 0xF, 1)]⟩,
    ⟨0x244, 1, 0, 1, 0, 0, 5, [(2, 0x1F, 1)]⟩,
    ⟨0x248, 1, 0, 1, 0, 24, 8, []⟩,
    ⟨0x248, 1, 0, 1, 0, 16, 4, [(0, 8, 1)]⟩,
    ⟨0x248, 1, 0, 1, 0, 8, 3, []⟩,
    ⟨0x248, 1, 0, 1, 0, 0, 4, [(1, 0xF, 1)]⟩,
    ⟨0x24C, 1, 0, 1, 0, 16, 16, []⟩,
    ⟨0x24C, 1, 0, 1, 0, 0, 16, []⟩ ]

def chFields1 : List ImgField :=
  [ ⟨0x250, 1, 0, 1, 0, 16, 16, []⟩,
    ⟨0x250, 1, 0, 1, 0, 0, 16, []⟩,
    ⟨0x254, 1, 0, 1, 0, 0, 2, []⟩,
    ⟨0x258, 1, 0, 1, 0, 16, 16, [(1, 0xFFFF, 1)]⟩,
    ⟨0x258, 1, 0, 1, 0, 0, 8, [(1, 0xFF, 1)]⟩,
    ⟨0x300, 1, 0, 1, 0, 8, 3, [(1, 6, 1)]⟩,
    ⟨0x300, 1, 0, 1, 0, 0, 3, [(1, 6, 1)]⟩,
    ⟨0x304, 1, 0, 1, 0, 16, 16, [(0, 0x7FFF, 1)]⟩,
    ⟨0x304, 1, 0, 1, 0, 0, 12, []⟩,
    ⟨0x308, 1, 0, 1, 0, 24, 4, [(4, 0xC, 1)]⟩,
    ⟨0x308, 1, 0, 1, 0, 0, 17, []⟩,
    ⟨0x30C, 1, 0, 1, 0, 0, 16, []⟩,
    ⟨0x310, 1, 0, 1, 0, 22, 10, [(1, 0x3FF, 1)]⟩,
    ⟨0x310, 1, 0, 1, 0, 12, 4, [(2, 0xF, 1)]⟩,
    ⟨0x310, 1, 0, 1, 0, 0, 8, [(0x20, 0xFF, 1)]⟩,
    ⟨0x314, 1, 0, 1, 0, 0, 16, []⟩,
    ⟨0x510, 1, 0, 1, 0, 20, 4, [(1, 0xF, 1)]⟩,
    ⟨0x510, 1, 0, 1, 0, 8, 8, [(0x35, 0xFF, 1)]⟩,
    ⟨0x510, 1, 0, 1, 0, 1, 1, []⟩,
    ⟨0x510, 1, 0, 1, 0, 0, 1, []⟩,
    ⟨0x514, 1, 0, 1, 0, 16, 16, []⟩,
    ⟨0x514, 1, 0, 1, 0, 0, 4, [(1, 0xF, 1)]⟩,
    ⟨0x518, 1, 0, 1, 0, 16, 16, []⟩,
    ⟨0x518, 1, 0, 1, 0, 0, 16, []⟩,
    ⟨0x51C, 1, 0, 1, 0, 16, 16, []⟩,
    ⟨0x51C, 1, 0, 1, 0, 0, 4, [(1, 0xF, 1)]⟩,
    ⟨0x520, 1, 0, 1, 0, 16, 16, []⟩,
    ⟨0x520, 1, 0, 1, 0, 0, 4, [(1, 0xF, 1)]⟩,
    ⟨0x524, 1, 0, 1, 0, 16, 16, []⟩,
    ⟨0x524, 1, 0, 1, 0, 8, 4, [(4, 0xF, 1)]⟩,
    ⟨0x524, 1, 0, 1, 0, 0, 8, [(1, 0xFF, 1)]⟩,
    ⟨0x528, 1, 0, 1, 0, 16, 16, []⟩,
    ⟨0x528, 1, 0, 1, 0, 0, 16, []⟩,
    ⟨0x52C, 1, 0, 1, 0, 16, 16, []⟩,
    ⟨0x52C, 1, 0, 1, 0, 0, 16, []⟩,
    ⟨0x530, 1, 0, 1, 0, 16, 12, []⟩,
    ⟨0x530, 1, 0, 1, 0, 0, 12, []⟩,
    ⟨0x534, 1, 0, 1, 0, 24, 8, []⟩,
    ⟨0x534, 1, 0, 1, 0, 8, 4, [(1, 0xF, 1)]⟩,
    ⟨0x534, 1, 0, 1, 0, 0, 4, [(1, 0xF, 1)]⟩ ]

def chFields2 : List ImgField :=
  [ ⟨0x538, 1, 0, 1, 0, 16, 16, []⟩,
    ⟨0x538, 1, 0, 1, 0, 0, 16, []⟩,
    ⟨0x53C, 1, 0, 1, 0, 16, 16, [(0, 0x7FFF, 1)]⟩,
    ⟨0x53C, 1, 0, 1, 0, 0, 16, [(2, 0xFFFE, 2)]⟩,
    ⟨0x540, 1, 0, 1, 0, 0, 32, []⟩,
    ⟨0x544, 1, 0, 1, 0, 0, 16, []⟩,
    ⟨0x550, 1, 0, 1, 0, 16, 16, [(1, 0xFFFF, 1)]⟩,
    ⟨0x550, 1, 0, 1, 0, 15, 1, []⟩,
    ⟨0x550, 1, 0, 1, 0, 0, 8, [(1, 0xFF, 1)]⟩,
    ⟨0x554, 1, 0, 1, 0, 16, 16, [(1, 0xFFFF, 1)]⟩,
    ⟨0x554, 1, 0, 1, 0, 15, 1, []⟩,
    ⟨0x554, 1, 0, 1, 0, 0, 8, [(1, 0xFF, 1)]⟩,
    ⟨0x558, 1, 0, 1, 0, 16, 16, [(1, 0xFFFF, 1)]⟩,
    ⟨0x558, 1, 0, 1, 0, 15, 1, []⟩,
    ⟨0x558, 1, 0, 1, 0, 0, 8, [(1, 0xFF, 1)]⟩,
    ⟨0x55C, 1, 0, 1, 0, 16, 16, [(1, 0xFFFF, 1)]⟩,
    ⟨0x55C, 1, 0, 1, 0, 15, 1, []⟩,
    ⟨0x55C, 1, 0, 1, 0, 0, 8, [(1, 0xFF, 1)]⟩,
    ⟨0x560, 1, 0, 1, 0, 16, 16, [(1, 0xFFFF, 1)]⟩,
    ⟨0x560, 1, 0, 1, 0, 15, 1, []⟩,
    ⟨0x560, 1, 0, 1, 0, 0, 8, [(1, 0xFF, 1)]⟩,
    ⟨0x600, 1, 0, 1, 0, 24, 5, [(8, 0x14, 1)]⟩,
    ⟨0x600, 1, 0, 1, 0, 16, 4, [(1, 0xF, 1)]⟩,
    ⟨0x600, 1, 0, 1, 0, 12, 4, [(1, 0xF, 1)]⟩,
    ⟨0x600, 1, 0, 1, 0, 8, 4, [(1, 0xF, 1)]⟩,
    ⟨0x600, 1, 0, 1, 0, 0, 4, [(4, 0xF, 1)]⟩,
    ⟨0x604, 1, 0, 1, 0, 16, 16, [(1, 0x8000, 1)]⟩,
    ⟨0x604, 1, 0, 1, 0, 0, 16, []⟩,
    ⟨0x608, 1, 0, 1, 0, 16, 16, []⟩,
    ⟨0x608, 1, 0, 1, 0, 0, 16, []⟩,
    ⟨0x60C, 1, 0, 1, 0, 16, 16, []⟩,
    ⟨0x60C, 1, 0, 1, 0, 8, 4, [(4, 0xF, 1)]⟩,
    ⟨0x60C, 1, 0, 1, 0, 0, 5, [(8, 0x14, 1)]⟩,
    ⟨0x610, 1, 0, 1, 0, 16, 16, []⟩,
    ⟨0x610, 1, 0, 1, 0, 0, 16, []⟩,
    ⟨0x614, 1, 0, 1, 0, 16, 16, []⟩,
    ⟨0x614, 1, 0, 1, 0, 8, 4, [(8, 0xF, 1)]⟩,
    ⟨0x614, 1, 0, 1, 0, 0, 1, []⟩,
    ⟨0x640, 1, 0, 1, 0, 0, 16, [(0, 0x7FFF, 1)]⟩,
    ⟨0x644, 1, 0, 1, 0, 0, 32, [(0xD555555, 0x20000000, 1)]⟩ ]

def chFields3 : List ImgField :=
  [ ⟨0x660, 1, 0, 1, 0, 31, 1, []⟩,
    ⟨0x660, 1, 0, 1, 0, 30, 1, []⟩,
    ⟨0x660, 1, 0, 1, 0, 16, 10, [(0x40, 0x3C0, 8)]⟩,
    ⟨0x660, 1, 0, 1, 0, 4, 4, [(0, 7, 1)]⟩,
    ⟨0x660, 1, 0, 1, 0, 0, 4, [(0, 4, 1)]⟩,
    ⟨0x664, 1, 0, 1, 0, 16, 16, []⟩,
    ⟨0x664, 1, 0, 1, 0, 0, 16, []⟩,
    ⟨0x668, 1, 0, 1, 0, 16, 16, []⟩,
    ⟨0x668, 1, 0, 1, 0, 0, 16, []⟩,
    ⟨0x66C, 1, 0, 1, 0, 0, 32, []⟩,
    ⟨0x670, 1, 0, 1, 0, 0, 32, []⟩,
    ⟨0x674, 1, 0, 1, 0, 0, 16, []⟩,
    ⟨0x678, 1, 0, 1, 0, 0, 32, []⟩,
    ⟨0x67C, 1, 0, 1, 0, 0, 32, []⟩,
    ⟨0x684, 1, 0, 1, 0, 31, 1, []⟩ ]

/-- The image fields of the CH block. -/
def chFields : List ImgField :=
  chFields0 ++ chFields1 ++ chFields2 ++ chFields3

def cellFields0 : List ImgField :=
  [ ⟨0x40, 1, 0, 1, 0, 16, 16, []⟩,
    ⟨0x40, 1, 0, 1, 0, 0, 16, []⟩,
    ⟨0x44, 1, 0, 1, 0, 16, 16, []⟩,
    ⟨0x44, 1, 0, 1, 0, 0, 16, []⟩ ]

/-- The image fields of the CELL block. -/
def cellFields : List ImgField :=
  cellFields0

def diagFields0 : List ImgField :=
  [ ⟨0, 1, 0, 1, 0, 8, 4, [(2, 8, 1)]⟩,
    ⟨0, 1, 0, 1, 0, 0, 4, [(0xC, 0x10, 1)]⟩,
    ⟨4, 1, 0, 1, 0, 0, 16, []⟩,
    ⟨0x100, 8, 8, 1, 0, 0, 32, []⟩,
    ⟨0x104, 8, 8, 1, 0, 0, 32, []⟩ ]

/-- The image fields of the DIAG block. -/
def diagFields : List ImgField :=
  diagFields0

def lidFields0 : List ImgField :=
  [ ⟨0x40, 1, 0, 1, 0, 16, 16, [(1, 0xFFFF, 1)]⟩,
    ⟨0x40, 1, 0, 1, 0, 8, 5, []⟩,
    ⟨0x44, 1, 0, 1, 0, 16, 16, [(1, 0xFFFF, 1)]⟩,
    ⟨0x44, 1, 0, 1, 0, 0, 16, [(1, 0xFFFF, 1)]⟩,
    ⟨0x48, 1, 0, 1, 0, 16, 16, []⟩,
    ⟨0x50, 1, 0, 1, 0, 2, 1, []⟩,
    ⟨0x50, 1, 0, 1, 0, 6, 1, []⟩,
    ⟨0x50, 1, 0, 1, 0, 10, 1, []⟩,
    ⟨0x50, 1, 0, 1, 0, 14, 1, []⟩,
    ⟨0x50, 1, 0, 1, 0, 18, 1, []⟩,
    ⟨0x50, 1, 0, 1, 0, 22, 1, []⟩,
    ⟨0x50, 1, 0, 1, 0, 26, 1, []⟩,
    ⟨0x50, 1, 0, 1, 0, 30, 1, []⟩,
    ⟨0x50, 1, 0, 1, 0, 0, 2, [(0, 2, 1)]⟩,
    ⟨0x50, 1, 0, 1, 0, 4, 2, [(0, 2, 1)]⟩,
    ⟨0x50, 1, 0, 1, 0, 8, 2, [(0, 2, 1)]⟩,
    ⟨0x50, 1, 0, 1, 0, 12, 2, [(0, 2, 1)]⟩,
    ⟨0x50, 1, 0, 1, 0, 16, 2, [(0, 2, 1)]⟩,
    ⟨0x50, 1, 0, 1, 0, 20, 2, [(0, 2, 1)]⟩,
    ⟨0x50, 1, 0, 1, 0, 24, 2, [(0, 2, 1)]⟩,
    ⟨0x50, 1, 0, 1, 0, 28, 2, [(0, 2, 1)]⟩,
    ⟨0x54, 1, 0, 1, 0, 16, 10, []⟩,
    ⟨0x54, 1, 0, 1, 0, 0, 10, []⟩,
    ⟨0x58, 1, 0, 1, 0, 24, 8, [(1, 0xFF, 1)]⟩,
    ⟨0x58, 1, 0, 1, 0, 0, 10, []⟩,
    ⟨0x60, 5, 4, 1, 0, 0, 8, []⟩,
    ⟨0x80, 4, 4, 1, 0, 0, 31, []⟩,
    ⟨0x100, 16, 0x10, 1, 0, 31, 1, []⟩,
    ⟨0x100, 16, 0x10, 1, 0, 30, 1, []⟩,
    ⟨0x100, 16, 0x10, 1, 0, 29, 1, []⟩,
    ⟨0x100, 16, 0x10, 1, 0, 28, 1, []⟩,
    ⟨0x100, 16, 0x10, 1, 0, 24, 2, []⟩,
    ⟨0x100, 16, 0x10, 1, 0, 16, 3, []⟩,
    ⟨0x100, 16, 0x10, 1, 0, 0, 8, []⟩,
    ⟨0x104, 16, 0x10, 1, 0, 30, 2, []⟩,
    ⟨0x104, 16, 0x10, 1, 0, 16, 8, []⟩,
    ⟨0x104, 16, 0x10, 1, 0, 0, 16, []⟩,
    ⟨0x108, 16, 0x10, 1, 0, 16, 16, []⟩,
    ⟨0x108, 16, 0x10, 1, 0, 0, 16, []⟩,
    ⟨0x10C, 16, 0x10, 1, 0, 16, 16, []⟩ ]

def lidFields1 : List ImgField :=
  [ ⟨0x10C, 16, 0x10, 1, 0, 0, 16, []⟩,
    ⟨0x400, 8, 0x40, 1, 0, 16, 16, []⟩,
    ⟨0x400, 8, 0x40, 1, 0, 0, 16, []⟩,
    ⟨0x404, 8, 0x40, 1, 0, 16, 16, []⟩,
    ⟨0x404, 8, 0x40, 1, 0, 0, 16, []⟩,
    ⟨0x408, 8, 0x40, 1, 0, 24, 8, [(1, 0xFF, 1)]⟩,
    ⟨0x408, 8, 0x40, 1, 0, 0, 16, [(1, 0xFFFF, 1)]⟩,
    ⟨0x40C, 8, 0x40, 1, 0, 0, 32, []⟩,
    ⟨0x410, 8, 0x40, 1, 0, 0, 32, []⟩,
    ⟨0x414, 8, 0x40, 1, 0, 0, 32, []⟩,
    ⟨0x418, 8, 0x40, 1, 0, 31, 1, []⟩,
    ⟨0x418, 8, 0x40, 1, 0, 0, 16, []⟩,
    ⟨0x41C, 8, 0x40, 1, 0, 0, 32, []⟩,
    ⟨0x420, 8, 0x40, 1, 0, 0, 32, []⟩,
    ⟨0x424, 8, 0x40, 1, 0, 0, 32, []⟩ ]

/-- The image fields of the LID block. -/
def lidFields : List ImgField :=
  lidFields0 ++ lidFields1

def stockpotFields0 : List ImgField :=
  [ ⟨0, 1, 0, 1, 0, 16, 10, []⟩,
    ⟨0, 1, 0, 1, 0, 0, 1, []⟩,
    ⟨4, 1, 0, 1, 0, 0, 16, []⟩ ]

/-- The image fields of the STOCKPOT block. -/
def stockpotFields : List ImgField :=
  stockpotFields0

def hostifFields0 : List ImgField :=
  [ ⟨0, 1, 0, 1, 0, 16, 16, []⟩,
    ⟨0, 1, 0, 1, 0, 4, 1, []⟩,
    ⟨0, 1, 0, 1, 0, 0, 3, [(0, 5, 1)]⟩,
    ⟨4, 1, 0, 1, 0, 0, 11, [(0xA, 0x780, 1)]⟩ ]

/-- The image fields of the HOSTIF block. -/
def hostifFields : List ImgField :=
  hostifFields0

def svcFields0 : List ImgField :=
  [ ⟨8, 1, 0, 1, 0, 0, 12, [(0x3C, 0xE10, 1)]⟩ ]

/-- The image fields of the SVC block. -/
def svcFields : List ImgField :=
  svcFields0

def bgFields0 : List ImgField :=
  [ ⟨0x50, 1, 0, 1, 0, 16, 16, []⟩,
    ⟨0x50, 1, 0, 1, 0, 0, 8, [(1, 0xFF, 1)]⟩,
    ⟨0x54, 1, 0, 1, 0, 16, 16, []⟩,
    ⟨0x54, 1, 0, 1, 0, 0, 8, [(1, 0xFF, 1)]⟩,
    ⟨0x400, 16, 4, 1, 0, 16, 5, [(0, 0x10, 1)]⟩,
    ⟨0x400, 16, 4, 1, 0, 0, 8, []⟩,
    ⟨0x800, 256, 4, 1, 0, 2, 18, []⟩ ]

/-- The image fields of the BG block. -/
def bgFields : List ImgField :=
  bgFields0

/-- The image fields of the block at a byte address, and the offset of the address within it (R38). -/
def imgFieldsAt (a : Nat) : List ImgField × Nat :=
  if a < 0x1000 then (sysFields, a)
  else if a < 0x2000 then (clkFields, a - 0x1000)
  else if a < 0x3000 then (rackFields, a - 0x2000)
  else if a < 0x4000 then (tdmFields, (a - 0x3000) % 0x400)
  else if a < 0x4800 then (aesFields, (a - 0x4000) % 0x400)
  else if a < 0x5000 then ([], 0)
  else if a < 0x6000 then (routeFields, a - 0x5000)
  else if a < 0x7000 then (firFields, a - 0x6000)
  else if a < 0x8000 then (sieveFields, a - 0x7000)
  else if a < 0x10000 then (chFields, a % 0x1000)
  else if a < 0x1E000 then (cellFields, (a - 0x10000) % 0x400)
  else if a < 0x1F000 then (diagFields, a - 0x1E000)
  else if a < 0x20000 then ([], 0)
  else if a < 0x21000 then (lidFields, a - 0x20000)
  else if a < 0x22000 then (stockpotFields, a - 0x21000)
  else if a < 0x22600 then (hostifFields, (a - 0x22000) % 0x100)
  else if a < 0x23000 then ([], 0)
  else if a < 0x24000 then (svcFields, a - 0x23000)
  else if a < 0x25000 then (bgFields, a - 0x24000)
  else ([], 0)

/-- The image fields of the register at a byte address. -/
def imgFieldsOf (a : Nat) : List ImgField :=
  let x := imgFieldsAt a
  if a % 4 == 0 then x.1.filter (fun f => f.holds x.2) else []

/-- R86: every field of a word holds a value that its description admits. -/
def wordValid (a word : Nat) : Bool := (imgFieldsOf a).all (fun f => f.valid word)

/-- The field of a register that a mask selects (R87). -/
def fieldOfMask (a mask : Nat) : Option ImgField :=
  (imgFieldsOf a).find? (fun f => (2 ^ f.w - 1) * 2 ^ f.lo == mask)

end Sys2Proof.Machine
end

