-- ==== Sys2Proof/Machine/Image.lean ====
section
/-! DEFINITION. The configuration image (spec file 03): the header (R81), the records and their rules (R82 to R91, R449
and the rules of the blocks), and what the apply pass writes. Offsets count from the first byte of the slot. -/
namespace Sys2Proof.Machine

/-! ### Bytes -/

/-- A little-endian number from its bytes (R80). -/
def leNat : List Nat → Nat
  | [] => 0
  | b :: l => b + 256 * leNat l

/-- A little-endian number of `n` bytes at offset `o`. -/
def leAt (l : List Nat) (o n : Nat) : Nat := leNat ((l.drop o).take n)

/-- A pass's bytes: what the NOR holds, with the bytes it returned wrongly. -/
def withErrs (errs : List ByteErr) (l : List Nat) (i : Nat) : List Nat :=
  match l with
  | [] => []
  | b :: t => (errs.foldl (fun b e => if e.off == i then b ^^^ e.flip.toNat else b) b) :: withErrs errs t (i + 1)

/-- The first `n` bytes of a slot as a pass reads them (R77). -/
def Env.slotBytes (e : Env) (slotB : Bool) (n : Nat) (errs : List ByteErr) : List Nat :=
  let l := (Store.slice erased e.nor (if slotB then 0x200000 else 0) n).map (·.toNat)
  if errs.isEmpty then l else withErrs errs l 0

/-! ### The header (R81) -/

structure Header where
  profile : Nat
  seq : Nat
  len : Nat
  genLen : Nat
  safeOff : Nat
  safeLen : Nat
  sigOff : Nat
  site : Nat
  deriving DecidableEq, Repr, Inhabited

/-- R94: result codes. -/
def resBlank : Nat := 2
def resHeader : Nat := 3
def resSection : Nat := 5
def resRecord : Nat := 6
def resKey : Nat := 7
def resSignature : Nat := 8
def resProfile : Nat := 9
def resCapability : Nat := 0xA
def resApplyCrc : Nat := 0xB
def resAccepted : Nat := 1

def readHeader (l : List Nat) : Header :=
  { profile := leAt l 8 2, seq := leAt l 0xC 4, len := leAt l 0x10 4, genLen := leAt l 0x18 4, safeOff := leAt l 0x1C 4
    safeLen := leAt l 0x20 4, sigOff := leAt l 0x24 4, site := leAt l 0x28 4 }

/-- R81, check 2. -/
def headerOk (l : List Nat) : Bool :=
  let h := readHeader l
  leAt l 0 4 == 0x4D494A46 && leAt l 4 2 == 1 && leAt l 6 2 == 0x40 && decide (1 ≤ h.profile) && decide (h.profile ≤ 255) &&
  leAt l 0xA 2 == 0 && h.seq != 0 && h.seq != 0xFFFFFFFF && h.len % 4 == 0 && decide (0xD0 ≤ h.len) &&
  decide (h.len ≤ 0x200000) && leAt l 0x14 4 == 0x40 && h.genLen % 4 == 0 && decide (8 ≤ h.genLen) &&
  h.safeOff == 0x40 + h.genLen && h.safeLen % 4 == 0 && decide (8 ≤ h.safeLen) && h.sigOff == h.safeOff + h.safeLen &&
  h.sigOff + 128 == h.len && leAt l 0x38 4 == 0 && leAt l 0x3C 4 == crc32 (l.take 0x3C)

/-- Checks 1 to 3 (R94): the result code of a header, ACCEPTED when it passes. -/
def headerResult (maxProfile : Nat) (l : List Nat) : Nat :=
  if l.all (· == 0xFF) then resBlank
  else if !(headerOk l) then resHeader
  else if maxProfile < (readHeader l).profile then resProfile
  else resAccepted

/-! ### What records load -/

/-- A register word that an image loads: its address, the word, the bits loaded, its record, and its offset in the slot. -/
structure LoadWord where
  addr : Nat
  word : Nat
  mask : Nat
  recIx : Nat
  off : Nat
  deriving DecidableEq, Repr, Inhabited

/-- A coefficient bank that a FIR_COEF record loads (R88), with the offset at which the record ends. -/
structure LoadFir where
  str : Nat
  bank : Nat
  taps : List Int
  fin : Nat
  deriving DecidableEq, Repr, Inhabited

/-- A BASELINE record (R90): its string, VALID, its five words, and the offset at which the record ends. -/
structure LoadBase where
  str : Nat
  valid : Nat
  words : List Nat
  fin : Nat
  deriving DecidableEq, Repr, Inhabited

/-- The records of an image as read so far. -/
structure ImgBuild where
  /-- Type and offset of each record, in image order. -/
  recs : List (Nat × Nat)
  /-- Failing records: index in `recs`, detail. -/
  errs : List (Nat × Nat)
  words : List LoadWord
  rate : Nat
  strings : Nat
  nand : Bool
  cells : List Nat
  /-- Limits with their record. -/
  limits : List (LimitEnt × Nat)
  firs : List LoadFir
  dir : Option (List MsgEnt × Nat)
  bases : List LoadBase
  pass : Option (List Nat)
  deriving DecidableEq, Repr, Inhabited

def ImgBuild.cell (b : ImgBuild) (c : Nat) : Nat := b.cells.getD c 0

/-- R422: the string to which a register of a shared block belongs. -/
def sharedString (a : Nat) : Option Nat :=
  if 0x5400 ≤ a && a < 0x5480 then some ((a - 0x5400) / 0x10)
  else if 0x5620 ≤ a && a < 0x5640 then some ((a - 0x5620) / 4)
  else if 0x5700 ≤ a && a < 0x5720 then some ((a - 0x5700) / 4)
  else if 0x5720 ≤ a && a < 0x5740 then some ((a - 0x5720) / 4)
  else if 0x6100 ≤ a && a < 0x6120 then some ((a - 0x6100) / 4)
  else if 0x6120 ≤ a && a < 0x6140 then some ((a - 0x6120) / 4)
  else if 0x1E100 ≤ a && a < 0x1E140 then some ((a - 0x1E100) / 8)
  else if 0x1E200 ≤ a && a < 0x1E300 then some ((a - 0x1E200) / 0x20)
  else if 0x1E400 ≤ a && a < 0x1E500 then some ((a - 0x1E400) / 0x20)
  else if 0x20400 ≤ a && a < 0x20600 then some ((a - 0x20400) / 0x40)
  else if 0x24300 ≤ a && a < 0x243E0 then some ((a - 0x24300) / 28)
  else none

/-- The string whose own block holds the address (R38). -/
def blockString (a : Nat) : Option Nat :=
  if 0x8000 ≤ a && a < 0x10000 then some ((a - 0x8000) / 0x1000)
  else if 0x10000 ≤ a && a < 0x1E000 then some ((a - 0x10000) / 0x400 / 7)
  else none

/-- R40, R86, R422: the word lies with an absent string or an absent cell. -/
def ImgBuild.absent (b : ImgBuild) (is440 : Bool) (a : Nat) : Bool :=
  let gone (k : Nat) : Bool := !(tbit b.strings k)
  match blockString a with
  | some k => gone k || (decide (0x10000 ≤ a) && b.cell ((a - 0x10000) / 0x400) % 4 == 0)
  | none => match sharedString a with
    | some k => gone k || (is440 && decide (4 ≤ k))
    | none => false

/-- R343: the registers that only BASELINE records load. -/
def baseOnly (a : Nat) : Bool :=
  (decide (0x20400 ≤ a) && decide (a < 0x20600) && decide (0x14 ≤ a % 0x40) && decide (a % 0x40 ≤ 0x24)) ||
  (decide (0x8000 ≤ a) && decide (a < 0x10000) && (a % 0x1000 == 0x67C || a % 0x1000 == 0x684))

/-- R264, R293: the companion configuration words of a cell mirror admit only what the companion admits. -/
def ImgBuild.ccfgWord (b : ImgBuild) (a w : Nat) : Bool :=
  if 0x10000 ≤ a && a < 0x1E000 && (a % 0x400 == 0x40 || a % 0x400 == 0x44) then
    let h := tbit (b.cell ((a - 0x10000) / 0x400)) 2
    let n := if a % 0x400 == 0x40 then 0 else 2
    ccfgOk h n (w % 65536) && ccfgOk h (n + 1) (w / 65536)
  else true

/-- R86: the detail of a word's first failing rule, 0 if it loads. -/
def ImgBuild.wordDetail (b : ImgBuild) (is440 safe : Bool) (a w : Nat) : Nat :=
  match regInfoAt a with
  | none => 0x04
  | some i =>
    if b.absent is440 a || (decide (0x2600 ≤ a) && decide (a < 0x2800)) || baseOnly a then 0x04
    else if b.words.any (fun x => x.addr == a) then 0x06
    else
      let m := if safe then i.imgS else i.imgG
      if w &&& (0xFFFFFFFF - m) != 0 then 0x05
      else if !((imgFieldsOf a).all (fun f => f.valid w || (m / 2 ^ f.lo) % 2 == 0)) || !(b.ccfgWord a w) then 0x07
      else 0

def ImgBuild.fail (b : ImgBuild) (i detail : Nat) : ImgBuild := { b with errs := b.errs ++ [(i, detail)] }

/-- R86: the words of a REG_LOAD or SAFE_REG_LOAD record, the first at offset `o` of the slot. A word that fails a rule
but has a register of its own still counts as loaded, so that the rules over several fields (R449) judge the fields as
the image gives them. -/
def ImgBuild.loadWords (b : ImgBuild) (is440 safe : Bool) (i a o : Nat) : List Nat → ImgBuild
  | b0 :: b1 :: b2 :: b3 :: t =>
    let w := leNat [b0, b1, b2, b3]
    let x := b.wordDetail is440 safe a w
    let m := match regInfoAt a with
      | some r => if safe then r.imgS else r.imgG
      | none => 0
    let b := if x == 0x04 || x == 0x06 then b
      else { b with words := b.words ++ [{ addr := a, word := w, mask := m, recIx := i, off := o }] }
    (if x != 0 then b.fail i x else b).loadWords is440 safe i (a + 4) (o + 4) t
  | _ => b

/-- R87: the entries of a REG_LIMIT or SAFE_REG_LIMIT record. -/
def ImgBuild.loadLimits (b : ImgBuild) (safe : Bool) (i : Nat) : Nat → List Nat → ImgBuild
  | 0, _ => b
  | n + 1, l =>
    if l.isEmpty then b
    else
      let ad := leAt l 0 4
      let e : LimitEnt := { addr := ad % 2 ^ 20 / 4 * 4, signed := ad % 2 == 1, mask := leAt l 4 4, min := leAt l 8 4, max := leAt l 12 4 }
      let col := match regInfoAt e.addr, fieldOfMask e.addr e.mask with
        | some r, some _ => (if safe then r.imgS else r.imgG) &&& e.mask == e.mask
        | _, _ => false
      let b := if col then { b with limits := b.limits ++ [(e, i)] } else b.fail i 0x05
      b.loadLimits safe i n (l.drop 16)

/-- R88, R161: a FIR_COEF record that ends at offset `fin` of the slot. -/
def ImgBuild.loadFir (b : ImgBuild) (i fin : Nat) (p : List Nat) : ImgBuild :=
  let k := p.getD 0 0
  let bank := p.getD 1 0
  let src := p.getD 2 0
  let rom := p.getD 3 0
  let taps := leAt p 4 2
  let top := if b.rate == 2 then 192 else 384
  if p.length < 8 then b.fail i 0x03
  else if b.firs.any (fun x => x.str == k && x.bank == bank) then b.fail i 0x08
  else if !(decide (k < 8) && tbit b.strings k) || 1 < bank || 1 < src || leAt p 6 2 != 0 then b.fail i 0x07
  else if src == 1 then
    if 23 < rom || taps != 0 || (b.rate == 2 && rom != 0) then b.fail i 0x07
    else if p.length != 8 then b.fail i 0x03
    else { b with firs := b.firs ++ [{ str := k, bank := bank, taps := (upTo top).map (romTap rom), fin := fin }] }
  else if rom != 0 || taps == 0 || top < taps then b.fail i 0x07
  else if p.length != 8 + 4 * taps then b.fail i 0x03
  else
    let ws := (upTo taps).map (fun j => leAt p (8 + 4 * j) 4)
    if ws.any (fun w => 2 ^ 24 ≤ w) then b.fail i 0x07
    else { b with firs := b.firs ++ [{ str := k, bank := bank, taps := ws.map (sx 24), fin := fin }] }

/-- R89: the entries of MSG_DIR. -/
def msgEntries : Nat → List Nat → List MsgEnt → Option (List MsgEnt)
  | 0, _, acc => some acc
  | n + 1, l, acc =>
    if l.isEmpty then some acc
    else
      let e : MsgEnt := { msg := leAt l 0 2, format := l.getD 2 0, block := leAt l 4 4, samples := leAt l 8 4, crc := leAt l 12 4 }
      if 1 < e.format || l.getD 3 0 != 0 || e.samples == 0 || acc.any (fun x => x.msg == e.msg) then none
      else msgEntries n (l.drop 16) (acc ++ [e])

/-- R90, R343: a BASELINE record that ends at offset `fin` of the slot. -/
def ImgBuild.loadBase (b : ImgBuild) (i fin : Nat) (p : List Nat) : ImgBuild :=
  let k := p.getD 0 0
  let valid := p.getD 1 0
  let w := (upTo 5).map (fun j => leAt p (4 + 4 * j) 4)
  let arg := leAt p 8 4
  if p.length != 24 then b.fail i 0x03
  else if b.bases.any (fun x => x.str == k) then b.fail i 0x08
  else if !(decide (k < 8) && tbit b.strings k) || 1 < valid || leAt p 2 2 != 0 ||
      arg / 65536 != (if tbit arg 15 then 0xFFFF else 0) || (valid == 0 && w.any (· != 0)) then b.fail i 0x07
  else { b with bases := b.bases ++ [{ str := k, valid := valid, words := w, fin := fin }] }

/-- R85: the rules of CELL_MAP. -/
def cellMapDetail (strings : Nat) (p : List Nat) : Nat :=
  if p.any (fun x => x % 4 == 3 || 8 ≤ x) then 0x07
  else
    let bad (k : Nat) : Bool :=
      let l := (p.drop (7 * k)).take 7
      let used := l.filter (fun x => x % 4 != 0)
      if tbit strings k then
        !(l.any (fun x => x % 4 == 1)) || decide (1 < (l.filter (fun x => x % 4 == 2)).length) ||
          (used.any (fun x => tbit x 2) && used.any (fun x => !(tbit x 2)))
      else !used.isEmpty
    if strings8.any bad then 0x09 else 0

/-- R83: the section of a record type; none is unknown. END and NOTE are judged apart. -/
def recSafe (t : Nat) : Option Bool :=
  if [0x0001, 0x0002, 0x0010, 0x0011, 0x0020, 0x00F0].contains t then some false
  else if [0x0101, 0x0102, 0x0110, 0x0111, 0x0112].contains t then some true
  else none

/-- R83 to R91: one record, but for END. `pos` is its place in its section, `i` its place in the image, `off` its offset
in the slot. DESIGN CHOICE, log entry 71: a record where PLATFORM or CELL_MAP should stand whose type is unknown, or is
one of the other section, has detail 0x01 or 0x02 rather than 0x08; R83 names both and gives no order. -/
def ImgBuild.record (b : ImgBuild) (is440 safe : Bool) (pos i off t : Nat) (p : List Nat) : ImgBuild :=
  match recSafe t with
  | none => b.fail i 0x01
  | some s =>
    if s != safe then b.fail i 0x02
    else if !safe && ((pos < 2 && t != pos + 1) || (2 ≤ pos && t < 3)) then b.fail i 0x08
    else if t == 1 then
      if p.length != 8 then b.fail i 0x03
      else if 2 < p.getD 0 0 || 1 < p.getD 2 0 || (p.drop 3).any (· != 0) then b.fail i 0x07
      else { b with rate := p.getD 0 0, strings := p.getD 1 0, nand := p.getD 2 0 == 1 }
    else if t == 2 then
      if p.length != 56 then b.fail i 0x03
      else
        let x := cellMapDetail b.strings p
        if x != 0 then b.fail i x else { b with cells := p }
    else if t == 0x10 || t == 0x101 then
      if p.length < 8 then b.fail i 0x03
      else if leAt p 0 4 % 4 != 0 || 2 ^ 20 ≤ leAt p 0 4 then b.fail i 0x04
      else b.loadWords is440 safe i (leAt p 0 4) (off + 8) (p.drop 4)
    else if t == 0x11 || t == 0x102 then
      if p.length % 16 != 0 then b.fail i 0x03 else b.loadLimits safe i (p.length / 16) p
    else if t == 0x20 then b.loadFir i (off + 4 + p.length) p
    else if t == 0x110 then
      if b.dir.isSome then b.fail i 0x08
      else if !b.nand then b.fail i 0x07
      else if p.length % 16 != 0 then b.fail i 0x03
      else match msgEntries (p.length / 16) p [] with
        | some l => { b with dir := some (l, i) }
        | none => b.fail i 0x07
    else if t == 0x111 then b.loadBase i (off + 4 + p.length) p
    else if t == 0x112 then
      if b.pass.isSome then b.fail i 0x08
      else if p.length != 48 then b.fail i 0x03
      else { b with pass := some p }
    else b

/-- R82: the records of a section, from its bytes at offset `off`. -/
def ImgBuild.section (b : ImgBuild) (is440 safe : Bool) : Nat → Nat → Nat → List Nat → ImgBuild
  | 0, _, _, _ => b
  | n + 1, pos, off, l =>
    if l.isEmpty then b
    else
      let t := leAt l 0 2
      let len := leAt l 2 2
      let i := b.recs.length
      let b := { b with recs := b.recs ++ [(t, off)] }
      let last := l.length == 4 + len
      if l.length < 4 || len % 4 != 0 || l.length < 4 + len || (t == 0xFFFF) != last || (t == 0xFFFF && len != 4) then b.fail i 0x03
      else if t == 0xFFFF then (if !safe && pos < 2 then b.fail i 0x08 else b)
      else
        (b.record is440 safe pos i off t ((l.drop 4).take len)).section is440 safe n (pos + 1) (off + 4 + len) (l.drop (4 + len))

/-! ### Rules over several fields (R449) -/

/-- The word a register holds once the image is loaded. -/
def ImgBuild.word (b : ImgBuild) (a : Nat) : Nat :=
  let r := (resetWord a).toNat
  match b.words.find? (fun x => x.addr == a) with
  | some x => (r &&& (0xFFFFFFFF - x.mask)) ||| (x.word &&& x.mask)
  | none => r

def ImgBuild.val (b : ImgBuild) (f : Fld) : Nat := bits (b.word f.addr) f.lo f.w
def ImgBuild.sval (b : ImgBuild) (f : Fld) : Int := sx f.w (b.val f)

/-- The record that loads a register. -/
def ImgBuild.loader (b : ImgBuild) (a : Nat) : Option Nat := (b.words.find? (fun x => x.addr == a)).map (·.recIx)

/-- A rule over the registers at some addresses, and perhaps a record of its own. -/
structure ImgRule where
  addrs : List Nat
  extra : Option Nat
  ok : Bool

/-- R449: a rule that fails is charged to the last record that loads one of its fields. -/
def ImgBuild.judge (b : ImgBuild) (r : ImgRule) : ImgBuild :=
  if r.ok then b
  else
    let l := r.addrs.filterMap b.loader ++ r.extra.toList
    match l with
    | [] => b
    | i :: t => b.fail (t.foldl max i) 0x07

/-- R183, R202, R223, R300, R301, R314, R344: the rules of one string. -/
def ImgBuild.stringRules (b : ImgBuild) (k : Nat) : List ImgRule :=
  let cells := ((positions.map (fun p => b.cell (cellIx k p))).filter (fun x => x % 4 != 0)).length
  [ ⟨[Reg.CHk_IL_BAND k], none, decide (b.val (Fd.CHk_IL_BAND_HB k) ≤ b.val (Fd.CHk_IL_BAND_HB2 k))⟩,
    ⟨[Reg.CHk_MOR_DET k], none, decide (b.val (Fd.CHk_MOR_DET_PMIN k) ≤ b.val (Fd.CHk_MOR_DET_PMAX k))⟩,
    ⟨[Reg.CHk_WH_CFG k], none, decide (b.val (Fd.CHk_WH_CFG_NMIN k) ≤ b.val (Fd.CHk_WH_CFG_NACT k)) &&
      decide (b.val (Fd.CHk_WH_CFG_NACT k) ≤ cells)⟩,
    ⟨[Reg.CHk_PR_CBUS k], none, decide (b.sval (Fd.CHk_PR_CBUS_LO k) ≤ b.sval (Fd.CHk_PR_CBUS_HI k))⟩,
    ⟨[Reg.CHk_PR_VCELL k], none, decide (b.val (Fd.CHk_PR_VCELL_VC_LO k) ≤ b.val (Fd.CHk_PR_VCELL_VC_HI k))⟩,
    ⟨[Reg.CHk_PR_WAIT k], none, decide (b.val (Fd.CHk_PR_WAIT_RLY_WAIT k) ≤ b.val (Fd.CHk_PR_WAIT_RETRY_WAIT k))⟩,
    ⟨[Reg.CHk_DT_ZSCALE k, Reg.DIAG_ZSCALEk k], none,
      b.val (Fd.CHk_DT_ZSCALE_ZSCALE k) == b.val (Fd.DIAG_ZSCALEk_ZSCALE k)⟩ ]

/-- Bits of a slot width and of a word length (R112). -/
def widthBits (w : Nat) : Nat := if w == 0 then 16 else if w == 1 then 24 else 32
def wordBits (w : Nat) : Nat := if w == 0 then 16 else if w == 1 then 20 else if w == 2 then 24 else 32

/-- R113: the conditions on TDMn_CFG alone: FRAME_BITS, RATE and a master's bit clock. -/
def tdmCfgValid (cfg : Nat) : Bool :=
  let fb := bits cfg 16 11
  let rate := bits cfg 8 2
  decide (16 ≤ fb) && decide (fb ≤ 1024 / 2 ^ rate) && decide (rate < 3) &&
  (!(tbit cfg 0 && tbit cfg 1) || fb == 2 ^ Nat.log2 fb)

/-- R113: the conditions on TDMn_FMT of a port in use: its slots, widths and word length. -/
def tdmFmtValid (fmt : Nat) : Bool :=
  let slots := bits fmt 16 6
  decide (1 ≤ slots) && decide (slots ≤ 32) && bits fmt 8 2 != 3 &&
  decide (wordBits (bits fmt 12 2) ≤ widthBits (bits fmt 8 2))

/-- R113: the slots lie within the frame. -/
def tdmExtentValid (cfg fmt : Nat) : Bool :=
  decide (bits fmt 0 5 + bits fmt 16 6 * widthBits (bits fmt 8 2) ≤ bits cfg 16 11)

/-- R113: the slot mask names no slot beyond SLOTS. -/
def tdmMaskValid (fmt mask : Nat) : Bool := decide (mask < 2 ^ bits fmt 16 6)

/-- R113: a format is valid, from the words of TDMn_CFG, TDMn_FMT and TDMn_MASK. -/
def tdmValid (cfg fmt mask : Nat) : Bool :=
  tdmCfgValid cfg && tdmFmtValid fmt && tdmExtentValid cfg fmt && tdmMaskValid fmt mask

/-- R111, R113: the rules of one TDM port. -/
def ImgBuild.tdmRule (b : ImgBuild) (n : Nat) : List ImgRule :=
  let cfg := b.word (Reg.TDMn_CFG n)
  let fmt := b.word (Reg.TDMn_FMT n)
  let used := bits cfg 16 11 != 0
  [ ⟨[Reg.TDMn_CFG n], some 0, !(tbit cfg 0 && tbit cfg 1) || !used || bits cfg 8 2 == b.rate⟩,
    ⟨[Reg.TDMn_CFG n], none, tbit cfg 0 || !(tbit cfg 1)⟩,
    ⟨[Reg.TDMn_CFG n], none, !used || tdmCfgValid cfg⟩,
    ⟨[Reg.TDMn_CFG n, Reg.TDMn_FMT n], none, !used || (tdmFmtValid fmt && tdmExtentValid cfg fmt)⟩,
    ⟨[Reg.TDMn_CFG n, Reg.TDMn_FMT n, Reg.TDMn_MASK n], none, !used || tdmMaskValid fmt (b.word (Reg.TDMn_MASK n))⟩ ]

/-- Rate of an enabled receiver among the six ports; none is a transmit or an unused port (R134). -/
def ImgBuild.rxRate (b : ImgBuild) (n : Nat) : Option Nat :=
  if n < 4 then
    let cfg := b.word (Reg.TDMn_CFG n)
    if bits cfg 16 11 != 0 && !(tbit cfg 0) then some (bits cfg 8 2) else none
  else
    let cfg := b.word (Reg.AESn_CFG (n - 4))
    if tbit cfg 0 then some (bits cfg 7 2) else none

/-- The register that sets what port n is (R110, R127). -/
def portCfg (n : Nat) : Nat := if n < 4 then Reg.TDMn_CFG n else Reg.AESn_CFG (n - 4)

/-- R134: the rules of ALIGN_GRP on its own, of each group's members, and of the reference port. -/
def ImgBuild.alignRules (b : ImgBuild) : List ImgRule :=
  let g (n : Nat) : Nat := b.val (Fd.ALIGN_GRP_G n)
  let ref := b.val Fd.ALIGN_CFG_REF
  ⟨[Reg.ALIGN_GRP], none, (upTo 6).all (fun n => g (g n) == g n)⟩ ::
  ⟨[Reg.ALIGN_GRP, Reg.ALIGN_CFG], none, ref == 7 || g ref == ref⟩ ::
  ⟨[Reg.ALIGN_CFG, portCfg ref], none, ref == 7 || b.rxRate ref == some b.rate⟩ ::
  (upTo 6).map (fun n =>
    ⟨[Reg.ALIGN_GRP, portCfg n, portCfg (g n)], none, g n == n || ((b.rxRate n).isSome && b.rxRate n == b.rxRate (g n))⟩)

/-- R70, R406: an entry of a Rack table names a present memory, input or cell. -/
def rackEntryOk (strings : Nat) (cell : Nat → Nat) (e : Nat) : Bool :=
  let code := e / 4096 % 16
  let par := e % 4096
  if code == 0 || code == 2 || code == 3 || code == 6 then par == 0
  else if code == 1 then (decide (par < 24) && tbit strings (par % 8)) || par == 24 || par == 25
  else if code == 4 then decide (par < 20) && (decide (16 ≤ par) || tbit strings (par % 8))
  else if code == 5 then decide (par < 56) && cell par % 4 != 0
  else if code == 7 then decide (par < 16)
  else false

/-- R70: the slots of activity c in a table reach its minimum in RACK_MIN0 or RACK_MIN1. -/
def rackCountOk (min0 min1 : Nat) (table : List Nat) (c : Nat) : Bool :=
  let least : Nat := if c < 5 then bits min0 (8 * (c - 1)) 8 else bits min1 (8 * (c - 5)) 8
  decide (least ≤ (table.filter (fun e => e / 4096 % 16 == c)).length)

/-- R70: a table of 256 entries against the minima of RACK_MIN0 and RACK_MIN1. -/
def rackTableOk (strings : Nat) (cell : Nat → Nat) (min0 min1 : Nat) (table : List Nat) : Bool :=
  table.all (rackEntryOk strings cell) && [1, 2, 3, 4, 5, 6, 7].all (rackCountOk min0 min1 table)

/-- The entries of a table from its 128 words. -/
def rackEntries (words : List Nat) : List Nat := words.flatMap (fun w => [w % 65536, w / 65536 % 65536])

/-- R70, R407: each word of the Rack table, and the least number of slots of each activity. -/
def ImgBuild.rackRules (b : ImgBuild) : List ImgRule :=
  let words := (upTo 128).map (fun w => b.word (Reg.RACK_ACTIVEw w))
  let all := (upTo 128).map Reg.RACK_ACTIVEw
  (upTo 128).map (fun w =>
    ⟨[Reg.RACK_ACTIVEw w], none, (rackEntries [b.word (Reg.RACK_ACTIVEw w)]).all (rackEntryOk b.strings b.cell)⟩) ++
  [1, 2, 3, 4, 5, 6, 7].map (fun c =>
    ⟨(if c < 5 then Reg.RACK_MIN0 else Reg.RACK_MIN1) :: all, none,
      rackCountOk (b.word Reg.RACK_MIN0) (b.word Reg.RACK_MIN1) (rackEntries words) c⟩)

/-- R413: a snapshot set and each entry it uses. -/
def ImgBuild.snapRules (b : ImgBuild) (s : Nat) : List ImgRule :=
  let first := b.val (Fd.BG_SNAP_SETs_FIRST s)
  let count := b.val (Fd.BG_SNAP_SETs_COUNT s)
  let okAt (i : Nat) : Bool :=
    let a := 4 * (b.word (Reg.BG_SNAP_ADDRi i) / 4 % 2 ^ 18)
    (regInfoAt a).isSome && a != Reg.SVC_FL_DATA && !(decide (0x8000 ≤ a) && decide (a < 0x10000) && a % 0x1000 == 0x1BC)
  ⟨[Reg.BG_SNAP_SETs s], none, decide (first + count ≤ 256)⟩ ::
  ((upTo count).map (first + ·)).map (fun i => ⟨[Reg.BG_SNAP_SETs s, Reg.BG_SNAP_ADDRi i], none, okAt i⟩)

/-- Samples a page of a message holds, and its pages (R358). -/
def perPage (format : Nat) : Nat := if format == 0 then 672 else 1008
def MsgEnt.pages (m : MsgEnt) : Nat := (m.samples + perPage m.format - 1) / perPage m.format

/-- R358: blocks of two messages do not overlap. -/
def MsgEnt.apart (x y : MsgEnt) : Bool :=
  decide (x.block + (x.pages + 63) / 64 ≤ y.block) || decide (y.block + (y.pages + 63) / 64 ≤ x.block)

/-- The messages of a list lie apart from one another. -/
def allApart : List MsgEnt → Bool
  | [] => true
  | x :: t => t.all (MsgEnt.apart x) && allApart t

/-- R350: the rules of a priority entry, each over the fields it names; on the FJC-440 zones 4 to 7 are those of absent
strings (R40). -/
def ImgBuild.priorityRules (b : ImgBuild) (is440 : Bool) (e : Nat) : List ImgRule :=
  let msgs := match b.dir with
    | some (l, _) => l.map (fun (m : MsgEnt) => m.msg)
    | none => []
  let dir := b.dir.map (·.2)
  let act := b.val (Fd.LID_PRIe_ACT_ACTION e)
  let alt := b.val (Fd.LID_PRIe_MSG_ALT e)
  let kind := b.val (Fd.LID_PRIe_TRIG_KIND e)
  let zones := b.strings &&& (if is440 then 15 else 255)
  let off := b.val (Fd.LID_PRIe_TRIG_EN e) == 0
  let trig := Reg.LID_PRIe_TRIG e
  let actR := Reg.LID_PRIe_ACT e
  let msgR := Reg.LID_PRIe_MSG e
  [ ⟨[trig], none, off || decide (kind ≤ 1)⟩,
    ⟨[trig, Reg.LID_CINMODE], none, off || kind != 0 || b.val (Fd.LID_CINMODE_MODE (b.val (Fd.LID_PRIe_TRIG_INPUT e))) != 0⟩,
    ⟨[trig, actR], none, off || act != 3⟩,
    ⟨[trig, actR], none, off || act != 1 || decide (b.val (Fd.LID_PRIe_ACT_CHAN e) ≤ 131)⟩,
    ⟨[trig, actR], none, off || act != 0 || b.nand⟩,
    ⟨[trig, actR, msgR], dir, off || act != 0 || msgs.contains (b.val (Fd.LID_PRIe_MSG_MSG e))⟩,
    ⟨[trig, msgR], dir, off || alt == 0xFFFF || msgs.contains alt⟩,
    ⟨[trig], none, off || b.val (Fd.LID_PRIe_TRIG_ZONES e) &&& (255 - zones) == 0⟩ ]

/-- R356, R358: the geometry of the message store and the directory in it. -/
def ImgBuild.storeRules (b : ImgBuild) : List ImgRule :=
  let nblk := if b.val Fd.STOCKPOT_GEOM_NBLK == 1 then 1024 else 512
  let mb := b.val Fd.STOCKPOT_GEOM_MSG_BLOCKS
  let rec' := b.dir.map (·.2)
  let dir := match b.dir with
    | some (l, _) => l
    | none => []
  [ ⟨[Reg.STOCKPOT_GEOM, Reg.STOCKPOT_CFG], none, decide (mb + 2 + b.val Fd.STOCKPOT_CFG_SPARE_MIN ≤ nblk)⟩,
    ⟨[Reg.STOCKPOT_GEOM], none, decide (mb ≤ 1016)⟩,
    ⟨[], rec', decide (dir.length ≤ 64) && allApart dir⟩,
    ⟨[Reg.STOCKPOT_GEOM], rec', dir.all (fun m => decide (m.block + (m.pages + 63) / 64 ≤ mb))⟩ ]

/-- Every rule over several fields. -/
def ImgBuild.rules (b : ImgBuild) (is440 : Bool) : List ImgRule :=
  let ranks := (upTo 6).map (fun p => b.val (Fd.HOSTIF_CFG_RANK p))
  (strings8.filter (tbit b.strings)).flatMap b.stringRules ++ [0, 1, 2, 3].flatMap b.tdmRule ++
  [ ⟨[Reg.SYS_START3], none, decide (b.sval Fd.SYS_START3_CBUS_LO ≤ b.sval Fd.SYS_START3_CBUS_HI)⟩,
    ⟨[Reg.LID_CINTH0], none, decide (b.val Fd.LID_CINTH0_T_SHORT < b.val Fd.LID_CINTH0_T_ACT)⟩,
    ⟨[Reg.LID_CINTH0, Reg.LID_CINTH1], none, decide (b.val Fd.LID_CINTH0_T_ACT < b.val Fd.LID_CINTH1_T_OPEN)⟩,
    ⟨(upTo 6).map Reg.HOSTIF_CFG, none, decide ranks.Nodup⟩,
    ⟨[Reg.HOSTIF_CFG 5], none, b.val (Fd.HOSTIF_CFG_LOCK_EN 5) == 0⟩ ] ++
  b.alignRules ++ b.storeRules ++ b.rackRules ++ (upTo 16).flatMap b.snapRules ++ (upTo 16).flatMap (b.priorityRules is440)

/-- R87: the loaded value of a limited field lies in its limits. -/
def ImgBuild.limitRule (b : ImgBuild) (x : LimitEnt × Nat) : ImgBuild :=
  let e := x.1
  match fieldOfMask e.addr e.mask with
  | none => b
  | some f =>
    let num (w : Nat) : Int := if e.signed then sx f.w (bits w f.lo f.w) else (bits w f.lo f.w : Nat)
    let v := num (b.word e.addr)
    if num e.min ≤ v && v ≤ num e.max then b else b.fail x.2 0x07

/-- R94, check 5: the records of both sections. -/
def readImage (is440 : Bool) (gen safe : List Nat) (safeOff : Nat) : ImgBuild :=
  let b : ImgBuild := default
  let b := b.section is440 false (gen.length + 1) 0 0x40 gen
  let b := b.section is440 true (safe.length + 1) 0 safeOff safe
  let b := b.limits.foldl (fun c x => c.limitRule x) b
  (b.rules is440).foldl ImgBuild.judge b

/-- The first failing record: its type, offset and detail. -/
def ImgBuild.firstError (b : ImgBuild) : Option (Nat × Nat × Nat) :=
  match b.errs with
  | [] => none
  | e :: t =>
    let x := t.foldl (fun (m e : Nat × Nat) => if e.1 < m.1 then e else m) e
    let r := b.recs.getD x.1 (0, 0)
    some (r.1, r.2, x.2)

/-! ### A pass over an image (R93, R94) -/

/-- What a pass over a slot finds: the records, and what checks 4 and 6 to 9 need. -/
structure ImgPass where
  head : Header
  build : ImgBuild
  genCrc : Nat
  safeCrc : Nat
  crcOk : Bool
  key : List Nat
  r : Nat
  s : Nat
  digest : List Nat

/-- The records of a slot whose header has passed checks 1 to 3. -/
def slotRecords (e : Env) (slotB : Bool) (errs : List ByteErr) : ImgBuild :=
  let h := readHeader (e.slotBytes slotB 64 [])
  let l := e.slotBytes slotB h.len errs
  readImage e.fuses.is440 ((l.drop 0x40).take h.genLen) ((l.drop h.safeOff).take h.safeLen) h.safeOff

/-- CRC of a section, from its first byte through END's LENGTH field (R82). -/
def sectionCrc (l : List Nat) : Nat := crc32 (l.take (l.length - 4))

/-- A whole pass over a slot whose header has passed checks 1 to 3. -/
def imagePass (e : Env) (slotB : Bool) (errs : List ByteErr) : ImgPass :=
  let h := readHeader (e.slotBytes slotB 64 [])
  let l := e.slotBytes slotB h.len errs
  let gen := (l.drop 0x40).take h.genLen
  let safe := (l.drop h.safeOff).take h.safeLen
  let sig := l.drop h.sigOff
  let gc := sectionCrc gen
  let sc := sectionCrc safe
  { head := h, build := slotRecords e slotB errs, genCrc := gc, safeCrc := sc
    crcOk := leAt gen (gen.length - 4) 4 == gc && leAt safe (safe.length - 4) 4 == sc
    key := sig.take 64, r := beNat ((sig.drop 64).take 32), s := beNat ((sig.drop 96).take 32)
    digest := sha256 (l.take h.sigOff) }

/-- Checks 4 and 5: the result code, ACCEPTED when they pass. -/
def ImgPass.records (p : ImgPass) : Nat :=
  if !p.crcOk then resSection else if p.build.firstError.isSome then resRecord else resAccepted

/-- R93, R96, check 6: the key is the owner's, or no owner is fused. -/
def keyOk (f : Fuses) (key : List Nat) : Bool :=
  match f.ownerKey with
  | none => true
  | some d => sha256 key == d.map (·.toNat)

/-- R93, check 7. -/
def sigOk (key : List Nat) (digest : List Nat) (r s : Nat) : Bool :=
  ecdsaVerify digest (beNat (key.take 32)) (beNat (key.drop 32)) r s

/-- R41, check 8. -/
def capable (f : Fuses) (strings : Nat) (cells : List Nat) : Bool :=
  !f.is440 || (decide (strings < 16) && (cells.drop 28).all (fun x => x % 4 == 0))

/-- Checks 4 to 8 in order (R94). -/
def ImgPass.result (p : ImgPass) (f : Fuses) : Nat :=
  if p.records != resAccepted then p.records
  else if !(keyOk f p.key) then resKey
  else if !(sigOk p.key p.digest p.r p.s) then resSignature
  else if !(capable f p.build.strings p.build.cells) then resCapability
  else resAccepted

end Sys2Proof.Machine
end

