-- ==== Sys2Proof/Machine/AudioPorts.lean ====
section
/-! DEFINITION. Audio ports (spec file 04): TDM receive and transmit ports (R110 to R126) and the AES3 receivers (R127 to
R133). A frame reaches the model as the bits that its bit clocks sampled; edges and polarities of the pins are part of
that sampling (log entry 46). -/
namespace Sys2Proof.Machine

/-! ### Clock qualification, shared by TDM and AES3 (R116 to R118, R129) -/

/-- Nominal length of a frame in quarter-ticks. -/
def Dev.nominalQt (d : Dev) (n : Nat) : Nat := 4 * d.srcPeriod n

/-- R116, R129: a length within 1 % of nominal. -/
def Dev.lengthOk (d : Dev) (n len : Nat) : Bool :=
  decide (((len : Int) - d.nominalQt n).natAbs * 100 ≤ d.nominalQt n)

/-- A clean frame is counted. At the 64th of a run the answer is the rate check (R117). -/
def Dev.cleanFrame (d : Dev) (n len : Nat) : Dev × Option Bool :=
  let p := d.port1 n
  let tot := p.runTot + len
  let d := d.put (fdClean n) (min 64 (d.fld (fdClean n) + 1))
  if p.runN + 1 < 64 then (d.modPort n (fun p => { p with runN := p.runN + 1, runTot := tot }), none)
  else
    let nom := 64 * d.nominalQt n
    let ok := decide (((tot : Int) - nom).natAbs * 1000000 ≤ d.fld (fdTol n) * nom)
    ((d.modPort n (fun p => { p with runN := 0, runTot := 0 })).put (fdPeriod n) (satNat 20 tot), some ok)

/-- A run of clean frames ends. -/
def Dev.runReset (d : Dev) (n : Nat) : Dev :=
  (d.modPort n (fun p => { p with runN := 0, runTot := 0 })).put (fdClean n) 0

/-- R118, R129: an accepted port loses acceptance. The FIFO of an AES3 receiver is flushed too (log entry 77). -/
def Dev.portLoss (d : Dev) (n : Nat) : Dev :=
  let d := (((d.runReset n).setFifo n []).putB (fdAccept n) false).bump (fdLoss n)
  (d.evt (fdEvtLoss n)).groupLoss n

/-- R117, R129: a port is accepted at quarter-tick qt. -/
def Dev.portAccept (d : Dev) (n qt : Nat) : Dev := ((d.putB (fdAccept n) true).evt (fdEvtLock n)).groupAccept n qt

/-! ### The TDM frame (R112 to R115, R120, R124) -/

/-- Slots, word bits, width and offset of a TDMn_FMT word. -/
def fmtSlots (fmt : Nat) : Nat := bits fmt 16 6
def fmtWord (fmt : Nat) : Nat := wordBits (bits fmt 12 2)
def fmtWidth (fmt : Nat) : Nat := widthBits (bits fmt 8 2)
def fmtOffset (fmt : Nat) : Nat := bits fmt 0 5

/-- R114: a received word of `w` bits as S.23. -/
def rxSample (w v : Nat) : Int := if w == 32 then sat23 (rsh (sx 32 v) 8) else sx w v * 2 ^ (24 - w)

/-- R115: an S.23 value as a word of `w` bits. -/
def txWord (w : Nat) (x : Int) : Nat :=
  if w == 32 then ux 32 (x * 256) else if w == 24 then ux 24 x else ux w (sat w (rsh x (24 - w)))

/-- The selected slots, lowest first. -/
def selected (fmt mask : Nat) : List Nat := (upTo (fmtSlots fmt)).filter (tbit mask)

/-- R112, R114, R120: the channels of a received frame. -/
def colander (fmt mask : Nat) (sd : List Bool) : List Int :=
  (selected fmt mask).map (fun j =>
    let w := (sd.drop (fmtOffset fmt + j * fmtWidth fmt)).take (fmtWord fmt)
    rxSample (fmtWord fmt) (w.foldl (fun acc b => 2 * acc + b2n b) 0))

/-- R112, R124: the bits that a transmit port drives in a frame of `fb` bit clocks; none is high impedance. -/
def txFrame (fb : Nat) (idleZ : Bool) (fmt mask : Nat) (ch : List Int) : List (Option Bool) :=
  let idle : Option Bool := if idleZ then none else some false
  let off := fmtOffset fmt
  let width := fmtWidth fmt
  let w := fmtWord fmt
  let sel := selected fmt mask
  (upTo fb).map (fun p =>
    let j := (p - off) / width
    let q := (p - off) % width
    if p < off || fmtSlots fmt ≤ j || !(sel.contains j) || w ≤ q then idle
    else some (tbit (txWord w (lat ch (sel.takeWhile (· != j)).length)) (w - 1 - q)))

/-! ### The pending set (R122, R123) -/

/-- The pending set is taken up. -/
def Dev.takeSet (d : Dev) (n : Nat) : Dev :=
  let d := (d.setReg (Reg.TDMn_LIVE_FMT n) (d.reg (Reg.TDMn_FMT n))).setReg (Reg.TDMn_LIVE_MASK n) (d.reg (Reg.TDMn_MASK n))
  let d := (upTo 32).foldl (fun d j => d.setReg (Reg.TDMn_LIVE_TXSRCj n j) (d.reg (Reg.TDMn_TXSRCj n j))) d
  d.put (Fd.TDMn_STATUS_CHANNELS n) (popcount 32 (d.fld (Fd.TDMn_LIVE_MASK_MASK n)))

/-- R123: a frame sync at tick t takes a pending set up; one written within 8T before it may wait for the next. -/
def Dev.syncSet (d : Dev) (n t : Nat) : Dev := match (d.port1 n).pendTick with
  | none => d
  | some w =>
    let (c, d1) := d.fresh
    let (go, d) := if t < w + 8 then (Config.takeLateSet c, d1) else (true, d)
    if go then
      ((((d.takeSet n).modPort n (fun p => { p with pendTick := none })).putB (Fd.TDMn_STATUS_UPDATE_PENDING n) false).evt
        (Fd.TDMn_EVT_UPDATE n))
    else d

/-- R123: the pending set of a port in use was written at tick t. -/
def Dev.pendSet (d : Dev) (n t : Nat) : Dev :=
  (d.modPort n (fun p => { p with pendTick := some t })).putB (Fd.TDMn_STATUS_UPDATE_PENDING n) true

/-! ### Transmit (R124 to R126, R144) -/

/-- The sources of R125 for one sample: kinds 1 to 4 for strings 0 to 7, then kind 5. -/
def MonSet.sources (m : MonSet) : List Int :=
  let row (l : List Int) : List Int := strings8.map (lat l)
  row m.feed ++ row m.post ++ row m.volt ++ row m.curr ++ [m.stock]

/-- R125: what an entry of TDMn_LIVE_TXSRC selects of the sources of a sample. -/
def Dev.txSource (d : Dev) (src : List Int) (n j : Nat) : Int :=
  let kind := d.fld (Fd.TDMn_LIVE_TXSRCj_KIND n j)
  let k := d.fld (Fd.TDMn_LIVE_TXSRCj_STRING n j)
  if kind == 5 then lat src 32
  else if kind == 0 || decide (5 < kind) || !(d.present k) then 0
  else lat src (8 * (kind - 1) + k)

/-- The 32 channels of a transmit port, by the set in force (R123). -/
def Dev.txChannels (d : Dev) (src : List Int) (n : Nat) : List Int := (upTo 32).map (d.txSource src n)

/-- The frame that begins at a transmit port: its channels, or nothing selected while it is not accepted (R117). -/
def Dev.sendFrameTdm (d : Dev) (n : Nat) (src : List Int) : Dev :=
  let mask := if d.accepted n then d.fld (Fd.TDMn_LIVE_MASK_MASK n) else 0
  let f := txFrame (d.fld (Fd.TDMn_CFG_FRAME_BITS n)) (d.bit (Fd.TDMn_CFG_IDLE n)) (d.reg (Reg.TDMn_LIVE_FMT n)).toNat mask
    (d.txChannels src n)
  d.modPort n (fun p => { p with tx := f })

/-- R126: the levels that a master drives at FSYn, by bit position: active for one bit clock or for half of the frame. -/
def fsLevels (fb : Nat) (half activeLow : Bool) : List Bool :=
  (upTo fb).map (fun p => decide (p < if half then fb / 2 else 1) != activeLow)

/-- R126: the frame sync that a master drives with its frame. -/
def Dev.sendSync (d : Dev) (n : Nat) : Dev :=
  d.modPort n (fun p => { p with
    fs := fsLevels (d.fld (Fd.TDMn_CFG_FRAME_BITS n)) (d.bit (Fd.TDMn_CFG_FS_LEN n)) (d.bit (Fd.TDMn_CFG_FS_POL n)) })

/-- R126: the sources of the frame that a master begins at boundary s: the values produced for s − P. A monitor sample for
s − P is the one that AUDIO takes up at s (R171). -/
def Dev.masterSources (d : Dev) : List Int := ({ d.monPrev with volt := d.mon.volt, curr := d.mon.curr } : MonSet).sources

/-- R123 to R126, R144: the transmit ports at program sample boundary s. A slave's converter carries every source, and its
frame selects among the results with the set in force, so no frame mixes two sets (log entry 78). -/
def Dev.transmitBoundary (d : Dev) (s : Nat) : Dev :=
  [0, 1, 2, 3].foldl (fun d n =>
    if d.txMaster n then ((d.syncSet n s).sendFrameTdm n d.masterSources).sendSync n
    else if d.txSlave n then
      let num : Int := (s / d.period : Nat)
      (d.modConv n (fun c => { c with hist := (num, d.mon.sources) :: c.hist.take 400 })).histWrite n num
    else d) d

/-! ### The commands of a TDM port -/

/-- The AUDIO island serves the ports. -/
def Dev.audioRuns (d : Dev) (e : Env) : Bool := e.started && d.islandOk islAudio

/-- A slave port in use (R110, R111). -/
def Dev.tdmSlave (d : Dev) (n : Nat) : Bool := d.portRx n || d.txSlave n

/-- R116: a frame sync has not come within 1.5 nominal frame periods. -/
def Dev.syncOverdue (d : Dev) (n len : Nat) : Bool := decide (3 * d.nominalQt n < 2 * len)

/-- R116 to R118: the frame that began at q0 ends at qt with its bits. -/
def Dev.tdmFrameEnd (d : Dev) (n q0 qt : Nat) (sd : List Bool) : Dev :=
  let fb := d.fld (Fd.TDMn_CFG_FRAME_BITS n)
  let len := qt - q0
  let acc := d.accepted n
  if sd.length == fb && d.lengthOk n len then
    let d := if acc && d.portRx n then
        d.deliver n q0 (colander (d.reg (Reg.TDMn_LIVE_FMT n)).toNat (d.fld (Fd.TDMn_LIVE_MASK_MASK n)) sd)
      else d
    match d.cleanFrame n len with
    | (d, none) => d
    | (d, some true) => if acc then d.groupAccept n qt else d.portAccept n qt
    | (d, some false) =>
      let d := d.bump (Fd.TDMn_ERR_CNT_RATE n)
      if acc then d.portLoss n else d.runReset n
  else
    let d := if fb < sd.length || d.syncOverdue n len then d.bump (Fd.TDMn_ERR_CNT_MISSING n)
      else if sd.length < fb then d.bump (Fd.TDMn_ERR_CNT_EARLY n) else d
    if acc then d.portLoss n else d.runReset n

/-- A frame sync at quarter-tick qt. -/
def Dev.tdmSync (d : Dev) (n qt : Nat) (sd : List Bool) : Dev :=
  let d := match (d.port1 n).lastSync with
    | some q0 => d.tdmFrameEnd n q0 qt sd
    | none => d
  let d := d.modPort n (fun p => { p with lastSync := some qt })
  let d := if d.accepted n && d.isMaster n then d.gridPush n qt else d
  let d := d.syncSet n (qt / 4)
  if d.txSlave n then
    let d := if d.accepted n then d.convSync n qt else d
    d.sendFrameTdm n (d.conv1 n).out
  else d

/-- TDM_FRAME_SYNC (R116 to R118, R123). -/
def execTdmFrameSync (n : Fin 4) (sd : List Bool) (qt : Nat) (s : State) : Host.Outcome State Fault Refusal :=
  onDev s (fun e d => if d.audioRuns e && d.tdmSlave n.val then d.tdmSync n.val qt sd else d)

/-- R116: at quarter-tick qt, with `bits` bit clocks counted since the latest frame sync, the next one is missing: more than
FRAME_BITS have been counted, or 1.5 nominal periods have passed. -/
def Dev.syncMissing (d : Dev) (n bits qt : Nat) : Bool := match (d.port1 n).lastSync with
  | some q0 => decide (d.fld (Fd.TDMn_CFG_FRAME_BITS n) < bits) || d.syncOverdue n (qt - q0)
  | none => false

/-- TDM_FRAME_SYNC_MISSING (R116, R118): the next frame sync begins a new count. -/
def execTdmFrameSyncMissing (n : Fin 4) (x : SyncWait) (s : State) : Host.Outcome State Fault Refusal :=
  onDev s (fun e d =>
    if d.audioRuns e && d.tdmSlave n.val && d.syncMissing n.val x.bits x.qt then
      let d := (d.modPort n.val (fun p => { p with lastSync := none })).bump (Fd.TDMn_ERR_CNT_MISSING n.val)
      if d.accepted n.val then d.portLoss n.val else d.runReset n.val
    else d)

/-! ### AES3 receivers -/

def Dev.aes1 (d : Dev) (n : Nat) : AesSt := vat d.aes n
def Dev.modAes (d : Dev) (n : Nat) (f : AesSt → AesSt) : Dev := { d with aes := vmod d.aes n f }

/-- One of the two subframes: `b` is subframe 2. -/
def AesSt.sub (x : AesSt) (b : Bool) : AesSub := if b then x.b else x.a
def AesSt.setSub (x : AesSt) (b : Bool) (u : AesSub) : AesSt := if b then { x with b := u } else { x with a := u }

/-- R130: the check of bytes 0 to 22, least significant bit first. -/
def crcc (bytes : List Nat) : Nat := bytes.foldl (crcRefByte 0xB8) 0xFF

/-- R130: 192 captured bits, newest first, as 24 bytes. -/
def blockBytes (cap : List Bool) : List Nat :=
  let l := cap.reverse
  (upTo 24).map (fun b => ((l.drop (8 * b)).take 8).reverse.foldl (fun acc x => 2 * acc + b2n x) 0)

/-- The bytes of a committed block in the registers of a subframe; zero where none is committed. -/
def Dev.showBlock (d : Dev) (n : Nat) (b : Bool) (blk : Option (List Byte)) : Dev :=
  let l := (blk.getD []).map (·.toNat)
  let d := (upTo 6).foldl (fun d w =>
    d.setReg (if b then Reg.AESn_CS_Bw n w else Reg.AESn_CS_Aw n w) (BitVec.ofNat 32 (leNat4 ((l.drop (4 * w)).take 4)))) d
  d.putB (if b then Fd.AESn_STATUS_CS_B n else Fd.AESn_STATUS_CS_A n) blk.isSome
where
  /-- Four bytes, the first lowest. -/
  leNat4 : List Nat → Nat
    | [] => 0
    | x :: t => x + 256 * leNat4 t

/-- R130: a complete block of one subframe. -/
def Dev.commitBlock (d : Dev) (n : Nat) (b : Bool) : Dev :=
  match ((d.aes1 n).sub b).cap with
  | none => d
  | some cap =>
    let l := blockBytes cap
    if tbit (l.getD 0 0) 0 && d.bit (Fd.AESn_CFG_CRCC_CHECK n) && l.getD 23 0 != crcc (l.take 23) then
      d.bump (Fd.AESn_ERR_CNT_CRCC n)
    else
      let blk : List Byte := l.map (BitVec.ofNat 8)
      let new := ((d.aes1 n).sub b).committed != some blk
      ((d.modAes n (fun x => x.setSub b { x.sub b with committed := some blk })).showBlock n b (some blk)).evtIf new
        (Fd.AESn_EVT_CS n)

/-- The captures of both subframes. -/
def Dev.setCaps (d : Dev) (n : Nat) (f : Option (List Bool) → Bool → Option (List Bool)) : Dev :=
  d.modAes n (fun x => { x with a := { x.a with cap := f x.a.cap false }, b := { x.b with cap := f x.b.cap true } })

/-- R128, R130: block sync and capture at the end of a frame. -/
def Dev.aesBlock (d : Dev) (n : Nat) (rx : AesRx) : Dev :=
  let c (b : Bool) : Bool := (if b then rx.s2 else rx.s1).getLsbD 26
  let pos := (d.aes1 n).blockPos
  let setPos (d : Dev) (p : Option Nat) : Dev := d.modAes n (fun x => { x with blockPos := p })
  if !rx.orderOk || rx.pre == .bad then setPos (d.setCaps n (fun _ _ => none)) none
  else
    let d := match rx.pre, pos with
      | .z, some p =>
        (setPos (d.setCaps n (fun _ b => some [c b])) (some 1)).when (p != 192) (fun d => d.bump (Fd.AESn_ERR_CNT_BLOCK n))
      | .z, none => setPos (d.setCaps n (fun _ b => some [c b])) (some 1)
      | _, some p =>
        if p == 192 then (setPos (d.setCaps n (fun _ _ => none)) none).bump (Fd.AESn_ERR_CNT_BLOCK n)
        else setPos (d.setCaps n (fun l b => l.map (fun l => c b :: l))) (some (p + 1))
      | _, none => d
    if (d.aes1 n).blockPos == some 192 && rx.nextZ then (d.commitBlock n false).commitBlock n true else d

/-- R131, R132: a committed block (its bytes) mutes its subframe. Bit groups are written lowest bit first (log entry 47). -/
def Dev.blockMutes (d : Dev) (n : Nat) (l : List Nat) : Bool :=
  let b0 := l.getD 0 0
  let pro := tbit b0 0
  let emph := if pro then decide (2 ≤ bits b0 2 3) else bits b0 3 3 != 0
  (!pro && !(d.bit (Fd.AESn_CFG_ACCEPT_CONSUMER n))) || tbit b0 1 || (emph && !(d.bit (Fd.AESn_CFG_ACCEPT_EMPH n)))

/-- R131: the auxiliary bits carry audio. -/
def auxAudio (l : List Nat) : Bool :=
  if tbit (l.getD 0 0) 0 then bits (l.getD 2 0) 0 3 == 4 else tbit (l.getD 4 0) 0

/-- The bytes of a subframe's committed block. -/
def AesSub.bytes (u : AesSub) : List Nat := (u.committed.getD []).map (·.toNat)

/-- R132: a subframe is muted by its committed block, or the lack of one. -/
def Dev.csMute (d : Dev) (n : Nat) (u : AesSub) : Bool := u.committed.isNone || d.blockMutes n u.bytes

/-- MUTE_A and MUTE_B follow; entry and exit set AESn_EVT.DATA (R133). -/
def Dev.showMute (d : Dev) (n : Nat) (b : Bool) (before : Bool × Bool) : Dev :=
  let u := (d.aes1 n).sub b
  let cs := d.csMute n u
  (d.putB (if b then Fd.AESn_STATUS_MUTE_B n else Fd.AESn_STATUS_MUTE_A n) (cs || u.badMute)).evtIf
    (cs != before.1 || u.badMute != before.2) (Fd.AESn_EVT_DATA n)

/-- R133: a subframe sample: its value as delivered. The 64th good sample in a row ends the mute and is itself delivered
(log entry 77). -/
def Dev.aesSample (d : Dev) (n : Nat) (b : Bool) (w : BitVec 28) : Dev × Int :=
  let u := (d.aes1 n).sub b
  let v := w.toNat
  let aux := auxAudio u.bytes
  let x := sx 24 (if aux then v % 2 ^ 24 else v % 2 ^ 24 / 16 * 16)
  let parity := popcount 28 v % 2 == 1
  let invalid := tbit v 24 && d.bit (Fd.AESn_CFG_VMODE n)
  let bad := parity || invalid
  let d := if parity then d.bump (Fd.AESn_SUBST_CNT_PARITY n) else d
  let d := if invalid then d.bump (Fd.AESn_SUBST_CNT_VALIDITY n) else d
  let u' : AesSub :=
    if bad then { u with badRun := u.badRun + 1, goodRun := 0, badMute := u.badMute || decide (16 < u.badRun + 1) }
    else { u with badRun := 0, goodRun := u.goodRun + 1, badMute := u.badMute && decide (u.goodRun + 1 < 64), lastGood := x }
  let d := d.modAes n (fun s => s.setSub b u')
  (d, if d.csMute n u' || u'.badMute then 0 else u'.lastGood)

/-- What a subframe's mutes are now. -/
def Dev.mutesNow (d : Dev) (n : Nat) (b : Bool) : Bool × Bool :=
  (d.csMute n ((d.aes1 n).sub b), ((d.aes1 n).sub b).badMute)

/-- R129: an accepted receiver loses acceptance: both committed blocks are discarded. -/
def Dev.aesLoss (d : Dev) (n : Nat) : Dev :=
  let d := (d.portLoss (4 + n)).modAes n (fun x =>
    { x with a := { x.a with committed := none, lastGood := 0, badRun := 0, goodRun := 0, badMute := false }
             b := { x.b with committed := none, lastGood := 0, badRun := 0, goodRun := 0, badMute := false } })
  (d.showBlock n false none).showBlock n true none

/-- R127 to R133: an AES3 frame ends. A block that it completes governs the frames after it. -/
def Dev.aesFrame (d : Dev) (n : Nat) (rx : AesRx) : Dev :=
  let p := 4 + n
  let before (b : Bool) : Bool × Bool := d.mutesNow n b
  let (ma, mb) := (before false, before true)
  let d := d.add (Fd.AESn_ERR_CNT_BIPHASE n) rx.violations
  let len := rx.qtEnd - rx.qtStart
  let acc := d.accepted p
  let clean := rx.orderOk && rx.pre != .bad && rx.violations == 0 && d.lengthOk p len
  let d := if clean && acc then
      let (d, a) := d.aesSample n false rx.s1
      let (d, b) := d.aesSample n true rx.s2
      d.deliver p rx.qtStart [a, b]
    else d
  let d := d.aesBlock n rx
  let d := if clean then
      match d.cleanFrame p len with
      | (d, none) => d
      | (d, some true) => if acc then d.groupAccept p rx.qtEnd else d.portAccept p rx.qtEnd
      | (d, some false) => if acc then d.aesLoss n else d.runReset p
    else if acc then d.aesLoss n else d.runReset p
  let d := (d.showMute n false ma).showMute n true mb
  if d.accepted p && d.isMaster p then d.gridPush p rx.qtEnd else d

/-- AES_FRAME (R129). -/
def execAesFrame (n : Fin 2) (rx : AesRx) (s : State) : Host.Outcome State Fault Refusal :=
  onDev s (fun e d => if d.audioRuns e && d.portRx (4 + n.val) then d.aesFrame n.val rx else d)

end Sys2Proof.Machine
end

