-- ==== Sys2Proof/Machine/Route.lean ====
section
/-! DEFINITION. The audio path of a program sample (spec files 05, 06): mix (R146), mute (R148), Lid override (R149),
delay store (R151 to R153), equaliser (R155, R162 to R164), zone gain (R154) and the limiter (R322). A value that a
failed island should have renewed stays as it was and is marked repeated (R52). -/
namespace Sys2Proof.Machine

def Dev.zone1 (d : Dev) (k : Nat) : ZoneSt := vat d.zone k

/-! ### Zone feeds (R146 to R149) -/

/-- R121: a source channel at the current boundary; 132 is the Stockpot, 0xFF none. -/
def Dev.sourceChan (d : Dev) (src : Nat) : Int :=
  if src < 128 then (if d.portRx (src / 32) then lat (d.conv1 (src / 32)).out (src % 32) else 0)
  else if src < 132 then (if d.portRx (4 + (src - 128) / 2) then lat (d.conv1 (4 + (src - 128) / 2)).out (src % 2) else 0)
  else if src == 132 then d.pot.out
  else 0

/-- R146: the mix of zone k at boundary s, with the settings in force. -/
def Dev.mix (d : Dev) (k s : Nat) : Int :=
  sat23 (rsh (sumI ([0, 1, 2, 3].map (fun i =>
    d.sourceChan (d.eff s (Fd.ROUTE_MIXk_i_SRC k i)) * d.effI s (Fd.ROUTE_MIXk_i_GAIN k i)))) 14)

/-- A position that moves one step towards 0 or N (R148, R149). -/
def fadeMove (up : Bool) (n pos : Nat) : Nat := if up then min n (pos + 1) else pos - 1

/-- R148, R149: zone k's feed at boundary s. -/
def Dev.feed (d : Dev) (k s : Nat) : Dev :=
  let n := d.fadeN
  let z := d.zone1 k
  let muted := tbit (d.eff s Fd.ROUTE_MUTE_MUTE) k
  let mp := fadeMove (!muted) n z.mutePos
  let op := fadeMove z.ovr n z.ovrPos
  let host := rsh (d.mix k s * fadeGain n mp) 15
  let a := fadeGain n op
  let ovr := if a = 0 then 0 else d.sourceChan z.ovrSrc
  let feed := sat23 (rsh (host * (32768 - a) + ovr * a) 15)
  d.modZone k (fun z => { z with mutePos := mp, ovrPos := op, feed := feed, feedRep := false })

/-- R149: AUDIO takes up the override of zone k: a source and a gain, or none. -/
def Dev.takeOverride (d : Dev) (k : Nat) (o : Option (Nat × Nat)) : Dev :=
  let was := (d.zone1 k).ovr
  match o with
  | some (src, gain) =>
    let d := d.modZone k (fun z => { z with ovr := true, ovrSrc := src, ovrGain := gain })
    let d := ((d.putB (Fd.ROUTE_OVRk_ACTIVE k) true).put (Fd.ROUTE_OVRk_SRC k) src).put (Fd.ROUTE_OVRk_GAIN k) gain
    if was then d else (d.putB (Fd.ROUTE_OVRk_FADING k) true).evt Fd.ROUTE_EVT_OVERRIDE
  | none =>
    if was then
      (((d.modZone k (fun z => { z with ovr := false })).putB (Fd.ROUTE_OVRk_ACTIVE k) false).putB
        (Fd.ROUTE_OVRk_FADING k) true).evt Fd.ROUTE_EVT_OVERRIDE
    else d

/-- R150: zone k is overridden, or fading to or from an override. -/
def Dev.overridden (d : Dev) (k : Nat) : Bool := (d.zone1 k).ovr || d.bit (Fd.ROUTE_OVRk_FADING k)

/-- OVERRIDE_FADE_END (R149). -/
def execOverrideFadeEnd (k : Fin 8) (s : State) : Host.Outcome State Fault Refusal :=
  onDev s (fun _ d =>
    let z := d.zone1 k.val
    if z.ovrPos == (if z.ovr then d.fadeN else 0) then
      let d := d.putB (Fd.ROUTE_OVRk_FADING k.val) false
      if z.ovr then d else (d.put (Fd.ROUTE_OVRk_SRC k.val) 0xFF).put (Fd.ROUTE_OVRk_GAIN k.val) 0
    else d)

/-! ### Delay store (R151 to R153) -/

/-- Words of a region of the delay store, and the number of the memory in the list of wrong words. -/
def regionWords : Nat := 131072
def memDelay : Nat := 32

/-- N_d of R152. -/
def Dev.delayN (d : Dev) : Nat := 262144 / d.period

/-- R153: read region k at `back` samples before the one just written, whose check bits are fresh; the flag marks an
uncorrectable word. -/
def Dev.dsRead (d : Dev) (k back : Nat) : Dev × Int × Bool :=
  let word := regionWords * k + (d.dsCnt + regionWords - back) % regionWords
  let e := if back == 0 then 0 else d.eccAt memDelay word
  if e == 0 then (d, Store.get zeroed d.dstore word, false)
  else if e == 1 then (d.bump Fd.ROUTE_DS_ECC_CORR, Store.get zeroed d.dstore word, false)
  else ((d.bump Fd.ROUTE_DS_ECC_UNCORR).evt Fd.ROUTE_EVT_DS_ECC, 0, true)

/-- R147, R152: zone k's delay setting at boundary s: a change starts a fade, or is deferred to the end of one. -/
def Dev.delaySet (d : Dev) (k s : Nat) : Dev :=
  let want := d.eff s (Fd.ROUTE_DELAYk_DELAY k)
  let z := d.zone1 k
  let d := if want == z.delaySeen then d
    else (d.modZone k (fun z => { z with delaySeen := want, delayDefer := some want })).putB (Fd.ROUTE_DLIVEk_PENDING k)
      (z.delayPos != 0)
  let z := d.zone1 k
  if z.delayPos != 0 then d.modZone k (fun z => { z with delayPos := min d.delayN (z.delayPos + 1) })
  else match z.delayDefer with
    | none => d
    | some v =>
      let d := d.putB (Fd.ROUTE_DLIVEk_PENDING k) false
      if v == z.delayOld then d.modZone k (fun z => { z with delayDefer := none })
      else (d.modZone k (fun z => { z with delayDefer := none, delayNew := v, delayPos := 1 })).putB (Fd.ROUTE_DLIVEk_FADING k) true

/-- R50, R151: MEM writes the zone feeds of the latest boundary into their words 16T after it (log entry 80). -/
def Dev.delayWritten (d : Dev) : Dev :=
  d.each d.strs (fun d k => d.eccWrite memDelay (regionWords * k + (d.dsCnt + regionWords - 1) % regionWords))

/-- R151 to R153: zone k's feed of boundary s goes into the store and its delayed sample comes out. The word's check bits follow
with the take-up of the feed (`Dev.delayWritten`). -/
def Dev.delayZone (d : Dev) (k s : Nat) : Dev :=
  let word := regionWords * k + d.dsCnt
  let z := d.zone1 k
  let d : Dev := { d with dstore := Store.set zeroed d.dstore word z.feed }
  let d := d.delaySet k s
  let z := d.zone1 k
  let (d, x, bad) := d.dsRead k z.delayOld
  let (d, y, bad2) := if z.delayPos == 0 then (d, x, false) else d.dsRead k z.delayNew
  let a := if z.delayPos == 0 then 0 else fadeGain d.delayN z.delayPos
  d.modZone k (fun z => { z with delayed := rsh (x * (32768 - a) + y * a) 15, delayedRep := z.feedRep || bad || bad2 })

/-- DELAY_FADE_END (R152). -/
def execDelayFadeEnd (k : Fin 8) (s : State) : Host.Outcome State Fault Refusal :=
  onDev s (fun _ d =>
    let z := d.zone1 k.val
    if z.delayPos != 0 && z.delayPos == d.delayN then
      let d := d.modZone k.val (fun z => { z with delayOld := z.delayNew, delayPos := 0 })
      ((d.put (Fd.ROUTE_DLIVEk_LIVE k.val) z.delayNew).putB (Fd.ROUTE_DLIVEk_FADING k.val) false).evt Fd.ROUTE_EVT_DELAY_DONE
    else d)

/-! ### The equaliser (R155, R162 to R164) -/

/-- Words of a string's FIR memories, and the numbers of memories 16 to 23. -/
def firWords : Nat := 1152
def memFir (k : Nat) : Nat := 16 + k

/-- N of R155. -/
def Dev.firN (d : Dev) : Nat := if d.img.cfg.rate == 2 then 192 else 384

/-- The words of the FIR memories of string k that one sample reads: the bank or banks in use and the history. -/
def Dev.firReads (d : Dev) (n a b : Nat) (w : Nat) : Bool :=
  if w < 768 then (w / 384 == a || w / 384 == b) && decide (w % 384 < n)
  else decide ((d.firCnt + 384 - (w - 768)) % 384 < n)

/-- R162: a request that takes effect at boundary s. -/
def Dev.firRequest (d : Dev) (k s : Nat) : Dev :=
  let z := d.zone1 k
  let due := z.firReq.filter (fun w => boundaryAfter w ≤ s)
  if due.isEmpty then d
  else
    let d := d.modZone k (fun z => { z with firReq := z.firReq.filter (fun w => !(decide (boundaryAfter w ≤ s))) })
    let target := d.eff s (Fd.FIR_REQk_TARGET k)
    match z.firFade with
    | some _ =>
      ((d.putB (Fd.FIR_BANKk_PENDING k) true).put (Fd.FIR_BANKk_PEND_TARGET k) target).evt Fd.FIR_EVT_DEFERRED
    | none =>
      if target == d.fld (Fd.FIR_BANKk_ACTIVE k) then d
      else d.modZone k (fun z => { z with firFade := some (0, target, s - 1) })

/-- R50, R155: FIR writes the delayed samples of the latest boundary into its histories 32T after it (log entry 80). -/
def Dev.historyWritten (d : Dev) : Dev :=
  d.each d.strs (fun d k => d.eccWrite (memFir k) (768 + (d.firCnt + 383) % 384))

/-- R155, R162, R164: the equaliser's result of string k for boundary s. -/
def Dev.firZone (d : Dev) (k s : Nat) : Dev :=
  let n := d.firN
  let base := firWords * k
  let z := d.zone1 k
  let pos := d.firCnt % 384
  let d : Dev := { d with firMem := Store.set firInit d.firMem (base + 768 + pos) z.delayed }
  let d := d.firRequest k s
  let nf := 2 ^ d.fld Fd.FIR_CFG_FADE_LOG2
  let act := d.fld (Fd.FIR_BANKk_ACTIVE k)
  -- the bank or banks in use and the step; after the last step only the new bank (R163)
  let (d, act, new, i) := match (d.zone1 k).firFade with
    | some (i, t, from_) =>
      if !(decide (from_ < s)) then (d, act, act, 0)
      else if nf ≤ i then (d, t, t, 0)
      else
        (((d.modZone k (fun z => { z with firFade := some (i + 1, t, s) })).putB (Fd.FIR_BANKk_FADING k) true).put
          (Fd.FIR_BANKk_STEP k) (i + 1), act, t, i + 1)
    | none => (d, act, act, 0)
  -- R164
  let bad := d.ecc.filter (fun e => eccKey (memFir k) 0 ≤ e.1 && e.1 < eccKey (memFir k) firWords &&
    e.1 != eccKey (memFir k) (768 + pos) && d.firReads n act new (e.1 - eccKey (memFir k) 0))
  let double (w : Nat) : Bool := bad.any (fun e => e.2 != 1 && e.1 == eccKey (memFir k) w)
  let words (o : Nat) : List Int := Store.slice firInit d.firMem (base + o) 384
  let clean (o : Nat) : List Int :=
    if bad.isEmpty then words o else (upTo 384).map (fun j => if double (o + j) then 0 else lat (words o) j)
  let ho := (clean (384 * act)).take n
  let h := if i == 0 then ho
    else
      let hn := (clean (384 * new)).take n
      let a := fadeGain nf i
      (upTo n).map (fun j => rsh (lat ho j * (32768 - a) + lat hn j * a) 15)
  let hist := clean 768
  let x := ((hist.take (pos + 1)).reverse ++ (hist.drop (pos + 1)).reverse).take n
  let y := sat23 (rsh (dot h x) 23)
  let d := (d.add Fd.FIR_ECC_CORR (bad.filter (fun e => e.2 == 1)).length).add Fd.FIR_ECC_UNCORR
    (bad.filter (fun e => e.2 != 1)).length
  let contained := bad.any (fun e => e.2 != 1)
  let d := d.evtIf contained Fd.FIR_EVT_ECC
  d.modZone k (fun z => { z with eqNext := y, eqNextRep := z.delayedRep || contained })

/-- FIR_FADE_END (R162, R163): at the boundary after the last sample of the fade. -/
def execFirFadeEnd (k : Fin 8) (s : State) : Host.Outcome State Fault Refusal :=
  onDev s (fun e d => match (d.zone1 k.val).firFade with
    | some (i, t, at_) =>
      if i == 2 ^ d.fld Fd.FIR_CFG_FADE_LOG2 && decide (at_ < e.tick) && e.tick % d.period == 0 then
        let held := d.bit (Fd.FIR_BANKk_PENDING k.val)
        let target := d.fld (Fd.FIR_BANKk_PEND_TARGET k.val)
        let d := ((d.put (Fd.FIR_BANKk_ACTIVE k.val) t).putB (Fd.FIR_BANKk_FADING k.val) false).put (Fd.FIR_BANKk_STEP k.val) 0
        let d := (d.putB (Fd.FIR_BANKk_PENDING k.val) false).evt Fd.FIR_EVT_FADE_DONE
        d.modZone k.val (fun z => { z with firFade := if held && target != t then some (0, target, e.tick) else none })
      else d
    | none => d)

/-! ### Stage 7 (R154, R310, R322) -/

/-- R50, R52: the equalised sample that string k takes up. Its AUDIO event counts with TRANSFER_TAKEUP (R317). -/
def Dev.takeEqualised (d : Dev) (k s : Nat) : Dev :=
  if d.produced islFir (s - d.period) then d.modZone k (fun z => { z with eq := z.eqNext }) else d

/-- R154: the gain move of zone k towards its setting. -/
def Dev.gainMove (d : Dev) (k s : Nat) : Dev × Nat :=
  let n := d.fadeN
  let z := d.zone1 k
  let now (z : ZoneSt) : Nat := (z.gFrom + rdiv (((z.gTo : Int) - z.gFrom) * (z.gPos : Int)) n).toNat
  let target := if z.ovr then z.ovrGain else d.eff s (Fd.CHk_GAIN_GAIN k)
  let z := if target == z.gTo then z else { z with gFrom := now z, gTo := target, gPos := 0 }
  let z := { z with gPos := min n (z.gPos + 1) }
  (d.modZone k (fun _ => z), now z)

/-- R154: r at boundary s. -/
def Dev.startRamp (d : Dev) (k s : Nat) : Nat := match (d.st k).pr.release with
  | some r =>
    if d.inRun k && decide (r ≤ s) then min 32768 (32768 * ((s - r) / 64) / d.fld Fd.SYS_START1_RAMP) else 0
  | none => 0

/-- R154, R310, R322: stage 7 of string k at boundary s. -/
def Dev.stage7 (d : Dev) (k s : Nat) : Dev :=
  let d := d.takeEqualised k s
  let (d, g) := d.gainMove k s
  let r := d.startRamp k s
  let eff := rsh ((g * r : Nat) : Int) 15
  let z := d.zone1 k
  let moving := decide (z.gPos < d.fadeN && z.gFrom != z.gTo) || (d.inRun k && (d.st k).pr.release.isSome && decide (r < 32768))
  let d := ((d.putB (Fd.CHk_GAIN_LIVE_OVR k) z.ovr).putB (Fd.CHk_GAIN_LIVE_RAMPING k) moving).put (Fd.CHk_GAIN_LIVE_EFF k) eff.toNat
  let (d, y) := d.limiter k s (sat23 (rsh (z.eq * eff) 15))
  let (d, p) := d.probeSample k s
  let d := d.modZone k (fun z => { z with post := y })
  d.modCtl k (fun c => { c with z := ((s, sat23 (y + p)) :: c.z).take 3 })

/-! ### A whole boundary -/

/-- The values a transmit port may send for this boundary (R125). -/
def Dev.monitorSet (d : Dev) : MonSet :=
  { feed := strings8.map (fun k => (d.zone1 k).feed), post := strings8.map (fun k => (d.zone1 k).post)
    volt := strings8.map (fun k => (vat d.sieve k).monTaken), curr := strings8.map (fun k => (vat d.sieve (8 + k)).monTaken)
    stock := d.pot.out }

/-- The audio path at program sample boundary s, once the Stockpot has its output of the boundary. -/
def Dev.audioBoundary (d : Dev) (s : Nat) : Dev :=
  let d := d.each d.liveStrs (fun d k => d.stage7 k s)
  let d := if d.islandOk islAudio then
      let d := d.readReference s
      let d := d.each (ports6.filter d.convMaster) (fun d n => d.convBoundary n s)
      let d := d.each d.strs (fun d k => d.feed k s)
      ({ d with monPrev := d.mon, mon := d.monitorSet } : Dev).transmitBoundary s
    else d.each d.strs (fun d k => d.modZone k (fun z => { z with feedRep := true }))
  let d := if d.islandOk islMem then
      let d := d.each d.strs (fun d k => d.delayZone k s)
      { d with dsCnt := (d.dsCnt + 1) % regionWords }
    else d.each d.strs (fun d k => d.modZone k (fun z => { z with delayedRep := true }))
  if d.islandOk islFir then
    let d := d.each d.strs (fun d k => d.firZone k s)
    { d with firCnt := d.firCnt + 1 }
  else d

end Sys2Proof.Machine
end

