-- ==== Sys2Proof/Machine/Startup.lean ====
section
/-! DEFINITION. Image selection (R94 to R97, R452, R453, R455), the apply pass, and the standby check (R98). A command
reports that an activity of the NOR port or of the verifier has ended; how long each takes is the devices' affair
(log entry 44). The apply pass writes each word when its ticks reach it (R453, log entry 45). -/
namespace Sys2Proof.Machine

/-- Record the result of a slot (R94, IMG_SLOT_A and IMG_SLOT_B). -/
def Dev.slotResult (d : Dev) (slotB : Bool) (r : Nat) : Dev :=
  (d.put (if slotB then Fd.IMG_SLOT_B_RESULT else Fd.IMG_SLOT_A_RESULT) r).evtIf (2 < r) Fd.IMG_EVT_REFUSED

/-- PROFILE and SEQ as read from a header; 0 for one that failed check 2. -/
def Dev.slotHeader (d : Dev) (slotB : Bool) (l : List Nat) : Dev :=
  let ok := headerOk l
  let h := readHeader l
  (d.put (if slotB then Fd.IMG_SLOT_B_PROFILE else Fd.IMG_SLOT_A_PROFILE) (if ok then h.profile else 0)).put
    (if slotB then Fd.IMG_SEQ_B_SEQ else Fd.IMG_SEQ_A_SEQ) (if ok then h.seq else 0)

/-- IMG_ERR and IMG_ERR_OFF of a result RECORD. -/
def Dev.slotError (d : Dev) (slotB : Bool) (b : ImgBuild) : Dev :=
  match b.firstError with
  | some (t, o, x) =>
    (((d.put Fd.IMG_ERR_TYPE t).putB Fd.IMG_ERR_SLOT slotB).put Fd.IMG_ERR_DETAIL x).put Fd.IMG_ERR_OFF_OFFSET o
  | none => d

def Dev.imgPhase (d : Dev) (p : ImgPhase) : Dev := { d with img := { d.img with phase := p } }

/-- R97: no candidate is left. A failed platform keeps its own state (R57). -/
def Dev.noImage (d : Dev) : Dev :=
  (d.imgPhase .done).when (d.fld Fd.SYS_STATE_STATE == 0) (fun d => d.put Fd.SYS_STATE_STATE 8)

/-- R95: the next candidate, or none. -/
def Dev.nextCandidate (d : Dev) : Dev := match d.img.cands with
  | c :: t => { d with img := { d.img with cands := t, phase := .validate c } }
  | [] => d.noImage

/-- R95: a candidate is not accepted. -/
def Dev.rejectCandidate (d : Dev) (slotB : Bool) (r : Nat) : Dev := (d.slotResult slotB r).nextCandidate

/-! ### Selection -/

/-- IMAGE_SELECTION_START (R452): once LID is in RUN or FAULT-OFF. -/
def execImageSelectionStart (s : State) : Host.Outcome State Fault Refusal :=
  onDev s (fun e d =>
    if d.img.phase = .idle && !e.started && d.domRun domNvm && !d.pwr.shutdown &&
        (d.domRun domLid || decide (domSt d domLid = .faultOff)) then
      d.imgPhase (.header false)
    else d)

/-- R95: both headers are known: order the candidates. -/
def Dev.orderCandidates (d : Dev) (okA okB : Bool) : Dev :=
  let aFirst := decide (d.fld Fd.IMG_SEQ_B_SEQ ≤ d.fld Fd.IMG_SEQ_A_SEQ)
  let l := if okA && okB then (if aFirst then [false, true] else [true, false])
    else if okA then [false] else if okB then [true] else []
  ({ d with img := { d.img with cands := l, first := l.head? } } : Dev).nextCandidate

/-- A header is read: checks 1 to 3 (R94). The result of a header that passes is not yet known. -/
def Dev.readHead (d : Dev) (e : Env) (slotB : Bool) (errs : List ByteErr) : Dev × Bool :=
  let l := e.slotBytes slotB 64 errs
  let r := headerResult e.fuses.maxProfile.toNat l
  let d := d.slotHeader slotB l
  (if r == resAccepted then d else d.slotResult slotB r, r == resAccepted)

/-- HEADER_READ_DONE (R81, R94, R95): slot A, then slot B. -/
def execHeaderReadDone (errs : List ByteErr) (s : State) : Host.Outcome State Fault Refusal :=
  onDev s (fun e d => match d.img.phase with
    | .header false =>
      let (d, ok) := d.readHead e false errs
      { d with img := { d.img with phase := .header true, cands := if ok then [false] else [] } }
    | .header true =>
      let okA := !d.img.cands.isEmpty
      let (d, okB) := d.readHead e true errs
      d.orderCandidates okA okB
    | _ => d)

/-- Image selection goes on only while NVM works (R452). -/
def Dev.imgRuns (d : Dev) (e : Env) : Bool := d.domRun domNvm && !d.pwr.shutdown && !e.started

/-- VALIDATION_PASS_DONE (R94, checks 4 and 5). -/
def execValidationPassDone (errs : List ByteErr) (s : State) : Host.Outcome State Fault Refusal :=
  onDev s (fun e d => match d.img.phase with
    | .validate c =>
      if !(d.imgRuns e) then d
      else
        let p := imagePass e c errs
        let r := p.records
        if r != resAccepted then (d.when (r == resRecord) (fun d => d.slotError c p.build)).rejectCandidate c r
        else
          let b8 (l : List Nat) : List Byte := l.map (fun n => BitVec.ofNat 8 n)
          { d with img := { d.img with phase := .key c, seen :=
            { keyXY := b8 p.key, r := p.r, s := p.s, digest := b8 p.digest, strings := p.build.strings
              cells := p.build.cells, genCrc := p.genCrc, safeCrc := p.safeCrc } } }
    | _ => d)

/-- KEY_CHECK_DONE (R94, R96, check 6). -/
def execKeyCheckDone (s : State) : Host.Outcome State Fault Refusal :=
  onDev s (fun e d => match d.img.phase with
    | .key c =>
      if !(d.imgRuns e) then d
      else if keyOk e.fuses (d.img.seen.keyXY.map (·.toNat)) then d.imgPhase (.signature c)
      else d.rejectCandidate c resKey
    | _ => d)

/-- SIGNATURE_VERIFY_DONE (R93, check 7). -/
def execSignatureVerifyDone (s : State) : Host.Outcome State Fault Refusal :=
  onDev s (fun e d => match d.img.phase with
    | .signature c =>
      let g := d.img.seen
      if !(d.imgRuns e) then d
      else if sigOk (g.keyXY.map (·.toNat)) (g.digest.map (·.toNat)) g.r g.s then d.imgPhase (.capability c)
      else d.rejectCandidate c resSignature
    | _ => d)

/-- R95: a candidate is accepted: its CH domains may ramp (R56) and its apply pass begins. DESIGN CHOICE, log entry 72:
UNOWNED (R96) takes the place of PLATFORM_FAIL (R57) where both hold; the spec gives no precedence. -/
def Dev.acceptCandidate (d : Dev) (e : Env) (c : Bool) : Dev :=
  let d := d.slotResult c resAccepted
  if e.fuses.ownerKey.isNone then (d.imgPhase .done).put Fd.SYS_STATE_STATE 9
  else if d.blocked then d.imgPhase .done
  else
    let back := d.img.first != some c
    let d := { d with img := { d.img with phase := .apply c, passPos := 0, cfg := { d.img.cfg with strings := d.img.seen.strings } }
                      pwr := { d.pwr with rampDue := max d.pwr.rampDue (e.lockTicks + 512) } }
    d.when back (fun d => (d.putB Fd.IMG_STATUS_FALLBACK true).evt Fd.IMG_EVT_FALLBACK)

/-- CAPABILITY_CHECK_DONE (R41, R94 to R96, check 8). -/
def execCapabilityCheckDone (s : State) : Host.Outcome State Fault Refusal :=
  onDev s (fun e d => match d.img.phase with
    | .capability c =>
      if !(d.imgRuns e) then d
      else if capable e.fuses d.img.seen.strings d.img.seen.cells then d.acceptCandidate e c
      else d.rejectCandidate c resCapability
    | _ => d)

/-! ### The apply pass -/

/-- Write a loaded word: the bits of its section's letter. A domain that does not run takes nothing (R452). The table
of the image also stands in the standby copy (R69). -/
def Dev.applyWord (d : Dev) (x : LoadWord) : Dev :=
  let put (d : Dev) (a : Nat) : Dev :=
    d.setReg a (BitVec.ofNat 32 (((d.reg a).toNat &&& (0xFFFFFFFF - x.mask)) ||| (x.word &&& x.mask)))
  match blockAt x.addr with
  | some (_, _, dom) =>
    if !(d.domRun dom) then d
    else if 0x2400 ≤ x.addr && x.addr < 0x2600 then put (put d x.addr) (x.addr + 0x200)
    else put d x.addr
  | none => d

/-- The first word of a coefficient bank in the FIR memories (R157). -/
def firBank (k bank : Nat) : Nat := 1152 * k + 384 * bank

/-- R88: write a coefficient bank; taps beyond the record's are zero. -/
def Dev.applyFir (d : Dev) (x : LoadFir) : Dev :=
  { d with firMem := Store.setList firInit d.firMem (firBank x.str x.bank) (x.taps ++ List.replicate (384 - x.taps.length) 0) }

/-- R343: a BASELINE record. -/
def Dev.applyBase (d : Dev) (x : LoadBase) : Dev :=
  let k := x.str
  let w := x.words
  let d := if d.domRun domLid then
      let d := (d.put (Fd.LID_SUPk_BZ_Z_MAG k) (w.getD 0 0)).put (Fd.LID_SUPk_BA_Z_ARG k) (w.getD 1 0 % 65536)
      (((d.put (Fd.LID_SUPk_BA_VALID k) x.valid).put (Fd.LID_SUPk_BR_R_DC k) (w.getD 2 0)).put
        (Fd.LID_SUPk_BC_C_LINE k) (w.getD 3 0)).put (Fd.LID_SUPk_BE_C_EOL k) (w.getD 4 0)
    else d
  if d.domRun (domCh k) then
    (d.put (Fd.CHk_DT_RBASE_RBASE k) (w.getD 2 0)).put (Fd.CHk_DT_STATUS_BVALID k) x.valid
  else d

/-- R78: ticks of a pass before its first byte; each byte then takes one tick. -/
def passLead : Nat := 16

/-- R453: everything whose last byte the pass reads on one of the ticks that `due` picks is written. -/
def Dev.applyReached (d : Dev) (b : ImgBuild) (due : Nat → Bool) : Dev :=
  let d := (b.words.filter (fun x => due (x.off + 4 + passLead))).foldl Dev.applyWord d
  let d := (b.firs.filter (fun x => due (x.fin + passLead))).foldl Dev.applyFir d
  (b.bases.filter (fun x => due (x.fin + passLead))).foldl Dev.applyBase d

/-- R95: the pass over an accepted image ends: what its ticks have not reached, and what stands once it has ended. -/
def Dev.applyImage (d : Dev) (p : ImgPass) (c : Bool) : Dev :=
  let b := p.build
  let d := d.applyReached b (fun t => decide (d.img.passPos < t))
  let cells : Vector Nat 56 := (upTo 56).foldl (fun v i => vset v i (b.cell i)) (Vector.replicate 56 0)
  let b8 (l : List Nat) : List Byte := l.map (fun n => BitVec.ofNat 8 n)
  let d := { d with img := { d.img with cfg :=
    { rate := b.rate, strings := b.strings, nand := b.nand, cells := cells, limits := b.limits.map (fun (x : LimitEnt × Nat) => x.1)
      msgDir := match b.dir with
        | some (l, _) => l
        | none => []
      passcode := b.pass.map (fun (l : List Nat) => (b8 (l.take 16), b8 (l.drop 16))) } } }
  ((d.put Fd.IMG_STATUS_LOADED (if c then 2 else 1)).put Fd.IMG_SITE_ID_SITE_ID p.head.site).put
    Fd.IMG_PROFILE_PROFILE p.head.profile

/-- R95, R74: every word that the records of an image load returns to its reset value. -/
def Dev.unload (d : Dev) (b : ImgBuild) : Dev :=
  let d := b.words.foldl (fun d x => d.applyWord { x with word := (resetWord x.addr).toNat }) d
  let d := b.bases.foldl (fun d x => d.applyBase { x with valid := 0, words := [] }) d
  { d with firMem := b.firs.foldl (fun m x => Store.setList firInit m (firBank x.str x.bank)
      ((upTo 384).map (fun j => firInit (firBank x.str x.bank + j)))) d.firMem }

/-- R56, R95: every CH domain of a present string has finished its ramp. -/
def Dev.chReady (d : Dev) : Bool :=
  strings8.all (fun k => !(d.present k) || d.domRun (domCh k) || decide (domSt d (domCh k) = .faultOff))

/-- R453: a tick of the apply pass once the CH domains are ready: the words whose last byte it reads are written. -/
def Dev.applyTick (d : Dev) (e : Env) : Dev := match d.img.phase with
  | .apply c =>
    if !(d.imgRuns e) || !d.chReady then d
    else
      let n := d.img.passPos + 1
      let d : Dev := { d with img := { d.img with passPos := n } }
      d.applyReached (slotRecords e c []) (· == n)
  | _ => d

/-- R95, R453: check 9 fails: every loaded word returns to its reset value, and the CH domains are switched off from
the next tick on. -/
def Dev.applyFailed (d : Dev) (e : Env) (c : Bool) : Dev :=
  let d := ((d.unload (slotRecords e c [])).slotResult c resApplyCrc).putB Fd.IMG_STATUS_FALLBACK false
  { d with img := { d.img with phase := .applyFail, failDue := e.lockTicks + 1, passPos := 0 } }

/-- APPLY_PASS_DONE (R94, R95, check 9): the CRCs recomputed are those of the validation pass. -/
def execApplyPassDone (errs : List ByteErr) (s : State) : Host.Outcome State Fault Refusal :=
  onDev s (fun e d => match d.img.phase with
    | .apply c =>
      if !(d.imgRuns e) || !d.chReady then d
      else
        let p := imagePass e c errs
        if p.crcOk && p.genCrc == d.img.seen.genCrc && p.safeCrc == d.img.seen.safeCrc then
          let d := (d.applyImage p c).imgPhase .done
          { d with img := { d.img with applyDone := true, readyAt := max d.img.readyAt e.lockTicks } }
        else d.applyFailed e c
    | _ => d)

/-- APPLY_FAIL_DOMAIN_OFF (R453): the highest powered CH domain; after the last, the next candidate. -/
def execApplyFailDomainOff (s : State) : Host.Outcome State Fault Refusal :=
  onDev s (fun e d =>
    if d.img.phase = .applyFail && decide (d.img.failDue ≤ e.lockTicks) then
      let l := [15, 14, 13, 12, 11, 10, 9, 8].filter d.powered
      let d := match l with
        | i :: _ => d.domOff i .off
        | [] => d
      if l.length ≤ 1 then
        ({ d with img := { d.img with cfg := default } } : Dev).nextCandidate
      else { d with img := { d.img with failDue := e.lockTicks + 256 } }
    else d)

/-! ### The standby check -/

/-- The slot that is not loaded (R79); slot B when none is. -/
def Dev.otherSlot (d : Dev) : Bool := d.fld Fd.IMG_STATUS_LOADED != 2

/-- R98: checks 1 to 8 on a slot, applying nothing: its result, shown in the slot's registers. -/
def Dev.checkSlot (d : Dev) (e : Env) (slotB : Bool) (errs : List ByteErr) : Dev × Nat :=
  let (d, ok) := d.readHead e slotB []
  if !ok then (d, headerResult e.fuses.maxProfile.toNat (e.slotBytes slotB 64 []))
  else
    let p := imagePass e slotB errs
    let r := p.result e.fuses
    ((d.when (r == resRecord) (fun d => d.slotError slotB p.build)).slotResult slotB r, r)

/-- R98: the standby check of a slot ends. -/
def Dev.standbyEnd (d : Dev) (e : Env) (slotB : Bool) (errs : List ByteErr) : Dev × Nat :=
  let (d, r) := d.checkSlot e slotB errs
  let d := d.putB Fd.IMG_STATUS_STANDBY_DONE true
  let d := if r == resAccepted then d.putB Fd.IMG_STATUS_SINGLE false
    else (d.putB Fd.IMG_STATUS_SINGLE true).evt Fd.IMG_EVT_SINGLE
  ({ d with img := { d.img with standby := none } }, r)

/-- STANDBY_CHECK_START (R98): once, after the release tick. -/
def execStandbyCheckStart (s : State) : Host.Outcome State Fault Refusal :=
  onDev s (fun e d =>
    if e.started && d.domRun domNvm && d.img.standby.isNone && !(d.bit Fd.IMG_STATUS_STANDBY_DONE) &&
        d.fld Fd.IMG_STATUS_LOADED != 0 then
      { d with img := { d.img with standby := some (d.otherSlot, false) } }
    else d)

/-- STANDBY_CHECK_DONE (R98). -/
def execStandbyCheckDone (errs : List ByteErr) (s : State) : Host.Outcome State Fault Refusal :=
  onDev s (fun e d => match d.img.standby with
    | some (c, _) => if d.domRun domNvm then (d.standbyEnd e c errs).1 else d
    | none => d)

end Sys2Proof.Machine
end

