-- ==== Sys2Proof/Machine/Lid.lean ====
section
/-! DEFINITION. The Lid (spec file 14): contact inputs (R347, R348), the mailbox (R367, R368), the priority table (R351 to
R354), supervision verdicts (R338 to R341), conditions and fault relays (R369, R370). The message owner is handed to
the Stockpot. -/
namespace Sys2Proof.Machine

def Dev.modLid (d : Dev) (f : LidSt → LidSt) : Dev := { d with lid := f d.lid }

/-- The Lid works (R49). -/
def Dev.lidRuns (d : Dev) (e : Env) : Bool := e.started && d.islandOk islLid

def entries16 : List Nat := upTo 16

/-! ### Contact inputs (R347, R348) -/

/-- Debounced states as LID_CIN codes them. -/
def cinNormal : Nat := 0
def cinActive : Nat := 1
def cinOpen : Nat := 2
def cinShort : Nat := 3

/-- R347: the class of a conversion; an unused input has none. -/
def Dev.cinClass (d : Dev) (i code : Nat) : Option Nat :=
  let mode := d.fld (Fd.LID_CINMODE_MODE i)
  let short := decide (code < d.fld Fd.LID_CINTH0_T_SHORT)
  let act := decide (code < d.fld Fd.LID_CINTH0_T_ACT)
  let closed := decide (code < d.fld Fd.LID_CINTH1_T_OPEN)
  if mode == 1 then some (if short then cinShort else if act then cinActive else if closed then cinNormal else cinOpen)
  else if mode == 2 then some (if act then cinActive else cinNormal)
  else none

/-- R348: one conversion of input i at tick t. -/
def Dev.cinConvert (d : Dev) (i code t : Nat) : Dev :=
  let d := d.put (Fd.LID_CADCi_CODE i) code
  match d.cinClass i code with
  | none => d
  | some c =>
    let x := vat d.lid.cin i
    let run := if x.cls == some c then x.run + 1 else 1
    let shown := if tbit (d.fld Fd.LID_CIN_KNOWN) i then some (d.fld (Fd.LID_CIN_STATE i)) else none
    let new := decide (d.fld Fd.LID_CINTH1_DEB ≤ run) && shown != some c
    let y : CinSt := { x with cls := some c, run := run, next := if new then some (c, t + 64) else x.next }
    let d := d.modLid (fun l => { l with cin := vset l.cin i y })
    if new then
      ((d.put Fd.LID_CIN_KNOWN (putBit (d.fld Fd.LID_CIN_KNOWN) i true)).put (Fd.LID_CIN_STATE i) c).evt Fd.LID_EVT_CONTACT
    else d

/-- CONTACT_CONVERSION (R347): every 4 096 ticks; the codes of inputs 0 to 7. -/
def execContactConversion (codes : List (BitVec 10)) (s : State) : Host.Outcome State Fault Refusal :=
  onDev s (fun e d =>
    if d.lidRuns e && e.tick % 4096 == 0 then
      d.each strings8 (fun d i => d.cinConvert i (codes.getD i 0).toNat e.tick)
    else d)

/-- The debounced states in force at boundary b. -/
def Dev.cinSettle (d : Dev) (b : Nat) : Dev :=
  d.each strings8 (fun d i =>
    let x := vat d.lid.cin i
    match x.next with
    | some (c, w) => if w ≤ b then d.modLid (fun l => { l with cin := vset l.cin i { x with cur := some c, next := none } }) else d
    | none => d)

/-- R348: an input is asserted. -/
def Dev.asserted (d : Dev) (i : Nat) : Bool := match (vat d.lid.cin i).cur with
  | some c => c == cinActive || ((c == cinOpen || c == cinShort) && d.bit (Fd.LID_CINMODE_FACT i))
  | none => false

/-! ### Entries (R351 to R354) -/

def Dev.entryKind (d : Dev) (e : Nat) : Nat := d.fld (Fd.LID_PRIe_TRIG_KIND e)
def Dev.entryOn (d : Dev) (e : Nat) : Bool := d.bit (Fd.LID_PRIe_TRIG_EN e)
def Dev.action (d : Dev) (e : Nat) : Nat := d.fld (Fd.LID_PRIe_ACT_ACTION e)

/-- R351: the trigger of an entry. -/
def Dev.trigger (d : Dev) (e : Nat) : Bool :=
  if d.entryKind e == 0 then d.asserted (d.fld (Fd.LID_PRIe_TRIG_INPUT e)) else d.ebit Fd.LID_ACT_HOSTACT e

/-- Zone k is covered by an active entry with KIND = 0. -/
def Dev.coveredByContact (d : Dev) (k : Nat) : Bool :=
  entries16.any (fun e => d.ebit Fd.LID_ACT_ACTIVE e && d.entryKind e == 0 && tbit (d.fld (Fd.LID_PRIe_TRIG_ZONES e)) k)

/-- Index of a message in the directory. -/
def Dev.dirIndex (d : Dev) (msg : Nat) : Option Nat :=
  (upTo d.img.cfg.msgDir.length).find? (fun i => ((d.img.cfg.msgDir.getD i default).msg) == msg)

/-- R363: directory entry i is marked damaged. -/
def Dev.damagedAt (d : Dev) (i : Nat) : Bool :=
  if i < 32 then tbit (d.fld Fd.STOCKPOT_BAD0_BAD) i else tbit (d.fld Fd.STOCKPOT_BAD1_BAD) (i - 32)

def Dev.damaged (d : Dev) (msg : Nat) : Bool := match d.dirIndex msg with
  | some i => d.damagedAt i
  | none => false

/-- R352: the message of an entry. -/
def Dev.messageOf (d : Dev) (e : Nat) : Nat :=
  let msg := d.fld (Fd.LID_PRIe_MSG_MSG e)
  let alt := d.fld (Fd.LID_PRIe_MSG_ALT e)
  if d.damaged msg && alt != 0xFFFF && !(d.damaged alt) then alt else msg

/-- States of the Stockpot (STOCKPOT_STATUS.STATE). -/
def potIdle : Nat := 0
def potFill : Nat := 1
def potPlay : Nat := 2
def potGap : Nat := 3
def potFade : Nat := 4
def potNoStore : Nat := 5

def Dev.potState (d : Dev) : Nat := d.fld Fd.STOCKPOT_STATUS_STATE

/-- R351: one entry at an evaluation. -/
def Dev.entryStep (d : Dev) (e : Nat) : Dev :=
  let en := d.entryOn e
  let t := en && d.trigger e
  let prev := vat d.lid.trig e
  let held := vat d.lid.trig e || vat d.lid.latch e
  let spent := d.ebit Fd.LID_LATCH_SPENT e && !(t && !prev)
  let latched := en && (d.ebit Fd.LID_LATCH_LATCHED e || (t && d.bit (Fd.LID_PRIe_TRIG_LATCH e) && !spent))
  let owner := d.lid.owner == some e
  let start := held && !t && !latched && owner && d.bit (Fd.LID_PRIe_TRIG_STOP e) && d.potState == potPlay &&
    d.ebit Fd.LID_ACT_ACTIVE e
  let fin := (start || vat d.lid.fin e) && !(t || latched) && owner && !d.lid.repEnd && d.potState == potPlay
  let active := en && !spent && (t || latched || fin)
  let changed := active != d.ebit Fd.LID_ACT_ACTIVE e
  let d := d.modLid (fun l => { l with trig := vset l.trig e t, fin := vset l.fin e fin, latch := vset l.latch e latched })
  (((d.putE Fd.LID_LATCH_SPENT e spent).putE Fd.LID_LATCH_LATCHED e latched).putE Fd.LID_ACT_ACTIVE e active).evtIf changed
    Fd.LID_EVT_ENTRY

/-- R352: the message owner. -/
def Dev.messageOwner (d : Dev) : Option Nat :=
  if d.potState == potNoStore then none
  else entries16.find? (fun e => d.ebit Fd.LID_ACT_ACTIVE e && d.action e == 0)

/-- The entry's message is the one that its owner has the Stockpot play or fill. -/
def Dev.sounds (d : Dev) (e : Nat) : Bool := match d.lid.owner with
  | some o => d.messageOf e == d.messageOf o
  | none => false

/-- R353, R354: zone k at an evaluation: its override. -/
def Dev.zoneWinner (d : Dev) (k : Nat) : Dev × Option (Nat × Nat) :=
  let d := if d.coveredByContact k && tbit (d.fld Fd.LID_STOP_STOP) k then
      (d.putE Fd.LID_STOP_STOP k false).bump Fd.LID_STOP_CLEARED
    else d
  match entries16.find? (fun e => d.ebit Fd.LID_ACT_ACTIVE e && tbit (d.fld (Fd.LID_PRIe_TRIG_ZONES e)) k) with
  | none => (((d.putE Fd.LID_ZONE_HELD k false).putE Fd.LID_ZONE_CONFLICT k false).put (Fd.LID_WIN_WIN k) 0, none)
  | some e =>
    let gain := d.fld (Fd.LID_PRIe_ACT_GAIN e)
    let act := d.action e
    let clash := act == 0 && !(d.sounds e)
    let src := if act == 1 then d.fld (Fd.LID_PRIe_ACT_CHAN e) else if act == 0 && !clash then 132 else 0xFF
    (((d.putE Fd.LID_ZONE_HELD k true).putE Fd.LID_ZONE_CONFLICT k clash).put (Fd.LID_WIN_WIN k) e, some (src, gain))

/-! ### The mailbox (R367, R368) -/

def mbAccepted : Nat := 1
def mbPerm : Nat := 2
def mbRule : Nat := 3
def mbArg : Nat := 4
def mbRate : Nat := 5

/-- R368: PLAY, CANCEL and RESET refuse an entry beyond the table or not enabled. -/
def Dev.badEntry (d : Dev) (arg : Nat) : Bool := decide (15 < arg) || !(d.entryOn arg)

/-- STOP, START and RESTART refuse an absent string. -/
def Dev.badString (d : Dev) (arg : Nat) : Bool := decide (7 < arg) || !(d.present arg)

/-- The state of string k as the Lid has taken it up. -/
def Dev.copyOf (d : Dev) (k : Nat) : StrCopy := vat d.lid.strs k

/-- R368: the result of a request that is permitted. -/
def Dev.mbJudge (d : Dev) (code arg : Nat) : Nat :=
  if code == 1 || code == 2 then (if d.badEntry arg then mbArg else if d.entryKind arg != 1 then mbRule else mbAccepted)
  else if code == 3 then
    if d.badEntry arg then mbArg
    else if !(d.bit (Fd.LID_PRIe_TRIG_HRST arg)) || d.trigger arg then mbRule else mbAccepted
  else if code == 4 then (if d.badString arg then mbArg else if d.coveredByContact arg then mbRule else mbAccepted)
  else if code == 5 then
    if d.badString arg then mbArg else if !(tbit (d.fld Fd.LID_STOP_STOP) arg) then mbRule else mbAccepted
  else if code == 6 then
    if d.badString arg then mbArg
    else if (d.copyOf arg).phase != phLatched then mbRule
    else match vat d.lid.rst arg with
      | some n => if n < d.fld Fd.LID_CFG2_RST_MIN then mbRate else mbAccepted
      | none => mbAccepted
  else if arg != 0 then mbArg
  else mbAccepted

/-- R368: the effect of an accepted request of requester p. -/
def Dev.mbEffect (d : Dev) (p code arg : Nat) : Dev :=
  if code == 1 then d.putE Fd.LID_ACT_HOSTACT arg true
  else if code == 2 then d.putE Fd.LID_ACT_HOSTACT arg false
  else if code == 3 then d.putE Fd.LID_LATCH_LATCHED arg false
  else if code == 4 then d.putE Fd.LID_STOP_STOP arg true
  else if code == 5 then d.putE Fd.LID_STOP_STOP arg false
  else if code == 6 then d.modLid (fun l => { l with pulse := vset l.pulse arg true, rst := vset l.rst arg (some 0) })
  else if code == 7 then d.put Fd.LID_FLT_NEW_NEW 0
  else d.modLid (fun l => { l with hb := vset l.hb p 0 })

/-- R367, R368: a request is evaluated. -/
def Dev.mailbox (d : Dev) (p code arg tag : Nat) : Dev :=
  let res := if code == 0 || decide (8 < code) then mbArg
    else if !(tbit (d.fld (Fd.LID_PERMp_CODES p)) (code - 1)) then mbPerm
    else d.mbJudge code arg
  let d := if res == mbAccepted then d.mbEffect p code arg else d
  let d := d.modLid (fun l => { l with mb := vset l.mb p none })
  ((((d.putB (Fd.LID_MBp_STAT_PENDING p) false).put (Fd.LID_MBp_STAT_RESULT p) res).put (Fd.LID_MBp_STAT_CODE p) code).put
    (Fd.LID_MBp_STAT_TAG p) tag).evt Fd.LID_EVT_MAILBOX

/-- R367: a request is posted at tick t; the flag says that it is accepted. -/
def Dev.mailboxPost (d : Dev) (p code arg tag t : Nat) : Dev × Bool :=
  if d.bit (Fd.LID_MBp_STAT_PENDING p) then (d, false)
  else ((d.modLid (fun l => { l with mb := vset l.mb p (some { code := code, arg := arg, tag := tag, tick := t }) })).putB
    (Fd.LID_MBp_STAT_PENDING p) true, true)

/-- R367: the requests that take effect at boundary b, in requester order. -/
def Dev.mailboxDue (d : Dev) (b : Nat) : Dev :=
  d.each [0, 1, 2, 3, 4] (fun d p => match vat d.lid.mb p with
    | some m => if boundaryAfter m.tick ≤ b then d.mailbox p m.code m.arg m.tag else d
    | none => d)

/-- A mailbox command: the Lid evaluates the request of requester p. -/
def onMailbox (s : State) (p : Fin 5) (code : Nat) (arg : Byte) (tag : BitVec 16) : Host.Outcome State Fault Refusal :=
  onDev s (fun e d => if d.lidRuns e then d.mailbox p.val code arg.toNat tag.toNat else d)

/-- MAILBOX_PLAY (R368). -/
def execMailboxPlay (p : Fin 5) (arg : Byte) (tag : BitVec 16) (s : State) : Host.Outcome State Fault Refusal := onMailbox s p 1 arg tag
/-- MAILBOX_CANCEL (R368). -/
def execMailboxCancel (p : Fin 5) (arg : Byte) (tag : BitVec 16) (s : State) : Host.Outcome State Fault Refusal := onMailbox s p 2 arg tag
/-- MAILBOX_RESET (R368). -/
def execMailboxReset (p : Fin 5) (arg : Byte) (tag : BitVec 16) (s : State) : Host.Outcome State Fault Refusal := onMailbox s p 3 arg tag
/-- MAILBOX_STOP (R368). -/
def execMailboxStop (p : Fin 5) (arg : Byte) (tag : BitVec 16) (s : State) : Host.Outcome State Fault Refusal := onMailbox s p 4 arg tag
/-- MAILBOX_START (R368). -/
def execMailboxStart (p : Fin 5) (arg : Byte) (tag : BitVec 16) (s : State) : Host.Outcome State Fault Refusal := onMailbox s p 5 arg tag
/-- MAILBOX_RESTART (R368). -/
def execMailboxRestart (p : Fin 5) (arg : Byte) (tag : BitVec 16) (s : State) : Host.Outcome State Fault Refusal := onMailbox s p 6 arg tag
/-- MAILBOX_ACK (R368). -/
def execMailboxAck (p : Fin 5) (arg : Byte) (tag : BitVec 16) (s : State) : Host.Outcome State Fault Refusal := onMailbox s p 7 arg tag
/-- MAILBOX_HEARTBEAT (R368). -/
def execMailboxHeartbeat (p : Fin 5) (arg : Byte) (tag : BitVec 16) (s : State) : Host.Outcome State Fault Refusal := onMailbox s p 8 arg tag
/-- MAILBOX_INVALID_CODE (R368): codes 0 and above 8 are refused. -/
def execMailboxInvalidCode (p : Fin 5) (code arg : Byte) (tag : BitVec 16) (s : State) : Host.Outcome State Fault Refusal :=
  if code.toNat == 0 || decide (8 < code.toNat) then onMailbox s p code.toNat arg tag else .next s

/-! ### The evaluation (R346) -/

/-- R346, R351: the inputs and the entries of the evaluation at boundary b, up to the new message owner. -/
def Dev.lidEntries (d : Dev) (b : Nat) : Dev × Option Nat :=
  let d := (d.cinSettle b).mailboxDue b
  let d := d.each entries16 Dev.entryStep
  let d := d.modLid (fun l => { l with repEnd := false })
  (d, d.messageOwner)

/-- R346, R353: the outputs of the evaluation, once the owner stands. -/
def Dev.lidOutputs (d : Dev) (b : Nat) : Dev :=
  let (d, ovr) := strings8.foldl (fun (x : Dev × Vector (Option (Nat × Nat)) 8) k =>
    if x.1.present k then
      let (d, o) := x.1.zoneWinner k
      (d.put (Fd.LID_SUPk_VERD_DC k) (d.copyOf k).dc, vset x.2 k o)
    else x) (d, Vector.replicate 8 none)
  let stop := d.fld Fd.LID_STOP_STOP
  let lv : Vector Bool 8 := strings8.foldl (fun v k => vset v k (tbit stop k)) (Vector.replicate 8 false)
  d.modLid (fun l => { l with outs := { b := b, ovr := ovr, stop := lv, pulse := l.pulse } :: l.outs.take 8
                              pulse := Vector.replicate 8 false })

/-! ### Supervision (R338 to R341) -/

/-- R338: whether each condition, in the order LOW, HIGH, ANGLE, EOL, CAP, is present in a window. -/
def Dev.supConditions (d : Dev) (k : Nat) (m : Meas) : List Bool :=
  let zm : Int := m.zm
  if d.bit (Fd.LID_SUPk_BA_VALID k) then
    let z : Int := d.fld (Fd.LID_SUPk_BZ_Z_MAG k)
    let cl := d.fld (Fd.LID_SUPk_BC_C_LINE k)
    let ce := d.fld (Fd.LID_SUPk_BE_C_EOL k)
    [ decide (zm * 2 ^ 15 < z * (2 ^ 15 - (d.fld (Fd.LID_SUPk_LIM0_ZLO k) : Int))),
      decide (z * (2 ^ 15 + (d.fld (Fd.LID_SUPk_LIM0_ZHI k) : Int)) < zm * 2 ^ 15),
      decide (d.fld (Fd.LID_SUPk_LIM1_ATOL k) < (m.za - d.sfld (Fd.LID_SUPk_BA_Z_ARG k)).natAbs),
      ce != 0 && decide (2 * m.ca < 2 * cl + ce),
      decide (cl + ce + d.fld (Fd.LID_SUPk_LIM1_CHI k) * 2 ^ 16 < m.ca) ]
  else
    [ decide (m.zm < d.fld (Fd.LID_SUPk_LRNMIN_LRN_ZMIN k)), decide (d.fld (Fd.LID_SUPk_LRNMAX_LRN_ZMAX k) < m.zm),
      false, false, false ]

/-- The verdict bit of a condition. -/
def supField (k i : Nat) : Fld :=
  if i == 0 then Fd.LID_SUPk_VERD_LOW k else if i == 1 then Fd.LID_SUPk_VERD_HIGH k
  else if i == 2 then Fd.LID_SUPk_VERD_ANGLE k else if i == 3 then Fd.LID_SUPk_VERD_EOL k else Fd.LID_SUPk_VERD_CAP k

/-- R339: one condition in a steady window. -/
def Dev.supJudge (d : Dev) (k i : Nat) (here : Bool) : Dev :=
  let x := vat d.lid.sup k
  let vn := d.fld (Fd.LID_SUPk_LIM2_VN k)
  let p := if here then vat x.pres i + 1 else 0
  let a := if here then 0 else vat x.absn i + 1
  let d := d.modLid (fun l => { l with sup := vset l.sup k { x with pres := vset x.pres i p, absn := vset x.absn i a } })
  if p == vn then d.putB (supField k i) true else if a == vn then d.putB (supField k i) false else d

/-- R339, R340: the Lid takes a window of string k up. -/
def Dev.supervise (d : Dev) (k : Nat) (m : Meas) : Dev :=
  if m.steady then
    let c := d.supConditions k m
    let d := d.each [0, 1, 2, 3, 4] (fun d i => d.supJudge k i (c.getD i false))
    ((d.modLid (fun l => { l with sup := vmod l.sup k (fun x => { x with stale := 0 }) })).putB (Fd.LID_SUPk_VERD_STALE k)
      false).bump (Fd.LID_SUPk_CNT_JUDGED k)
  else if m.valid then d.bump (Fd.LID_SUPk_CNT_DISTURBED k)
  else d

/-- R340: the stale counter of string k at a Rack frame start. -/
def Dev.supStale (d : Dev) (k : Nat) : Dev :=
  if (d.copyOf k).cls && (d.copyOf k).phase == phRun then
    let n := min 65535 ((vat d.lid.sup k).stale + 1)
    (d.modLid (fun l => { l with sup := vmod l.sup k (fun x => { x with stale := n }) })).putB (Fd.LID_SUPk_VERD_STALE k)
      (decide (d.fld (Fd.LID_SUPk_LIM2_STALE k) ≤ n))
  else d

/-- R328, R341: NOBASE and LEARN of a present string, by the class that the string state carries. -/
def Dev.supModes (d : Dev) (k : Nat) : Dev :=
  let base := d.bit (Fd.LID_SUPk_BA_VALID k)
  (d.putB (Fd.LID_SUPk_VERD_NOBASE k) (!base)).putB (Fd.LID_SUPk_VERD_LEARN k) (!base && (d.copyOf k).cls)

/-! ### Conditions and relays (R369, R370) -/

/-- LINE_k. -/
def Dev.condLine (d : Dev) (k : Nat) : Bool :=
  let dc := d.fld (Fd.LID_SUPk_VERD_DC k)
  [0, 1, 2, 3, 4].any (fun i => d.bit (supField k i)) || d.bit (Fd.LID_SUPk_VERD_STALE k) || decide (1 < dc)

/-- STR_k. A CH domain in FAULT-OFF has put its string in START_FAIL (R103; log entry 67). -/
def Dev.condStr (d : Dev) (k : Nat) : Bool :=
  let c := d.copyOf k
  decide (vat d.pwr.dom (domCh k) = .faultOff) || c.phase == phLatched || c.phase == phStartWait || c.phase == phStartFail || c.pinMode ||
    decide (d.fld Fd.LID_CFG1_SAFE_T ≤ vat d.lid.safeN k)

/-- DEG_k. -/
def Dev.condDeg (d : Dev) (k : Nat) : Bool :=
  let c := d.copyOf k
  c.degraded || c.held || d.bit (Fd.LID_SUPk_VERD_LEARN k)

/-- HOST_LOSS. -/
def Dev.condHost (d : Dev) : Bool :=
  [0, 1, 2, 3, 4].any (fun p => tbit (d.fld Fd.LID_CFG0_HB_MASK) p && decide (d.fld Fd.LID_CFG0_HB_T ≤ vat d.lid.hb p))

/-- MSG. -/
def Dev.condMsg (d : Dev) : Bool :=
  d.potState == potNoStore ||
  entries16.any (fun e => d.entryOn e && d.action e == 0 &&
    (d.damaged (d.fld (Fd.LID_PRIe_MSG_MSG e)) ||
      (d.fld (Fd.LID_PRIe_MSG_ALT e) != 0xFFFF && d.damaged (d.fld (Fd.LID_PRIe_MSG_ALT e)))))

/-- NAND_WEAR. -/
def Dev.condWear (d : Dev) : Bool :=
  d.img.cfg.nand && d.pot.store && (decide (d.fld Fd.STOCKPOT_POOL_SPARE < d.fld Fd.STOCKPOT_CFG_SPARE_MIN) || d.pot.relocStop)

/-- PLATFORM. -/
def Dev.condPlatform (d : Dev) : Bool :=
  (upTo 16).any (fun i => decide (vat d.pwr.dom i = .faultOff)) || (upTo 7).any (fun i => !(d.islandOk i)) ||
    d.strs.any (fun k => !(d.islandOk (islCh k)))

/-- CONTACT. -/
def Dev.condContact (d : Dev) : Bool :=
  strings8.any (fun i => d.fld (Fd.LID_CINMODE_MODE i) == 1 &&
    ((vat d.lid.cin i).cur == some cinOpen || (vat d.lid.cin i).cur == some cinShort))

/-- R369: the condition vector. -/
def Dev.conditions (d : Dev) : Nat :=
  let per (f : Nat → Bool) : Nat := d.strs.foldl (fun acc k => acc + b2n (f k) * 2 ^ k) 0
  per d.condLine + per d.condStr * 2 ^ 8 + per d.condDeg * 2 ^ 16 + b2n d.condContact * 2 ^ 24 + b2n d.condMsg * 2 ^ 25 +
  b2n d.condWear * 2 ^ 26 + b2n (d.bit Fd.IMG_STATUS_SINGLE) * 2 ^ 27 + b2n d.condPlatform * 2 ^ 28 +
  b2n (d.bit Fd.CLK_STATUS_HOLDOVER) * 2 ^ 29 + b2n d.condHost * 2 ^ 30 + b2n (d.fld Fd.SYS_STATE_STATE != 2) * 2 ^ 31

/-- R369: form LID_COND and note what has appeared. -/
def Dev.formConditions (d : Dev) : Dev :=
  let c := d.conditions
  let new := c &&& (0xFFFFFFFF - d.fld Fd.LID_COND_COND)
  ((d.put Fd.LID_COND_COND c).put Fd.LID_FLT_NEW_NEW (d.fld Fd.LID_FLT_NEW_NEW ||| new)).evtIf (new != 0) Fd.LID_EVT_COND

/-- R370: nothing that releases relay r is present. -/
def Dev.relayClear (d : Dev) (r : Nat) : Bool :=
  let c := d.fld Fd.LID_COND_COND
  !(tbit c 31) && c &&& d.fld (Fd.LID_RLYr_MASK_MASK r) == 0

/-- R370: relay r at a Rack frame start; `ran` says that SYS_STATE was RUN before it. The frame start that reaches RUN finds
NOT_RUN present and does not count. -/
def Dev.relayFrame (ran : Bool) (d : Dev) (r : Nat) : Dev :=
  if d.relayClear r && ran then d.modLid (fun l => { l with rly := vmod l.rly r (· + 1) })
  else
    let d := d.modLid (fun l => { l with rly := vset l.rly r 0 })
    if d.ebit Fd.LID_RLY_ENERGISED r then (d.putE Fd.LID_RLY_ENERGISED r false).evt Fd.LID_EVT_RELAY else d

/-- RELAY_ENERGISE (R370). -/
def execRelayEnergise (r : Fin 4) (s : State) : Host.Outcome State Fault Refusal :=
  onDev s (fun e d =>
    if d.lidRuns e && e.frameStart && d.relayClear r.val && decide (d.fld Fd.LID_CFG1_RLY_HOLD ≤ vat d.lid.rly r.val) &&
        !(d.ebit Fd.LID_RLY_ENERGISED r.val) && !d.pwr.relayHeld then
      (d.putE Fd.LID_RLY_ENERGISED r.val true).evt Fd.LID_EVT_RELAY
    else d)

/-- The fault relay r is energised at its pad (R34, R370). -/
def Dev.relay (d : Dev) (r : Nat) : Bool := d.ebit Fd.LID_RLY_ENERGISED r && !d.pwr.relayHeld

/-- R340, R369, R370: the Lid at a Rack frame start; `ran` as in `Dev.relayFrame`. -/
def Dev.lidFrame (ran : Bool) (d : Dev) : Dev :=
  let d := d.modLid (fun l => { l with
    hb := [0, 1, 2, 3, 4].foldl (fun v p => vmod v p (· + 1)) l.hb
    rst := strings8.foldl (fun v k => vmod v k (fun x => x.map (· + 1))) l.rst
    safeN := strings8.foldl (fun v k => vset v k
      (if (vat l.strs k).phase == phSafe && !(vat l.strs k).held then vat v k + 1 else 0)) l.safeN })
  let d := (d.each d.strs Dev.supStale).formConditions
  d.each [0, 1, 2, 3] (Dev.relayFrame ran)

/-- HEARTBEAT_TIMEOUT (R369). -/
def execHeartbeatTimeout (p : Fin 5) (s : State) : Host.Outcome State Fault Refusal :=
  onDev s (fun e d =>
    if d.lidRuns e && e.frameStart && tbit (d.fld Fd.LID_CFG0_HB_MASK) p.val && decide (d.fld Fd.LID_CFG0_HB_T ≤ vat d.lid.hb p.val) then
      d.formConditions
    else d)

/-- SAFE_DURATION_EXPIRY (R369). -/
def execSafeDurationExpiry (k : Fin 8) (s : State) : Host.Outcome State Fault Refusal :=
  onDev s (fun e d =>
    if d.lidRuns e && e.frameStart && d.present k.val && decide (d.fld Fd.LID_CFG1_SAFE_T ≤ vat d.lid.safeN k.val) then
      d.formConditions
    else d)

end Sys2Proof.Machine
end

