-- ==== Sys2Proof/Machine/Stockpot.lean ====
section
/-! DEFINITION. The Stockpot (spec file 14): the message store and its map (R355 to R358), playback (R359 to R362), the
class of a page read (R363), patrol (R364) and relocation (R365). -/
namespace Sys2Proof.Machine

def Dev.modPot (d : Dev) (f : PotSt → PotSt) : Dev := { d with pot := f d.pot }

/-! ### The store (R355 to R358) -/

/-- Byte `col` of row `row` of the message NAND: 2 048 main bytes, then the spare bytes. -/
def nandAddr (row col : Nat) : Nat := row * 4096 + col

/-- The main area of a row. -/
def Env.nandPage (e : Env) (row : Nat) : List Byte := Store.slice erased e.nand (nandAddr row 0) 2048

/-- Program the main area of a row: programming clears bits and sets none. -/
def Env.nandProgram (e : Env) (row : Nat) (data : List Byte) : Env :=
  let old := e.nandPage row
  { e with nand := Store.setList erased e.nand (nandAddr row 0) (List.zipWith (fun a b => a &&& b) old data) }

/-- Erase a block. -/
def Env.nandErase (e : Env) (block : Nat) : Env :=
  { e with nand := Store.clear (nandAddr (block * 64) 0) (nandAddr (block * 64 + 64) 0) e.nand }

/-- R356: the bad mark of a block, the first spare byte of its page 0. -/
def Env.badBlock (e : Env) (block : Nat) : Bool := Store.get erased e.nand (nandAddr (block * 64) 2048) != 0xFF

/-- Mark a block bad. -/
def Env.markBad (e : Env) (block : Nat) : Env :=
  { e with nand := Store.set erased e.nand (nandAddr (block * 64) 2048) 0 }

/-- NBLK (STOCKPOT_GEOM). -/
def Dev.nblk (d : Dev) : Nat := if d.bit Fd.STOCKPOT_GEOM_NBLK then 1024 else 512

/-- R356: the spare pool, in order. -/
def Dev.sparePool (d : Dev) (e : Env) : List Nat :=
  (upTo d.nblk).filter (fun b => decide (2 ≤ b) && !(d.pot.map.contains b) && !(e.badBlock b))

/-- STOCKPOT_POOL. -/
def Dev.showPool (d : Dev) (e : Env) : Dev :=
  (d.put Fd.STOCKPOT_POOL_SPARE (d.sparePool e).length).put Fd.STOCKPOT_POOL_BAD ((upTo d.nblk).filter e.badBlock).length

/-- Bytes as numbers. -/
def byteNats (l : List Byte) : List Nat := l.map (·.toNat)

/-- A list with no two equal entries. -/
def allDistinct : List Nat → Bool
  | [] => true
  | x :: t => !(t.contains x) && allDistinct t

/-- R357: GEN and PHYS of a valid map page. -/
def readMap (nblk blocks : Nat) (page : List Nat) : Option (Nat × List Nat) :=
  let phys := (upTo blocks).map (fun i => leAt page (12 + 2 * i) 2)
  if leAt page 0 4 == 0x504D4A46 && crc32 (page.take 2044) == leAt page 2044 4 && leAt page 8 2 == blocks &&
      phys.all (fun x => decide (2 ≤ x) && decide (x < nblk)) && allDistinct phys then
    some (leAt page 4 4, phys)
  else none

/-- The map page of a generation (R357). -/
def mapPage (gen : Nat) (phys : List Nat) : List Byte :=
  let le (n v : Nat) : List Nat := (upTo n).map (fun i => v / 256 ^ i % 256)
  let head := le 4 0x504D4A46 ++ le 4 gen ++ le 2 phys.length ++ [0, 0] ++ phys.flatMap (le 2)
  let body := head ++ List.replicate (2044 - head.length) 0
  (body ++ le 4 (crc32 body)).map (BitVec.ofNat 8)

/-- A page that has not been programmed. -/
def erasedPage (page : List Byte) : Bool := page.all (fun b => b == 0xFF)

/-- Pages of a map block up to its first erased page: the number read, and the valid map with the highest generation
so far as (generation, block, page, map). A page of an earlier place keeps its place against an equal generation. -/
def scanMap (e : Env) (nblk blocks block : Nat) :
    Nat → Nat → Option (Nat × Nat × Nat × List Nat) → Nat × Option (Nat × Nat × Nat × List Nat)
  | 0, page, best => (page, best)
  | n + 1, page, best =>
    let data := e.nandPage (block * 64 + page)
    if erasedPage data then (page, best)
    else
      let best := match readMap nblk blocks (byteNats data), best with
        | some (g, m), some (g0, x) => if g0 < g then some (g, block, page, m) else some (g0, x)
        | some (g, m), none => some (g, block, page, m)
        | none, x => x
      scanMap e nblk blocks block n (page + 1) best

/-- R357: the map in force. -/
def Dev.findMap (d : Dev) (e : Env) : Option (Nat × Nat × Nat × List Nat) :=
  let blocks := d.fld Fd.STOCKPOT_GEOM_MSG_BLOCKS
  let x := (scanMap e d.nblk blocks 0 64 0 none).2
  (scanMap e d.nblk blocks 1 64 0 x).2

def Dev.potSet (d : Dev) (st : Nat) : Dev := d.put Fd.STOCKPOT_STATUS_STATE st

/-- R366: the store enters NO_STORE. -/
def Dev.noStore (d : Dev) : Dev :=
  ((d.modPot (fun p => { p with store := false, out := 0, buf := [], after := none })).potSet potNoStore).put
    Fd.STOCKPOT_STATUS_BUF 0

/-- R357: the Stockpot is to load its map. -/
def Dev.startMapLoad (d : Dev) : Dev := if d.img.cfg.nand then d.modPot (fun p => { p with mapLoading := true }) else d

/-- Directory entry i of the loaded image. -/
def Dev.message (d : Dev) (i : Nat) : MsgEnt := d.img.cfg.msgDir.getD i default

/-- R358: the row that holds page `page` of directory entry `dir`, by the map in force. -/
def Dev.messageRow (d : Dev) (dir page : Nat) : Nat :=
  d.pot.map.getD ((d.message dir).block + page / 64) 0 * 64 + page % 64

/-! ### The class of a page read (R363) -/

/-- The bit of directory entry i in STOCKPOT_BAD0 and STOCKPOT_BAD1. -/
def Dev.markDamaged (d : Dev) (i : Nat) : Dev :=
  if i < 32 then d.put Fd.STOCKPOT_BAD0_BAD (putBit (d.fld Fd.STOCKPOT_BAD0_BAD) i true)
  else d.put Fd.STOCKPOT_BAD1_BAD (putBit (d.fld Fd.STOCKPOT_BAD1_BAD) (i - 32) true)

/-- R363: CRC, MSG and page index of a page are right. -/
def pageOk (m : MsgEnt) (index : Nat) (page : List Nat) : Bool :=
  crc32 (page.take 2044) == leAt page 2044 4 && leAt page 2016 2 == m.msg && leAt page 2020 4 == index

/-- R363: a logical block is queued for refresh; the queue holds eight, each once. -/
def Dev.queueRefresh (d : Dev) (block : Nat) : Dev :=
  if d.pot.refresh.contains block || decide (8 ≤ d.pot.refresh.length) then d
  else d.modPot (fun p => { p with refresh := p.refresh ++ [block] })

/-- R363: page `index` of directory entry `dir` has been read; the flag says that its data are used. -/
def Dev.classPage (d : Dev) (dir index : Nat) (ecc : EccStatus) (page : List Nat) : Dev × Bool :=
  let m := d.message dir
  if ecc == .uncorrectable || !(pageOk m index page) then
    (((d.markDamaged dir).bump Fd.STOCKPOT_CNT_UNC).evt Fd.STOCKPOT_EVT_DAMAGED, false)
  else
    let d := if ecc == .clean then d else d.bump Fd.STOCKPOT_CNT_CORR
    (if ecc == .refresh then d.queueRefresh (m.block + index / 64) else d, true)

/-! ### Playback (R359 to R362) -/

/-- Message rate and program rate in kHz (R360). -/
def msgRate (format : Nat) : Nat := if format == 0 then 48 else 32
def Dev.progRate (d : Dev) : Nat := 24576 / d.period

/-- The samples of a page, as S.23 (R358, R359). -/
def pageSamples (format : Nat) (page : List Nat) : List Int :=
  (upTo (perPage format)).map (fun i =>
    if format == 0 then sx 24 (leAt page (3 * i) 3) else sx 16 (leAt page (2 * i) 2) * 256)

/-- R360: samples of one repetition of directory entry `dir`. -/
def Dev.repLen (d : Dev) (dir : Nat) : Nat :=
  let m := d.message dir
  let fm := msgRate m.format
  let fp := d.progRate
  if fm == fp then m.samples else ((m.samples + 32) * fp + fm - 1) / fm

/-- Message sample i of the repetition in progress, from the buffered pages; a page that is not there counts as zero. -/
def Dev.msgSample (d : Dev) (m : MsgEnt) (i : Int) : Int :=
  if i < 0 || (m.samples : Int) ≤ i then 0
  else match d.pot.buf.find? (fun x => x.1 == i.toNat / perPage m.format) with
    | some x => lat x.2 (i.toNat % perPage m.format)
    | none => 0

/-- R360: output sample n of the message in the buffer. -/
def Dev.potSample (d : Dev) (n : Nat) : Int :=
  let m := d.message d.pot.dir
  let fm := msgRate m.format
  let fp := d.progRate
  if fm == fp then d.msgSample m n
  else
    let at0 : Int := (n * fm / fp : Nat)
    let coefs := asrcCoefs 1 1 (n * fm % fp * 2 ^ 28 / fp)
    sat23 (rsh (sumI ((upTo 64).map (fun j => lat coefs j * d.msgSample m (at0 - 63 + j)))) 23)

/-- The position in the message that output sample n stands at. -/
def Dev.msgPos (d : Dev) (n : Nat) : Nat := n * msgRate (d.message d.pot.dir).format / d.progRate

/-- Buffered pages that have not been played. -/
def Dev.unplayed (d : Dev) : Nat :=
  let m := d.message d.pot.dir
  (d.pot.buf.filter (fun x => d.msgPos d.pot.n < (x.1 % m.pages + 1) * perPage m.format || decide (m.pages ≤ x.1))).length

def Dev.showBuf (d : Dev) : Dev := d.put Fd.STOCKPOT_STATUS_BUF d.unplayed

/-- R362: the state reads ahead. -/
def Dev.potReads (d : Dev) : Bool := d.potState == potFill || d.potState == potPlay || d.potState == potGap

/-- R362: the read of the next page starts when a page is free and no operation is outstanding. -/
def Dev.potRead (d : Dev) : Dev :=
  if d.pot.store && d.pot.op.isNone && d.potReads && decide (d.unplayed < 16) then
    d.modPot (fun p => { p with op := some (.play p.dir p.nextPage) })
  else d

/-- R359: FILL for directory entry `dir`, from the evaluation at b. -/
def Dev.startFill (d : Dev) (dir b : Nat) : Dev :=
  let d := d.modPot (fun p =>
    { p with dir := dir, fillAt := b, buf := [], nextPage := 0, n := 0, reps := 0, out := 0, after := none })
  (((d.potSet potFill).put Fd.STOCKPOT_STATUS_MSG (d.message dir).msg).showBuf).potRead

def Dev.potIdleNow (d : Dev) : Dev :=
  (((d.modPot (fun p => { p with out := 0, buf := [], after := none })).potSet potIdle).put Fd.STOCKPOT_STATUS_MSG 0).put
    Fd.STOCKPOT_STATUS_BUF 0

/-- The directory entry that the Stockpot plays, fills or will fill after its fade. -/
def Dev.potTarget (d : Dev) : Option Nat :=
  if d.potReads then some d.pot.dir else if d.potState == potFade then d.pot.after.map (·.1) else none

/-- R352, R359, R361: the message owner at the evaluation at b. -/
def Dev.setOwner (d : Dev) (b : Nat) (o : Option Nat) : Dev :=
  let same := d.lid.owner == o
  let d := (d.modLid (fun l => { l with owner := o })).put Fd.STOCKPOT_STATUS_OWNER (o.getD 0)
  let d := if same then d else d.modPot (fun p => { p with reps := 0 })
  let want := o.bind (fun e => d.dirIndex (d.messageOf e))
  if d.potState == potNoStore || want == d.potTarget then d
  else if d.potState == potFade then d.modPot (fun p => { p with after := want.map (fun i => (i, b)) })
  else match d.potState == potIdle, d.potState == potFill, want with
    | true, _, some i => d.startFill i b
    | true, _, none => d
    | _, true, some i => d.startFill i b
    | _, _, w => (d.modPot (fun p => { p with fadePos := 0, fading := d.potState == potPlay, after := w.map (fun i => (i, b)) })).potSet potFade

/-- R362: a page whose first sample is due now is not buffered. -/
def Dev.pageMissing (d : Dev) : Bool :=
  let m := d.message d.pot.dir
  let at0 := d.msgPos d.pot.n
  decide (at0 < m.samples) && at0 % perPage m.format == 0 && (d.pot.n == 0 || d.msgPos (d.pot.n - 1) != at0) &&
    !(d.pot.buf.any (fun x => x.1 == at0 / perPage m.format))

/-- R360 to R362: one sample of the message in the buffer goes out; a page whose samples are no longer needed leaves. -/
def Dev.potPlayOne (d : Dev) : Dev :=
  let m := d.message d.pot.dir
  let n := d.pot.n
  if d.repLen d.pot.dir ≤ n then d.modPot (fun p => { p with out := 0 })
  else
    let y := d.potSample n
    let keep := d.msgPos (n + 1)
    let d := d.modPot (fun p => { p with
      out := y, n := n + 1, buf := p.buf.filter (fun x => decide (keep ≤ (x.1 + 1) * perPage m.format + 64)) })
    (d.put Fd.STOCKPOT_POS_N n).showBuf

/-- The Stockpot's output at one program sample boundary (R360, R361). -/
def Dev.potBoundary (d : Dev) : Dev :=
  if !(d.islandOk islLid) then d.modPot (fun p => { p with out := 0 })
  else if d.potState == potPlay then
    let d := if d.pageMissing then (d.bump Fd.STOCKPOT_UNDER_UNDERRUN).evt Fd.STOCKPOT_EVT_UNDERRUN else d
    d.potPlayOne.potRead
  else if d.potState == potFade then
    let nf := d.fadeN
    let i := min nf (d.pot.fadePos + 1)
    let d := if d.pot.fading then d.potPlayOne else d.modPot (fun p => { p with out := 0 })
    d.modPot (fun p => { p with fadePos := i, out := rsh (p.out * fadeGain nf (nf - i)) 15 })
  else if d.potState == potGap then d.modPot (fun p => { p with out := 0, gapLeft := p.gapLeft - 1 })
  else d.modPot (fun p => { p with out := 0 })

/-- A tick on which a program sample boundary falls. -/
def Dev.sampleBoundary (d : Dev) (e : Env) : Bool := e.started && e.tick % d.period == 0

/-- R359, R361: a repetition starts. -/
def Dev.startRepetition (d : Dev) : Dev :=
  ((d.modPot (fun p => { p with n := 0 })).potSet potPlay).evt Fd.STOCKPOT_EVT_START

/-- STOCKPOT_PLAY_START (R359): 48.00 ms after FILL began. -/
def execStockpotPlayStart (s : State) : Host.Outcome State Fault Refusal :=
  onDev s (fun e d =>
    if d.lidRuns e && d.sampleBoundary e && d.potState == potFill && d.pot.store && decide (d.pot.fillAt + 1179648 ≤ e.tick) then
      d.startRepetition
    else d)

/-- R351: the owner's entry is spent. -/
def Dev.spendEntry (d : Dev) (e : Nat) : Dev :=
  ((d.putE Fd.LID_LATCH_SPENT e true).putE Fd.LID_LATCH_LATCHED e false).putE Fd.LID_ACT_HOSTACT e false

/-- R351, R361: the repetition of the owner ends. -/
def Dev.endRepetition (d : Dev) : Dev :=
  let m := d.message d.pot.dir
  let ent := d.lid.owner.getD 0
  let reps := d.pot.reps + 1
  let count := d.fld (Fd.LID_PRIe_REP_COUNT ent)
  let gap := d.fld (Fd.LID_PRIe_REP_GAP ent) * 65536 / d.period
  let d := d.modPot (fun p => { p with
    reps := reps, out := 0, gapLeft := gap, n := 0, nextPage := max p.nextPage m.pages - m.pages
    buf := (p.buf.filter (fun x => decide (m.pages ≤ x.1))).map (fun x => (x.1 - m.pages, x.2)) })
  let d := d.modPot (fun p => { p with op := match p.op with
    | some (.play i q) => some (.play i (if m.pages ≤ q then q - m.pages else q))
    | o => o })
  let d := ((d.potSet potGap).evt Fd.STOCKPOT_EVT_END).modLid (fun l => { l with repEnd := true })
  let d := if count != 0 && reps == count then d.spendEntry ent else d
  d.showBuf.potRead

/-- STOCKPOT_REPETITION_END (R361, R351). -/
def execStockpotRepetitionEnd (s : State) : Host.Outcome State Fault Refusal :=
  onDev s (fun e d =>
    if d.lidRuns e && d.potState == potPlay && decide (d.repLen d.pot.dir ≤ d.pot.n) && decide (0 < d.pot.n) then d.endRepetition
    else d)

/-- STOCKPOT_GAP_END (R361). -/
def execStockpotGapEnd (s : State) : Host.Outcome State Fault Refusal :=
  onDev s (fun e d =>
    if d.lidRuns e && d.sampleBoundary e && d.potState == potGap && d.pot.gapLeft == 0 then d.startRepetition else d)

/-- STOCKPOT_FADE_END (R361). -/
def execStockpotFadeEnd (s : State) : Host.Outcome State Fault Refusal :=
  onDev s (fun e d =>
    if d.lidRuns e && d.potState == potFade && d.pot.fadePos == d.fadeN then
      match d.pot.after with
      | some (i, b) => d.startFill i b
      | none => d.potIdleNow
    else d)

/-- R346: the evaluation of the Lid at boundary b. -/
def Dev.lidBoundary (d : Dev) (b : Nat) : Dev :=
  let (d, o) := d.lidEntries b
  (d.setOwner b o).lidOutputs b

/-- STOCKPOT_MAP_LOAD (R357, R366). -/
def execStockpotMapLoad (s : State) : Host.Outcome State Fault Refusal :=
  onDev s (fun e d =>
    if d.lidRuns e && d.pot.mapLoading then
      let d := d.modPot (fun p => { p with mapLoading := false, reloc := none })
      match if e.nandAnswers then d.findMap e else none with
      | some (gen, block, page, m) =>
        let d := d.modPot (fun p => { p with map := m, mapAt := (block, page), store := true })
        let d := ((d.put Fd.STOCKPOT_MAPGEN_GEN gen).showPool e)
        (if d.potState == potNoStore then d.potIdleNow else d).potRead
      | none => d.noStore
    else d)

/-! ### Background operations (R62, R364, R365) -/

/-- R404: a message-store session is open. -/
def Dev.session (d : Dev) : Bool := d.bit Fd.SVC_FL_STATUS_SESSION

/-- R62, R362: a background operation may start. -/
def Dev.mayOperate (d : Dev) : Bool :=
  d.pot.store && !(d.session) && d.pot.op.isNone && !(d.pot.mapLoading) && d.potState != potFill &&
  (d.potState == potIdle || d.potState == potGap || decide (8 ≤ d.unplayed))

def Dev.startOp (d : Dev) (op : NandOp) : Dev := d.modPot (fun p => { p with op := some op })

/-- R364: a slot of code 0x3; the flag says that an operation started. -/
def Dev.patrolSlot (d : Dev) : Dev × Bool :=
  if d.mayOperate && decide (0 < d.img.cfg.msgDir.length) then (d.startOp (.patrol d.pot.patDir d.pot.patPage), true)
  else (d, false)

/-- R365: the next target at or above the last, wrapping. -/
def Dev.nextTarget (d : Dev) (e : Env) : Option Nat :=
  let pool := d.sparePool e
  match pool.find? (fun b => decide (d.pot.lastTarget ≤ b)) with
  | some b => some b
  | none => pool.head?

/-- The first erased page of the block that holds the map in force (R357). -/
def Dev.mapFree (d : Dev) (e : Env) : Option Nat :=
  (upTo 64).find? (fun p => erasedPage (e.nandPage (d.pot.mapAt.1 * 64 + p)))

/-- R365: a slot of code 0x6; the flag says that an operation started. -/
def Dev.relocSlot (d : Dev) (e : Env) : Dev × Bool :=
  if !(d.mayOperate) || d.pot.relocStop then (d, false)
  else
    let fresh (l : Nat) : Dev × Bool := match d.nextTarget e with
      | none => (d.modPot (fun p => { p with relocStop := true, reloc := none }), false)
      | some t =>
        ((d.modPot (fun p => { p with lastTarget := t
                                      reloc := some { logical := l, target := t, step := 0, page := 0, data := [] } })).startOp
          (.eraseTarget t), true)
    match d.pot.reloc, d.pot.refresh.head? with
    | none, none => (d, false)
    | none, some l => fresh l
    | some r, _ =>
      if r.step == 0 then fresh r.logical
      else if r.step == 1 then (d.startOp (.copyRead r.page), true)
      else if r.step == 2 then
        match d.mapFree e with
        | some p => (d.startOp (.mapProgram d.pot.mapAt.1 p), true)
        | none => (d.startOp (.mapErase (1 - d.pot.mapAt.1)), true)
      else (d.startOp (.release r.page), true)

/-- R364: the message of patrol ends: its CRC is compared, and patrol goes on to the next. -/
def Dev.patrolNext (d : Dev) : Dev :=
  let m := d.message d.pot.patDir
  let last := decide (m.pages ≤ d.pot.patPage + 1)
  let d := if last && crc32End d.pot.patCrc != m.crc then d.markDamaged d.pot.patDir else d
  let d := if last then
      let dir := d.pot.patDir + 1
      let wrap := decide (d.img.cfg.msgDir.length ≤ dir)
      let d := d.modPot (fun p => { p with patDir := if wrap then 0 else dir, patPage := 0, patCrc := crc32Init })
      if wrap then (d.bump Fd.STOCKPOT_PATROL_PASSES).evt Fd.STOCKPOT_EVT_PASS else d
    else d.modPot (fun p => { p with patPage := p.patPage + 1 })
  d.put Fd.STOCKPOT_PATROL_BLOCK ((d.message d.pot.patDir).block + d.pot.patPage / 64)

/-- The bytes of a page that hold samples of the message (R358). -/
def dataBytes (m : MsgEnt) (index : Nat) : Nat :=
  let w := if m.format == 0 then 3 else 2
  min (perPage m.format) (m.samples - index * perPage m.format) * w

/-- The message that holds a logical block, as its directory index. -/
def Dev.messageAt (d : Dev) (logical : Nat) : Option Nat :=
  (upTo d.img.cfg.msgDir.length).find? (fun i =>
    let m := d.message i
    decide (m.block ≤ logical) && decide (logical < m.block + (m.pages + 63) / 64))

/-- Words of the page buffer and its number (R406). -/
def memPot : Nat := 25
def bufWords : Nat := 512

/-- A page read for playback is done: it goes into the buffer as read, or as zero. -/
def Dev.bufferPage (d : Dev) (dir q : Nat) (good : Bool) (page : List Nat) : Dev :=
  let m := d.message dir
  if dir == d.pot.dir && q == d.pot.nextPage && d.potReads then
    let late := d.potState == potPlay && decide (0 < d.pot.n) && decide (q * perPage m.format ≤ d.msgPos (d.pot.n - 1))
    let data := if good && !late then pageSamples m.format page else []
    let lo := d.pot.slot * bufWords
    (d.modPot (fun p => { p with nextPage := q + 1, buf := p.buf ++ [(q, data)], slot := (p.slot + 1) % 16 })).eccWriteRange
      memPot lo (lo + bufWords)
  else d

/-- NAND_PAGE_READ_DONE (R363 to R365). -/
def execNandPageReadDone (ecc : EccStatus) (s : State) : Host.Outcome State Fault Refusal :=
  onDev s (fun e d =>
    if !(d.lidRuns e) then d
    else
      let free := d.modPot (fun p => { p with op := none })
      match d.pot.op with
      | some (.play dir q) =>
        let index := q % (d.message dir).pages
        let page := byteNats (e.nandPage (d.messageRow dir index))
        let (d, good) := free.classPage dir index ecc page
        (d.bufferPage dir q good page).showBuf.potRead
      | some (.patrol dir index) =>
        let page := byteNats (e.nandPage (d.messageRow dir index))
        let d := (free.classPage dir index ecc page).1
        let d := d.modPot (fun p => { p with
          patCrc := (page.take (dataBytes (d.message dir) index)).foldl crc32Step (if index == 0 then crc32Init else p.patCrc) })
        d.patrolNext.potRead
      | some (.copyRead p) =>
        match d.pot.reloc with
        | some r =>
          let data := e.nandPage (d.pot.map.getD r.logical 0 * 64 + p)
          let d := match d.messageAt r.logical with
            | some dir =>
              let index := (r.logical - (d.message dir).block) * 64 + p
              if index < (d.message dir).pages then (d.classPage dir index ecc (byteNats data)).1 else d
            | none => d
          d.modPot (fun x => { x with reloc := some { r with data := data }, op := some (.copyProgram p) })
        | none => free.potRead
      | _ => d)

/-- R365: relocation stops until power-on reset. -/
def Dev.stopReloc (d : Dev) : Dev := d.modPot (fun p => { p with relocStop := true, reloc := none })

def Dev.relocTo (d : Dev) (r : Reloc) (step page : Nat) : Dev :=
  d.modPot (fun p => { p with reloc := some { r with step := step, page := page, data := [] } })

/-- NAND_ERASE_DONE (R365). -/
def execNandEraseDone (ok : Bool) (s : State) : Host.Outcome State Fault Refusal :=
  onEnvDev s (fun e d =>
    if !(d.lidRuns e) then (e, d)
    else
      let free := d.modPot (fun p => { p with op := none })
      let bad (b : Nat) : Env := if ok then e.nandErase b else e.markBad b
      match d.pot.op, d.pot.reloc with
      | some (.eraseTarget b), some r =>
        let e := bad b
        (e, ((free.relocTo r (if ok then 1 else 0) 0).showPool e).potRead)
      | some (.release b), some _ =>
        let e := bad b
        let d := free.modPot (fun p => { p with reloc := none, refresh := p.refresh.drop 1 })
        (e, (((d.bump Fd.STOCKPOT_CNT_RELOC).evt Fd.STOCKPOT_EVT_RELOC).showPool e).potRead)
      | some (.mapErase b), some _ =>
        if ok then (e.nandErase b, free.startOp (.mapProgram b 0)) else (e, free.stopReloc.potRead)
      | some (.eraseTarget b), none => (bad b, free.potRead)
      | some (.release b), none => (bad b, free.potRead)
      | some (.mapErase b), none => (if ok then e.nandErase b else e, free.potRead)
      | _, _ => (e, d))

/-- NAND_PROGRAM_DONE (R365, R357). -/
def execNandProgramDone (ok : Bool) (s : State) : Host.Outcome State Fault Refusal :=
  onEnvDev s (fun e d =>
    if !(d.lidRuns e) then (e, d)
    else
      let free := d.modPot (fun p => { p with op := none })
      match d.pot.op, d.pot.reloc with
      | some (.copyProgram p), some r =>
        if ok then
          let e := e.nandProgram (r.target * 64 + p) r.data
          (e, (free.relocTo r (if p == 63 then 2 else 1) (p + 1)).potRead)
        else
          let e := e.markBad r.target
          (e, (((free.bump Fd.STOCKPOT_CNT_RELOC_FAIL).relocTo r 0 0).showPool e).potRead)
      | some (.mapProgram b p), some r =>
        if ok then
          let gen := (d.fld Fd.STOCKPOT_MAPGEN_GEN + 1) % 2 ^ 32
          let source := d.pot.map.getD r.logical 0
          let m := d.pot.map.set r.logical r.target
          let e := e.nandProgram (b * 64 + p) (mapPage gen m)
          let d := free.modPot (fun x => { x with map := m, mapAt := (b, p) })
          (e, ((((d.put Fd.STOCKPOT_MAPGEN_GEN gen).relocTo r 3 source)).showPool e).potRead)
        else (e, free.stopReloc.potRead)
      | some (.copyProgram _), none => (e, free.potRead)
      | some (.mapProgram _ _), none => (e, free.potRead)
      | _, _ => (e, d))

end Sys2Proof.Machine
end

