-- ==== Sys2Proof/Machine/Service.lean ====
section
/-! DEFINITION. Service access (spec file 15): the service states and their closing (R395 to R400), commissioning (R401),
flash access (R402 to R404) and companion pin mode (R405). What a register write of a requester does here is called
from the host access of Access.lean. -/
namespace Sys2Proof.Machine

def Dev.modSvc (d : Dev) (f : SvcSt → SvcSt) : Dev := { d with svc := f d.svc }

/-- The HOST domain runs. After a restart its bit in CLK_ISLAND_OK stays clear (R49), and it works again (R450). -/
def Dev.hostRuns (d : Dev) : Bool := d.domRun domHost

/-! ### States (R395, R396, R399, R400) -/

def svcClosed : Nat := 0
def svcRead : Nat := 1
def svcFull : Nat := 2
def svcCommission : Nat := 3
def svcFactory : Nat := 4

/-- R395: the IEEE 1149.1 test access port may leave Test-Logic-Reset; in every other state its pins do nothing (log entry 84). -/
def Dev.testPortFree (d : Dev) : Bool := d.svc.state == svcFactory

/-- R396: SVC may write what a host may write, and every service function. FACTORY has no row in R396 (log entry 52). -/
def Dev.svcWrites (d : Dev) : Bool := decide (svcFull ≤ d.svc.state)

/-- R396: SVC may read everything. -/
def Dev.svcReads (d : Dev) : Bool := decide (svcRead ≤ d.svc.state)

/-- R405: pin mode of string k is to end at the next Rack frame start, and a GO that waits is dropped. -/
def SvcSt.pinEnd (x : SvcSt) (k : Nat) : SvcSt :=
  { x with pinGo := vset x.pinGo k none, pinStop := vset x.pinStop k (vat x.pinStop k || (vat x.pin k).isSome) }

/-- R400: READ or FULL closes. -/
def Dev.svcClosing (d : Dev) : Dev :=
  if d.svc.state == svcRead || d.svc.state == svcFull then
    let d := d.each strings8 (fun d k => if (d.st k).ctl.inj.isSome then d.injStop k else d)
    let d := if d.bit Fd.SVC_FL_STATUS_SESSION then (d.putB Fd.SVC_FL_STATUS_SESSION false).startMapLoad else d
    let d := match d.svc.norDirty with
      | some c => ({ d with img := { d.img with standby := some (c, true) } } : Dev)
      | none => d
    (d.modSvc (fun v => { strings8.foldl SvcSt.pinEnd v with state := svcClosed, chal := none, norDirty := none, idle := 0 })).evt
      Fd.SVC_EVT_CLOSE
  else d

/-- Rack frames in a second (R399). -/
def framesPerSecond : Nat := 375

/-- R399: a lockout is in force. -/
def Dev.lockedOut (d : Dev) : Bool := d.svc.lockout != 0

/-- R399: a failed check. -/
def Dev.svcFail (d : Dev) : Dev :=
  let n := min 255 (d.svc.fails + 1)
  let d := (d.modSvc (fun v => { v with fails := n })).evt Fd.SVC_EVT_FAIL
  if 5 ≤ n then
    (d.modSvc (fun v => { v with lockout := 30 * 2 ^ min (n - 5) 12 * framesPerSecond + 1 })).evt Fd.SVC_EVT_LOCKOUT
  else d

/-- R397 to R399: an accepted check that opens state `st`, if the port may enter it. -/
def Dev.svcPass (d : Dev) (st : Nat) : Dev :=
  let enter := decide (d.svc.state < st) && decide (d.svc.state ≤ svcRead)
  let d := d.modSvc (fun v => { v with fails := 0, lockout := 0 })
  if enter then
    (d.modSvc (fun v => { v with state := st, idle := 0, norDirty := if st == svcFull then none else v.norDirty })).evt
      Fd.SVC_EVT_OPEN
  else d

/-! ### Passcode and response (R397, R398) -/

/-- The bytes of `n` consecutive registers, byte 4w of register w in [7:0]. -/
def Dev.regBytes (d : Dev) (a n : Nat) : List Nat :=
  (upTo (4 * n)).map (fun i => bits (d.reg (a + 4 * (i / 4))).toNat (8 * (i % 4)) 8)

/-- R397: the passcode check. -/
def Dev.passcodeOk (d : Dev) : Bool :=
  let n := d.fld Fd.SVC_PASSLEN_LEN
  match d.img.cfg.passcode with
  | some (salt, digest) =>
    decide (8 ≤ n) && decide (n ≤ 32) &&
      sha256 (byteNats salt ++ (d.regBytes (Reg.SVC_PASSw 0) 8).take n) == byteNats digest
  | none => false

/-- R398: the message of the response. -/
def Dev.challengeText (d : Dev) (e : Env) : List Nat :=
  d.regBytes (Reg.SVC_CHALw 0) 4 ++ (upTo 8).map (fun i => e.fuses.uid.toNat / 256 ^ i % 256) ++
    (if d.fld Fd.IMG_STATUS_LOADED == 0 then [0, 0, 0, 0] else d.regBytes Reg.IMG_SITE_ID 1)

/-- R398: the response check. -/
def Dev.responseOk (d : Dev) (e : Env) : Bool := match e.fuses.serviceKey with
  | some key => d.regBytes (Reg.SVC_RESPw 0) 4 == (hmac (byteNats key) (d.challengeText e)).take 16
  | none => false

/-- R398: REQ_CHAL. -/
def Dev.drawChallenge (d : Dev) (e : Env) : Dev :=
  let n := d.svc.draws
  let word (w : Nat) : Nat :=
    (upTo 4).foldl (fun acc i => acc + (Config.challengeByte n (4 * w + i)).toNat * 256 ^ i) 0
  let d := (upTo 4).foldl (fun d w => d.setReg (Reg.SVC_CHALw w) (BitVec.ofNat 32 (word w))) d
  d.modSvc (fun v => { v with chal := some e.lockTicks, draws := n + 1 })

/-- R397 to R400: a write of SVC_CTL; none where it is rejected. -/
def Dev.svcCtl (d : Dev) (e : Env) (v : Nat) : Option Dev :=
  if tbit v 3 then some d.svcClosing
  else if v % 8 == 0 then some d
  else if v % 8 == 4 then
    (if d.lockedOut then none else some (d.modSvc (fun x => { x with passBusy := x.passBusy ++ [d.passcodeOk] })))
  else if v % 8 == 2 then
    if d.lockedOut || d.svc.chal.isNone then none
    else some (d.modSvc (fun x => { x with respBusy := x.respBusy ++ [d.responseOk e], chal := none }))
  else if v % 8 == 1 then (if d.lockedOut then none else some (d.drawChallenge e))
  else none

/-- PASSCODE_CHECK_DONE (R397, R399): the result of the oldest running check is known and the passcode registers are cleared. -/
def execPasscodeCheckDone (s : State) : Host.Outcome State Fault Refusal :=
  onDev s (fun _ d => match d.svc.passBusy with
    | ok :: rest =>
      if d.hostRuns then
        let d := (upTo 8).foldl (fun d w => d.setReg (Reg.SVC_PASSw w) 0) (d.modSvc (fun v => { v with passBusy := rest }))
        if ok then d.svcPass svcRead else d.svcFail
      else d
    | [] => d)

/-- RESPONSE_CHECK_DONE (R398, R399). -/
def execResponseCheckDone (s : State) : Host.Outcome State Fault Refusal :=
  onDev s (fun _ d => match d.svc.respBusy with
    | ok :: rest =>
      if d.hostRuns then
        let d := d.modSvc (fun v => { v with respBusy := rest })
        if ok then d.svcPass svcFull else d.svcFail
      else d
    | [] => d)

/-- SVC_LOCKOUT_END (R399): the last Rack frame of the lockout has passed. -/
def execSvcLockoutEnd (s : State) : Host.Outcome State Fault Refusal :=
  onDev s (fun _ d => if d.svc.lockout == 1 then d.modSvc (fun v => { v with lockout := 0 }) else d)

/-- CHALLENGE_EXPIRY (R398): 60.00 s after the challenge was drawn. -/
def execChallengeExpiry (s : State) : Host.Outcome State Fault Refusal :=
  onDev s (fun e d => match d.svc.chal with
    | some t => if t + 1474560000 ≤ e.lockTicks then d.modSvc (fun v => { v with chal := none }) else d
    | none => d)

/-- SVC_IDLE_CLOSE (R400): IDLE seconds without a good frame on SVC. -/
def execSvcIdleClose (s : State) : Host.Outcome State Fault Refusal :=
  onDev s (fun _ d =>
    if d.hostRuns && decide (d.fld Fd.SVC_CFG_IDLE * framesPerSecond ≤ d.svc.idle) then d.svcClosing else d)

/-- R399, R400: the service counters at a Rack frame start. A lockout runs on through a HOST reset (R450). -/
def Dev.svcFrame (d : Dev) : Dev :=
  d.modSvc (fun v => { v with lockout := if 1 < v.lockout then v.lockout - 1 else v.lockout, idle := v.idle + 1 })

/-! ### Commissioning (R401) -/

/-- R401: a write of SVC_COMMIT; none where it is rejected. -/
def commissionWrite (e : Env) (d : Dev) (v : Nat) : Option (Env × Dev) :=
  let key := d.regBytes (Reg.SVC_KEYw 0) 8
  if v == 0xC0DE && d.svc.state == svcCommission && d.fld Fd.SYS_STATE_STATE == 9 && key.any (· != 0) &&
      e.fuses.ownerKey.isNone then
    some ({ e with fuses := { e.fuses with
              ownerKey := some ((sha256 (byteNats d.img.seen.keyXY)).map (BitVec.ofNat 8)),
              serviceKey := some (key.map (BitVec.ofNat 8)) } }, d.evt Fd.SVC_EVT_FLASH_DONE)
  else none

/-! ### Flash access (R402 to R404) -/

/-- Flash operations, as SVC_FL_CTL.OP codes them. -/
def flRead : Nat := 0
def flErase : Nat := 1
def flProgram : Nat := 2
def flVerify : Nat := 3

/-- R403: the target slot of a NOR operation. -/
def Dev.flashSlot (d : Dev) (slotB : Bool) : Bool := if d.fld Fd.IMG_STATUS_LOADED == 0 then slotB else d.otherSlot

/-- R404: a message-store session may open. -/
def Dev.sessionMayOpen (d : Dev) : Bool :=
  (d.potState == potIdle || d.potState == potNoStore) &&
  !(entries16.any (fun x => d.ebit Fd.LID_ACT_ACTIVE x && d.action x == 0))

/-- R403: what the table of flash operations refuses. -/
def Dev.flashRefused (d : Dev) (e : Env) (nand : Bool) (op : Nat) : Bool :=
  let addr := d.fld Fd.SVC_FL_ADDR_ADDR
  if nand then
    op == flVerify || (op == flErase && e.badBlock (addr / 64)) || (!(d.session) && !(d.sessionMayOpen))
  else op == flProgram && addr % 256 != 0

/-- R403, R404: a write of SVC_FL_CTL with GO = 1, in FULL or COMMISSION: DEV, OP and SLOT. The flag says that it is accepted. -/
def Dev.flashGo (d : Dev) (e : Env) (nand : Bool) (op : Nat) (slotB : Bool) : Dev × Bool :=
  if !(d.svc.state == svcFull || d.svc.state == svcCommission) || d.bit Fd.SVC_FL_STATUS_BUSY then (d, false)
  else if d.flashRefused e nand op then (d.put Fd.SVC_FL_STATUS_RESULT 3, false)
  else
    let c := d.flashSlot slotB
    let d := if nand && !(d.session) then (d.putB Fd.SVC_FL_STATUS_SESSION true).noStore else d
    let dirty := !nand && (op == flErase || op == flProgram) && d.svc.state == svcFull
    let d := d.modSvc (fun v => { v with
      flash := some { nand := nand, op := op, slotB := c, addr := d.fld Fd.SVC_FL_ADDR_ADDR }
      norDirty := if dirty then some c else v.norDirty })
    ((d.putB Fd.SVC_FL_STATUS_BUSY true).put Fd.SVC_FL_STATUS_RESULT 0, true)

/-- Word w of the flash buffer. -/
def Dev.flWord (d : Dev) (w : Nat) : Nat := ux 32 (Store.get zeroed d.svc.buf w)

/-- The first `n` bytes of the flash buffer. -/
def Dev.flBytes (d : Dev) (n : Nat) : List Byte :=
  (upTo n).map (fun i => BitVec.ofNat 8 (d.flWord (i / 4) / 256 ^ (i % 4) % 256))

/-- Bytes read into the flash buffer, from word 0. -/
def Dev.flLoad (d : Dev) (l : List Byte) : Dev :=
  let l := byteNats l
  let words := (upTo (l.length / 4)).map (fun w => (leAt l (4 * w) 4 : Int))
  d.modSvc (fun v => { v with buf := Store.setList zeroed v.buf 0 words })

/-- The NOR address of byte `i` from `addr` of a slot of 2 MiB; an address runs round within its slot (log entry 53). -/
def norAddr (slotB : Bool) (addr i : Nat) : Nat := (if slotB then 0x200000 else 0) + (addr + i) % 0x200000

/-- R403: a flash operation has succeeded. -/
def flashDone (e : Env) (d : Dev) (f : FlashOp) : Env × Dev :=
  if f.nand then
    if f.op == flRead then (e, d.flLoad (e.nandPage f.addr))
    else if f.op == flErase then (e.nandErase (f.addr / 64), d)
    else (e.nandProgram f.addr (d.flBytes 2048), d)
  else if f.op == flRead then (e, d.flLoad ((upTo 256).map (fun i => Store.get erased e.nor (norAddr f.slotB f.addr i))))
  else if f.op == flErase then
    let lo := norAddr f.slotB 0 0
    ({ e with nor := Store.clear lo (lo + 0x200000) e.nor }, d)
  else if f.op == flProgram then
    let l := d.flBytes 256
    let old := (upTo 256).map (fun i => Store.get erased e.nor (norAddr f.slotB f.addr i))
    ({ e with nor := Store.setList erased e.nor (norAddr f.slotB f.addr 0) (List.zipWith (fun a b => a &&& b) old l) }, d)
  else (e, (d.standbyEnd e f.slotB []).1.modSvc (fun v => { v with norDirty := none }))

/-- FLASH_OP_DONE (R403): the operation ends, with the device's report that it succeeded. -/
def execFlashOpDone (ok : Bool) (s : State) : Host.Outcome State Fault Refusal :=
  onEnvDev s (fun e d => match d.svc.flash with
    | some f =>
      if d.domRun domNvm then
        let (e, d) := if ok then flashDone e d f else (e, d)
        let d := d.modSvc (fun v => { v with flash := none })
        if d.hostRuns then
          (e, ((d.putB Fd.SVC_FL_STATUS_BUSY false).put Fd.SVC_FL_STATUS_RESULT (if ok then 1 else 2)).evt Fd.SVC_EVT_FLASH_DONE)
        else (e, d)
      else (e, d)
    | none => (e, d))

/-- R403: SVC_FL_PTR advances after an accepted access. -/
def Dev.flStep (d : Dev) : Dev := d.put Fd.SVC_FL_PTR_PTR ((d.fld Fd.SVC_FL_PTR_PTR + 1) % 512)

/-- R403: a read of SVC_FL_DATA. -/
def Dev.flDataRead (d : Dev) : Dev × Nat := (d.flStep, d.flWord (d.fld Fd.SVC_FL_PTR_PTR))

/-- R403: a write of SVC_FL_DATA. -/
def Dev.flDataWrite (d : Dev) (v : Nat) : Dev :=
  let w := d.fld Fd.SVC_FL_PTR_PTR
  (d.modSvc (fun x => { x with buf := Store.set zeroed x.buf w (v : Int) })).flStep

/-! ### Companion pin mode (R405) -/

/-- R405: a write of SVC_PIN for the string that it names; none where it is rejected (log entry 54). -/
def Dev.pinWrite (d : Dev) (v : Nat) : Option Dev :=
  let k := bits v 16 3
  if tbit v 30 then some (d.modSvc (fun x => x.pinEnd k))
  else if tbit v 31 then
    if d.svc.state == svcFull && d.phase k == phLatched then
      some (d.modSvc (fun x => { x with pinGo := vset x.pinGo k (some (bits v 0 7)) }))
    else none
  else some d

/-- R405: pin mode of string k ends at a Rack frame start. -/
def Dev.pinOff (d : Dev) (k : Nat) : Dev :=
  let ends := (vat d.svc.pin k).isSome && vat d.svc.pinStop k
  let d := d.modSvc (fun v => { v with pinStop := vset v.pinStop k false })
  if ends then
    let d := (d.modPr k (fun p => { p with pinMode := false })).modSvc (fun v => { v with pin := vset v.pin k none })
    if d.phase k == phEnum then (d.endLinks k).latchStr k else d
  else d

/-- R405, R312: string k enters pin mode at Rack frame start f, once STR_EN has been low. -/
def Dev.pinOn (d : Dev) (f k : Nat) : Dev :=
  match vat d.svc.pinGo k with
  | some mask =>
    if d.phase k == phLatched && d.enHigh k then d
    else
      let d := d.modSvc (fun v => { v with pinGo := vset v.pinGo k none })
      if d.phase k == phLatched then
        ((d.modPr k (fun p => { p with pinMode := true })).modSvc (fun v => { v with pin := vset v.pin k (some mask) })).restartEnum k f
      else d
  | none => d

/-- R405: pin mode ends and begins at Rack frame start f, as asked. -/
def Dev.pinFrame (d : Dev) (f : Nat) : Dev :=
  (d.each strings8 Dev.pinOff).each strings8 (fun d k => d.pinOn f k)

end Sys2Proof.Machine
end

