-- ==== Sys2Proof/Machine/View.lean ====
section
/-! DEFINITION. Registers whose word the block forms when it is read (R12, R57, R59, R168, R200, R231, R328, R395, R408,
R416, R417): fuses and pins, power states, event summaries, live views of a string, and the tables in silicon. Every
other register reads the word it holds. -/
namespace Sys2Proof.Machine

/-- The sum of `f i · 2^i` over the bits that are set, i from 0 to n - 1. -/
def bitsOf (n : Nat) (f : Nat → Bool) : Nat := (upTo n).foldl (fun acc i => acc + b2n (f i) * 2 ^ i) 0

/-- SYS_ID and SYS_CAP (R448). -/
def Env.sysId (e : Env) : Nat :=
  (if e.fuses.is440 then 0x0440 else 0x0840) * 65536 + e.fuses.dieRev.toNat * 256 + e.fuses.maxProfile.toNat
def Env.sysCap (e : Env) : Nat := if e.fuses.is440 then 0x001C000F else 0x003800FF

/-- Word w of a summary of 128 sources. -/
def sumWord (n w : Nat) : Nat := n / 2 ^ (32 * w) % 2 ^ 32

/-- EVT_STRw: source 96 + 4w + j in byte j (R416). -/
def Dev.evtStrWord (d : Dev) (w : Nat) : Nat :=
  (upTo 4).foldl (fun acc j => acc + d.evtStr (4 * w + j) * 256 ^ j) 0

/-- A word of the loaded message directory as stored (R89). -/
def Dev.dirWord (d : Dev) (a : Nat) : Nat := match d.img.cfg.msgDir[a / 4]? with
  | none => 0
  | some m => if a % 4 == 0 then m.msg + m.format * 65536 else if a % 4 == 1 then m.block else if a % 4 == 2 then m.samples else m.crc

/-- CHk_WH_STATUS (R223, R230, R235 to R237). -/
def Dev.whStatus (d : Dev) (k : Nat) : Nat :=
  let w := (d.st k).wh
  let parked := w.pq.filter (fun p => !(d.failed k p))
  let spare := if w.heldSpare && positions.any (fun p => d.isSpare k p && !(d.failed k p)) then 1 else 0
  let ptr := match w.aq with
    | p :: _ => p
    | [] => 0
  b2n w.reduced * 2 ^ 31 + b2n w.spareUsed * 2 ^ 30 + b2n w.rot.isSome * 2 ^ 29 + b2n w.pair.isSome * 2 ^ 28 +
    (d.nact k % 8) * 2 ^ 24 + ((parked.length + spare) % 8) * 2 ^ 20 + (ptr % 8) * 2 ^ 16 +
    bitsOf 7 (fun p => w.aq.contains p) * 2 ^ 8 + bitsOf 7 (fun p => w.pq.contains p)

/-- CHk_WH_CELLp.ROLE (R223): 0 absent, 1 active, 2 parked, 3 held spare, 4 failed. -/
def Dev.roleOf (d : Dev) (k p : Nat) : Nat :=
  let w := (d.st k).wh
  if !(d.cellHere k p) then 0
  else if d.failed k p then 4
  else if w.aq.contains p then 1
  else if w.pq.contains p then 2
  else if w.heldSpare && d.isSpare k p then 3
  else 0

/-- CHk_WH_CELLp: dwell (R225), role, and the zero form and state as held. -/
def Dev.whCell (d : Dev) (e : Env) (k p : Nat) : Nat :=
  (d.reg (Reg.CHk_WH_CELLp k p)).toNat % 256 + d.roleOf k p * 256 + d.dwell k p e.tick * 65536

/-- HOSTIF_LOCKST of page p (R386 to R391): its entries and lease count while p holds the lock. -/
def Dev.lockst (d : Dev) (p : Nat) : Nat :=
  let l := d.lock
  let own := l.owner == some p
  (if own then (if l.committing.isSome then 2 else 1) else 0) * 2 ^ 29 + d.fld (Fd.HOSTIF_LOCKST_RESULT p) * 2 ^ 26 +
    (if own then l.shadow.length else 0) * 2 ^ 16 + (l.owner.getD 7) * 2 ^ 12 + (if own then l.lease else 0)

/-- SVC_STATE (R395, R399): the lockout in seconds of 375 Rack frames, a part of a second counting as one. -/
def Dev.svcState (d : Dev) : Nat :=
  let secs := if d.svc.lockout == 0 then 0 else (d.svc.lockout - 1 + framesPerSecond - 1) / framesPerSecond
  d.svc.state * 2 ^ 29 + d.svc.fails * 2 ^ 16 + min 65535 secs

/-- FIR_ROM_DATA (R160) and ASRC_ROM_DATA (R141); an address beyond the table has no stated value (log entry 15). -/
def firRomWord (a : Nat) : Nat := if a < 9216 then ux 32 (romTap (a / 384) (a % 384)) else ux 32 (Config.openValue 2 a)
def asrcRomWord (a : Nat) : Nat :=
  if a < 16448 then ux 32 (asrcTap 1 1 64 (a / 64) (a % 64)) else ux 32 (Config.openValue 3 a)

/-- CHk_CAP_DATA: the entry at CHk_CAP_ADDR (R200). -/
def Dev.capWord (d : Dev) (k : Nat) : Nat :=
  ux 32 (Store.get zeroed (d.st k).ctl.cap.buf (d.fld (Fd.CHk_CAP_ADDR_ADDR k)))

/-- R3, R75: FIR, SIEVE and the CHk islands, which are held until the release tick: none runs before it (log entry 64). -/
def engineIsland (i : Nat) : Bool := i == islFir || i == islSieve || decide (islMem < i)

/-- The computed registers of the blocks in AON, SYS and CLK. -/
def Dev.viewSys (d : Dev) (e : Env) (p a : Nat) : Option Nat :=
  if a == Reg.SYS_ID then some e.sysId
  else if a == Reg.SYS_CAP then some e.sysCap
  else if a == Reg.CLK_STATUS then some (putBit (d.reg a).toNat 2 d.pwr.clksel)
  else if a == Reg.CLK_ISLAND_OK then some (bitsOf islandCount (fun i => d.islandOk i && (e.started || !(engineIsland i))))
  else if a == Reg.CLK_PD_STATUS then some (bitsOf 16 d.domRun)
  else if a == Reg.CLK_PD_FAULT then some (bitsOf 16 (fun i => decide (vat d.pwr.dom i = .faultOff)))
  else if a == Reg.CLK_TICK_LO then some (e.tick % 2 ^ 32)
  else if a == Reg.CLK_TICK_HI then some (vat d.req p).tickHi.toNat
  else none

/-- The computed registers of BG, EVT and IMG. -/
def Dev.viewBg (d : Dev) (e : Env) (a : Nat) : Option Nat :=
  if a == Reg.BG_SCR_DSPOS then some (vat d.bg.scrub 26).pos
  else if Reg.EVT_SUMw 0 ≤ a && a < Reg.EVT_SUMw 4 then some (sumWord d.evtSum ((a - Reg.EVT_SUMw 0) / 4))
  else if Reg.EVT_HOSTh_SUMw 0 0 ≤ a && a < Reg.EVT_HOSTh_SUMw 4 0 then
    let o := a - Reg.EVT_HOSTh_SUMw 0 0
    some (sumWord (d.evtHostSum (o / 16)) (o % 16 / 4))
  else if Reg.EVT_STRw 0 ≤ a && a < Reg.EVT_STRw 8 then some (d.evtStrWord ((a - Reg.EVT_STRw 0) / 4))
  else if a == Reg.IMG_STATUS then some (putBit (d.reg a).toNat 2 e.fuses.ownerKey.isSome)
  else none

/-- The computed registers of the audio blocks, FIR, SIEVE and DIAG. -/
def Dev.viewAudio (d : Dev) (p a : Nat) : Option Nat :=
  if a == Reg.ASRC_ROM_DATA then some (asrcRomWord (d.fld Fd.ASRC_ROM_ADDR_ADDR))
  else if a == Reg.FIR_CADDR then some (vat d.req p).firCaddr.toNat
  else if a == Reg.FIR_ROM_DATA then some (firRomWord (d.fld Fd.FIR_ROM_ADDR_ADDR))
  else if a == Reg.SIEVE_ROM_DATA then some d.sieveRom
  else match strings8.find? (fun k => a == Reg.DIAG_Mk_RDC k || a == Reg.DIAG_Mk_DC k) with
    | some k => some (if a == Reg.DIAG_Mk_RDC k then d.fld (Fd.CHk_DT_RES_R k) else d.fld (Fd.CHk_DT_STATUS_RESULT k))
    | none => none

/-- The computed registers of a string's block. -/
def Dev.viewCh (d : Dev) (e : Env) (a : Nat) : Option Nat :=
  let k := (a - 0x8000) / 0x1000
  if a == Reg.CHk_WH_STATUS k then some (d.whStatus k)
  else if Reg.CHk_WH_CELLp k 0 ≤ a && a < Reg.CHk_WH_CELLp k 7 then some (d.whCell e k ((a - Reg.CHk_WH_CELLp k 0) / 4))
  else if a == Reg.CHk_CAP_DATA k then some (d.capWord k)
  else none

/-- The computed registers of STOCKPOT, HOSTIF and SVC. -/
def Dev.viewHost (d : Dev) (e : Env) (a : Nat) : Option Nat :=
  if a == Reg.STOCKPOT_DIR_DATA then some (d.dirWord (d.fld Fd.STOCKPOT_DIR_ADDR_ADDR))
  else if Reg.HOSTIF_CFG 0 ≤ a && a < Reg.HOSTIF_CFG 6 && a % 256 == 0x0C then some (d.lockst ((a - Reg.HOSTIF_CFG 0) / 256))
  else if a == Reg.SVC_STATE then some d.svcState
  else if a == Reg.SVC_UID0 then some (e.fuses.uid.toNat % 2 ^ 32)
  else if a == Reg.SVC_UID1 then some (e.fuses.uid.toNat / 2 ^ 32)
  else if a == Reg.SVC_FL_DATA then some (d.flWord (d.fld Fd.SVC_FL_PTR_PTR))
  else none

/-- A register that is formed on reading, as requester p sees it. -/
def Dev.view (d : Dev) (e : Env) (p a : Nat) : Option Nat :=
  if a < 0x3000 then d.viewSys e p a
  else if a < 0x8000 then d.viewAudio p a
  else if a < 0x10000 then d.viewCh e a
  else if a < 0x1E000 then none
  else if a < 0x20000 then d.viewAudio p a
  else if a < 0x24000 then d.viewHost e a
  else d.viewBg e a

/-- The word a register shows, before the WO fields are blanked. -/
def Dev.hwWord (d : Dev) (e : Env) (p a : Nat) : Nat := (d.view e p a).getD (d.reg a).toNat

end Sys2Proof.Machine
end

