-- ==== Sys2Proof/Machine/Access.lean ====
section
/-! DEFINITION. One access of a requester to the register window (R11 to R20, R38, R39, R383, R385 to R393, R396, R422):
reads with their effects, writes field by field with their permissions, clamps and checks, the shadow of a locked
sequence, and the actions of the WO fields. -/
namespace Sys2Proof.Machine

/-- Requester numbers of R380. -/
def reqSvc : Nat := 4
def reqTlm : Nat := 5

/-! ### Reads -/

/-- What a read gives: the machine after it, the word, and whether it is an access error. -/
structure RdOut where
  dev : Dev
  val : Nat
  err : Bool
  deriving DecidableEq, Repr

/-- R422: the register belongs to a string that is absent, on the part or in the loaded image. -/
def Dev.absentString (d : Dev) (e : Env) (a : Nat) : Bool := match sharedString a with
  | some k => (e.fuses.is440 && decide (4 ≤ k)) || (d.fld Fd.IMG_STATUS_LOADED != 0 && !(d.present k))
  | none => false

/-- R422: the register is a mirror of a position that CELL_MAP declares absent, in a present string. -/
def Dev.absentCell (d : Dev) (a : Nat) : Bool :=
  decide (0x10000 ≤ a) && decide (a < 0x1E000) &&
    (let c := (a - 0x10000) / 0x400
     d.present (c / 7) && vat d.img.cfg.cells c % 4 == 0)

/-- R396: requester p may read the register. -/
def Dev.mayRead (d : Dev) (p a : Nat) : Bool :=
  let svc := decide (0x23000 ≤ a) && decide (a < 0x24000)
  if p == reqSvc then
    d.svcReads || svc || a == Reg.SYS_ID || a == Reg.SYS_CAP || a == Reg.SYS_STATE || (decide (0x26000 ≤ a) && decide (a < 0x27000))
  else if p < reqSvc && svc then a == Reg.SVC_STATE || a == Reg.SVC_EVT || a == Reg.SVC_UID0 || a == Reg.SVC_UID1
  else true

/-- The words a requester holds in the shadow (R387). -/
def Dev.shadowOf (d : Dev) (p a : Nat) : Option Word :=
  if d.lock.owner == some p then (d.lock.shadow.find? (fun x => x.1 == a)).map (·.2) else none

/-- R13, R387: the owner's view of a word of its shadow; its other bits are live. -/
def overlay (sh live shadow : Nat) : Nat := (live &&& (0xFFFFFFFF - sh)) ||| (shadow &&& sh)

/-- R158: the coefficient address of requester p: string, bank and tap. -/
def Dev.caddr (d : Dev) (p : Nat) : Nat × Nat × Nat :=
  let w := (vat d.req p).firCaddr.toNat
  (bits w 16 3, bits w 12 1, bits w 0 9)

/-- R158: an access with TAP ≥ N, or to an absent string, is an access error. -/
def Dev.caddrBad (d : Dev) (p : Nat) : Bool :=
  let (k, _, t) := d.caddr p
  decide (d.firN ≤ t) || !(d.present k)

/-- R158: TAP advances after an accepted access, from N - 1 to 0. -/
def Dev.caddrStep (d : Dev) (p : Nat) : Dev :=
  let (_, _, t) := d.caddr p
  let t' := if t + 1 == d.firN then 0 else t + 1
  d.modReq p (fun r => { r with firCaddr := BitVec.ofNat 32 (putBits r.firCaddr.toNat 0 9 t') })

/-- R158: a read of FIR_CDATA. -/
def Dev.readCdata (d : Dev) (p : Nat) : RdOut :=
  if d.caddrBad p then ⟨d, 0, true⟩
  else
    let (k, b, t) := d.caddr p
    ⟨d.caddrStep p, ux 32 (Store.get firInit d.firMem (firWords * k + 384 * b + t)), false⟩

/-- R200: a read of CHk_CAP_DATA. -/
def Dev.readCapture (d : Dev) (k : Nat) : RdOut :=
  if d.bit (Fd.CHk_CAP_STATUS_BUSY k) then ⟨d, 0, true⟩
  else
    let n := d.fld (Fd.CHk_CAP_ADDR_ADDR k)
    ⟨d.put (Fd.CHk_CAP_ADDR_ADDR k) ((n + 1) % 2048), d.capWord k, false⟩

/-- R59, R392, R403: what else a read does. -/
def Dev.readEffect (d : Dev) (e : Env) (p a : Nat) : Dev :=
  if a == Reg.CLK_TICK_LO then d.modReq p (fun r => { r with tickHi := BitVec.ofNat 32 (e.tick / 2 ^ 32) })
  else if a == Reg.HOSTIF_LOCKST p then d.modReq p (fun r => { r with lost := false })
  else if a == Reg.SVC_FL_DATA then d.flDataRead.1
  else d

/-- A read of the register window by requester p. Every address of an unpowered block is an access error, listed or not
(R39, R40); reserved addresses of a powered one read zero (R15). -/
def Dev.hostRead (d : Dev) (e : Env) (p a : Nat) : RdOut :=
  match blockAt a, regInfoAt a with
  | some (_, _, dom), some i =>
    if !(d.domRun dom) || !(d.mayRead p a) then ⟨d, 0, true⟩
    else if d.absentString e a then ⟨d, 0, false⟩
    else if a == Reg.FIR_CDATA then d.readCdata p
    else if 0x8000 ≤ a && a < 0x10000 && a % 0x1000 == 0x1BC then d.readCapture ((a - 0x8000) / 0x1000)
    else
      let live := d.hwWord e p a
      let w := match d.shadowOf p a with
        | some s => overlay i.sh live s.toNat
        | none => live
      ⟨d.readEffect e p a, w &&& (0xFFFFFFFF - i.wo), false⟩
  | some (_, _, dom), none => ⟨d, 0, a % 4 != 0 || !(d.domRun dom)⟩
  | none, _ => ⟨d, 0, a % 4 != 0⟩

/-! ### Writes: permissions, clamps and checks -/

/-- What a write gives: the machine after it and what the status word reports of it (R378). -/
structure WrOut where
  env : Env
  dev : Dev
  err : Bool := false
  rej : Bool := false
  locked : Bool := false
  clamp : Bool := false
  shadow : Bool := false
  deriving DecidableEq, Repr

/-- R383: the block group of an address. -/
def blockGroup (a : Nat) : Option Nat :=
  if a < 0x3000 then some 0
  else if a < 0x5000 then some 1
  else if a < 0x6000 then some 2
  else if a < 0x7000 then some 3
  else if a < 0x8000 then some 4
  else if a < 0x10000 then some (5 + (a - 0x8000) / 0x1000)
  else if a < 0x1E000 then some (5 + (a - 0x10000) / 0x400 / 7)
  else if a < 0x20000 then some 13
  else if a < 0x22000 then some 14
  else if a < 0x24000 then none
  else some 15

/-- R383: the HOSTIF page of an address and the offset within it; the mailbox slot of an address. -/
def pageOf (a : Nat) : Option (Nat × Nat) :=
  if 0x22000 ≤ a && a < 0x22600 then some ((a - 0x22000) / 0x100, a % 0x100) else none
def slotOf (a : Nat) : Option Nat := if 0x20800 ≤ a && a < 0x20940 then some ((a - 0x20800) / 0x40) else none

/-- R383: on the TLM page, these registers read zero and writes to them are rejected. -/
def tlmBarred (o : Nat) : Bool := o == 0x08 || o == 0x28 || (decide (0x30 ≤ o) && decide (o < 0x40))

/-- R383: writing a HOSTIF page: its own requester, or SVC on the counters. -/
def Dev.mayPage (d : Dev) (p q o : Nat) : Bool :=
  let counter := o == 0x20 || o == 0x24 || o == 0x2C || o == 0x40
  !(q == reqTlm && tlmBarred o) && (if p == reqSvc then d.svcWrites && (q == p || counter) else q == p)

/-- R396: writing the SVC block. -/
def Dev.maySvc (d : Dev) (p o : Nat) : Bool :=
  if p == reqSvc then d.svcWrites || o == 0x04 || o == 0x0C || (decide (0x50 ≤ o) && decide (o < 0x80))
  else p < reqSvc && o == 0x30 + 4 * p

/-- R383, R367, R396: requester p may write the address at all. -/
def Dev.mayWrite (d : Dev) (p a : Nat) : Bool :=
  match pageOf a with
  | some (q, o) => d.mayPage p q o
  | none =>
    if 0x23000 ≤ a && a < 0x24000 then d.maySvc p (a - 0x23000)
    else match slotOf a with
      | some q => q == p && (p != reqSvc || d.svcWrites)
      | none =>
        if p == reqSvc then d.svcWrites
        else match blockGroup a with
          | some g => p < reqSvc && tbit (d.fld (Fd.HOSTIF_CFG_WPERM p)) g
          | none => false

/-- R385: the value a limit entry allows in place of the value in `v`. -/
def LimitEnt.clamp (x : LimitEnt) (v : Nat) : Nat :=
  match fieldOfMask x.addr x.mask with
  | none => v
  | some f =>
    let num (n : Nat) : Int := let y := bits n f.lo f.w; if x.signed then sx f.w y else (y : Int)
    putBits v f.lo f.w (ux f.w (clampI (num x.min) (num x.max) (num v)))

/-- R20, R385: the word to be written, clamped. -/
def Dev.clampWord (d : Dev) (a v : Nat) : Nat :=
  (d.img.cfg.limits.filter (fun x => x.addr == a)).foldl (fun v x => x.clamp v) v

/-- R16: a register's word after a write of `v` to its RW, SH and W1C fields. -/
def mergeWord (i : RegInfo) (old v : Nat) : Nat :=
  let set := i.rw ||| i.sh
  let clr := v &&& i.w1c
  ((old &&& (0xFFFFFFFF - set)) &&& (0xFFFFFFFF - clr)) ||| (v &&& set)

/-- A value that its field's description declares invalid is rejected (log entry 60). -/
def writeValid (i : RegInfo) (a w : Nat) : Bool :=
  (imgFieldsOf a).all (fun f => f.valid w || ((2 ^ f.w - 1) * 2 ^ f.lo) &&& (i.rw ||| i.sh) == 0)

/-- The TDM port whose pending set holds the address (R122). -/
def pendPort (a : Nat) : Option Nat :=
  if 0x3000 ≤ a && a < 0x4000 then
    let o := a % 0x400
    if o == 0x4 || o == 0x8 || (0x100 ≤ o && o < 0x180) then some ((a - 0x3000) / 0x400) else none
  else none

/-- R110, R113, R122: the pending set of port n after word `w` goes to `a`, its other words as `get` gives them. -/
def Dev.pendingOk (d : Dev) (n a w : Nat) (get : Nat → Nat) : Bool :=
  let at_ (x : Nat) : Nat := if x == a then w else get x
  bits (d.reg (Reg.TDMn_CFG n)).toNat 16 11 != 0 &&
    tdmValid (d.reg (Reg.TDMn_CFG n)).toNat (at_ (Reg.TDMn_FMT n)) (at_ (Reg.TDMn_MASK n))

/-- The checks that a write makes on values alone, live or in a shadow. -/
def Dev.formOk (d : Dev) (i : RegInfo) (a w : Nat) (get : Nat → Nat) : Bool :=
  writeValid i a w && (match pendPort a with
    | some n => d.pendingOk n a w get
    | none => true)

/-- R150: a write that an override of its zone bars. -/
def Dev.overrideBars (d : Dev) (a old w : Nat) : Bool :=
  if a == Reg.ROUTE_MUTE then strings8.any (fun k => d.overridden k && tbit old k != tbit w k)
  else if (0x5400 ≤ a && a < 0x5480) || (0x5700 ≤ a && a < 0x5720) then
    (match sharedString a with
     | some k => d.overridden k
     | none => false)
  else 0x8000 ≤ a && a < 0x10000 && a % 0x1000 == 0x80 && d.overridden ((a - 0x8000) / 0x1000)

/-- R189: a write to a coefficient bank that is not stopped. -/
def Dev.bankBars (d : Dev) (a : Nat) : Bool :=
  if 0x8000 ≤ a && a < 0x10000 && 0x140 ≤ a % 0x1000 && a % 0x1000 < 0x180 then
    let k := (a - 0x8000) / 0x1000
    let n := (a % 0x1000 - 0x140) / 0x20
    let act := d.fld (Fd.CHk_CL_STATUS_ACTIVE k)
    n == act || d.fld (Fd.CHk_OL_SEL_TARGET k) != act
  else false

/-- R150, R189, R194: the checks against live state, at the write or at the commit. -/
def Dev.liveOk (d : Dev) (a w : Nat) : Bool := !(d.overrideBars a (d.reg a).toNat w) && !(d.bankBars a)

/-! ### SH fields, live and shadowed (R53, R123, R162, R387) -/

/-- The word of an SH register changes by a write that completed at tick t, or by a commit that completed at the boundary `done`
and takes effect as a write of tick t. Before the foreground runs it holds at once. -/
def Dev.applySh (d : Dev) (e : Env) (t done a w : Nat) : Dev :=
  let d1 := match pendPort a with
    | some n => (d.setReg a (BitVec.ofNat 32 w)).pendSet n done
    | none =>
      let d' := d.setReg a (BitVec.ofNat 32 w)
      if e.started then d'.hold t a (d.reg a) else d'
  if 0x6100 ≤ a && a < 0x6120 then d1.modZone ((a - 0x6100) / 4) (fun z => { z with firReq := z.firReq ++ [t] }) else d1

/-- R387: put a word into the shadow. -/
def Dev.shadowPut (d : Dev) (a w : Nat) : Dev :=
  let l := d.lock.shadow
  let v : Word := BitVec.ofNat 32 w
  let l' := if l.any (fun x => x.1 == a) then l.map (fun x => if x.1 == a then (a, v) else x) else l ++ [(a, v)]
  { d with lock := { d.lock with shadow := l' } }

/-- R13, R387, R388, R392, R393: a write to an SH register. -/
def writeSh (e : Env) (d : Dev) (p a v : Nat) (i : RegInfo) (clamp : Bool) : WrOut :=
  let no : WrOut := { env := e, dev := d }
  let live (x : Nat) : Nat := (d.reg x).toNat
  match d.lock.owner with
  | some q =>
    if q != p then { no with rej := true, locked := true }
    else if d.lock.committing.isSome then { no with rej := true }
    else
      let seen (x : Nat) : Nat := match d.shadowOf p x with
        | some s => s.toNat
        | none => live x
      let w := mergeWord i (overlay i.sh (live a) (seen a)) v
      let full := decide (256 ≤ d.lock.shadow.length) && !(d.lock.shadow.any (fun x => x.1 == a))
      if full || !(d.formOk i a w seen) then { no with rej := true }
      else { no with dev := d.shadowPut a w, clamp := clamp, shadow := true }
  | none =>
    let w := mergeWord i (live a) v
    if (vat d.req p).lost || !(d.formOk i a w live) || !(d.liveOk a w) then { no with rej := true }
    else { no with dev := d.applySh e e.tick e.tick a w, clamp := clamp }

/-! ### The lock register (R386 to R392) -/

/-- The lock ends: its shadow goes, and RESULT says why. -/
def Dev.lockEnd (d : Dev) (p res : Nat) : Dev :=
  let d : Dev := { d with lock := { (default : LockSt) with owner := none } }
  d.put (Fd.HOSTIF_LOCKST_RESULT p) res

/-- R391: owner loss of an open lock; while COMMITTING it has no effect. -/
def Dev.ownerLoss (d : Dev) (p res : Nat) : Dev :=
  if d.lock.owner == some p && d.lock.committing.isNone then
    let d := (d.lockEnd p res).modReq p (fun r => { r with lost := true })
    (d.bump (Fd.HOSTIF_LINK_LOSSES p)).evt (Fd.HOSTIF_EVT_LOCK_LOST p)
  else d

/-- R386: OPEN is accepted. -/
def Dev.mayOpen (d : Dev) (p : Nat) : Bool :=
  d.lock.owner.isNone && d.bit (Fd.HOSTIF_CFG_LOCK_EN p) && !(vat d.req p).lost && (p != reqSvc || d.svc.state == svcFull)

/-- R386, R388, R389: a write of HOSTIF_LOCK; none where it is rejected. -/
def Dev.lockWrite (d : Dev) (e : Env) (p v : Nat) : Option Dev :=
  let mine := d.lock.owner == some p && d.lock.committing.isNone
  if v % 8 == 1 then
    (if d.mayOpen p then
       some { d with lock := { owner := some p, committing := none, shadow := [], lease := d.fld (Fd.HOSTIF_LEASE_LEASE p) } }
     else none)
  else if tbit v 0 then none
  else if tbit v 2 then (if mine then some (d.lockEnd p 3) else none)
  else if tbit v 1 then (if mine then some { d with lock := { d.lock with committing := some e.tick } } else none)
  else none

/-! ### Actions of WO fields and private words -/

/-- R157: a bank of FIR coefficients takes writes. -/
def Dev.firBankOpen (d : Dev) (k b : Nat) : Bool :=
  let z := d.zone1 k
  let copying := match d.firCopy with
    | some (k', b', _, _) => k' == k && b' == b
    | none => false
  b != d.fld (Fd.FIR_BANKk_ACTIVE k) && z.firFade.isNone && z.firReq.isEmpty && !(d.bit (Fd.FIR_BANKk_PENDING k)) && !copying

/-- R157, R158: a write of FIR_CDATA. -/
def writeCdata (e : Env) (d : Dev) (p v : Nat) : WrOut :=
  let no : WrOut := { env := e, dev := d }
  if d.caddrBad p then { no with err := true }
  else
    let (k, b, t) := d.caddr p
    if d.firBankOpen k b then
      let w := 384 * b + t
      let d : Dev := { d with firMem := Store.set firInit d.firMem (firWords * k + w) (sx 24 v) }
      { no with dev := (d.eccWrite (memFir k) w).caddrStep p }
    else { no with rej := true }

/-- R159, R161: a write of FIR_COPY; none where it is rejected. -/
def Dev.copyWrite (d : Dev) (e : Env) (v : Nat) : Option Dev :=
  if !(tbit v 31) then some d
  else
    let k := bits v 16 3
    let b := bits v 12 1
    let i := bits v 0 5
    if d.firCopy.isSome || decide (24 ≤ i) || !(d.present k) || (d.img.cfg.rate == 2 && i != 0) || !(d.firBankOpen k b) then none
    else some (({ d with firCopy := some (k, b, i, e.tick) } : Dev).putB Fd.FIR_STATUS_COPY_BUSY true)

/-- R195: an injection may start. -/
def Dev.mayInject (d : Dev) (k kind : Nat) : Bool :=
  d.inRun k && d.closed k && !(d.overridden k) && (d.st k).ctl.inj.isNone && kind != 0

/-- R195 to R197: a write of CHk_INJ_CTL; none where it is rejected. -/
def Dev.injWrite (d : Dev) (e : Env) (k v : Nat) : Option Dev :=
  if tbit v 30 then some (d.injStop k)
  else if tbit v 31 then
    let kind := bits v 0 2
    if d.mayInject k kind then
      let x : Inj :=
        { point := bits v 8 2, kind := kind, amp := d.sfld (Fd.CHk_INJ_AMP_AMP k), freq := d.fld (Fd.CHk_INJ_FREQ_FREQ k)
          len := d.fld (Fd.CHk_INJ_LEN_LEN k), start := boundaryAfter e.tick, j := 0, lfsr := 0x7FFF }
      some (d.modCtl k (fun c => { c with inj := some x }))
    else none
  else some d

/-- R199: a signal number that its mode has. -/
def capSelOk (mode1 : Bool) (sel : Nat) : Bool := if mode1 then decide (sel ≤ 3) else decide (sel ≤ 10)

/-- R199: a write of CHk_CAP_CTL; none where it is rejected. -/
def Dev.capWrite (d : Dev) (e : Env) (k v : Nat) : Option Dev :=
  if tbit v 30 then some (d.capEnd k)
  else if tbit v 31 then
    let m := tbit v 11
    if (d.st k).ctl.cap.busy || !(capSelOk m (bits v 0 4)) || !(capSelOk m (bits v 4 4)) then none
    else
      let start := boundaryAfter e.tick
      let d := d.modCtl k (fun c =>
        { c with cap := { c.cap with busy := true, start := start, wr := 0, decLeft := 0, left := none } })
      some (d.setReg (Reg.CHk_CAP_STATUS k) 0x80000000)
  else some d

/-- R69: a write of RACK_CTRL. -/
def Dev.rackWrite (d : Dev) (v : Nat) : Dev :=
  if tbit v 1 then d.putB Fd.RACK_STATUS_SWAP_PENDING false
  else if tbit v 0 then d.putB Fd.RACK_STATUS_SWAP_PENDING true
  else d

/-- R342: a write of DIAG_CRST. -/
def Dev.crstWrite (d : Dev) (v : Nat) : Dev :=
  d.each strings8 (fun d k => if tbit v k && d.present k then d.put (Fd.DIAG_Ck_A_CNT k) 0 else d)

/-- R403: a write of SVC_FL_CTL: with GO it starts an operation. The flag says that it is accepted. -/
def Dev.flCtlWrite (d : Dev) (e : Env) (v : Nat) : Dev × Bool :=
  if tbit v 31 then d.flashGo e (tbit v 4) (bits v 8 2) (tbit v 0) else (d, true)

/-- A register of a string's block whose writes act: what the write does, or none where it is rejected. R195: the
injection and capture registers take writes from SVC in full service only. -/
def Dev.chAction (d : Dev) (e : Env) (p a v : Nat) : Option Dev :=
  let k := (a - 0x8000) / 0x1000
  let o := a % 0x1000
  if (0x1A0 ≤ o && o < 0x1B4) && (p != reqSvc || !(d.svcWrites)) then none
  else if o == 0x1A0 then d.injWrite e k v
  else if o == 0x1B0 then d.capWrite e k v
  else some d

/-- What the WO fields of a register outside HOSTIF and SVC do, before its other fields are written. -/
def Dev.woAction (d : Dev) (e : Env) (p a v : Nat) : Option Dev :=
  if a == Reg.RACK_CTRL then some (d.rackWrite v)
  else if 0x2600 ≤ a && a < 0x2800 && d.bit Fd.RACK_STATUS_SWAP_PENDING then none
  else if a == Reg.FIR_COPY then d.copyWrite e v
  else if 0x8000 ≤ a && a < 0x10000 then d.chAction e p a v
  else if a == Reg.DIAG_CRST then some (d.crstWrite v)
  else match slotOf a with
    | some q =>
      if a == Reg.LID_MBp_REQ q then
        let (d, ok) := d.mailboxPost q (bits v 24 8) (bits v 16 8) (bits v 0 16) e.tick
        if ok then some d else none
      else some d
    | none => some d

/-- The RW and W1C fields of a register take a write that nothing rejects. -/
def Dev.storeWord (d : Dev) (p a v : Nat) (i : RegInfo) : Dev :=
  if a == Reg.FIR_CADDR then d.modReq p (fun r => { r with firCaddr := BitVec.ofNat 32 (mergeWord i r.firCaddr.toNat v) })
  else d.setReg a (BitVec.ofNat 32 (mergeWord i (d.reg a).toNat v))

/-- A write to a register of the SVC block (R397 to R405). -/
def writeSvc (e : Env) (d : Dev) (p a v : Nat) (i : RegInfo) : WrOut :=
  let no : WrOut := { env := e, dev := d }
  let opt (x : Option Dev) : WrOut := match x with
    | some d => { no with dev := d.storeWord p a v i }
    | none => { no with rej := true }
  if a == Reg.SVC_CTL then opt (d.svcCtl e v)
  else if a == Reg.SVC_COMMIT then
    (match commissionWrite e d v with
     | some (e, d) => { no with env := e, dev := d }
     | none => { no with rej := true })
  else if a == Reg.SVC_FL_CTL then
    let (d, ok) := d.flCtlWrite e v
    if ok then { no with dev := d.storeWord p a v i } else { no with dev := d, rej := true }
  else if a == Reg.SVC_FL_DATA then { no with dev := d.flDataWrite v }
  else if a == Reg.SVC_PIN then opt (d.pinWrite v)
  else if i.wo == 0xFFFFFFFF then { no with dev := d.setReg a (BitVec.ofNat 32 v) }
  else opt (some d)

/-- A write that is allowed, to a register with writable fields. -/
def writeReg (e : Env) (d : Dev) (p a v0 : Nat) (i : RegInfo) : WrOut :=
  let no : WrOut := { env := e, dev := d }
  let v := d.clampWord a v0
  let clamp := v &&& (i.rw ||| i.sh) != v0 &&& (i.rw ||| i.sh)
  if i.sh != 0 then writeSh e d p a v i clamp
  else if a == Reg.FIR_CDATA then writeCdata e d p v
  else if 0x23000 ≤ a && a < 0x24000 then writeSvc e d p a v i
  else
    let go (x : Option Dev) : WrOut := match x with
      | some d => { no with dev := d.storeWord p a v i, clamp := clamp }
      | none => { no with rej := true }
    match pageOf a with
    | some (_, o) => if o == 0x08 then go (d.lockWrite e p v) else go (some d)
    | none => if writeValid i a (mergeWord i (d.reg a).toNat v) then go (d.woAction e p a v) else { no with rej := true }

/-- A write of the register window by requester p (R11, R13 to R16, R39, R383, R396, R422). -/
def hostWrite (e : Env) (d : Dev) (p a v : Nat) : WrOut :=
  let no : WrOut := { env := e, dev := d }
  match blockAt a, regInfoAt a with
  | some (_, _, dom), some i =>
    if !(d.domRun dom) then { no with err := true }
    else if !(d.mayWrite p a) || d.absentString e a || d.absentCell a then { no with rej := true }
    else if i.rw ||| i.sh ||| i.w1c ||| i.wo == 0 then { no with rej := i.lid != 0 }
    else writeReg e d p a v i
  | _, _ => { no with err := true }

end Sys2Proof.Machine
end

