-- ==== Sys2Proof/Machine/HostIf.lean ====
section
/-! DEFINITION. The host ports and their requesters (spec file 15): accesses with their counters (R384, R385, R390),
frames and their status word (R374 to R378), port reset and link-down (R379), the arbiter (R381), the locked sequence
(R386 to R392), and the commands that are one access of a requester. Nothing here acts while HOST does not run. -/
namespace Sys2Proof.Machine

/-! ### One access and its accounts (R381, R384, R385, R390) -/

/-- R384: a request is granted: a grant that the arbiter gave before, or one on the spot. -/
def Dev.takeGrant (d : Dev) (p : Nat) : Dev :=
  if (vat d.req p).credit != 0 then d.modReq p (fun r => { r with credit := r.credit - 1 })
  else d.bump (Fd.HOSTIF_GRANTS_GRANTS p)

/-- R385: HOSTIF_LAST: 1 access error, 2 rejection, 3 clamp. -/
def Dev.noteLast (d : Dev) (p a kind : Nat) : Dev :=
  (d.put (Fd.HOSTIF_LAST_KIND p) kind).put (Fd.HOSTIF_LAST_ADDR p) a

/-- R384, R385: errors, rejections and clamps of an access. -/
def Dev.noteAccess (d : Dev) (p a : Nat) (err rej clamp : Bool) : Dev :=
  if err then (d.bump (Fd.HOSTIF_ERRS_ACCERR p)).noteLast p a 1
  else if rej then (d.bump (Fd.HOSTIF_ERRS_REJECTS p)).noteLast p a 2
  else if clamp then (d.bump (Fd.HOSTIF_ERRS_CLAMPS p)).noteLast p a 3
  else d

/-- R390: an access of the owner that is performed reloads the lease. -/
def Dev.reloadLease (d : Dev) (p : Nat) : Dev :=
  if d.lock.owner == some p && d.lock.committing.isNone then
    { d with lock := { d.lock with lease := d.fld (Fd.HOSTIF_LEASE_LEASE p) } }
  else d

/-- R11 to R16, R384: a write of requester p, granted and counted. -/
def accessWrite (e : Env) (d : Dev) (p a v : Nat) : WrOut :=
  let r := hostWrite e (d.takeGrant p) p a v
  let d := r.dev.noteAccess p a r.err r.rej r.clamp
  { r with dev := if r.err || r.rej then d else d.reloadLease p }

/-- A read of requester p, granted and counted. -/
def Dev.accessRead (d : Dev) (e : Env) (p a : Nat) : RdOut :=
  let r := (d.takeGrant p).hostRead e p a
  let d := r.dev.noteAccess p a r.err false false
  ⟨if r.err then d else d.reloadLease p, r.val, r.err⟩

/-- A command that is one write of requester p. -/
def onWrite (s : State) (p a v : Nat) : Host.Outcome State Fault Refusal :=
  onEnvDev s (fun e d => if d.hostRuns then ((accessWrite e d p a v).env, (accessWrite e d p a v).dev) else (e, d))

/-- A command that is one read of requester p; its port returns the word. -/
def onRead (s : State) (p a : Nat) : Host.Outcome State Fault Refusal :=
  onDev s (fun e d =>
    if d.hostRuns then
      let r := d.accessRead e p a
      r.dev.modReq p (fun q => { q with out := { q.out with data := [BitVec.ofNat 32 r.val] } })
    else d)

/-! ### Frames (R374 to R378) -/

/-- The fields of a command word (R375). -/
def cmdWrite (c : Nat) : Bool := tbit c 31
def cmdFix (c : Nat) : Bool := tbit c 30
def cmdWords (c : Nat) : Nat := bits c 23 7 + 1
def cmdAddr (c i : Nat) : Nat := bits c 0 20 + if cmdFix c then 0 else 4 * i

/-- What a frame has gathered: the machine, the words read, and what its status word reports. -/
structure FrameSt where
  env : Env
  dev : Dev
  out : List Nat
  err : Bool
  rej : Bool
  clamp : Bool
  locked : Bool
  shadow : Bool
  first : Option Nat
  deriving DecidableEq, Repr

/-- Word i of a frame is performed (R375, R377). -/
def FrameSt.word (f : FrameSt) (p c : Nat) (data : List Word) (i : Nat) : FrameSt :=
  let a := cmdAddr c i
  let note (bad : Bool) : Option Nat := if bad && f.first.isNone then some i else f.first
  if 0xFFFFC < a then
    let d := (f.dev.takeGrant p).noteAccess p (a % 2 ^ 20) true false false
    { f with dev := d, err := true, out := if cmdWrite c then f.out else f.out ++ [0], first := note true }
  else if cmdWrite c then
    let r := accessWrite f.env f.dev p a (data.getD i 0).toNat
    { f with env := r.env, dev := r.dev, err := f.err || r.err, rej := f.rej || r.rej, clamp := f.clamp || r.clamp
             locked := f.locked || r.locked, shadow := f.shadow || r.shadow, first := note (r.err || r.rej || r.clamp) }
  else
    let r := f.dev.accessRead f.env p a
    { f with dev := r.dev, err := f.err || r.err, out := f.out ++ [r.val], first := note r.err }

/-- R378: LOCK of the status word. -/
def Dev.lockBits (d : Dev) (p : Nat) : Nat := match d.lock.owner with
  | none => 0
  | some q => if q != p then 3 else if d.lock.committing.isSome then 2 else 1

/-- R378: the status word of a frame. -/
def FrameSt.status (f : FrameSt) (p : Nat) : Nat :=
  b2n f.err * 2 ^ 30 + b2n f.rej * 2 ^ 29 + b2n f.clamp * 2 ^ 28 + b2n f.locked * 2 ^ 27 + b2n f.shadow * 2 ^ 26 +
    f.dev.lockBits p * 2 ^ 24 + b2n (vat f.dev.req p).lost * 2 ^ 23 + (f.first.getD 0) * 2 ^ 16 + f.dev.fld (Fd.HOSTIF_SEQ_SEQ p)

/-- A word as bytes, most significant first (R374). -/
def wordBytes (w : Nat) : List Nat := [w / 2 ^ 24 % 256, w / 2 ^ 16 % 256, w / 2 ^ 8 % 256, w % 256]

/-- R376: the CRC that a host sends after its words: over the command word and, in a write frame, its N data words. -/
def frameCrc (c : Nat) (data : List Word) : Nat :=
  crc16 ((c :: (if cmdWrite c then (data.take (cmdWords c)).map (·.toNat) else [])).flatMap wordBytes)

/-- R374, R376: what the port sends. -/
def Dev.respond (d : Dev) (p start : Nat) (out : List Nat) (status : Nat) : Dev :=
  let crc := crc16 ((out ++ [status]).flatMap wordBytes)
  d.modReq p (fun r => { r with out :=
    { start := start, data := out.map (BitVec.ofNat 32), status := BitVec.ofNat 32 status, crc := crc } })

/-- R379: a link-down of port p. -/
def Dev.linkLost (d : Dev) (p : Nat) : Dev :=
  let d := ((d.bump (Fd.HOSTIF_LINK_LINKDOWN p)).evt (Fd.HOSTIF_EVT_LINK p)).ownerLoss p 5
  if p == reqSvc then d.svcClosing else d

/-- R374 to R379: a frame arrives on port p with the CRC that its host sent. -/
def hostFrame (e : Env) (d : Dev) (p c : Nat) (data : List Word) (crc : Nat) : Env × Dev :=
  let n := cmdWords c
  if cmdWrite c && decide (data.length < n) then (e, d.linkLost p)
  else if crc != frameCrc c data || bits c 20 3 != 0 then
    let d := d.bump (Fd.HOSTIF_ERRS_CRC p)
    let f : FrameSt := { env := e, dev := d, out := [], err := false, rej := false, clamp := false, locked := false
                         shadow := false, first := none }
    (e, d.respond p 0xA5 [] (2 ^ 31 + f.status p))
  else
    let d := d.put (Fd.HOSTIF_SEQ_SEQ p) (d.fld (Fd.HOSTIF_SEQ_SEQ p) + 1)
    let d := if p == reqSvc then d.modSvc (fun v => { v with idle := 0 }) else d
    let f : FrameSt := { env := e, dev := d, out := [], err := false, rej := false, clamp := false, locked := false
                         shadow := false, first := none }
    let f := (upTo n).foldl (fun f i => f.word p c data i) f
    (f.env, f.dev.respond p 0x5A f.out (f.status p))

/-- HOST_WRITE_FRAME (R374). -/
def execHostWriteFrame (p : Fin 5) (cmd : Word) (data : List Word) (crc : BitVec 16) (s : State) : Host.Outcome State Fault Refusal :=
  onEnvDev s (fun e d => if d.hostRuns then hostFrame e d p.val cmd.toNat data crc.toNat else (e, d))

/-- HOST_READ_FRAME (R374). -/
def execHostReadFrame (p : Fin 5) (cmd : Word) (crc : BitVec 16) (s : State) : Host.Outcome State Fault Refusal :=
  onEnvDev s (fun e d => if d.hostRuns then hostFrame e d p.val cmd.toNat [] crc.toNat else (e, d))

/-- PORT_RESET (R379). -/
def execPortReset (p : Fin 5) (s : State) : Host.Outcome State Fault Refusal :=
  onDev s (fun _ d =>
    if d.hostRuns then
      let d := (d.bump (Fd.HOSTIF_LINK_RESETS p.val)).evt (Fd.HOSTIF_EVT_LINK p.val)
      let d := (d.modReq p.val (fun r => { r with firCaddr := 0, tickHi := 0 })).ownerLoss p.val 6
      if p.val == reqSvc then d.svcClosing else d
    else d)

/-- LINK_DOWN (R379). -/
def execLinkDown (p : Fin 5) (s : State) : Host.Outcome State Fault Refusal :=
  onDev s (fun _ d => if d.hostRuns then d.linkLost p.val else d)

/-- CS_LOW_TIMEOUT (R379): a link-down. -/
def execCsLowTimeout (p : Fin 5) (s : State) : Host.Outcome State Fault Refusal :=
  onDev s (fun _ d => if d.hostRuns then d.linkLost p.val else d)

/-! ### The arbiter (R380, R381, R384) and the reads of TLM (R414) -/

/-- R414: the next read of the snapshot being taken. -/
def Dev.snapRead (d : Dev) (e : Env) : Dev := match d.bg.snap with
  | none => d
  | some x =>
    let j := x.vals.length
    if j < d.fld (Fd.BG_SNAP_SETs_COUNT x.set) then
      let a := 4 * d.fld (Fd.BG_SNAP_ADDRi_ADDR (d.fld (Fd.BG_SNAP_SETs_FIRST x.set) + j))
      let r := d.accessRead e reqTlm a
      let x' : SnapSt := { x with vals := x.vals ++ [BitVec.ofNat 32 r.val], errs := x.errs ++ [r.err] }
      { r.dev with bg := { r.dev.bg with snap := some x' } }
    else d

/-- R381: the highest rank among the waiting requesters. -/
def Dev.arbiterPick (d : Dev) : List (Nat × Nat) → Option (Nat × Nat)
  | [] => none
  | x :: t => match d.arbiterPick t with
    | none => some x
    | some y => if d.fld (Fd.HOSTIF_CFG_RANK x.1) ≤ d.fld (Fd.HOSTIF_CFG_RANK y.1) then some x else some y

/-- R381, R384: requester p is granted the window after waiting w cycles. -/
def Dev.grant (d : Dev) (e : Env) (p w : Nat) : Dev :=
  let d := d.bump (Fd.HOSTIF_GRANTS_GRANTS p)
  let d := if w == 0 then d
    else (d.bump (Fd.HOSTIF_WAITS_WAITS p)).put (Fd.HOSTIF_WAITS_MAXWAIT p) (max (d.fld (Fd.HOSTIF_WAITS_MAXWAIT p)) (satNat 5 w))
  let d := d.modReq p (fun r => { r with credit := r.credit + 1 })
  if p == reqTlm then d.snapRead e else d

/-- ARBITER_GRANT (R381): one of the waiting requesters is granted the window. -/
def execArbiterGrant (waits : List (Nat × Nat)) (s : State) : Host.Outcome State Fault Refusal :=
  onDev s (fun e d =>
    if d.hostRuns then
      match d.arbiterPick (waits.filter (fun x => decide (x.1 < 6))) with
      | some (p, w) => d.grant e p w
      | none => d
    else d)

/-! ### The locked sequence (R386 to R392) -/

/-- REGISTER_WRITE (R16). -/
def execRegisterWrite (p : Fin 5) (addr : BitVec 20) (v : Word) (s : State) : Host.Outcome State Fault Refusal :=
  onWrite s p.val addr.toNat v.toNat

/-- LOCK_OPEN (R386). -/
def execLockOpen (p : Fin 5) (s : State) : Host.Outcome State Fault Refusal := onWrite s p.val (Reg.HOSTIF_LOCK p.val) 1

/-- LOCK_COMMIT (R388). -/
def execLockCommit (p : Fin 5) (s : State) : Host.Outcome State Fault Refusal := onWrite s p.val (Reg.HOSTIF_LOCK p.val) 2

/-- LOCK_ABORT (R389). -/
def execLockAbort (p : Fin 5) (s : State) : Host.Outcome State Fault Refusal := onWrite s p.val (Reg.HOSTIF_LOCK p.val) 4

/-- The SH bits of a register. -/
def shMask (a : Nat) : Nat := match regInfoAt a with
  | some i => i.sh
  | none => 0

/-- A register's word once its shadowed SH bits stand in it. -/
def Dev.commitWord (d : Dev) (x : Nat × Word) : Nat := overlay (shMask x.1) (d.reg x.1).toNat x.2.toNat

/-- R388: the domain of a register runs. -/
def Dev.addrRuns (d : Dev) (a : Nat) : Bool := match blockAt a with
  | some (_, _, dom) => d.domRun dom
  | none => false

/-- R388, R194: the shadowed words take effect at boundary b: as writes of the tick before it (R53). -/
def Dev.applyShadow (d : Dev) (e : Env) (b : Nat) : Dev :=
  d.lock.shadow.foldl (fun d x => if d.addrRuns x.1 then d.applySh e (b - 1) b x.1 (d.commitWord x) else d) d

/-- R388: the commit is decided at boundary b. -/
def Dev.commitAt (d : Dev) (e : Env) (p b : Nat) : Dev :=
  match d.lock.shadow.find? (fun x => !(d.liveOk x.1 (d.commitWord x))) with
  | some x => (((d.lockEnd p 2).put (Fd.HOSTIF_LOCKERR_ADDR p) x.1).evt (Fd.HOSTIF_EVT_COMMIT_REJ p))
  | none => (d.applyShadow e b).lockEnd p 1

/-- LOCK_COMMIT_DECIDE (R388): at the first outer-loop boundary strictly after the COMMIT. -/
def execLockCommitDecide (s : State) : Host.Outcome State Fault Refusal :=
  onDev s (fun e d => match d.lock.owner, d.lock.committing with
    | some p, some t => if e.started && e.tick % 64 == 0 && decide (boundaryAfter t ≤ e.tick) then d.commitAt e p e.tick else d
    | _, _ => d)

/-- LEASE_EXPIRY (R390, R391): the lease counter of the open lock is 0. -/
def execLeaseExpiry (s : State) : Host.Outcome State Fault Refusal :=
  onDev s (fun _ d => match d.lock.owner with
    | some p => if d.lock.lease == 0 then d.ownerLoss p 4 else d
    | none => d)

/-- R390: a Rack slot boundary. -/
def Dev.leaseSlot (d : Dev) : Dev :=
  if d.lock.owner.isSome && d.lock.committing.isNone then { d with lock := { d.lock with lease := d.lock.lease - 1 } } else d

/-! ### Commands that are one access -/

/-- HOSTIF_LOCKST_READ (R392). -/
def execHostifLockstRead (p : Fin 5) (s : State) : Host.Outcome State Fault Refusal := onRead s p.val (Reg.HOSTIF_LOCKST p.val)

/-- CLK_TICK_LO_READ (R59). -/
def execClkTickLoRead (p : Fin 5) (s : State) : Host.Outcome State Fault Refusal := onRead s p.val Reg.CLK_TICK_LO

/-- FIR_CDATA_READ (R158). -/
def execFirCdataRead (p : Fin 5) (s : State) : Host.Outcome State Fault Refusal := onRead s p.val Reg.FIR_CDATA

/-- FIR_CDATA_WRITE (R157, R158). -/
def execFirCdataWrite (p : Fin 5) (v : Word) (s : State) : Host.Outcome State Fault Refusal := onWrite s p.val Reg.FIR_CDATA v.toNat

/-- FIR_COPY_GO (R159): a write of FIR_COPY with GO = 1. -/
def execFirCopyGo (p : Fin 5) (v : Word) (s : State) : Host.Outcome State Fault Refusal :=
  onWrite s p.val Reg.FIR_COPY (putBit v.toNat 31 true)

/-- FIR_COPY_DONE (R159): the response stands in the bank (log entry 61). -/
def execFirCopyDone (s : State) : Host.Outcome State Fault Refusal :=
  onDev s (fun _ d => match d.firCopy with
    | some (k, b, i, _) =>
      if d.islandOk islFir then
        let n := d.firN
        let d : Dev := { d with firCopy := none
                                firMem := Store.setList firInit d.firMem (firWords * k + 384 * b) ((upTo n).map (romTap i)) }
        (((d.eccWriteRange (memFir k) (384 * b) (384 * b + n)).putB Fd.FIR_STATUS_COPY_BUSY false)).evt Fd.FIR_EVT_COPY_DONE
      else d
    | none => d)

/-- FIR_BANK_REQUEST (R162). -/
def execFirBankRequest (p : Fin 5) (k : Fin 8) (target : Bool) (s : State) : Host.Outcome State Fault Refusal :=
  onWrite s p.val (Reg.FIR_REQk k.val) (b2n target)

/-- OL_BANK_REQUEST (R190). -/
def execOlBankRequest (p : Fin 5) (k : Fin 8) (target : Bool) (s : State) : Host.Outcome State Fault Refusal :=
  onWrite s p.val (Reg.CHk_OL_SEL k.val) (b2n target)

/-- RACK_SWAP (R69). -/
def execRackSwap (p : Fin 5) (s : State) : Host.Outcome State Fault Refusal := onWrite s p.val Reg.RACK_CTRL 1

/-- RACK_ABORT (R69). -/
def execRackAbort (p : Fin 5) (s : State) : Host.Outcome State Fault Refusal := onWrite s p.val Reg.RACK_CTRL 2

/-- INJ_GO (R195): a write of CHk_INJ_CTL with GO = 1. -/
def execInjGo (p : Fin 5) (k : Fin 8) (v : Word) (s : State) : Host.Outcome State Fault Refusal :=
  onWrite s p.val (Reg.CHk_INJ_CTL k.val) (putBit v.toNat 31 true)

/-- INJ_ABORT (R197): a write of CHk_INJ_CTL with ABORT = 1, its other fields as they stand. -/
def execInjAbort (p : Fin 5) (k : Fin 8) (s : State) : Host.Outcome State Fault Refusal :=
  onWrite s p.val (Reg.CHk_INJ_CTL k.val) (putBit (s.dev.reg (Reg.CHk_INJ_CTL k.val)).toNat 30 true)

/-- INJECTION_END (R197): LEN samples have been formed. -/
def execInjectionEnd (k : Fin 8) (s : State) : Host.Outcome State Fault Refusal :=
  onDev s (fun _ d => match (d.st k.val).ctl.inj with
    | some i => if i.len ≤ i.j then d.injStop k.val else d
    | none => d)

/-- CAP_ARM (R199): a write of CHk_CAP_CTL with ARM = 1. -/
def execCapArm (p : Fin 5) (k : Fin 8) (v : Word) (s : State) : Host.Outcome State Fault Refusal :=
  onWrite s p.val (Reg.CHk_CAP_CTL k.val) (putBit v.toNat 31 true)

/-- CAP_ABORT: a write of CHk_CAP_CTL with ABORT = 1, its other fields as they stand. -/
def execCapAbort (p : Fin 5) (k : Fin 8) (s : State) : Host.Outcome State Fault Refusal :=
  onWrite s p.val (Reg.CHk_CAP_CTL k.val) (putBit (s.dev.reg (Reg.CHk_CAP_CTL k.val)).toNat 30 true)

/-- CAPTURE_DONE (R199): the last entry is recorded. -/
def execCaptureDone (k : Fin 8) (s : State) : Host.Outcome State Fault Refusal :=
  onDev s (fun _ d => if (d.st k.val).ctl.cap.left == some 0 then d.capEnd k.val else d)

/-- CAP_DATA_READ (R200). -/
def execCapDataRead (p : Fin 5) (k : Fin 8) (s : State) : Host.Outcome State Fault Refusal := onRead s p.val (Reg.CHk_CAP_DATA k.val)

/-- DIAG_CRST_WRITE (R342). -/
def execDiagCrstWrite (p : Fin 5) (v : Word) (s : State) : Host.Outcome State Fault Refusal := onWrite s p.val Reg.DIAG_CRST v.toNat

/-! ### Commands of the service block -/

/-- SVC_CLOSE (R400). -/
def execSvcClose (p : Fin 5) (s : State) : Host.Outcome State Fault Refusal := onWrite s p.val Reg.SVC_CTL 8

/-- SVC_TRY_PASS (R397). -/
def execSvcTryPass (p : Fin 5) (s : State) : Host.Outcome State Fault Refusal := onWrite s p.val Reg.SVC_CTL 4

/-- SVC_TRY_RESP (R398). -/
def execSvcTryResp (p : Fin 5) (s : State) : Host.Outcome State Fault Refusal := onWrite s p.val Reg.SVC_CTL 2

/-- SVC_REQ_CHAL (R398). -/
def execSvcReqChal (p : Fin 5) (s : State) : Host.Outcome State Fault Refusal := onWrite s p.val Reg.SVC_CTL 1

/-- SVC_COMMIT (R401). -/
def execSvcCommit (p : Fin 5) (v : Word) (s : State) : Host.Outcome State Fault Refusal := onWrite s p.val Reg.SVC_COMMIT v.toNat

/-- R403: the word of SVC_FL_CTL that starts an operation. -/
def flGoWord (nand : Bool) (op : Nat) (slotB : Bool) : Nat := 2 ^ 31 + op * 256 + b2n nand * 16 + b2n slotB

/-- NOR_READ (R403). -/
def execNorRead (p : Fin 5) (slotB : Bool) (s : State) : Host.Outcome State Fault Refusal :=
  onWrite s p.val Reg.SVC_FL_CTL (flGoWord false flRead slotB)

/-- NOR_ERASE (R403). -/
def execNorErase (p : Fin 5) (slotB : Bool) (s : State) : Host.Outcome State Fault Refusal :=
  onWrite s p.val Reg.SVC_FL_CTL (flGoWord false flErase slotB)

/-- NOR_PROGRAM (R403). -/
def execNorProgram (p : Fin 5) (slotB : Bool) (s : State) : Host.Outcome State Fault Refusal :=
  onWrite s p.val Reg.SVC_FL_CTL (flGoWord false flProgram slotB)

/-- NOR_VERIFY (R403). -/
def execNorVerify (p : Fin 5) (slotB : Bool) (s : State) : Host.Outcome State Fault Refusal :=
  onWrite s p.val Reg.SVC_FL_CTL (flGoWord false flVerify slotB)

/-- NAND_READ (R403, R404). -/
def execNandRead (p : Fin 5) (s : State) : Host.Outcome State Fault Refusal :=
  onWrite s p.val Reg.SVC_FL_CTL (flGoWord true flRead false)

/-- NAND_ERASE (R403, R404). -/
def execNandErase (p : Fin 5) (s : State) : Host.Outcome State Fault Refusal :=
  onWrite s p.val Reg.SVC_FL_CTL (flGoWord true flErase false)

/-- NAND_PROGRAM (R403, R404). -/
def execNandProgram (p : Fin 5) (s : State) : Host.Outcome State Fault Refusal :=
  onWrite s p.val Reg.SVC_FL_CTL (flGoWord true flProgram false)

/-- NAND_VERIFY (R403): always refused. -/
def execNandVerify (p : Fin 5) (s : State) : Host.Outcome State Fault Refusal :=
  onWrite s p.val Reg.SVC_FL_CTL (flGoWord true flVerify false)

/-- SVC_FL_DATA_ACCESS (R403): a read, or a write of a word. -/
def execSvcFlDataAccess (p : Fin 5) (wr : Option Word) (s : State) : Host.Outcome State Fault Refusal :=
  match wr with
  | none => onRead s p.val Reg.SVC_FL_DATA
  | some v => onWrite s p.val Reg.SVC_FL_DATA v.toNat

/-- SVC_PIN_GO (R405): a write of SVC_PIN with GO = 1. -/
def execSvcPinGo (p : Fin 5) (v : Word) (s : State) : Host.Outcome State Fault Refusal :=
  onWrite s p.val Reg.SVC_PIN (putBit v.toNat 31 true)

/-- SVC_PIN_STOP (R405): a write of SVC_PIN with STOP = 1, its other fields as they stand. -/
def execSvcPinStop (p : Fin 5) (s : State) : Host.Outcome State Fault Refusal :=
  onWrite s p.val Reg.SVC_PIN (putBit (s.dev.reg Reg.SVC_PIN).toNat 30 true)

end Sys2Proof.Machine
end

