-- ==== Sys2Proof/Machine/Background.lean ====
section
/-! DEFINITION. Background activities (spec file 16): the Rack slot (R60 to R63), scrubbing (R408, R409), sense-path and
cell-voltage calibration (R410 to R412) and telemetry snapshots (R413 to R415). What a slot does between its start and
its end happens with the ticks inside it. -/
namespace Sys2Proof.Machine

def Dev.modScal (d : Dev) (n : Nat) (f : ScalSt → ScalSt) : Dev := d.modBg (fun b => { b with scal := vmod b.scal n f })
def Dev.modCcal (d : Dev) (c : Nat) (f : CcalSt → CcalSt) : Dev := d.modBg (fun b => { b with ccal := vmod b.ccal c f })
def Dev.setScrub (d : Dev) (mem : Nat) (x : ScrubSt) : Dev := d.modBg (fun b => { b with scrub := vset b.scrub (scrubIx mem) x })

/-- Activity codes of R61. -/
def bgScrub : Nat := 1
def bgDelay : Nat := 2
def bgPatrol : Nat := 3
def bgSense : Nat := 4
def bgCell : Nat := 5
def bgWear : Nat := 6
def bgSnap : Nat := 7

/-! ### Scrubbing (R406, R408, R409) -/

/-- R406, R408: the words of a memory; 32 is the delay store. -/
def memWords (mem : Nat) : Nat :=
  if mem < 8 then 1024 else if mem < 16 then 64 else if mem < 24 then 1152 else if mem == 24 then 12288
  else if mem == 25 then 8192 else 1048576

/-- R406: the power domain and the island of a memory. -/
def memDomain (mem : Nat) : Nat :=
  if mem < 16 then domCh (mem % 8) else if mem < 24 then domFir else if mem == 24 then domAudio else if mem == 25 then domLid else domDstore
def memIsland (mem : Nat) : Nat :=
  if mem < 16 then islCh (mem % 8) else if mem < 24 then islFir else if mem == 24 then islAudio else if mem == 25 then islLid else islMem

/-- R64: ticks between the reserved cycles of a memory: one island cycle in 16, at 8, 4 or 2 cycles a tick. -/
def memEvery (mem : Nat) : Nat := if mem == 24 then 4 else if mem == 25 then 8 else 2

/-- The counters of a memory: passes, write-backs and double-bit findings. -/
def scrPasses (mem : Nat) : Fld := if mem == 32 then Fd.BG_SCR_DS_PASSES else Fd.BG_SCRm_PASSES mem
def scrCorr (mem : Nat) : Fld := if mem == 32 then Fd.BG_SCR_DS_CORR else Fd.BG_SCRm_CORR mem
def scrUnc (mem : Nat) : Fld := if mem == 32 then Fd.BG_SCR_DS_UNC else Fd.BG_SCRm_UNC mem

/-- R408: advance the position of a memory. -/
def Dev.scrubAdvance (d : Dev) (mem : Nat) : Dev :=
  let pos := (vat d.bg.scrub (scrubIx mem)).pos + 1
  let wrap := pos == memWords mem
  let d := d.setScrub mem { pos := if wrap then 0 else pos, wb := false, stale := false }
  if wrap then (d.bump (scrPasses mem)).evtIf (mem == 32) Fd.BG_EVT_DS_PASS else d

/-- R408: one reserved cycle; `last` says that it is the last of the slot. -/
def Dev.scrubCycle (d : Dev) (mem : Nat) (last : Bool) : Dev :=
  let x := vat d.bg.scrub (scrubIx mem)
  if x.wb then
    let d := if x.stale then d.bump Fd.BG_SCR_SUPER_SUPER
      else (({ d with ecc := Store.set eccNone d.ecc (eccKey mem x.pos) 0 } : Dev).bump (scrCorr mem)).evt Fd.BG_EVT_SCRUB_CORR
    d.scrubAdvance mem
  else
    let n := d.eccAt mem x.pos
    if n == 1 then (if last then d.bump Fd.RACK_CUT_CNT_CUT else d.setScrub mem { x with wb := true, stale := false })
    else if n != 0 then
      let d := ((d.bump (scrUnc mem)).put Fd.BG_SCR_LAST_MEM mem).put Fd.BG_SCR_LAST_WORD x.pos
      (d.evt Fd.BG_EVT_SCRUB_UNC).scrubAdvance mem
    else d.scrubAdvance mem

/-- The memory that the slot in progress scrubs. -/
def SlotSt.memory (s : SlotSt) : Option Nat :=
  if s.code == bgScrub then some s.param else if s.code == bgDelay then some 32 else none

/-- R64, R408: tick interval t of the slot in progress holds a reserved cycle of the memory scrubbed. -/
def Dev.scrubTick (d : Dev) (t : Nat) : Dev := match d.bg.slot.memory with
  | none => d
  | some m => if t % memEvery m + 1 == memEvery m && d.islandOk (memIsland m) then d.scrubCycle m (t % 256 == 255) else d

/-! ### Calibration (R410 to R412) -/

/-- R410: the two chain values captured in the tick that has ended. -/
def Dev.senseTick (d : Dev) : Dev :=
  let n := d.bg.slot.param
  if d.islandOk islSieve then d.modScal n (fun x => { x with sum := x.sum + sumI (((vat d.sieve n).bits.take 2).map pm) }) else d

/-- R63: a calibration slot ends with tick interval t; where it does not close its round of `want` slots, its work step
is cut (log entry 68). -/
def Dev.cutRound (d : Dev) (t slots want : Nat) : Dev :=
  if t % 256 == 255 && decide (slots < want) then d.bump Fd.RACK_CUT_CNT_CUT else d

/-- R411: a valid frame of a cell at tick t. -/
def Dev.validCell (d : Dev) (k p t : Nat) : Bool := d.cellHere k p && (d.cellC k p).validAt == some t

/-- R411: take-up tick t of the string of the cell under calibration. -/
def Dev.cellTick (d : Dev) (t : Nat) : Dev :=
  let c := d.bg.slot.param
  let k := c / 7
  let p := c % 7
  let others := positions.filter (fun q => q != p && !(d.failed k q) && d.validCell k q t)
  if t % 32 == (k + 5) % 32 && d.islandOk (islCh k) && d.validCell k p t && !others.isEmpty then
    let sum := (others.map (d.vbus k)).sum
    d.modCcal c (fun x => { x with a := x.a + d.vbus k p, b := x.b + 60 * sum / others.length, n := x.n + 1 })
  else d

/-- What the slot in progress does with tick interval t, once its captures are in. -/
def Dev.slotTick (d : Dev) (t : Nat) : Dev :=
  let s := d.bg.slot
  if !s.live then d
  else if s.code == bgSense then d.senseTick.cutRound t (vat d.bg.scal s.param).slots (d.fld Fd.BG_SCAL_CFG_SLOTS)
  else if s.code == bgCell then (d.cellTick t).cutRound t (vat d.bg.ccal s.param).slots (d.fld Fd.BG_CCAL_CFG_SLOTS)
  else d.scrubTick t

/-- The last slot of a round of input or cell `n` has ended. -/
def Dev.roundEnds (d : Dev) (t code n slots want : Nat) : Bool :=
  let s := d.bg.slot
  s.live && s.code == code && s.param == n && decide (s.start + 256 ≤ t) && decide (want ≤ slots)

/-- R410, R412: a round of sense calibration closes. -/
def Dev.senseClose (d : Dev) (n : Nat) : Dev :=
  let x := vat d.bg.scal n
  let mean := sat 24 (rdiv (x.sum * 2 ^ 23) (512 * d.fld Fd.BG_SCAL_CFG_SLOTS))
  let out := decide (((d.fld Fd.BG_SCAL_CFG_TOL * 256 : Nat) : Int) < (mean.natAbs : Int))
  let was := d.bit (Fd.BG_SCALn_STAT_OUT n)
  let d := (d.setReg (Reg.BG_SCALn_MEAN n) (BitVec.ofNat 32 (ux 32 mean))).putB (Fd.BG_SCALn_STAT_OUT n) out
  let d := (d.putB (Fd.BG_SCALn_STAT_RUN n) x.run).bump (Fd.BG_SCALn_STAT_ROUNDS n)
  ((d.evt Fd.BG_EVT_SENSE_DONE).evtIf (out && !was) Fd.BG_EVT_SENSE_TOL).modScal n (fun _ => default)

/-- SENSE_CAL_ROUND_CLOSE (R410). -/
def execSenseCalRoundClose (n : Fin 20) (s : State) : Host.Outcome State Fault Refusal :=
  onDev s (fun e d =>
    if d.roundEnds e.tick bgSense n.val (vat d.bg.scal n.val).slots (d.fld Fd.BG_SCAL_CFG_SLOTS) then d.senseClose n.val else d)

/-- R411, R412: a round of cell calibration closes. -/
def Dev.cellClose (d : Dev) (c : Nat) : Dev :=
  let x := vat d.bg.ccal c
  let d := if x.n == 0 then d.putB (Fd.BG_CCALc_NONE c) true
    else
      let dev := rdiv (16 * (60 * (x.a : Int) - x.b)) (60 * x.n)
      let out := decide ((d.fld Fd.BG_CCAL_CFG_TOL : Int) < (dev.natAbs : Int))
      let was := d.bit (Fd.BG_CCALc_OUT c)
      let d := (d.putB (Fd.BG_CCALc_NONE c) false).putB (Fd.BG_CCALc_OUT c) out
      ((d.put (Fd.BG_CCALc_AVG c) (rdiv x.a x.n).toNat).putI (Fd.BG_CCALc_DEV c) (sat 16 dev)).evtIf (out && !was) Fd.BG_EVT_CELL_TOL
  (d.evt Fd.BG_EVT_CELL_DONE).modCcal c (fun _ => default)

/-- CELL_CAL_ROUND_CLOSE (R411). -/
def execCellCalRoundClose (c : Fin 56) (s : State) : Host.Outcome State Fault Refusal :=
  onDev s (fun e d =>
    if d.roundEnds e.tick bgCell c.val (vat d.bg.ccal c.val).slots (d.fld Fd.BG_CCAL_CFG_SLOTS) then d.cellClose c.val else d)

/-! ### Snapshots (R413 to R415) -/

/-- SNAPSHOT_COMPLETE (R414): the last read has completed. -/
def execSnapshotComplete (s : State) : Host.Outcome State Fault Refusal :=
  onDev s (fun _ d => match d.bg.snap with
    | some x =>
      if d.hostRuns && x.vals.length == d.fld (Fd.BG_SNAP_SETs_COUNT x.set) then
        let d := (upTo x.vals.length).foldl (fun d j => d.setReg (Reg.BG_SNAPs_Dj x.set j) (x.vals.getD j 0)) d
        let err := bitsOf 16 (fun j => x.errs.getD j false)
        let d := (d.setReg (Reg.BG_SNAPs_TICK x.set) (BitVec.ofNat 32 x.tick)).put (Fd.BG_SNAPs_STAT_ERR x.set) err
        let d := d.put (Fd.BG_SNAPs_STAT_SEQ x.set) (d.fld (Fd.BG_SNAPs_STAT_SEQ x.set) + 1)
        ((d.evt Fd.BG_EVT_SNAP).evtIf (err != 0) Fd.BG_EVT_TLM_ERR).modBg (fun b => { b with snap := none })
      else d
    | none => d)

/-! ### The Rack slot (R60 to R63) -/

/-- The entry of the active table for slot n. -/
def Dev.rackEntry (d : Dev) (n : Nat) : Nat :=
  bits (d.reg (Reg.RACK_ACTIVEw (n / 2))).toNat (16 * (n % 2)) 16

/-- R63: the domains that a slot's activity targets are in RUN. -/
def Dev.slotDomains (d : Dev) (code param : Nat) : Bool :=
  if code == bgScrub then d.domRun (memDomain param)
  else if code == bgDelay then d.domRun domDstore
  else if code == bgPatrol || code == bgWear then d.domRun domLid
  else if code == bgSense then d.domRun domSieve && (decide (16 ≤ param) || d.domRun (domCh (param % 8)))
  else if code == bgCell then d.domRun (domCh (param / 7))
  else if code == bgSnap then d.domRun domHost
  else true

/-- R410, R411, R414: the activity of a slot starts at tick t; the flag says that it does, or that the slot passes idle. -/
def Dev.slotBegin (d : Dev) (e : Env) (t code param : Nat) : Dev × Bool :=
  if !(d.slotDomains code param) then (d, false)
  else if code == bgPatrol then d.patrolSlot
  else if code == bgWear then d.relocSlot e
  else if code == bgSense then
    let run := decide (param < 16) && d.inRun (param % 8)
    (d.modScal param (fun x => { x with slots := x.slots + 1, run := x.run || run }), true)
  else if code == bgCell then (d.modCcal param (fun x => { x with slots := x.slots + 1 }), true)
  else if code == bgSnap then
    if d.fld (Fd.BG_SNAP_SETs_COUNT param) == 0 then (d, false)
    else (d.modBg (fun b => { b with snap := some { set := param, tick := t, vals := [], errs := [] } }), true)
  else (d, true)

/-- R61 to R63, R390: slot n of the Rack frame in progress starts at tick t. -/
def Dev.slotStart (d : Dev) (e : Env) (t : Nat) : Dev :=
  let n := t / 256 % 256
  let x := d.rackEntry n
  let code := x / 4096
  let param := x % 4096
  let d := ((d.put Fd.RACK_STATUS_CUR_SLOT n).put Fd.RACK_STATUS_CUR_CODE code).leaseSlot
  let (d, live) := d.slotBegin e t code param
  let d := d.modBg (fun b => { b with slot := { code := code, param := param, start := t, live := live } })
  if live then d else d.bump Fd.RACK_SKIP_CNT_SKIP

/-- RACK_SLOT_START (R61). -/
def execRackSlotStart (s : State) : Host.Outcome State Fault Refusal :=
  onDev s (fun e d => if e.started && e.tick % 256 == 0 then d.slotStart e e.tick else d)

end Sys2Proof.Machine
end

