-- ==== Sys2Proof/Machine/Timeline.lean ====
section
/-! DEFINITION. The time line: ticks, the release tick (R75), Rack frame starts, outer-loop boundaries, program sample
boundaries, the take-up of transfers between islands (R50, R52), and failures of island clocks (R49, R450).
Within one tick the commands come in the order that log entry 63 gives. -/
namespace Sys2Proof.Machine

/-! ### Ticks (R3, R165) -/

/-- AON and the main oscillator work (R47). -/
def Dev.aonRuns (d : Dev) : Bool := d.islandOk islAon

/-- R40: the FJC-440 ignores the sigma-delta inputs of strings 4 to 7. So that its readouts and those of an FJC-840
under the same image are equal (R42), the FJC-840 ignores the inputs of those strings that the image declares absent:
DESIGN CHOICE, log entry 69. -/
def Dev.sensed (d : Dev) (e : Env) (sd : BitVec 20) : BitVec 20 :=
  sd &&& BitVec.ofNat 20 (0xF0F0F + if e.fuses.is440 then 0 else bits d.img.cfg.strings 4 4 * 0x1010)

/-- R48: the islands that keep a copy of the tick number: every one but AON and HOST. -/
def copyIslands : List Nat := [islLid, islAudio, islFir, islSieve, islMem, 7, 8, 9, 10, 11, 12, 13, 14]

/-- R48: how far an island's copy advances in one tick. -/
def copyStep (slips : List Slip) (i : Nat) : Nat :=
  match slips.find? (fun x => x.island.val == i) with
  | none => 1
  | some x => if x.twice then 2 else 0

/-- R48: each island whose clock works advances its copy of the tick number. -/
def Dev.copyTick (d : Dev) (slips : List Slip) : Dev :=
  let adv (i : Nat) : Nat := vat d.pwr.tickCopy i + if d.islandOk i then copyStep slips i else 0
  { d with pwr := { d.pwr with tickCopy := Vector.ofFn (fun i : Fin 15 => adv i.val) } }

/-- R165, R48, R61: what the tick that ends at `e.tick` leaves: its captures, stage 1, the islands' copies of the tick
number, and the background slot's share. Before the release tick it is a tick of the apply pass (R453). -/
def Dev.tickEnd (d : Dev) (e : Env) (sd0 sd1 : BitVec 20) (ups : List Upset) (slips : List Slip) : Dev :=
  let d := ups.foldl Dev.eccUpset d
  if e.started then
    (((d.capture (d.sensed e sd0) (d.sensed e sd1)).stage1 e.tick).copyTick slips).slotTick (e.tick - 1)
  else d.applyTick e

/-- A tick elapses: the count since lock and, once it has started, the tick number (R3, R73). -/
def Env.advance (e : Env) (locked : Bool) : Env :=
  { e with lockTicks := if locked then e.lockTicks + 1 else e.lockTicks, tick := if e.started then e.tick + 1 else e.tick }

/-- TICK (R3). -/
def execTick (sd0 sd1 : BitVec 20) (x : Disturb) (s : State) : Host.Outcome State Fault Refusal :=
  onEnvDev s (fun e d =>
    if d.aonRuns then (e.advance d.pwr.locked, d.tickEnd (e.advance d.pwr.locked) sd0 sd1 x.upsets x.slips) else (e, d))

/-! ### Failures of island clocks (R48, R49) -/

/-- R49: the clock of an island other than AON and HOST has failed. -/
def Dev.islandReact (d : Dev) (t i : Nat) : Dev :=
  if i == islLid then (d.islandFail t i).domFault domLid
  else if islCh 0 ≤ i then (d.islandFail t i).domFault (i + 1)
  else d.islandFail t i

/-- R48: at frame start t AON compares an island's copy with its own count. -/
def Dev.copyCheck (d : Dev) (t i : Nat) : Dev :=
  if d.islandOk i && vat d.pwr.tickCopy i != t then d.islandReact t i else d

/-! ### The Rack table (R70) -/

/-- The 128 words of a table. -/
def Dev.rackWords (d : Dev) (w : Nat → Nat) : List Nat := (upTo 128).map (fun i => (d.reg (w i)).toNat)

/-- The standby table is valid (R70). -/
def Dev.standbyOk (d : Dev) : Bool :=
  rackTableOk d.img.cfg.strings (vat d.img.cfg.cells) (d.reg Reg.RACK_MIN0).toNat (d.reg Reg.RACK_MIN1).toNat
    (rackEntries (d.rackWords Reg.RACK_STBYw))

/-- Word w of the two tables changes place. -/
def Dev.swapWord (d : Dev) (w : Nat) : Dev :=
  (d.setReg (Reg.RACK_ACTIVEw w) (d.reg (Reg.RACK_STBYw w))).setReg (Reg.RACK_STBYw w) (d.reg (Reg.RACK_ACTIVEw w))

/-- R70: a pending swap is settled. -/
def Dev.rackSettle (d : Dev) : Dev :=
  if d.bit Fd.RACK_STATUS_SWAP_PENDING then
    let d := d.putB Fd.RACK_STATUS_SWAP_PENDING false
    if d.standbyOk then ((upTo 128).foldl Dev.swapWord d).evt Fd.RACK_EVT_SWAP_DONE else d.evt Fd.RACK_EVT_REFUSED
  else d

/-- R60, R70: Rack frame f begins. -/
def Dev.rackFrame (d : Dev) (f : Nat) : Dev := d.rackSettle.put Fd.RACK_FRAME_FRAME f

/-! ### Strings at a Rack frame start (R99 to R102, R237, R312, R324, R326, R329) -/

/-- ENUM ends once every present cell's link is accepted; one lost since counts as accepted (R99, R265). -/
def Dev.enumFrame (d : Dev) (k f : Nat) : Dev :=
  let done (p : Nat) : Bool := !(d.cellHere k p) || d.linkState k p == lkAccepted || d.linkState k p == lkLost
  if (d.st k).pr.stray then (d.endLinks k).startFail k
  else if (d.st k).pr.pinMode then d
  else if positions.all done then d.endEnum k f
  else d

/-- R99, R101: PRECHARGE ends once its conditions have held at two consecutive frame starts. -/
def Dev.prechargeFrame (d : Dev) (k f : Nat) : Dev :=
  if d.enoughCells k then
    let n := if d.preOk k f then (d.st k).pr.preOk + 1 else 0
    let d := d.modPr k (fun p => { p with preOk := n })
    if 2 ≤ n then d.enterTest k f else d
  else d.startWait k f false

/-- R102, R329: TEST at a frame start. -/
def Dev.testFrame (d : Dev) (k f : Nat) : Dev :=
  if d.enoughCells k then (if (d.tst k).restart then d.testRestart k f else d)
  else (d.put (Fd.CHk_DT_STATUS_STEP k) 0).startWait k f false

/-- The phase of string k at a frame start; `fresh` says that STR_EN falls on it (R312). -/
def Dev.phaseFrame (d : Dev) (k f : Nat) (fresh : Bool) : Dev :=
  let d := (d.modPr k (fun p => { p with frames := p.frames + 1 })).slowFrame k
  let ph := d.phase k
  if ph == phEnum then d.enumFrame k f
  else if ph == phPrecharge then d.prechargeFrame k f
  else if ph == phTest then d.testFrame k f
  else if ph == phArmed then (if d.enoughCells k then d else d.startWait k f false)
  else if ph == phRun then d.rotFrame k
  else if ph == phLatched && (d.st k).pr.restart && !fresh && !(d.enHigh k) then d.restartEnum k f
  else d

/-- String k at a frame start. -/
def Dev.stringFrame (d : Dev) (f : Nat) (low : List Nat) (k : Nat) : Dev :=
  ((d.phaseFrame k f (low.contains k)).demandCounts k).thermal k f

/-- R312: the strings whose STR_EN falls at this frame start. -/
def Dev.enFalls (d : Dev) : List Nat := d.liveStrs.filter (fun k => (d.st k).pr.enLowDue)

/-- R312: STR_EN of a latched string falls. -/
def Dev.dropEn (d : Dev) (k : Nat) : Dev :=
  let d := d.modPr k (fun p => { p with enLowDue := false })
  if d.phase k == phLatched then d.strEn k false else d

/-- The frame-rate updates of every block at frame start f. -/
def Dev.frameStart (d : Dev) (f : Nat) : Dev :=
  let ran := d.fld Fd.SYS_STATE_STATE == 2
  let d := (d.each copyIslands (fun d i => d.copyCheck f i)).rackFrame (f / 65536)
  let d := if d.islandOk islAudio then
      let d := d.steerFrame
      d.each (ports6.filter (fun n => d.convMaster n || d.txSlave n)) (fun d n => d.convFrame n)
    else d
  let low := d.enFalls
  let d := (d.pinFrame f).each low (fun d k => d.dropEn k)
  let d := d.each (d.strs.filter d.lostDomain) Dev.startFail                       -- R103
  let d := d.each d.liveStrs (fun d k => d.stringFrame f low k)
  let d := d.svcFrame.sysRunCheck f
  if d.islandOk islLid then d.lidFrame ran else d

/-- RACK_FRAME_START (R60). Frame 0 begins with the release tick. -/
def execRackFrameStart (s : State) : Host.Outcome State Fault Refusal :=
  onDev s (fun e d => if e.frameStart && decide (0 < e.tick) && d.aonRuns then d.frameStart e.tick else d)

/-! ### The end of a start phase (R99, R106) -/

/-- R106, R369: SYS_STATE follows the strings at frame start t; when it becomes RUN, the condition vector of this frame start
is formed with it; the relays count from the next (R370). -/
def Dev.settled (d : Dev) (t : Nat) : Dev :=
  let ran := d.fld Fd.SYS_STATE_STATE
  let d := d.sysRunCheck t
  if ran != d.fld Fd.SYS_STATE_STATE && d.islandOk islLid then d.formConditions else d

/-- ENUM_TIMEOUT (R99, R264). -/
def execEnumTimeout (k : Fin 8) (s : State) : Host.Outcome State Fault Refusal :=
  onDev s (fun e d => if e.frameStart && d.islandOk (islCh k.val) then (d.enumTimeout k.val e.tick).settled e.tick else d)

/-- PRECHARGE_TIMEOUT (R99, R101). -/
def execPrechargeTimeout (k : Fin 8) (s : State) : Host.Outcome State Fault Refusal :=
  onDev s (fun e d => if e.frameStart && d.islandOk (islCh k.val) then (d.prechargeTimeout k.val e.tick).settled e.tick else d)

/-- ARM_COMPLETE (R99, R105). -/
def execArmComplete (k : Fin 8) (s : State) : Host.Outcome State Fault Refusal :=
  onDev s (fun e d => if e.frameStart && d.islandOk (islCh k.val) then (d.armComplete k.val e.tick).settled e.tick else d)

/-- START_TEST_JUDGEMENT (R333, R454). -/
def execStartTestJudgement (k : Fin 8) (s : State) : Host.Outcome State Fault Refusal :=
  onDev s (fun e d =>
    let t := d.tst k.val
    let isOver := decide (4 * d.logS k.val + 3 * d.logM k.val ≤ (e.tick - t.f0) / 65536)
    let cut := match t.abort with
      | some b => decide (b < e.tick)
      | none => false
    if e.frameStart && d.islandOk (islCh k.val) && d.phase k.val == phTest && !t.restart && (isOver || cut) then
      (d.testJudge k.val e.tick).settled e.tick
    else d)

/-- CONFIRM_TIMEOUT (R305): safe state was not confirmed in time. -/
def execConfirmTimeout (k : Fin 8) (s : State) : Host.Outcome State Fault Refusal :=
  onDev s (fun e d =>
    let p := (d.st k.val).pr
    if d.phase k.val == phSafe && p.handling && decide (p.d + d.fld (Fd.CHk_PR_CFG_CONFIRM k.val) ≤ e.tick) then
      let d := ((d.latchStr k.val).strEn k.val false).putB (Fd.CHk_PR_STATUS_UNCONF k.val) true
      (d.modPr k.val (fun p => { p with enLowDue := false })).settled e.tick
    else d)

/-! ### The release tick (R75, R107) -/

/-- R107, R148, R154: zone k starts as its settings stand. -/
def Dev.releaseZone (d : Dev) (k : Nat) : Dev :=
  let delay := d.fld (Fd.ROUTE_DELAYk_DELAY k)
  let gain := d.fld (Fd.CHk_GAIN_GAIN k)
  let pos := if tbit (d.fld Fd.ROUTE_MUTE_MUTE) k then 0 else d.fadeN
  (d.modZone k (fun z => { z with mutePos := pos, delayOld := delay, delayNew := delay, delaySeen := delay, gFrom := gain, gTo := gain, gPos := 0 })).put
    (Fd.ROUTE_DLIVEk_LIVE k) delay

/-- R107, R162, R191, R324, R341: string k starts: its banks, its thermal model and its first phase. -/
def Dev.releaseStr (d : Dev) (k : Nat) : Dev :=
  let d := ((d.releaseZone k).put (Fd.FIR_BANKk_ACTIVE k) (d.fld (Fd.FIR_REQk_TARGET k))).put (Fd.CHk_CL_STATUS_ACTIVE k)
    (d.fld (Fd.CHk_OL_SEL_TARGET k))
  let tc := d.fld (Fd.CHk_LM_TH2_TC0 k)
  let tm := d.fld (Fd.CHk_LM_TH2_TM0 k)
  -- U9.7 in S9.30
  let d := d.modLoad k (fun l => { l with tc := tc * 2 ^ 23, tm := tm * 2 ^ 23 })
  let d := (((d.put (Fd.CHk_LM_TEMP_TC k) tc).put (Fd.CHk_LM_TEMP_TM k) tm).put (Fd.CHk_LM_STATUS_GL k) 32768).supModes k
  let d := d.each positions (fun d p => d.modCell k p (fun c => { c with dwellFrom := -65535 }))
  if d.islandOk (islCh k) then d.enterEnum k 0 else if d.lostDomain k then d.startFail k else d

/-- R117, R123, R140: port n starts; the set of the image is in force on a TDM port in use. -/
def Dev.releasePort (d : Dev) (n : Nat) : Dev :=
  let d := if decide (n < 4) && d.portUsed n then d.takeSet n else d
  let d := if d.txMaster n then d.putB (fdAccept n) true else d
  d.putB (Fd.ASRCn_STATUS_ACTIVE n) (d.usesConv n)

/-- R107: a HOSTIF page's counters, which are the arbiter's (R384), start at zero. -/
def Dev.releasePage (d : Dev) (p : Nat) : Dev :=
  d.each [Reg.HOSTIF_GRANTS p, Reg.HOSTIF_WAITS p, Reg.HOSTIF_ERRS p, Reg.HOSTIF_LINK p] (fun d a => d.setReg a 0)

/-- R107: at the release tick no locked sequence and no service session is open, FAILS is 0, and every event bit and the
counters of the arbiter and of the clock monitor are zero (log entry 73). -/
def Dev.releaseCounts (d : Dev) : Dev :=
  let d : Dev := { d.svcClosing with lock := default }
  let d := d.modSvc (fun v => { v with fails := 0 })
  let d := d.each ((evtRows95 ++ strings8.flatMap evtRowsCh).map (·.evt)) (fun d a => d.setReg a 0)
  (d.each [0, 1, 2, 3, 4, 5] Dev.releasePage).setReg Reg.CLK_LATE_CNT 0

/-- R75: the engine islands are released, every island's copy of the tick number is 0 (R48), and Rack frame 0 begins. -/
def Dev.release (d : Dev) : Dev :=
  let d := d.releaseCounts
  let d : Dev := { d with pwr := { d.pwr with tickCopy := Vector.replicate 15 0 } }
  let d := (d.each ports6 Dev.releasePort).groupDelay
  let d := (d.each d.strs Dev.releaseStr).startMapLoad
  let d := (d.put Fd.SYS_STATE_STATE 1).rackFrame 0
  let d := d.sysRunCheck 0
  if d.islandOk islLid then d.formConditions else d

/-- R75: the apply pass and memory initialisation are complete, and the next tick has come. -/
def Dev.releaseDue (d : Dev) (e : Env) : Bool :=
  d.img.applyDone && d.img.memInit && !e.started && decide (d.img.readyAt < e.lockTicks) && !d.pwr.shutdown && d.aonRuns

/-- RELEASE_TICK (R75): the tick number starts at 0. -/
def execReleaseTick (s : State) : Host.Outcome State Fault Refusal :=
  onEnvDev s (fun e d => if d.releaseDue e then ({ e with tick := 0, started := true }, d.release) else (e, d))

/-! ### Outer-loop boundaries -/

/-- R44: the applied steer value follows the request by at most one step. -/
def Dev.steer (d : Dev) : Dev :=
  let now := d.sfld Fd.CLK_STEER_STEER
  let step : Int := d.fld Fd.CLK_SLEW_STEP
  let lim : Int := d.fld Fd.CLK_STEER_LIM_LIM
  let ask := d.align.req
  let s := clampI (-lim) lim (clampI (now - step) (now + step) ask)
  (d.putI Fd.CLK_STEER_STEER s).evtIf (s != ask) Fd.CLK_EVT_STEER_LIMIT

/-- R50, R310, R328, R369: the state of string k that goes to the Lid. -/
def Dev.strCopy (d : Dev) (k : Nat) : StrCopy :=
  { phase := d.phase k
    held := d.fld (Fd.CHk_PR_STATUS_PHASE k) == 5
    probe := d.fld (Fd.CHk_PR_STATUS_PHASE k) == 3
    pinMode := (d.st k).pr.pinMode
    degraded := d.fld (Fd.CHk_WH_MARKS_FAILED k) != 0 || (d.st k).wh.reduced || bits (d.whStatus k) 20 3 == 0 || d.inFallback k
    cls := d.bit (Fd.CHk_DT_CFG_CLASS k)
    dc := d.fld (Fd.CHk_DT_STATUS_RESULT k)
    rdc := d.fld (Fd.CHk_DT_RES_R k) }

/-- String k at boundary b: its precise samples (R50) and the fast current sample last produced, then its loops. -/
def Dev.stringBoundary (d : Dev) (b k : Nat) : Dev :=
  let im := if d.produced islSieve (b - 2) then (vat d.sieve (8 + k)).fast else (d.st k).fi
  (d.takePrecise k).boundaryStr k b im

/-- Outer-loop boundary b. -/
def Dev.outerLoop (d : Dev) (b : Nat) : Dev :=
  let d := (d.settle b).steer.sieveBoundary b
  let d := d.each d.liveStrs (fun d k => d.stringBoundary b k)
  let d := if d.islandOk islLid then d.lidBoundary b else d
  d.each d.liveStrs (fun d k => d.modLid (fun l => { l with strsNext := vset l.strsNext k (d.strCopy k) }))

/-- OUTER_LOOP_BOUNDARY (R180, R346). -/
def execOuterLoopBoundary (s : State) : Host.Outcome State Fault Refusal :=
  onDev s (fun e d => if e.started && e.tick % 64 == 0 && d.aonRuns then d.outerLoop e.tick else d)

/-! ### Program sample boundaries -/

/-- Program sample boundary s: the monitor path, the Stockpot, then the audio path (R155, R171, R360). -/
def Dev.programSample (d : Dev) (s : Nat) : Dev :=
  let d := d.sieveMonitor s
  (if d.islandOk islLid then d.potBoundary else d).audioBoundary s

/-- PROGRAM_SAMPLE_BOUNDARY (R155). -/
def execProgramSampleBoundary (s : State) : Host.Outcome State Fault Refusal :=
  onDev s (fun e d => if d.sampleBoundary e && d.aonRuns then d.programSample e.tick else d)

/-! ### Transfers between islands (R50, R52) -/

/-- The island that a transfer comes from, in CLK_ISLAND_OK order. -/
def rowSource (k : Nat) : TransferRow → Nat
  | .fast | .precise | .supervision => islSieve
  | .pilotPhase | .stringState => islCh k
  | .overrides | .stringRequest => islLid
  | .zoneFeed => islAudio
  | .delayed => islMem
  | .equalised => islFir

/-- The island that takes a transfer up. -/
def rowTarget (k : Nat) : TransferRow → Nat
  | .fast | .precise | .stringRequest | .equalised => islCh k
  | .pilotPhase => islSieve
  | .supervision | .stringState => islLid
  | .overrides => islAudio
  | .zoneFeed => islMem
  | .delayed => islFir

/-- The row belongs to one string. -/
def rowOfString : TransferRow → Bool
  | .fast | .precise | .pilotPhase | .stringState | .stringRequest | .equalised => true
  | _ => false

/-- R50: the production ticks of the transfers of a row that are taken up at tick t. -/
def rowMade (p t : Nat) : TransferRow → List Nat
  | .fast => if t % 2 == 0 && decide (2 ≤ t) then [t - 2] else []
  | .precise | .pilotPhase => if t % 64 == 4 then [t - 4] else []
  | .supervision | .stringState => if t % 64 == 8 then [t - 8] else []
  | .overrides | .stringRequest => if t % p == 0 && decide (p ≤ t) then (upTo (p / 64)).map (fun j => t - 64 * (j + 1)) else []
  | .zoneFeed => if t % p == 16 then [t - 16] else []
  | .delayed => if t % p == 32 then [t - 32] else []
  | .equalised => if t % p == 0 && decide (p ≤ t) then [t - p] else []

/-- R50: the outputs of the Lid taken up at program sample boundary s, oldest first. -/
def Dev.outsAt (d : Dev) (s : Nat) : List LidOut :=
  (d.lid.outs.filter (fun o => decide (o.b + 8 ≤ s) && decide (s < o.b + 8 + d.period))).reverse

/-- R149, R195: AUDIO takes an override set up; an injection into an overridden zone ends. -/
def Dev.takeOverrides (d : Dev) (o : LidOut) : Dev :=
  d.each d.strs (fun d k =>
    let d := d.takeOverride k (vat o.ovr k)
    if (vat o.ovr k).isSome && (d.st k).ctl.inj.isSome then d.injStop k else d)

/-- R312, R313: string k takes its stop level and restart pulse up at tick t. -/
def Dev.takeRequest (d : Dev) (k t : Nat) (o : LidOut) : Dev :=
  let up := vat o.stop k
  let was := (d.st k).pr.stop
  let d := d.modPr k (fun p => { p with stop := up })
  let d := if up && !was && (d.phase k == phRun || d.phase k == phSafe) then d.trip k causeHost t else d
  if vat o.pulse k && d.phase k == phLatched then d.modPr k (fun p => { p with restart := true }) else d

/-- R339: the Lid takes up the measurements of string k that are due at tick t. -/
def Dev.takeMeas (d : Dev) (k t : Nat) : Dev := match (vat d.diag k).meas with
  | some m =>
    if m.born + 8 ≤ t then { d.supervise k m with diag := vmod (d.supervise k m).diag k (fun x => { x with meas := none }) } else d
  | none => d

/-- The effect of a row taken up in time at tick t. Samples pass with the boundary that uses them. -/
def Dev.takeRow (d : Dev) (k t : Nat) : TransferRow → Dev
  | .supervision => d.each d.strs (fun d k => d.takeMeas k t)
  | .stringState => (d.modLid (fun l => { l with strs := vset l.strs k (vat l.strsNext k) })).supModes k
  | .overrides => (d.outsAt t).foldl Dev.takeOverrides d
  | .stringRequest => (d.outsAt t).foldl (fun d o => d.takeRequest k t o) d
  | _ => d

/-- R52: `n` late transfers from island i. -/
def Dev.late (d : Dev) (i n : Nat) : Dev :=
  ((d.add Fd.CLK_LATE_CNT_COUNT n).put Fd.CLK_LATE_CNT_LAST_SRC i).evt Fd.CLK_EVT_LATE

/-- R52, R317: an equalised sample that is late, or marked as repeated, is an audio-path fault of its string. -/
def Dev.audioFault (d : Dev) (k t : Nat) : Dev :=
  if !(d.produced islFir (t - d.period)) || (d.zone1 k).eqNextRep then d.count k srcAudio t else d

/-- The take-up of a row at tick t. -/
def Dev.transfer (d : Dev) (k t : Nat) (row : TransferRow) : Dev :=
  let made := rowMade d.period t row
  if made.isEmpty || (rowOfString row && !(d.present k)) || !(d.islandOk (rowTarget k row)) then d
  else
    let miss := made.filter (fun m => !(d.produced (rowSource k row) m))
    let d := if miss.length < made.length then d.takeRow k t row else d
    let d := if miss.isEmpty then d else d.late (rowSource k row) miss.length
    if row = .equalised then d.audioFault k t
    else if row = .zoneFeed then d.delayWritten
    else if row = .delayed then d.historyWritten
    else d

/-- TRANSFER_TAKEUP (R50, R52). -/
def execTransferTakeup (k : Fin 8) (row : TransferRow) (s : State) : Host.Outcome State Fault Refusal :=
  onDev s (fun e d => if e.started && d.aonRuns then d.transfer k.val e.tick row else d)

/-! ### The failure and restart of HOST, and ISLAND_CLOCK_FAIL (R49, R450) -/

/-- R49: HOST is switched off for 65 536T; an open lock ends by owner loss, and a snapshot is lost (R415). -/
def Dev.hostFail (d : Dev) (now t : Nat) : Dev :=
  let d := (d.islandFail t islHost).domOff domHost .off
  let d : Dev := { d with pwr := { d.pwr with hostDue := some (now + 65536) } }
  let d := match d.lock.owner with
    | some p => d.ownerLoss p 7
    | none => d
  d.svcClosing.modSvc (fun v => { v with passBusy := [], respBusy := [] })

/-- R49: the clock of island i has failed. -/
def Dev.clockFail (d : Dev) (now t i : Nat) : Dev :=
  if i == islAon then d.oscFail t
  else if i == islHost then d.hostFail now t
  else d.islandReact t i

/-- A clock of island i runs. -/
def Dev.clockRuns (d : Dev) (i : Nat) : Bool :=
  d.pwr.locked && d.aonRuns && (if i == islHost then d.hostRuns else d.islandOk i)

/-- ISLAND_CLOCK_FAIL (R49). -/
def execIslandClockFail (i : Fin 15) (s : State) : Host.Outcome State Fault Refusal :=
  onDev s (fun e d => if d.clockRuns i.val then d.clockFail e.lockTicks e.tick i.val else d)

/-- R450: a register of the HOST domain that its restart resets: every one that no image loads, but LOCKST. -/
def hostReset (a : Nat) : Bool :=
  ((decide (0x22000 ≤ a) && decide (a < 0x22600) && a % 0x100 != 0x0C) || (decide (0x23000 ≤ a) && decide (a < 0x24000))) &&
    match regInfoAt a with
    | some i => i.imgG == 0 && i.imgS == 0
    | none => true

/-- R450: HOST is powered again. The LOST marks, RESULT, FAILS and a lockout stay. -/
def Dev.hostRestart (d : Dev) : Dev :=
  let d := (d.setDom domHost .run)
  let d : Dev := { d with pwr := { d.pwr with hostDue := none }, regs := d.regs.filter (fun x => !(hostReset x.1)) }
  let d := d.putB Fd.SVC_FL_STATUS_BUSY d.svc.flash.isSome
  let d := d.modSvc (fun v => { v with buf := [], chal := none, idle := 0 })
  d.each [0, 1, 2, 3, 4, 5] (fun d p =>
    d.modReq p (fun r => { r with firCaddr := 0, tickHi := 0, credit := 0, out := default }))

/-- HOST_DOMAIN_RESTART (R450): 65 536T after the failure. -/
def execHostDomainRestart (s : State) : Host.Outcome State Fault Refusal :=
  onDev s (fun e d => match d.pwr.hostDue with
    | some w => if w ≤ e.lockTicks && d.aonRuns && !d.pwr.shutdown then d.hostRestart else d
    | none => d)

end Sys2Proof.Machine
end

