-- ==== Sys2Proof/Machine/Dispatch.lean ====
section
/-! DEFINITION. The meaning of every command: one arm for each row of spec/opcode_table.json. -/
namespace Sys2Proof.Machine

def exec (i : Instr) (s : State) : Host.Outcome State Fault Refusal :=
  match i with
  | .powerOnReset clksel => Sys2Proof.Machine.execPowerOnReset clksel s
  | .brownOut => Sys2Proof.Machine.execBrownOut s
  | .resetnAssert => Sys2Proof.Machine.execResetnAssert s
  | .shutdownDomainOff => Sys2Proof.Machine.execShutdownDomainOff s
  | .mainOscLock => Sys2Proof.Machine.execMainOscLock s
  | .lockTimeout => Sys2Proof.Machine.execLockTimeout s
  | .domainRampStart => Sys2Proof.Machine.execDomainRampStart s
  | .domainReachesRun => Sys2Proof.Machine.execDomainReachesRun s
  | .domainRampTimeout => Sys2Proof.Machine.execDomainRampTimeout s
  | .memoryInitDone => Sys2Proof.Machine.execMemoryInitDone s
  | .imageSelectionStart => Sys2Proof.Machine.execImageSelectionStart s
  | .headerReadDone errs => Sys2Proof.Machine.execHeaderReadDone errs s
  | .validationPassDone errs => Sys2Proof.Machine.execValidationPassDone errs s
  | .keyCheckDone => Sys2Proof.Machine.execKeyCheckDone s
  | .signatureVerifyDone => Sys2Proof.Machine.execSignatureVerifyDone s
  | .capabilityCheckDone => Sys2Proof.Machine.execCapabilityCheckDone s
  | .applyPassDone errs => Sys2Proof.Machine.execApplyPassDone errs s
  | .applyFailDomainOff => Sys2Proof.Machine.execApplyFailDomainOff s
  | .releaseTick => Sys2Proof.Machine.execReleaseTick s
  | .standbyCheckStart => Sys2Proof.Machine.execStandbyCheckStart s
  | .standbyCheckDone errs => Sys2Proof.Machine.execStandbyCheckDone errs s
  | .tick sd0 sd1 x => Sys2Proof.Machine.execTick sd0 sd1 x s
  | .decisionInstant => Sys2Proof.Machine.execDecisionInstant s
  | .issueTick => Sys2Proof.Machine.execIssueTick s
  | .outerLoopBoundary => Sys2Proof.Machine.execOuterLoopBoundary s
  | .mortarHoldTimeout k => Sys2Proof.Machine.execMortarHoldTimeout k s
  | .transferTakeup k row => Sys2Proof.Machine.execTransferTakeup k row s
  | .programSampleBoundary => Sys2Proof.Machine.execProgramSampleBoundary s
  | .delayFadeEnd k => Sys2Proof.Machine.execDelayFadeEnd k s
  | .firFadeEnd k => Sys2Proof.Machine.execFirFadeEnd k s
  | .overrideFadeEnd k => Sys2Proof.Machine.execOverrideFadeEnd k s
  | .rackFrameStart => Sys2Proof.Machine.execRackFrameStart s
  | .relayEnergise r => Sys2Proof.Machine.execRelayEnergise r s
  | .heartbeatTimeout p => Sys2Proof.Machine.execHeartbeatTimeout p s
  | .safeDurationExpiry k => Sys2Proof.Machine.execSafeDurationExpiry k s
  | .enumTimeout k => Sys2Proof.Machine.execEnumTimeout k s
  | .prechargeTimeout k => Sys2Proof.Machine.execPrechargeTimeout k s
  | .armComplete k => Sys2Proof.Machine.execArmComplete k s
  | .startWaitExpiry k => Sys2Proof.Machine.execStartWaitExpiry k s
  | .startTestStep k => Sys2Proof.Machine.execStartTestStep k s
  | .startTestJudgement k => Sys2Proof.Machine.execStartTestJudgement k s
  | .rackSlotStart => Sys2Proof.Machine.execRackSlotStart s
  | .senseCalRoundClose n => Sys2Proof.Machine.execSenseCalRoundClose n s
  | .cellCalRoundClose c => Sys2Proof.Machine.execCellCalRoundClose c s
  | .snapshotComplete => Sys2Proof.Machine.execSnapshotComplete s
  | .telemetryTakeup c rx => Sys2Proof.Machine.execTelemetryTakeup c rx s
  | .ackBoundExpiry c => Sys2Proof.Machine.execAckBoundExpiry c s
  | .confirmTimeout k => Sys2Proof.Machine.execConfirmTimeout k s
  | .stringRetryEntry k => Sys2Proof.Machine.execStringRetryEntry k s
  | .probeJudgement k => Sys2Proof.Machine.execProbeJudgement k s
  | .faultWindowClose k w => Sys2Proof.Machine.execFaultWindowClose k w s
  | .diagWindowEnd => Sys2Proof.Machine.execDiagWindowEnd s
  | .referenceLoss => Sys2Proof.Machine.execReferenceLoss s
  | .referenceReturn => Sys2Proof.Machine.execReferenceReturn s
  | .mainOscFail => Sys2Proof.Machine.execMainOscFail s
  | .islandClockFail isl => Sys2Proof.Machine.execIslandClockFail isl s
  | .hostDomainRestart => Sys2Proof.Machine.execHostDomainRestart s
  | .tdmFrameSync n sd qt => Sys2Proof.Machine.execTdmFrameSync n sd qt s
  | .tdmFrameSyncMissing n x => Sys2Proof.Machine.execTdmFrameSyncMissing n x s
  | .aesFrame n rx => Sys2Proof.Machine.execAesFrame n rx s
  | .asrcHoldTimeout n => Sys2Proof.Machine.execAsrcHoldTimeout n s
  | .enFall c x => Sys2Proof.Machine.execEnFall c x s
  | .enRise c t lowNs classH => Sys2Proof.Machine.execEnRise c t lowNs classH s
  | .commandFrame c t cb => Sys2Proof.Machine.execCommandFrame c t cb s
  | .idleFrame c t cb => Sys2Proof.Machine.execIdleFrame c t cb s
  | .badDownstreamFrame c t => Sys2Proof.Machine.execBadDownstreamFrame c t s
  | .deadTimeEnd c t => Sys2Proof.Machine.execDeadTimeEnd c t s
  | .blankingEnd c sw t => Sys2Proof.Machine.execBlankingEnd c sw t s
  | .switchTransitionMeasured c leg tStart tEnd => Sys2Proof.Machine.execSwitchTransitionMeasured c leg tStart tEnd s
  | .telemetryFrameSend c t => Sys2Proof.Machine.execTelemetryFrameSend c t s
  | .mgmtResponseSend c t => Sys2Proof.Machine.execMgmtResponseSend c t s
  | .mgmtRead c t tag addr => Sys2Proof.Machine.execMgmtRead c t tag addr s
  | .mgmtWriteCcfg c t tag addr v => Sys2Proof.Machine.execMgmtWriteCcfg c t tag addr v s
  | .operEnterOperation c t tag => Sys2Proof.Machine.execOperEnterOperation c t tag s
  | .operEnterPinMode c t tag => Sys2Proof.Machine.execOperEnterPinMode c t tag s
  | .ocTrip c x => Sys2Proof.Machine.execOcTrip c x s
  | .limitHoldEnd c t => Sys2Proof.Machine.execLimitHoldEnd c t s
  | .desatTrip c sw x => Sys2Proof.Machine.execDesatTrip c sw x s
  | .oc2Trip c x => Sys2Proof.Machine.execOc2Trip c x s
  | .zeroBypassHoldoffEnd c t => Sys2Proof.Machine.execZeroBypassHoldoffEnd c t s
  | .linkLossTimeout c t => Sys2Proof.Machine.execLinkLossTimeout c t s
  | .vbusConversion c t code => Sys2Proof.Machine.execVbusConversion c t code s
  | .tempMeasurement c t code => Sys2Proof.Machine.execTempMeasurement c t code s
  | .vccUvlo c t rails => Sys2Proof.Machine.execVccUvlo c t rails s
  | .bootstrapThreshold c t leg rising => Sys2Proof.Machine.execBootstrapThreshold c t leg rising s
  | .inPinChange c t ah al bh bl => Sys2Proof.Machine.execInPinChange c t ah al bh bl s
  | .hostWriteFrame p cmd data crc => Sys2Proof.Machine.execHostWriteFrame p cmd data crc s
  | .hostReadFrame p cmd crc => Sys2Proof.Machine.execHostReadFrame p cmd crc s
  | .arbiterGrant waits => Sys2Proof.Machine.execArbiterGrant waits s
  | .registerWrite p addr v => Sys2Proof.Machine.execRegisterWrite p addr v s
  | .portReset p => Sys2Proof.Machine.execPortReset p s
  | .linkDown p => Sys2Proof.Machine.execLinkDown p s
  | .csLowTimeout p => Sys2Proof.Machine.execCsLowTimeout p s
  | .lockOpen p => Sys2Proof.Machine.execLockOpen p s
  | .lockCommit p => Sys2Proof.Machine.execLockCommit p s
  | .lockAbort p => Sys2Proof.Machine.execLockAbort p s
  | .lockCommitDecide => Sys2Proof.Machine.execLockCommitDecide s
  | .leaseExpiry => Sys2Proof.Machine.execLeaseExpiry s
  | .hostifLockstRead p => Sys2Proof.Machine.execHostifLockstRead p s
  | .clkTickLoRead p => Sys2Proof.Machine.execClkTickLoRead p s
  | .firCdataRead p => Sys2Proof.Machine.execFirCdataRead p s
  | .firCdataWrite p v => Sys2Proof.Machine.execFirCdataWrite p v s
  | .firCopyGo p v => Sys2Proof.Machine.execFirCopyGo p v s
  | .firCopyDone => Sys2Proof.Machine.execFirCopyDone s
  | .firBankRequest p k target => Sys2Proof.Machine.execFirBankRequest p k target s
  | .olBankRequest p k target => Sys2Proof.Machine.execOlBankRequest p k target s
  | .rackSwap p => Sys2Proof.Machine.execRackSwap p s
  | .rackAbort p => Sys2Proof.Machine.execRackAbort p s
  | .injGo p k v => Sys2Proof.Machine.execInjGo p k v s
  | .injAbort p k => Sys2Proof.Machine.execInjAbort p k s
  | .injectionEnd k => Sys2Proof.Machine.execInjectionEnd k s
  | .capArm p k v => Sys2Proof.Machine.execCapArm p k v s
  | .capAbort p k => Sys2Proof.Machine.execCapAbort p k s
  | .captureDone k => Sys2Proof.Machine.execCaptureDone k s
  | .capDataRead p k => Sys2Proof.Machine.execCapDataRead p k s
  | .diagCrstWrite p v => Sys2Proof.Machine.execDiagCrstWrite p v s
  | .mailboxPlay p arg tag => Sys2Proof.Machine.execMailboxPlay p arg tag s
  | .mailboxCancel p arg tag => Sys2Proof.Machine.execMailboxCancel p arg tag s
  | .mailboxReset p arg tag => Sys2Proof.Machine.execMailboxReset p arg tag s
  | .mailboxStop p arg tag => Sys2Proof.Machine.execMailboxStop p arg tag s
  | .mailboxStart p arg tag => Sys2Proof.Machine.execMailboxStart p arg tag s
  | .mailboxRestart p arg tag => Sys2Proof.Machine.execMailboxRestart p arg tag s
  | .mailboxAck p arg tag => Sys2Proof.Machine.execMailboxAck p arg tag s
  | .mailboxHeartbeat p arg tag => Sys2Proof.Machine.execMailboxHeartbeat p arg tag s
  | .mailboxInvalidCode p code arg tag => Sys2Proof.Machine.execMailboxInvalidCode p code arg tag s
  | .contactConversion codes => Sys2Proof.Machine.execContactConversion codes s
  | .stockpotMapLoad => Sys2Proof.Machine.execStockpotMapLoad s
  | .stockpotPlayStart => Sys2Proof.Machine.execStockpotPlayStart s
  | .stockpotRepetitionEnd => Sys2Proof.Machine.execStockpotRepetitionEnd s
  | .stockpotGapEnd => Sys2Proof.Machine.execStockpotGapEnd s
  | .stockpotFadeEnd => Sys2Proof.Machine.execStockpotFadeEnd s
  | .nandPageReadDone ecc => Sys2Proof.Machine.execNandPageReadDone ecc s
  | .nandEraseDone ok => Sys2Proof.Machine.execNandEraseDone ok s
  | .nandProgramDone ok => Sys2Proof.Machine.execNandProgramDone ok s
  | .svcClose p => Sys2Proof.Machine.execSvcClose p s
  | .svcTryPass p => Sys2Proof.Machine.execSvcTryPass p s
  | .svcTryResp p => Sys2Proof.Machine.execSvcTryResp p s
  | .svcReqChal p => Sys2Proof.Machine.execSvcReqChal p s
  | .passcodeCheckDone => Sys2Proof.Machine.execPasscodeCheckDone s
  | .responseCheckDone => Sys2Proof.Machine.execResponseCheckDone s
  | .svcLockoutEnd => Sys2Proof.Machine.execSvcLockoutEnd s
  | .challengeExpiry => Sys2Proof.Machine.execChallengeExpiry s
  | .svcIdleClose => Sys2Proof.Machine.execSvcIdleClose s
  | .svcCommit p v => Sys2Proof.Machine.execSvcCommit p v s
  | .norRead p slotB => Sys2Proof.Machine.execNorRead p slotB s
  | .norErase p slotB => Sys2Proof.Machine.execNorErase p slotB s
  | .norProgram p slotB => Sys2Proof.Machine.execNorProgram p slotB s
  | .norVerify p slotB => Sys2Proof.Machine.execNorVerify p slotB s
  | .nandRead p => Sys2Proof.Machine.execNandRead p s
  | .nandErase p => Sys2Proof.Machine.execNandErase p s
  | .nandProgram p => Sys2Proof.Machine.execNandProgram p s
  | .nandVerify p => Sys2Proof.Machine.execNandVerify p s
  | .flashOpDone ok => Sys2Proof.Machine.execFlashOpDone ok s
  | .svcFlDataAccess p wr => Sys2Proof.Machine.execSvcFlDataAccess p wr s
  | .svcPinGo p v => Sys2Proof.Machine.execSvcPinGo p v s
  | .svcPinStop p => Sys2Proof.Machine.execSvcPinStop p s
  | .vccWarn c t below => Sys2Proof.Machine.execVccWarn c t below s
  | .oscillatorOrSelfCheckFailure c t => Sys2Proof.Machine.execOscillatorOrSelfCheckFailure c t s

end Sys2Proof.Machine
end

