-- ==== Sys2Proof/Safety.lean ====
section
/-! DEFINITION. What counts as a safe run, and the words in which statements speak of what a command leaves alone: fields
that share no bit, a controller whose registers alone have changed, a state whose controller or one companion alone has
changed. -/
namespace Sys2Proof.Machine

/-- The step at `s` completes: it answers a next state, not a fault and not a refusal. -/
def Completes (s : State) : Prop := ∃ t, step s = .next t

/-- The command `i` completes at `s`. -/
def Runs (i : Instr) (s : State) : Prop := ∃ t, exec i s = .next t

/-! ### Fields -/

/-- The field lies within a 32-bit word. -/
abbrev Fld.fits (f : Fld) : Prop := f.lo + f.w ≤ 32

/-- Two fields share no bit: they stand in different registers, or one lies above the other. -/
abbrev Fld.apart (f g : Fld) : Prop := f.addr ≠ g.addr ∨ f.lo + f.w ≤ g.lo ∨ g.lo + g.w ≤ f.lo

/-- Every field that shares no bit with a field of `l` reads in `d'` as it reads in `d`. -/
def FieldsBut (d d' : Dev) (l : List Fld) : Prop := ∀ g, (∀ f ∈ l, f.apart g) → d'.fld g = d.fld g

/-- Nothing of the controller but register bits has changed. -/
def OnlyRegs (d d' : Dev) : Prop := d' = { d with regs := d'.regs }

/-- Nothing of the controller but the fields of `l` has changed. -/
def OnlyFields (d d' : Dev) (l : List Fld) : Prop := OnlyRegs d d' ∧ FieldsBut d d' l

/-- Every register but those of `l` reads as before. -/
def RegsBut (d d' : Dev) (l : List Nat) : Prop := ∀ a, a ∉ l → d'.reg a = d.reg a

/-- R34, R370: the register fields that a release of every relay may change. -/
def relayFields : List Fld := [Fd.LID_RLY_ENERGISED, Fd.LID_EVT_RELAY]

/-- The register fields that switching domain i off on purpose may change: the string state of a CH domain, the relays of
the Lid, the loss of a snapshot with HOST. -/
def offFields (i : Nat) : List Fld :=
  if 8 ≤ i then [Fd.SYS_STR_STATE_STR (i - 8)] else if i = domLid then relayFields
  else if i = domHost then [Fd.BG_EVT_SNAP_LOST] else []

/-! ### Parts of the state -/

/-- Nothing but the controller has changed: the waiting commands, the time base, the fuses, the flash devices and the
companions are as before. -/
def OnlyDev (s t : State) : Prop := t.pending = s.pending ∧ t.env = s.env ∧ t.comps = s.comps

/-- Nothing but companion `c` has changed. -/
def OnlyComp (s t : State) (c : Nat) : Prop :=
  t.pending = s.pending ∧ t.env = s.env ∧ t.dev = s.dev ∧ ∀ j, j ≠ c → vat t.comps j = vat s.comps j

/-- Companion `c` of a state. -/
def State.comp (s : State) (c : Nat) : Comp := vat s.comps c

/-- The companion that a command addresses; none for a command of the controller. -/
def companionOf : Instr → Option (Fin 56)
  | .enFall c _ => some c
  | .enRise c _ _ _ => some c
  | .commandFrame c _ _ => some c
  | .idleFrame c _ _ => some c
  | .badDownstreamFrame c _ => some c
  | .deadTimeEnd c _ => some c
  | .blankingEnd c _ _ => some c
  | .switchTransitionMeasured c _ _ _ => some c
  | .telemetryFrameSend c _ => some c
  | .mgmtResponseSend c _ => some c
  | .mgmtRead c _ _ _ => some c
  | .mgmtWriteCcfg c _ _ _ _ => some c
  | .operEnterOperation c _ _ => some c
  | .operEnterPinMode c _ _ => some c
  | .ocTrip c _ => some c
  | .limitHoldEnd c _ => some c
  | .desatTrip c _ _ => some c
  | .oc2Trip c _ => some c
  | .zeroBypassHoldoffEnd c _ => some c
  | .linkLossTimeout c _ => some c
  | .vbusConversion c _ _ => some c
  | .tempMeasurement c _ _ => some c
  | .vccUvlo c _ _ => some c
  | .bootstrapThreshold c _ _ _ => some c
  | .inPinChange c _ _ _ _ _ => some c
  | .vccWarn c _ _ => some c
  | .oscillatorOrSelfCheckFailure c _ => some c
  | _ => none

/-- Both bootstraps of a companion are charged. -/
abbrev Charged (x : Comp) : Prop := ∀ l, l < 2 → vat x.bootOk l = true ∧ vat x.bootPassed l = true

/-- No dead time and no limited cycle is in progress. -/
abbrev Settled (x : Comp) : Prop := x.nextDue = none ∧ x.limit = none ∧ ∀ i, i < 4 → vat x.inc i = none

/-- R273: the switches of `x` have begun to change to the set `w` at `t0`: a switch outside `w` is off, one that was on stays
on, one whose partner was on waits for its dead time, and any other is on. -/
def ChangesTo (x y : Comp) (t0 : Nat) (w : SwSet) : Prop :=
  ∀ i, i < 4 →
    (w.get i = false → y.on.get i = false) ∧
    (w.get i = true → x.on.get i = true → y.on.get i = true) ∧
    (w.get i = true → x.on.get i = false → x.on.get (partner i) = true →
      y.on.get i = false ∧ vat y.inc i = some (t0 + x.tDT)) ∧
    (w.get i = true → x.on.get i = false → x.on.get (partner i) = false → y.on.get i = true)

/-- Every switch of a companion is off. -/
def AllOff (y : Comp) : Prop := ∀ i, i < 4 → y.on.get i = false

/-- R283, R284: `y` has latched the code: every switch is off, and the companion either bypasses by relay or, 1.0 µs later, in
a zero form. -/
def Latched (x y : Comp) (t0 code : Nat) : Prop :=
  y.fault = some code ∧ AllOff y ∧ y.zero = false ∧
  (relayCode code = true → y.byp = true ∧ y.holdoff = none) ∧
  (relayCode code = false → y.byp = (x.byp || x.rlyAll) ∧ y.holdoff = some (t0 + 1000))

/-! ### A string and what is on its way to it -/

/-- String k of the part is present and its island works. -/
abbrev LiveStr (s : State) (k : Nat) : Prop := k < 8 ∧ s.dev.present k = true ∧ s.dev.islandOk (islCh k) = true

/-- R181, R214, R296: no change of mode and no trip falls due for string k at tick t. -/
abbrev Undisturbed (d : Dev) (k t : Nat) : Prop := (d.st k).ctl.modeNext = none ∧ ∀ x ∈ (d.st k).pr.due, t < x.2

/-- R223: the queues of string k name cell positions. -/
abbrev Positions (d : Dev) (k : Nat) : Prop := ∀ p ∈ d.aq k ++ (d.st k).wh.pq, p < 7

/-- What a boundary leaves for string k at a later tick: nothing if `x` is empty, else its value once its tick has come. -/
def dueBy {α : Type} (x : Option (α × Nat)) (t : Nat) (now : α) : α :=
  match x with
  | some (v, w) => if w ≤ t then v else now
  | none => now

/-! ### Accesses of a requester -/

/-- HOST and the block at `a` run, requester p may write the register there, and its string and its cell are present. -/
abbrev MayReach (s : State) (p a : Nat) : Prop :=
  s.dev.hostRuns = true ∧ s.dev.addrRuns a = true ∧ s.dev.mayWrite p a = true ∧ s.dev.absentString s.env a = false ∧
  s.dev.absentCell a = false

/-- R385: a write of requester p to `a` was clamped: CLAMPS counts it and LAST names it. -/
def Clamped (s t : State) (p a : Nat) : Prop :=
  t.dev.fld (Fd.HOSTIF_ERRS_CLAMPS p) = min 255 (s.dev.fld (Fd.HOSTIF_ERRS_CLAMPS p) + 1) ∧
  t.dev.fld (Fd.HOSTIF_LAST_KIND p) = 3 ∧ t.dev.fld (Fd.HOSTIF_LAST_ADDR p) = a

/-- HOST and the block at `a` run, requester p may write the register there, its string and its cell are present, and no limit
entry of the image narrows `v`. -/
abbrev MayWrite (s : State) (p a v : Nat) : Prop :=
  s.dev.hostRuns = true ∧ s.dev.addrRuns a = true ∧ s.dev.mayWrite p a = true ∧ s.dev.absentString s.env a = false ∧
  s.dev.absentCell a = false ∧ s.dev.clampWord a v = v

/-- HOST and the block at `a` run, requester p may read the register there, and its string is present. -/
abbrev MayRead (s : State) (p a : Nat) : Prop :=
  s.dev.hostRuns = true ∧ s.dev.addrRuns a = true ∧ s.dev.mayRead p a = true ∧ s.dev.absentString s.env a = false

/-- R14, R384, R385: a write of requester p to `a` was rejected: REJECTS counts it, LAST names it, and of the registers only
the requester's accounts have changed; the lock stands as it was. -/
def Rejected (s t : State) (p a : Nat) : Prop :=
  OnlyDev s t ∧
  t.dev.fld (Fd.HOSTIF_ERRS_REJECTS p) = min 255 (s.dev.fld (Fd.HOSTIF_ERRS_REJECTS p) + 1) ∧
  t.dev.fld (Fd.HOSTIF_LAST_KIND p) = 2 ∧ t.dev.fld (Fd.HOSTIF_LAST_ADDR p) = a ∧ t.dev.lock = s.dev.lock ∧
  FieldsBut s.dev t.dev [Fd.HOSTIF_GRANTS_GRANTS p, Fd.HOSTIF_ERRS_REJECTS p, Fd.HOSTIF_LAST_KIND p, Fd.HOSTIF_LAST_ADDR p]

/-- R15, R384, R385: an access of requester p to `a` was an access error. -/
def AccessError (s t : State) (p a : Nat) : Prop :=
  OnlyDev s t ∧
  t.dev.fld (Fd.HOSTIF_ERRS_ACCERR p) = min 255 (s.dev.fld (Fd.HOSTIF_ERRS_ACCERR p) + 1) ∧
  t.dev.fld (Fd.HOSTIF_LAST_KIND p) = 1 ∧ t.dev.fld (Fd.HOSTIF_LAST_ADDR p) = a ∧ t.dev.lock = s.dev.lock ∧
  FieldsBut s.dev t.dev [Fd.HOSTIF_GRANTS_GRANTS p, Fd.HOSTIF_ERRS_ACCERR p, Fd.HOSTIF_LAST_KIND p, Fd.HOSTIF_LAST_ADDR p]

/-- R391: requester p has lost its lock with the given result: its shadow is gone and the loss is counted and marked. -/
def LockLost (s t : State) (p res : Nat) : Prop :=
  t.dev.lock.owner = none ∧ t.dev.lock.shadow = [] ∧ t.dev.fld (Fd.HOSTIF_LOCKST_RESULT p) = res ∧
  (vat t.dev.req p).lost = true ∧ t.dev.bit (Fd.HOSTIF_EVT_LOCK_LOST p) = true ∧
  t.dev.fld (Fd.HOSTIF_LINK_LOSSES p) = min 255 (s.dev.fld (Fd.HOSTIF_LINK_LOSSES p) + 1)

/-! ### Image selection -/

/-- The RESULT field of a slot. -/
def resultField (slotB : Bool) : Fld := if slotB then Fd.IMG_SLOT_B_RESULT else Fd.IMG_SLOT_A_RESULT

/-- R94, R95, R97: a candidate failed a check with result `r`: the slot shows it, IMG_EVT.REFUSED is set, and selection goes
on with the next candidate; with none left it ends, and a SYS_STATE still at POWER_UP becomes NO_IMAGE. -/
def CandidateRefused (d d' : Dev) (slotB : Bool) (r : Nat) : Prop :=
  d'.fld (resultField slotB) = r ∧ d'.bit Fd.IMG_EVT_REFUSED = true ∧
  (∀ c rest, d.img.cands = c :: rest → d'.img.phase = .validate c ∧ d'.img.cands = rest ∧
    d'.fld Fd.SYS_STATE_STATE = d.fld Fd.SYS_STATE_STATE) ∧
  (d.img.cands = [] → d'.img.phase = .done ∧
    d'.fld Fd.SYS_STATE_STATE = if d.fld Fd.SYS_STATE_STATE = 0 then 8 else d.fld Fd.SYS_STATE_STATE)

end Sys2Proof.Machine
end

