-- ==== Sys2Proof/Certificates/Slice0/Obligations.lean ====
section
/-! DEFINITION. The statements about the model, each with the rules of spec/ that it formalises. A statement says for every
state and every operand that meet its hypotheses which next state a command answers and what that state holds. -/
open Sys2Proof Sys2Proof.Machine

/-! ### The block as a whole -/

/-- The block takes one command at a time: a step with a command at the front of the queue is that command's meaning on
the state with the queue's rest, and with no command waiting the block stays as it is (log entry 1). -/
def Obligations.StepRunsTheFrontCommand : Prop :=
  (∀ (i : Instr) (rest : List Instr) (s : State), s.pending = i :: rest → step s = exec i { s with pending := rest }) ∧
  ∀ s : State, s.pending = [] → step s = .next s

/-- Every command answers a next state in every state: none faults, none is refused, and none touches the queue. That a
command outside its event's condition answers the state as it was is the model's choice (log entry 4). -/
def Obligations.EveryCommandCompletes : Prop :=
  ∀ (i : Instr) (s : State), ∃ t, exec i s = .next t ∧ t.pending = s.pending

/-- R448, R401: no step changes the fused fields of the part, and a key that is programmed stays as it is. -/
def Obligations.FusesAreWrittenOnce : Prop :=
  ∀ s t : State, step s = .next t →
    t.env.fuses.is440 = s.env.fuses.is440 ∧ t.env.fuses.dieRev = s.env.fuses.dieRev ∧
    t.env.fuses.maxProfile = s.env.fuses.maxProfile ∧ t.env.fuses.uid = s.env.fuses.uid ∧
    t.env.fuses.factoryBlown = s.env.fuses.factoryBlown ∧
    (∀ k, s.env.fuses.ownerKey = some k →
      t.env.fuses.ownerKey = some k ∧ t.env.fuses.serviceKey = s.env.fuses.serviceKey)

/-- The two flash devices keep their canonical form under every step: addresses rise and no byte that reads as erased is
listed, so that equal contents are equal data. -/
def Obligations.FlashStoresStayCanonical : Prop :=
  ∀ s t : State, Store.wf erased s.env.nor = true → Store.wf erased s.env.nand = true → step s = .next t →
    Store.wf erased t.env.nor = true ∧ Store.wf erased t.env.nand = true

/-- The state after reset: nothing waits, the tick has not started, both flash devices are in canonical form (what they
hold is log entry 3), every register reads its reset word, and of the power domains AON alone runs. -/
def Obligations.ResetLeavesOnlyAonRunning : Prop :=
  State.reset.pending = [] ∧ State.reset.env.started = false ∧
  Store.wf erased State.reset.env.nor = true ∧ Store.wf erased State.reset.env.nand = true ∧
  (∀ a, State.reset.dev.reg a = resetWord a) ∧
  (∀ i, i < 16 → (State.reset.dev.domRun i = true ↔ i = domAon))

/-- A companion acts on its own: a command of one companion changes that companion and nothing else, and a command of
the controller, power-on reset among them, changes no companion. That the controller's power-on reset leaves the
companions as they are is the model's choice (log entry 8). -/
def Obligations.CompanionsAreIsolated : Prop :=
  ∀ (i : Instr) (s t : State), exec i s = .next t →
    match companionOf i with
    | some c => OnlyComp s t c.val
    | none => t.comps = s.comps

/-- R3: the tick number changes only where a tick elapses, at the release tick, which starts it at 0, and at power-on
reset, which stops it. That no tick is counted once AON has failed is the model's reading (log entry 48). -/
def Obligations.TickNumberCountsTicks : Prop :=
  ∀ (i : Instr) (s t : State), exec i s = .next t →
    match i with
    | .tick _ _ _ => t.env.started = s.env.started ∧
        t.env.tick = if s.dev.aonRuns && s.env.started then s.env.tick + 1 else s.env.tick
    | .releaseTick => if s.dev.releaseDue s.env then t.env.started = true ∧ t.env.tick = 0
        else t.env.started = s.env.started ∧ t.env.tick = s.env.tick
    | .powerOnReset _ => t.env.started = false ∧ t.env.tick = 0
    | _ => t.env.started = s.env.started ∧ t.env.tick = s.env.tick

/-! ### Power domains and clocks (R33, R45 to R58, R72 to R75) -/

/-- POWER_ON_RESET (R72, R429): the controller starts again from its reset state; the fuses, both flash devices and the
companions keep what they hold. That the companions do is the model's choice (log entry 8). -/
def Obligations.PowerOnResetRestarts : Prop :=
  ∀ (c : Bool) (s : State), ∃ t, exec (.powerOnReset c) s = .next t ∧
    t.pending = s.pending ∧ t.comps = s.comps ∧ t.env.started = false ∧ t.env.tick = 0 ∧ t.env.lockTicks = 0 ∧
    t.env.fuses = s.env.fuses ∧ t.env.nor = s.env.nor ∧ t.env.nand = s.env.nand ∧
    t.env.nandAnswers = s.env.nandAnswers ∧ t.dev = Dev.reset c s.env.fuses ∧ t.dev.pwr.clksel = c ∧ t.dev.pwr.locked = false ∧
    (∀ a, t.dev.reg a = resetWord a) ∧ (∀ i, i < 16 → (t.dev.domRun i = true ↔ i = domAon))

/-- BROWN_OUT, RESETN_ASSERT and SHUTDOWN_DOMAIN_OFF (R58). At once STR_EN of every string goes low and the relays
release on the same tick; the last powered domain of the power-up order is switched off, every other domain stays as it
is, and the next step is due 256T later, when the next domain follows. A string whose CH domain is switched off reads
OFF. That AON takes no step of the order, and that the string reads OFF at once, is the model's reading (log entry 48). -/
def Obligations.ShutdownSwitchesDomainsOff : Prop :=
  (∀ (i : Instr) (s : State), i = .brownOut ∨ i = .resetnAssert → s.dev.pwr.shutdown = false →
     ∃ t, exec i s = .next t ∧ OnlyDev s t ∧
       t.dev.pwr.shutdown = true ∧ t.dev.pwr.relayHeld = true ∧ t.dev.pwr.shutDue = s.env.lockTicks + 256 ∧
       (∀ k, k < 8 → t.dev.enHigh k = false) ∧
       (∀ x, shutOrder.find? s.dev.powered = some x →
         domSt t.dev x = .off ∧ (∀ j, j ≠ x → domSt t.dev j = domSt s.dev j) ∧
         (8 ≤ x → t.dev.phase (x - 8) = phOff) ∧ FieldsBut s.dev t.dev (relayFields ++ offFields x)) ∧
       (shutOrder.find? s.dev.powered = none → (∀ j, domSt t.dev j = domSt s.dev j) ∧
         FieldsBut s.dev t.dev relayFields)) ∧
  (∀ s : State, s.dev.pwr.shutdown = true → s.dev.pwr.shutDue ≤ s.env.lockTicks →
     ∃ t, exec .shutdownDomainOff s = .next t ∧ OnlyDev s t ∧
       t.dev.pwr.shutdown = true ∧ t.dev.pwr.shutDue = s.env.lockTicks + 256 ∧
       (∀ x, shutOrder.find? s.dev.powered = some x →
         domSt t.dev x = .off ∧ (∀ j, j ≠ x → domSt t.dev j = domSt s.dev j) ∧
         (8 ≤ x → t.dev.phase (x - 8) = phOff ∧ t.dev.enHigh (x - 8) = false) ∧
         FieldsBut s.dev t.dev (offFields x)) ∧
       (shutOrder.find? s.dev.powered = none → (∀ j, domSt t.dev j = domSt s.dev j) ∧ t.dev.regs = s.dev.regs))

/-- MAIN_OSC_LOCK and LOCK_TIMEOUT (R73), while the oscillator has not locked and SYS_STATE is POWER_UP: a lock sets
CLK_STATUS.LOCK and lets NVM ramp 512T later; a timeout makes SYS_STATE CLOCK_FAIL. REFERENCE_LOSS and REFERENCE_RETURN
(R45, R46): holdover begins and ends with its event. None of them changes another field. -/
def Obligations.OscillatorAndReference : Prop :=
  (∀ s : State, s.dev.pwr.locked = false → s.dev.fld Fd.SYS_STATE_STATE = 0 →
     (s.dev.pwr.shutdown = false → ∃ t, exec .mainOscLock s = .next t ∧ t.pending = s.pending ∧ t.comps = s.comps ∧
       t.env = { s.env with lockTicks := 0 } ∧ t.dev.pwr = { s.dev.pwr with locked := true, rampDue := 512 } ∧
       t.dev.bit Fd.CLK_STATUS_LOCK = true ∧ FieldsBut s.dev t.dev [Fd.CLK_STATUS_LOCK] ∧
       t.dev = { s.dev with regs := t.dev.regs, pwr := t.dev.pwr }) ∧
     (∃ t, exec .lockTimeout s = .next t ∧ OnlyDev s t ∧
       t.dev.fld Fd.SYS_STATE_STATE = 0xA ∧ OnlyFields s.dev t.dev [Fd.SYS_STATE_STATE])) ∧
  ((∀ s : State, s.dev.pwr.locked = true → s.dev.bit Fd.CLK_STATUS_HOLDOVER = false →
     ∃ t, exec .referenceLoss s = .next t ∧ OnlyDev s t ∧ t.dev.bit Fd.CLK_STATUS_HOLDOVER = true ∧
       t.dev.bit Fd.CLK_EVT_REF_LOSS = true ∧ OnlyFields s.dev t.dev [Fd.CLK_STATUS_HOLDOVER, Fd.CLK_EVT_REF_LOSS]) ∧
   (∀ s : State, s.dev.bit Fd.CLK_STATUS_HOLDOVER = true →
     ∃ t, exec .referenceReturn s = .next t ∧ OnlyDev s t ∧ t.dev.bit Fd.CLK_STATUS_HOLDOVER = false ∧
       t.dev.bit Fd.CLK_EVT_REF_BACK = true ∧ OnlyFields s.dev t.dev [Fd.CLK_STATUS_HOLDOVER, Fd.CLK_EVT_REF_BACK]))

/-- DOMAIN_RAMP_START and DOMAIN_REACHES_RUN (R56): with the oscillator locked, no shutdown, no domain ramping and the
time come, the next domain of the order begins to ramp; one that comes up within 256T of its start is in RUN, and the
domain after it may start 512T later. No other domain and no register changes. MEMORY_INIT_DONE (R74): with DSTORE in
RUN, before the release tick, every word of the delay store and of the Mortar tables reads zero and every word has right
check bits. -/
def Obligations.DomainsAndMemoriesComeUp : Prop :=
  ((∀ (s : State) (x : Nat), s.dev.pwr.locked = true → s.dev.pwr.shutdown = false → s.dev.ramping = none →
     s.dev.pwr.rampDue ≤ s.env.lockTicks → s.dev.nextDomain = some x →
     ∃ t, exec .domainRampStart s = .next t ∧ OnlyDev s t ∧ domSt t.dev x = .ramp ∧
       t.dev.pwr.rampStart = s.env.lockTicks ∧ (∀ j, j ≠ x → domSt t.dev j = domSt s.dev j) ∧
       t.dev = { s.dev with pwr := t.dev.pwr }) ∧
   (∀ (s : State) (x : Nat), s.dev.ramping = some x → s.env.lockTicks ≤ s.dev.pwr.rampStart + 256 →
     ∃ t, exec .domainReachesRun s = .next t ∧ OnlyDev s t ∧ domSt t.dev x = .run ∧
       t.dev.pwr.rampDue = s.env.lockTicks + 512 ∧ (∀ j, j ≠ x → domSt t.dev j = domSt s.dev j) ∧
       t.dev = { s.dev with pwr := t.dev.pwr })) ∧
  (∀ s : State, s.dev.domRun domDstore = true → s.dev.img.memInit = false → s.env.started = false →
     ∃ t, exec .memoryInitDone s = .next t ∧ OnlyDev s t ∧ t.dev.img.memInit = true ∧
       (∀ a, Store.get zeroed t.dev.dstore a = 0) ∧ (∀ a, Store.get zeroed t.dev.mortar a = 0) ∧
       (∀ m w, t.dev.eccAt m w = 0) ∧ t.dev.regs = s.dev.regs ∧
       (s.dev.img.applyDone = false → s.dev.img.passPos = 0 → ∀ a, Store.get firInit t.dev.firMem a = firInit a))

/-- DOMAIN_RAMP_TIMEOUT (R57): a domain not in RUN within 256T of the start of its ramp goes to FAULT-OFF with
CLK_EVT.PD_FAULT, and the next domain may ramp 512T later; a failed NVM, AUDIO, FIR, SIEVE or DSTORE makes SYS_STATE
PLATFORM_FAIL, a failed LID holds the relays released, a failed CH domain has its STR_EN low. ISLAND_CLOCK_FAIL (R49): the
island's bit in CLK_ISLAND_OK goes to 0 and CLK_EVT.ISLAND_FAIL is set. A CHk domain is switched off with STR_EN_k low,
LID with all relays released, HOST until 65 536T later, its snapshot lost; for AUDIO, FIR, SIEVE and MEM no domain is
switched. RACK_FRAME_START (R99, R103): a present string whose domain is in FAULT-OFF is in START_FAIL from this frame
start on. -/
def Obligations.FailuresOfDomainsAndIslands : Prop :=
  (∀ (s : State) (x : Nat), s.dev.ramping = some x → s.dev.pwr.rampStart + 257 ≤ s.env.lockTicks →
    ∃ t, exec .domainRampTimeout s = .next t ∧ OnlyDev s t ∧ domSt t.dev x = .faultOff ∧
      (∀ j, j ≠ x → domSt t.dev j = domSt s.dev j) ∧ t.dev.bit Fd.CLK_EVT_PD_FAULT = true ∧
      t.dev.pwr.rampDue = s.env.lockTicks + 512 ∧
      t.dev.fld Fd.SYS_STATE_STATE = (if blocking x then 0xB else s.dev.fld Fd.SYS_STATE_STATE) ∧
      (x = domLid → t.dev.pwr.relayHeld = true) ∧ (x = domHost → t.dev.bg.snap = none) ∧
      (8 ≤ x → t.dev.enHigh (x - 8) = false)) ∧
  (∀ (i : Fin 15) (s : State), s.dev.clockRuns i.val = true →
    ∃ t, exec (.islandClockFail i) s = .next t ∧ OnlyDev s t ∧ vat t.dev.pwr.islandBad i.val = true ∧
      t.dev.bit Fd.CLK_EVT_ISLAND_FAIL = true ∧
      (7 ≤ i.val → domSt t.dev (i.val + 1) = .faultOff ∧ t.dev.enHigh (i.val - 7) = false ∧
        (∀ j, j ≠ i.val + 1 → domSt t.dev j = domSt s.dev j)) ∧
      (i.val = islLid → domSt t.dev domLid = .faultOff ∧ t.dev.pwr.relayHeld = true ∧
        (∀ j, j ≠ domLid → domSt t.dev j = domSt s.dev j)) ∧
      (i.val = islHost → domSt t.dev domHost = .off ∧ t.dev.pwr.hostDue = some (s.env.lockTicks + 65536) ∧
        t.dev.bg.snap = none ∧ (∀ j, j ≠ domHost → domSt t.dev j = domSt s.dev j)) ∧
      (3 ≤ i.val → i.val ≤ 6 → t.dev.pwr.dom = s.dev.pwr.dom ∧ t.dev = { s.dev with regs := t.dev.regs, pwr := t.dev.pwr } ∧
        FieldsBut s.dev t.dev [Fd.CLK_EVT_ISLAND_FAIL])) ∧
  (∀ (k : Nat) (s : State), s.env.frameStart = true → 0 < s.env.tick → s.dev.aonRuns = true → k < 8 →
    s.dev.present k = true → domSt s.dev (domCh k) = .faultOff →
    ∃ t, exec .rackFrameStart s = .next t ∧ OnlyDev s t ∧ t.dev.phase k = phStartFail ∧
      (s.dev.phase k ≠ phStartFail → t.dev.bit Fd.SYS_EVT_START_FAIL = true ∧ t.dev.enHigh k = false))

/-- MAIN_OSC_FAIL (R47): STR_EN of every string goes low, the relays release, every domain other than AON that is in
RAMP or RUN is in FAULT-OFF, one that was off stays off, and AON's island has failed. -/
def Obligations.MainOscillatorFailure : Prop :=
  ∀ s : State, s.dev.pwr.locked = true →
    ∃ t, exec .mainOscFail s = .next t ∧ OnlyDev s t ∧ t.dev.aonRuns = false ∧ t.dev.pwr.relayHeld = true ∧
      (∀ k, k < 8 → t.dev.enHigh k = false) ∧
      (∀ i, i < 16 → domSt t.dev i = if i ≠ domAon ∧ s.dev.powered i = true then .faultOff else domSt s.dev i) ∧
      t.dev.bit Fd.CLK_EVT_ISLAND_FAIL = true ∧ t.dev.bit Fd.CLK_EVT_PD_FAULT = true

/-- PROGRAM_SAMPLE_BOUNDARY (R154, R310, R322, R325, R326): string k takes up the equalised sample produced for the boundary;
it passes the zone gain, which moves linearly to its setting and is scaled by the start ramp, then the limiter, whose gain
falls by the largest attack while a demand is over and recovers otherwise, never below GMIN; the flux model takes in the
result, and with a probe tone added it goes to the control engine. OUTER_LOOP_BOUNDARY (R323): the power average takes in
the product of the precise samples. RACK_FRAME_START (R324, R326): the thermal model takes in the frame's power, and each
demand that was over in the frame is counted. FLOOR stands while the gain is at GMIN with a demand over. RELEASE_TICK
(R107, R324): the thermal model starts at TC0 and TM0 and the gain at 1. ARM_COMPLETE into RUN (R327): power, flux and
gain start afresh; the temperatures run on. That the sample of a boundary is formed from the equaliser's result within
this command is log entry 63. -/
def Obligations.LoadModelsLimitTheProgramme : Prop :=
  (∀ (k : Nat) (s : State), LiveStr s k → s.dev.sampleBoundary s.env = true → s.dev.aonRuns = true →
     ∃ t, exec .programSampleBoundary s = .next t ∧ OnlyDev s t ∧
       (let b := s.env.tick
        let d := s.dev
        let z := d.zone1 k
        let l := vat d.load k
        let m := vat t.dev.load k
        let n := 24576 / d.period
        let eq := if d.produced islFir (b - d.period) then z.eqNext else z.eq
        let at_ (fr goal pos : Nat) : Nat := (fr + rdiv (((goal : Int) - fr) * pos) n).toNat
        let want := if z.ovr then z.ovrGain else d.eff b (Fd.CHk_GAIN_GAIN k)
        let from_ := if want = z.gTo then z.gFrom else at_ z.gFrom z.gTo z.gPos
        let pos := min n ((if want = z.gTo then z.gPos else 0) + 1)
        let ramp := match (d.st k).pr.release with
          | some r => if d.inRun k = true ∧ r ≤ b then min 32768 (32768 * ((b - r) / 64) / d.fld Fd.SYS_START1_RAMP) else 0
          | none => 0
        let eff := rsh ((at_ from_ want pos * ramp : Nat) : Int) 15
        let tover := if l.toverAt < b then l.tover else l.toverOld
        let gl := d.fld (Fd.CHk_LM_STATUS_GL k)
        let gmin := d.fld (Fd.CHk_LM_PLIM_GMIN k)
        let cut (on : Bool) (f : Fld) : Nat := if on then gl / 2 ^ d.fld f else 0
        let attack := max (max (cut l.pover (Fd.CHk_LM_CFG_PATK k))
          (max (cut tover (Fd.CHk_LM_CFG_TATK k)) (cut l.fover (Fd.CHk_LM_CFG_FATK k)))) 1
        let gain := if l.pover || tover || l.fover then max (gl - attack) gmin
          else if gl < 32768 then min (gl + max 1 ((32768 - gl) / 2 ^ d.fld (Fd.CHk_LM_CFG_REL k))) 32768 else gl
        let y := sat 24 (rsh (sat 24 (rsh (eq * eff) 15) * gain) 15)
        let probe := match (d.st k).pr.probe with
          | some r => if r.start ≤ b ∧ b < r.start + d.fld (Fd.CHk_PR_PROBE0_LEN k) * 64 then
              rsh (d.sfld (Fd.CHk_PR_PROBE0_AMP k) * sinTab (r.phi / 2 ^ 22)) 7 else 0
          | none => 0
        let ri := d.img.cfg.rate
        let phi := sat 40 (l.phi - rsh l.phi (d.fld (Fd.CHk_LM_FLUX_FLK k) + ri) + y * 2 ^ (3 - ri))
        (t.dev.zone1 k).eq = eq ∧ (t.dev.zone1 k).gFrom = from_ ∧ (t.dev.zone1 k).gTo = want ∧ (t.dev.zone1 k).gPos = pos ∧
        t.dev.fld (Fd.CHk_GAIN_LIVE_EFF k) = eff.toNat % 2 ^ (Fd.CHk_GAIN_LIVE_EFF k).w ∧
        t.dev.fld (Fd.CHk_LM_STATUS_GL k) = gain ∧ (t.dev.zone1 k).post = y ∧
        (t.dev.st k).ctl.z.head? = some (b, sat 24 (y + probe)) ∧
        m.phi = phi ∧ m.fover = (d.bit (Fd.CHk_LM_FLUX_FEN k) && decide (d.fld (Fd.CHk_LM_FLUX_FLIM k) * 2 ^ 22 < phi.natAbs)) ∧
        t.dev.bit (Fd.CHk_LM_STATUS_FOVER k) = m.fover ∧
        m.seen = #v[vat l.seen 0 || l.pover, vat l.seen 1 || tover, vat l.seen 2 || l.fover] ∧
        (t.dev.bit (Fd.CHk_LM_STATUS_FLOOR k) = true ↔ gain = gmin ∧ (t.dev.bit (Fd.CHk_LM_STATUS_POVER k) = true ∨
          t.dev.bit (Fd.CHk_LM_STATUS_TOVER k) = true ∨ m.fover = true)))) ∧
  (∀ (k : Nat) (s : State), LiveStr s k → s.env.started = true → s.env.tick % 64 = 0 → s.dev.aonRuns = true →
     ∃ t, exec .outerLoopBoundary s = .next t ∧ OnlyDev s t ∧
       (let l := vat s.dev.load k
        let m := vat t.dev.load k
        let q := rsh ((t.dev.st k).pv * 2 ^ 7 * ((t.dev.st k).pi * 2 ^ 7)) 30
        let pa := sat 40 (l.pa + rsh (q - l.pa) (s.dev.fld (Fd.CHk_LM_CFG_PSH k)))
        m.pa = pa ∧ m.pfSum = l.pfSum + q ∧ m.pover = decide ((s.dev.fld (Fd.CHk_LM_PLIM_PLIM k) : Int) * 2 ^ 15 < pa) ∧
        t.dev.bit (Fd.CHk_LM_STATUS_POVER k) = m.pover ∧ t.dev.fld (Fd.CHk_LM_PA_PA k) = (satU 16 (flsh pa 15)).toNat ∧
        (t.dev.bit (Fd.CHk_LM_STATUS_FLOOR k) = true ↔
          s.dev.fld (Fd.CHk_LM_STATUS_GL k) = s.dev.fld (Fd.CHk_LM_PLIM_GMIN k) ∧ (m.pover = true ∨
            s.dev.bit (Fd.CHk_LM_STATUS_TOVER k) = true ∨ s.dev.bit (Fd.CHk_LM_STATUS_FOVER k) = true)))) ∧
  (∀ (k : Nat) (s : State), LiveStr s k → s.env.frameStart = true → 0 < s.env.tick → s.dev.aonRuns = true →
     vat s.dev.pwr.tickCopy (islCh k) = s.env.tick →
     ∃ t, exec .rackFrameStart s = .next t ∧ OnlyDev s t ∧
       (let l := vat s.dev.load k
        let m := vat t.dev.load k
        let pf := rsh l.pfSum 10
        let heat := max (rsh (pf * s.dev.fld (Fd.CHk_LM_TH0_KH k)) 4) 0
        let tc := sat 40 (l.tc + rsh (heat - (l.tc - l.tm)) (s.dev.fld (Fd.CHk_LM_TH1_CSH k)))
        let tm := sat 40 (l.tm + rsh (rsh ((l.tc - l.tm) * s.dev.fld (Fd.CHk_LM_TH0_KM k)) 8 - l.tm)
          (s.dev.fld (Fd.CHk_LM_TH1_MSH k)))
        let counted (i : Nat) (f : Fld) : Prop :=
          t.dev.fld f = if vat l.seen i then min 255 (s.dev.fld f + 1) else s.dev.fld f
        m.tc = tc ∧ m.tm = tm ∧ m.pfSum = 0 ∧ m.toverOld = l.tover ∧ m.toverAt = s.env.tick ∧
        m.tover = decide ((s.dev.fld (Fd.CHk_LM_TH1_TLIM k) : Int) * 2 ^ 23 < tc) ∧
        t.dev.bit (Fd.CHk_LM_STATUS_TOVER k) = m.tover ∧
        t.dev.fld (Fd.CHk_LM_TEMP_TC k) = (satU 16 (flsh tc 23)).toNat ∧
        t.dev.fld (Fd.CHk_LM_TEMP_TM k) = (satU 16 (flsh tm 23)).toNat ∧
        counted 0 (Fd.CHk_LM_CNT_POWER k) ∧ counted 1 (Fd.CHk_LM_CNT_THERM k) ∧ counted 2 (Fd.CHk_LM_CNT_FLUX k) ∧
        (∀ i, i < 3 → vat m.seen i = false) ∧
        (t.dev.bit (Fd.CHk_LM_STATUS_FLOOR k) = true ↔
          s.dev.fld (Fd.CHk_LM_STATUS_GL k) = s.dev.fld (Fd.CHk_LM_PLIM_GMIN k) ∧
            (s.dev.bit (Fd.CHk_LM_STATUS_POVER k) = true ∨ m.tover = true ∨ s.dev.bit (Fd.CHk_LM_STATUS_FOVER k) = true)))) ∧
  (∀ (k : Nat) (s : State), s.dev.releaseDue s.env = true → k < 8 → s.dev.present k = true →
     ∃ t, exec .releaseTick s = .next t ∧ t.pending = s.pending ∧ t.comps = s.comps ∧
       (vat t.dev.load k).tc = s.dev.fld (Fd.CHk_LM_TH2_TC0 k) * 2 ^ 23 ∧
       (vat t.dev.load k).tm = s.dev.fld (Fd.CHk_LM_TH2_TM0 k) * 2 ^ 23 ∧ t.dev.fld (Fd.CHk_LM_STATUS_GL k) = 32768) ∧
  (∀ (k : Fin 8) (s : State), s.env.frameStart = true → s.dev.islandOk (islCh k.val) = true → s.dev.phase k.val = phArmed →
     s.dev.fld Fd.SYS_START0_ARM_FRAMES ≤ (s.dev.st k.val).pr.frames →
     inFrameBefore s.env.tick (s.dev.st k.val).fb.lostAt = false → (s.dev.st k.val).pr.stop = false →
     s.dev.fld (Fd.CHk_WH_CFG_NMIN k.val) ≤ (s.dev.formRoles k.val).nact k.val →
     ∃ t, exec (.armComplete k) s = .next t ∧ OnlyDev s t ∧
       (let l := vat s.dev.load k.val
        vat t.dev.load k.val = { l with pa := 0, phi := 0, pover := false, fover := false } ∧
        t.dev.fld (Fd.CHk_LM_STATUS_GL k.val) = 32768 ∧ t.dev.bit (Fd.CHk_LM_STATUS_POVER k.val) = false ∧
        t.dev.bit (Fd.CHk_LM_STATUS_FOVER k.val) = false ∧ t.dev.fld (Fd.CHk_LM_PA_PA k.val) = 0))

/-- HOST_DOMAIN_RESTART (R450): once its time has come HOST runs again. Every HOSTIF and SVC register that is not loaded
from the image reads its reset word but LOCKST; BUSY shows a flash operation still in progress. The LOST marks stay, and
every requester's FIR_CADDR and CLK_TICK_HI are at their reset values. That BUSY follows the flash operation, and that
COMMISSION and FACTORY outlive the restart, is the model's reading (log entry 51). -/
def Obligations.HostComesBack : Prop :=
  ∀ (w : Nat) (s : State), s.dev.pwr.hostDue = some w → w ≤ s.env.lockTicks → s.dev.aonRuns = true →
    s.dev.pwr.shutdown = false →
    ∃ t, exec .hostDomainRestart s = .next t ∧ OnlyDev s t ∧ domSt t.dev domHost = .run ∧ t.dev.pwr.hostDue = none ∧
      (∀ a, a ≠ Reg.SVC_FL_STATUS → hostReset a = true → t.dev.reg a = resetWord a) ∧
      t.dev.bit Fd.SVC_FL_STATUS_BUSY = s.dev.svc.flash.isSome ∧
      (∀ a, a ≠ Reg.SVC_FL_STATUS → hostReset a = false → t.dev.reg a = s.dev.reg a) ∧
      (∀ p, p < 6 → vat t.dev.req p = { vat s.dev.req p with firCaddr := 0, tickHi := 0, credit := 0, out := default }) ∧
      t.dev.svc = { s.dev.svc with buf := [], chal := none, idle := 0 } ∧
      t.dev = { s.dev with regs := t.dev.regs, pwr := t.dev.pwr, req := t.dev.req, svc := t.dev.svc }

/-! ### Start-up and the image (R72 to R98, R452 to R455) -/

/-- IMAGE_SELECTION_START (R452): once NVM runs and LID is in RUN or FAULT-OFF, IMG starts with the header of slot A;
nothing else changes. HEADER_READ_DONE (R81, R94, R95). After slot A's header, its SEQ and result are known and slot B's
header is read. After slot B's, the slots whose header passes checks 1 to 3 are candidates, the highest SEQ first, slot
A first on equal SEQ; with none, selection ends and a SYS_STATE of POWER_UP becomes NO_IMAGE. -/
def Obligations.SelectionOrdersTheCandidates : Prop :=
  (∀ s : State, s.dev.img.phase = .idle → s.env.started = false → s.dev.domRun domNvm = true → s.dev.pwr.shutdown = false →
     (domSt s.dev domLid = .run ∨ domSt s.dev domLid = .faultOff) →
     ∃ t, exec .imageSelectionStart s = .next t ∧ OnlyDev s t ∧
       t.dev = { s.dev with img := { s.dev.img with phase := .header false } }) ∧
  (∀ (errs : List ByteErr) (s : State),
     (s.dev.img.phase = .header false →
       ∃ t, exec (.headerReadDone errs) s = .next t ∧ OnlyDev s t ∧ t.dev.img.phase = .header true ∧
         (let l := s.env.slotBytes false 64 errs
          let r := headerResult s.env.fuses.maxProfile.toNat l
          (t.dev.img.cands = if r = 1 then [false] else []) ∧
          (r ≠ 1 → t.dev.fld Fd.IMG_SLOT_A_RESULT = r) ∧
          (t.dev.fld Fd.IMG_SEQ_A_SEQ = if headerOk l then (readHeader l).seq % 2 ^ 32 else 0)) ∧
         FieldsBut s.dev t.dev [Fd.IMG_SLOT_A_RESULT, Fd.IMG_SLOT_A_PROFILE, Fd.IMG_SEQ_A_SEQ, Fd.IMG_EVT_REFUSED] ∧
         t.dev = { s.dev with regs := t.dev.regs, img := t.dev.img }) ∧
     (s.dev.img.phase = .header true →
       ∃ t, exec (.headerReadDone errs) s = .next t ∧ OnlyDev s t ∧
         (let l := s.env.slotBytes true 64 errs
          let r := headerResult s.env.fuses.maxProfile.toNat l
          let a := t.dev.fld Fd.IMG_SEQ_A_SEQ
          let b := t.dev.fld Fd.IMG_SEQ_B_SEQ
          a = s.dev.fld Fd.IMG_SEQ_A_SEQ ∧ (b = if headerOk l then (readHeader l).seq % 2 ^ 32 else 0) ∧
          (r ≠ 1 → t.dev.fld Fd.IMG_SLOT_B_RESULT = r) ∧
          (s.dev.img.cands ≠ [] → r = 1 → b ≤ a → t.dev.img.phase = .validate false ∧ t.dev.img.cands = [true]) ∧
          (s.dev.img.cands ≠ [] → r = 1 → a < b → t.dev.img.phase = .validate true ∧ t.dev.img.cands = [false]) ∧
          (s.dev.img.cands ≠ [] → r ≠ 1 → t.dev.img.phase = .validate false ∧ t.dev.img.cands = []) ∧
          (s.dev.img.cands = [] → r = 1 → t.dev.img.phase = .validate true ∧ t.dev.img.cands = []) ∧
          (s.dev.img.cands = [] → r ≠ 1 → t.dev.img.phase = .done ∧
            (s.dev.fld Fd.SYS_STATE_STATE = 0 → t.dev.fld Fd.SYS_STATE_STATE = 8))) ∧
         t.dev = { s.dev with regs := t.dev.regs, img := t.dev.img }))

/-- VALIDATION_PASS_DONE, KEY_CHECK_DONE and SIGNATURE_VERIFY_DONE (R93 to R96): a candidate that passes goes on to the
next check with no register changed; one that fails gets the result of the check, and selection goes on.
CAPABILITY_CHECK_DONE (R41, R95, R96): a part that cannot run the image refuses it. A candidate that passes shows
ACCEPTED; while the owner-key fuse is blank SYS_STATE becomes UNOWNED and nothing is applied, else the apply pass begins
with the image's strings, and FALLBACK is set when it is not the first candidate. That UNOWNED takes the place of
PLATFORM_FAIL is log entry 72. -/
def Obligations.CandidatesAreChecked : Prop :=
  ((∀ (errs : List ByteErr) (c : Bool) (s : State), s.dev.img.phase = .validate c → s.dev.imgRuns s.env = true →
     ∃ t, exec (.validationPassDone errs) s = .next t ∧ OnlyDev s t ∧
       (let r := (imagePass s.env c errs).records
        (r = 1 → t.dev.img.phase = .key c ∧ t.dev = { s.dev with img := t.dev.img }) ∧
        (r ≠ 1 → CandidateRefused s.dev t.dev c r))) ∧
   (∀ (c : Bool) (s : State), s.dev.img.phase = .key c → s.dev.imgRuns s.env = true →
     ∃ t, exec .keyCheckDone s = .next t ∧ OnlyDev s t ∧
       (let ok := keyOk s.env.fuses (s.dev.img.seen.keyXY.map (·.toNat))
        (ok = true → t.dev = { s.dev with img := { s.dev.img with phase := .signature c } }) ∧
        (ok = false → CandidateRefused s.dev t.dev c 7))) ∧
   (∀ (c : Bool) (s : State), s.dev.img.phase = .signature c → s.dev.imgRuns s.env = true →
     ∃ t, exec .signatureVerifyDone s = .next t ∧ OnlyDev s t ∧
       (let ok := sigOk (s.dev.img.seen.keyXY.map (·.toNat)) (s.dev.img.seen.digest.map (·.toNat)) s.dev.img.seen.r s.dev.img.seen.s
        (ok = true → t.dev = { s.dev with img := { s.dev.img with phase := .capability c } }) ∧
        (ok = false → CandidateRefused s.dev t.dev c 8)))) ∧
  (∀ (c : Bool) (s : State), s.dev.img.phase = .capability c → s.dev.imgRuns s.env = true →
     ∃ t, exec .capabilityCheckDone s = .next t ∧ OnlyDev s t ∧
       (let ok := capable s.env.fuses s.dev.img.seen.strings s.dev.img.seen.cells
        (ok = false → CandidateRefused s.dev t.dev c 0xA) ∧
        (ok = true → t.dev.fld (resultField c) = 1) ∧
        (ok = true → s.env.fuses.ownerKey = none → t.dev.fld Fd.SYS_STATE_STATE = 9 ∧ t.dev.img.phase = .done ∧
          OnlyFields { s.dev with img := t.dev.img } t.dev [resultField c, Fd.SYS_STATE_STATE]) ∧
        (ok = true → s.env.fuses.ownerKey ≠ none → s.dev.blocked = false → t.dev.img.phase = .apply c ∧
          t.dev.img.cfg.strings = s.dev.img.seen.strings ∧
          (s.dev.img.first ≠ some c → t.dev.bit Fd.IMG_STATUS_FALLBACK = true ∧ t.dev.bit Fd.IMG_EVT_FALLBACK = true))))

/-- TICK (R453) while an apply pass with its CH domains ready reads the slot: each tick reads one byte, and the words whose
last byte it is are written. APPLY_PASS_DONE (R94, R95): with the CRCs of the validation pass, LOADED names the slot and
SITE_ID and PROFILE are the header's; with others the result is APPLY_CRC, FALLBACK is clear, and every word that the
records load is at its reset value again, no other register changing. That the first byte is read 16 ticks into the
pass, and that the pass reads what the slot holds at its ticks, is log entry 45. APPLY_FAIL_DOMAIN_OFF
(R453): the highest powered CH domain is switched off, the next one 256T later; after the last, selection goes on with
the next candidate. -/
def Obligations.ApplyingTheImage : Prop :=
  (∀ (sd0 sd1 : BitVec 20) (ups : List Upset) (slips : List Slip) (c : Bool) (s : State), s.dev.aonRuns = true →
     s.env.started = false → s.dev.img.phase = .apply c → s.dev.imgRuns s.env = true → s.dev.chReady = true →
     ∃ t, exec (.tick sd0 sd1 ⟨ups, slips⟩) s = .next t ∧ t.pending = s.pending ∧ t.comps = s.comps ∧
       t.dev.img = { s.dev.img with passPos := s.dev.img.passPos + 1 } ∧
       (let l := (slotRecords s.env c []).words.filter (fun x => x.off + 20 == s.dev.img.passPos + 1)
        (∀ x ∈ l, l = [x] → (0x2400 ≤ x.addr → x.addr < 0x2800 → False) →
          (slotRecords s.env c []).bases.all (fun b => b.fin + 16 != s.dev.img.passPos + 1) = true →
          t.dev.reg x.addr = (if s.dev.addrRuns x.addr then
            BitVec.ofNat 32 (((s.dev.reg x.addr).toNat &&& (0xFFFFFFFF - x.mask)) ||| (x.word &&& x.mask))
            else s.dev.reg x.addr) ∧ RegsBut s.dev t.dev [x.addr]) ∧
        (l = [] → (slotRecords s.env c []).bases.all (fun b => b.fin + 16 != s.dev.img.passPos + 1) = true →
          t.dev.regs = s.dev.regs))) ∧
  (∀ (errs : List ByteErr) (c : Bool) (s : State), s.dev.img.phase = .apply c → s.dev.imgRuns s.env = true →
     s.dev.chReady = true →
     ∃ t, exec (.applyPassDone errs) s = .next t ∧ OnlyDev s t ∧
       (let p := imagePass s.env c errs
        let ok := p.crcOk && p.genCrc == s.dev.img.seen.genCrc && p.safeCrc == s.dev.img.seen.safeCrc
        (ok = true → t.dev.img.phase = .done ∧ t.dev.img.applyDone = true ∧ t.dev.fld Fd.IMG_STATUS_LOADED = (if c then 2 else 1) ∧
          t.dev.fld Fd.IMG_SITE_ID_SITE_ID = p.head.site % 2 ^ 32 ∧ t.dev.fld Fd.IMG_PROFILE_PROFILE = p.head.profile % 2 ^ 16 ∧
          t.dev.img.cfg.strings = p.build.strings ∧ t.dev.img.cfg.rate = p.build.rate) ∧
        (ok = false → t.dev.img.phase = .applyFail ∧ t.dev.img.failDue = s.env.lockTicks + 1 ∧
          t.dev.fld (resultField c) = 0xB ∧ t.dev.bit Fd.IMG_STATUS_FALLBACK = false ∧
          t.dev = { s.dev with regs := t.dev.regs, img := t.dev.img, firMem := t.dev.firMem } ∧
          (let b := slotRecords s.env c []
           let imgs := [Reg.IMG_SLOT_A, Reg.IMG_SLOT_B, Reg.IMG_EVT, Reg.IMG_STATUS]
           ((∀ x ∈ b.words, x.mask < 2 ^ 32) → ∀ x ∈ b.words, s.dev.addrRuns x.addr = true → x.addr ∉ imgs →
             (t.dev.reg x.addr).toNat &&& x.mask = (resetWord x.addr).toNat &&& x.mask) ∧
           RegsBut s.dev t.dev (imgs ++ b.words.flatMap (fun x => [x.addr, x.addr + 0x200]) ++
             b.bases.flatMap (fun x => [Reg.LID_SUPk_BZ x.str, Reg.LID_SUPk_BA x.str, Reg.LID_SUPk_BR x.str,
               Reg.LID_SUPk_BC x.str, Reg.LID_SUPk_BE x.str, Reg.CHk_DT_RBASE x.str, Reg.CHk_DT_STATUS x.str])))))) ∧
  (∀ s : State, s.dev.img.phase = .applyFail → s.dev.img.failDue ≤ s.env.lockTicks →
     ∃ t, exec .applyFailDomainOff s = .next t ∧ OnlyDev s t ∧
       (∀ i rest, [15, 14, 13, 12, 11, 10, 9, 8].filter s.dev.powered = i :: rest →
         domSt t.dev i = .off ∧ (∀ j, j ≠ i → domSt t.dev j = domSt s.dev j) ∧
         t.dev.enHigh (i - 8) = false ∧ t.dev.phase (i - 8) = phOff ∧
         (rest ≠ [] → t.dev.img = { s.dev.img with failDue := s.env.lockTicks + 256 }) ∧
         (rest = [] → ∀ c cs, s.dev.img.cands = c :: cs → t.dev.img.phase = .validate c ∧ t.dev.img.cands = cs)) ∧
       ([15, 14, 13, 12, 11, 10, 9, 8].filter s.dev.powered = [] →
         (∀ j, domSt t.dev j = domSt s.dev j) ∧
         (∀ c cs, s.dev.img.cands = c :: cs → t.dev.img.phase = .validate c ∧ t.dev.img.cands = cs) ∧
         (s.dev.img.cands = [] → t.dev.img.phase = .done)))

/-- RELEASE_TICK (R3, R75, R99): on the tick after the apply pass and memory initialisation have completed, the tick
number starts at 0, Rack frame 0 begins, and every present string whose CH domain and island work enters ENUM with
STR_EN high. -/
def Obligations.ReleaseStartsTheClock : Prop :=
  ∀ s : State, s.dev.releaseDue s.env = true →
    ∃ t, exec .releaseTick s = .next t ∧ t.pending = s.pending ∧ t.comps = s.comps ∧
      t.env = { s.env with tick := 0, started := true } ∧ t.dev.fld Fd.RACK_FRAME_FRAME = 0 ∧
      (∀ k, k < 8 → s.dev.present k = true → s.dev.domRun (domCh k) = true → s.dev.islandOk (islCh k) = true →
        t.dev.phase k = phEnum ∧ t.dev.enHigh k = true)

/-- STANDBY_CHECK_START and STANDBY_CHECK_DONE (R98): the slot that was not loaded is checked once after the release
tick; the check ends with STANDBY_DONE, and with SINGLE set unless the slot's result is ACCEPTED. -/
def Obligations.StandbyCheckReports : Prop :=
  (∀ s : State, s.env.started = true → s.dev.domRun domNvm = true → s.dev.img.standby = none →
    s.dev.bit Fd.IMG_STATUS_STANDBY_DONE = false → s.dev.fld Fd.IMG_STATUS_LOADED ≠ 0 →
    ∃ t, exec .standbyCheckStart s = .next t ∧ OnlyDev s t ∧
      t.dev = { s.dev with img := { s.dev.img with standby := some (s.dev.otherSlot, false) } } ∧
      (s.dev.fld Fd.IMG_STATUS_LOADED = 1 → s.dev.otherSlot = true) ∧
      (s.dev.fld Fd.IMG_STATUS_LOADED = 2 → s.dev.otherSlot = false)) ∧
  (∀ (errs : List ByteErr) (c r : Bool) (s : State), s.dev.img.standby = some (c, r) → s.dev.domRun domNvm = true →
    ∃ t, exec (.standbyCheckDone errs) s = .next t ∧ OnlyDev s t ∧ t.dev.img = { s.dev.img with standby := none } ∧
      t.dev.bit Fd.IMG_STATUS_STANDBY_DONE = true ∧
      (t.dev.bit Fd.IMG_STATUS_SINGLE = true ↔ t.dev.fld (resultField c) ≠ 1) ∧
      (t.dev.fld (resultField c) ≠ 1 → t.dev.bit Fd.IMG_EVT_SINGLE = true) ∧
      t.dev = { s.dev with regs := t.dev.regs, img := t.dev.img })

/-! ### The time line (R3, R44, R50 to R53, R60 to R71, R155, R165, R180, R183, R231) -/

/-- TICK (R3, R48, R73, R165): while AON works, the ticks since lock and, once it has started, the tick number advance by
one, and every input of the Sieve takes in the two bits of the tick's edges, the later one newest; an FJC-440 captures
zero bits for strings 4 to 7, and an FJC-840 for those of them that the image declares absent (log entry 69). The copy of
the tick number of an island whose clock works follows, but for a slip. Before the release tick, and outside an apply
pass, a tick only brings upsets. Once AON has failed, a tick changes nothing (log entry 48). -/
def Obligations.TickAdvancesAndCaptures : Prop :=
  ∀ (sd0 sd1 : BitVec 20) (ups : List Upset) (slips : List Slip) (s : State),
    (s.dev.aonRuns = true → ∃ t, exec (.tick sd0 sd1 ⟨ups, slips⟩) s = .next t ∧ t.pending = s.pending ∧ t.comps = s.comps ∧
      t.env = { s.env with lockTicks := if s.dev.pwr.locked then s.env.lockTicks + 1 else s.env.lockTicks
                           tick := if s.env.started then s.env.tick + 1 else s.env.tick } ∧
      (s.env.started = false → (∀ c, s.dev.img.phase ≠ .apply c) → t.dev = ups.foldl Dev.eccUpset s.dev) ∧
      (s.env.started = true → s.dev.islandOk islSieve = true → ∀ n, n < 20 →
        (let here := n % 8 < 4 ∨ 16 ≤ n ∨ s.env.fuses.is440 = false ∧ s.dev.present (n % 8) = true
         (here → (vat t.dev.sieve n).bits = (sd1.getLsbD n :: sd0.getLsbD n :: (vat s.dev.sieve n).bits).take 320) ∧
         (¬ here → (vat t.dev.sieve n).bits = (false :: false :: (vat s.dev.sieve n).bits).take 320))) ∧
      (s.env.started = true → slips = [] → ∀ i ∈ copyIslands, vat t.dev.pwr.tickCopy i =
        vat s.dev.pwr.tickCopy i + if s.dev.islandOk i then 1 else 0)) ∧
    (s.dev.aonRuns = false → exec (.tick sd0 sd1 ⟨ups, slips⟩) s = .next s)

/-- DECISION_INSTANT (R50, R172): at an even tick every present string whose island works takes up the fast samples that
the Sieve produced two ticks before, or keeps its last ones as repeated when the Sieve produced none. The captured bits
of the Sieve stay as they are, and its fast path is valid from tick 32 on. That the take-up of the fast samples is part
of this command, and that a failed island has produced what it produced before its failure, is the model's reading (log
entries 55, 65). -/
def Obligations.DecisionTakesFastSamples : Prop :=
  ∀ s : State, s.env.started = true → s.env.tick % 2 = 0 →
    ∃ t, exec .decisionInstant s = .next t ∧ OnlyDev s t ∧
      (2 ≤ s.env.tick → ∀ k, k < 8 → s.dev.present k = true → s.dev.islandOk (islCh k) = true →
        (s.dev.produced islSieve (s.env.tick - 2) = true →
          (t.dev.st k).fv = (vat s.dev.sieve k).fast ∧ (t.dev.st k).fi = (vat s.dev.sieve (8 + k)).fast ∧
          (t.dev.st k).fastRep = false) ∧
        (s.dev.produced islSieve (s.env.tick - 2) = false →
          (t.dev.st k).fv = (s.dev.st k).fv ∧ (t.dev.st k).fi = (s.dev.st k).fi ∧ (t.dev.st k).fastRep = true)) ∧
      (∀ n, n < 20 → (vat t.dev.sieve n).bits = (vat s.dev.sieve n).bits) ∧
      (s.dev.islandOk islSieve = true → 32 ≤ s.env.tick → t.dev.bit Fd.SIEVE_VALID_FAST = true)

/-- ISSUE_TICK (R5, R104, R231): only the string whose phase the tick has acts, and only while its island works. In
ARMED the cell whose turn it is gets ZL in even and ZH in odd rounds, with the next SEQ, and its dwell starts. -/
def Obligations.IssueTickServesOneString : Prop :=
  ∀ s : State, s.env.started = true →
    ∃ t, exec .issueTick s = .next t ∧ OnlyDev s t ∧
      (∀ j, j ≠ s.env.tick % 8 → t.dev.st j = s.dev.st j) ∧
      (s.dev.present (s.env.tick % 8) = false ∨ s.dev.islandOk (islCh (s.env.tick % 8)) = false → t.dev = s.dev) ∧
      (∀ p, s.dev.present (s.env.tick % 8) = true → s.dev.islandOk (islCh (s.env.tick % 8)) = true →
        s.dev.phase (s.env.tick % 8) = phArmed → s.dev.failed (s.env.tick % 8) p = false →
        (sorted7 (s.dev.aq (s.env.tick % 8)))[s.env.tick % 512 / 8]? = some p →
        t.dev.cmdOf (s.env.tick % 8) p = (if s.env.tick / 512 % 2 = 0 then stZL else stZH) ∧
        t.dev.fld (Fd.CELLc_ACK_SEQ (cellIx (s.env.tick % 8) p)) =
          (s.dev.fld (Fd.CELLc_ACK_SEQ (cellIx (s.env.tick % 8) p)) + 1) % 8 ∧
        (t.dev.cellC (s.env.tick % 8) p).dwellFrom = s.env.tick)

/-- OUTER_LOOP_BOUNDARY (R44, R53, R172): the applied steer value follows the request by at most STEP and stays within
±LIM; where it stops at a limit, CLK_EVT.STEER_LIMIT is set. Host writes two boundaries old are no longer held, and the
precise path is valid from tick 448 on. -/
def Obligations.BoundarySteersWithinLimits : Prop :=
  ∀ s : State, s.env.started = true → s.env.tick % 64 = 0 → s.dev.aonRuns = true →
    ∃ t, exec .outerLoopBoundary s = .next t ∧ OnlyDev s t ∧
      (let now := s.dev.sfld Fd.CLK_STEER_STEER
       let step : Int := s.dev.fld Fd.CLK_SLEW_STEP
       let lim : Int := s.dev.fld Fd.CLK_STEER_LIM_LIM
       let new := t.dev.sfld Fd.CLK_STEER_STEER
       new = clampI (-lim) lim (clampI (now - step) (now + step) s.dev.align.req) ∧
       -lim ≤ new ∧ new ≤ lim ∧
       (-lim ≤ now → now ≤ lim → now - step ≤ new ∧ new ≤ now + step) ∧
       (new ≠ s.dev.align.req → t.dev.bit Fd.CLK_EVT_STEER_LIMIT = true)) ∧
      (∀ h ∈ t.dev.held, h ∈ s.dev.held ∧ s.env.tick < boundaryAfter h.tick + 64) ∧
      (s.dev.islandOk islSieve = true → 448 ≤ s.env.tick → t.dev.bit Fd.SIEVE_VALID_PRECISE = true)

/-- TDM_FRAME_SYNC (R116 to R118) on a slave port: a frame is judged by its bit clocks and its length. One with too many bit
clocks, or longer than 1.5 nominal periods, counts in MISSING, a shorter one in EARLY; any frame that is not clean ends the
run of clean frames and an acceptance, whose loss is counted with its event. A clean frame counts in CLEAN; the 64th of a
run shows the run's length in PERIOD and, with the rate within TOL, accepts the port with its LOCK event, else counts in
RATE and ends an acceptance. TDM_FRAME_SYNC_MISSING counts only once a sync is overdue. AES_FRAME (R128, R129) judges a
frame by its preambles, its biphase violations, which are counted, and its length in the same way; a loss discards both
committed blocks. That both errors count whether or not the port is accepted is log entry 24.
PROGRAM_SAMPLE_BOUNDARY (R50, R146, R148, R149, R151, R152, R155, R171): AUDIO takes up the monitor samples of the sample
before and keeps its values for the transmit masters. A zone feed is the mix of its four sources under the mute fade,
cross-faded with the Lid's override. It goes into the zone's region of the delay store; the sample DELAY positions back
goes into the equaliser's history, whose result over the taps of the active bank is the zone output of the next boundary.
No other word of either store changes, and a failed island takes in nothing. -/
def Obligations.AudioFramesAndSamples : Prop :=
  ((∀ (n : Fin 4) (sd : List Bool) (q qt : Nat) (s : State), s.dev.audioRuns s.env = true → s.dev.tdmSlave n.val = true →
     (s.dev.port1 n.val).lastSync = some q →
     ∃ t, exec (.tdmFrameSync n sd qt) s = .next t ∧ OnlyDev s t ∧ (t.dev.port1 n.val).lastSync = some qt ∧
       (let fb := s.dev.fld (Fd.TDMn_CFG_FRAME_BITS n.val)
        let nom : Nat := 4 * (512 / 2 ^ s.dev.fld (Fd.TDMn_CFG_RATE n.val))
        let len := qt - q
        let run := (s.dev.port1 n.val).runN
        let tot := (s.dev.port1 n.val).runTot + len
        let near := ((len : Int) - nom).natAbs * 100 ≤ nom
        let inRate := ((tot : Int) - (64 * nom : Nat)).natAbs * 1000000 ≤ s.dev.fld (Fd.TDMn_CLKMON_TOL n.val) * (64 * nom)
        let was := s.dev.accepted n.val
        let steps (f : Fld) : Prop := t.dev.fld f = min 255 (s.dev.fld f + 1)
        let lost := t.dev.accepted n.val = false ∧ t.dev.fld (Fd.TDMn_STATUS_CLEAN n.val) = 0 ∧ (t.dev.port1 n.val).runN = 0 ∧
          (was = true → steps (Fd.TDMn_ERR_CNT_LOSS n.val) ∧ t.dev.bit (Fd.TDMn_EVT_LOSS n.val) = true) ∧
          (was = false → t.dev.fld (Fd.TDMn_ERR_CNT_LOSS n.val) = s.dev.fld (Fd.TDMn_ERR_CNT_LOSS n.val))
        let same (f : Fld) : Prop := t.dev.fld f = s.dev.fld f
        (fb < sd.length ∨ 3 * nom < 2 * len →
          lost ∧ steps (Fd.TDMn_ERR_CNT_MISSING n.val) ∧ same (Fd.TDMn_ERR_CNT_EARLY n.val)) ∧
        (sd.length < fb → 2 * len ≤ 3 * nom →
          lost ∧ steps (Fd.TDMn_ERR_CNT_EARLY n.val) ∧ same (Fd.TDMn_ERR_CNT_MISSING n.val)) ∧
        (sd.length = fb → ¬ near → 2 * len ≤ 3 * nom →
          lost ∧ same (Fd.TDMn_ERR_CNT_EARLY n.val) ∧ same (Fd.TDMn_ERR_CNT_MISSING n.val)) ∧
        (sd.length = fb → near → run < 63 →
          t.dev.fld (Fd.TDMn_STATUS_CLEAN n.val) = min 64 (s.dev.fld (Fd.TDMn_STATUS_CLEAN n.val) + 1) ∧
          t.dev.accepted n.val = was ∧ (t.dev.port1 n.val).runN = run + 1 ∧ (t.dev.port1 n.val).runTot = tot) ∧
        (sd.length = fb → near → 63 ≤ run →
          t.dev.fld (Fd.TDMn_PERIOD_PERIOD n.val) = min (2 ^ 20 - 1) tot ∧ (t.dev.port1 n.val).runN = 0 ∧
          (inRate → t.dev.accepted n.val = true ∧ (was = false → t.dev.bit (Fd.TDMn_EVT_LOCK n.val) = true)) ∧
          (¬ inRate → steps (Fd.TDMn_ERR_CNT_RATE n.val) ∧ lost)))) ∧
   (∀ (n : Fin 4) (bits qt : Nat) (s : State), s.dev.audioRuns s.env = true → s.dev.tdmSlave n.val = true →
     ∃ t, exec (.tdmFrameSyncMissing n ⟨bits, qt⟩) s = .next t ∧ OnlyDev s t ∧
       (∀ q, (s.dev.port1 n.val).lastSync = some q →
         (let late := s.dev.fld (Fd.TDMn_CFG_FRAME_BITS n.val) < bits ∨
            3 * (4 * (512 / 2 ^ s.dev.fld (Fd.TDMn_CFG_RATE n.val))) < 2 * (qt - q)
          (late → (t.dev.port1 n.val).lastSync = none ∧ t.dev.accepted n.val = false ∧
            t.dev.fld (Fd.TDMn_STATUS_CLEAN n.val) = 0 ∧
            t.dev.fld (Fd.TDMn_ERR_CNT_MISSING n.val) = min 255 (s.dev.fld (Fd.TDMn_ERR_CNT_MISSING n.val) + 1) ∧
            t.dev.fld (Fd.TDMn_ERR_CNT_LOSS n.val) =
              min 255 (s.dev.fld (Fd.TDMn_ERR_CNT_LOSS n.val) + if s.dev.accepted n.val then 1 else 0)) ∧
          (¬ late → t.dev = s.dev))) ∧
       ((s.dev.port1 n.val).lastSync = none → t.dev = s.dev)) ∧
   (∀ (n : Fin 2) (rx : AesRx) (s : State), s.dev.audioRuns s.env = true → s.dev.portRx (4 + n.val) = true →
     ∃ t, exec (.aesFrame n rx) s = .next t ∧ OnlyDev s t ∧
       (let p := 4 + n.val
        let nom : Nat := 4 * (512 / 2 ^ s.dev.fld (Fd.AESn_CFG_RATE n.val))
        let len := rx.qtEnd - rx.qtStart
        let run := (s.dev.port1 p).runN
        let tot := (s.dev.port1 p).runTot + len
        let clean := rx.orderOk = true ∧ rx.pre ≠ .bad ∧ rx.violations = 0 ∧ ((len : Int) - nom).natAbs * 100 ≤ nom
        let inRate := ((tot : Int) - (64 * nom : Nat)).natAbs * 1000000 ≤ s.dev.fld (Fd.AESn_CLKMON_TOL n.val) * (64 * nom)
        let was := s.dev.accepted p
        let lost := t.dev.accepted p = false ∧ t.dev.fld (Fd.AESn_STATUS_CLEAN n.val) = 0 ∧
          (was = true → (t.dev.aes1 n.val).a.committed = none ∧ (t.dev.aes1 n.val).b.committed = none ∧
            t.dev.bit (Fd.AESn_EVT_LOSS n.val) = true) ∧
          t.dev.fld (Fd.AESn_ERR_CNT_LOSS n.val) =
            min 255 (s.dev.fld (Fd.AESn_ERR_CNT_LOSS n.val) + if was then 1 else 0)
        t.dev.fld (Fd.AESn_ERR_CNT_BIPHASE n.val) =
          min 255 (s.dev.fld (Fd.AESn_ERR_CNT_BIPHASE n.val) + rx.violations) ∧
        (¬ clean → lost) ∧
        (clean → run < 63 →
          t.dev.fld (Fd.AESn_STATUS_CLEAN n.val) = min 64 (s.dev.fld (Fd.AESn_STATUS_CLEAN n.val) + 1) ∧
          t.dev.accepted p = was ∧ (t.dev.port1 p).runN = run + 1) ∧
        (clean → 63 ≤ run →
          t.dev.fld (Fd.AESn_PERIOD_PERIOD n.val) = min (2 ^ 20 - 1) tot ∧ (t.dev.port1 p).runN = 0 ∧
          (inRate → t.dev.accepted p = true ∧ (was = false → t.dev.bit (Fd.AESn_EVT_LOCK n.val) = true)) ∧
          (¬ inRate → lost))))) ∧
  (∀ s : State, s.dev.sampleBoundary s.env = true → s.dev.aonRuns = true →
     ∃ t, exec .programSampleBoundary s = .next t ∧ OnlyDev s t ∧
       (let d := s.dev
        let b := s.env.tick
        let n := 24576 / d.period
        (∀ i, i < 20 → (vat t.dev.sieve i).monTaken = (vat d.sieve i).mon) ∧
        (d.islandOk islAudio = true → t.dev.monPrev = d.mon) ∧
        t.dev.dsCnt = (if d.islandOk islMem then (d.dsCnt + 1) % 131072 else d.dsCnt) ∧
        t.dev.firCnt = (if d.islandOk islFir then d.firCnt + 1 else d.firCnt) ∧
        (∀ k, k < 8 → d.present k = true →
          (let z := d.zone1 k
           let w := t.dev.zone1 k
           (d.islandOk islAudio = true →
             (let mp := if tbit (d.eff b Fd.ROUTE_MUTE_MUTE) k then z.mutePos - 1 else min n (z.mutePos + 1)
              let op := if z.ovr then min n (z.ovrPos + 1) else z.ovrPos - 1
              let mix := sat 24 (rsh (sumI ([0, 1, 2, 3].map (fun i =>
                t.dev.sourceChan (d.eff b (Fd.ROUTE_MIXk_i_SRC k i)) * d.effI b (Fd.ROUTE_MIXk_i_GAIN k i)))) 14)
              let host := rsh (mix * (32768 * mp / n : Nat)) 15
              let a : Int := (32768 * op / n : Nat)
              let lid := if a = 0 then 0 else t.dev.sourceChan z.ovrSrc
              w.mutePos = mp ∧ w.ovrPos = op ∧ w.feed = sat 24 (rsh (host * (32768 - a) + lid * a) 15) ∧
              w.feedRep = false)) ∧
           (d.islandOk islAudio = false → w.feed = z.feed ∧ w.feedRep = true) ∧
           (d.islandOk islMem = true → d.dsCnt < 131072 →
             Store.get zeroed t.dev.dstore (131072 * k + d.dsCnt) = w.feed ∧
             (z.delayPos = 0 → z.delayDefer = none → d.eff b (Fd.ROUTE_DELAYk_DELAY k) = z.delaySeen → d.ecc = [] →
               w.delayed = Store.get zeroed t.dev.dstore (131072 * k + (d.dsCnt + 131072 - z.delayOld) % 131072))) ∧
           (d.islandOk islMem = false → w.delayed = z.delayed ∧ w.delayedRep = true) ∧
           (d.islandOk islFir = true →
             Store.get firInit t.dev.firMem (1152 * k + 768 + d.firCnt % 384) = w.delayed ∧
             (z.firFade = none → z.firReq = [] → d.ecc = [] →
               (let taps := if d.img.cfg.rate = 2 then 192 else 384
                let at_ := d.firCnt % 384 + 1
                let hist := Store.slice firInit t.dev.firMem (1152 * k + 768) 384
                let h := Store.slice firInit t.dev.firMem (1152 * k + 384 * d.fld (Fd.FIR_BANKk_ACTIVE k)) 384
                let newest := (hist.take at_).reverse ++ (hist.drop at_).reverse
                w.eqNext = sat 24 (rsh (dot (h.take taps) (newest.take taps)) 23)))) ∧
           (d.islandOk islFir = false → w.eqNext = z.eqNext))) ∧
        (∀ a, (∀ k, k < 8 → d.islandOk islMem = true → d.present k = true → a ≠ 131072 * k + d.dsCnt) →
          Store.get zeroed t.dev.dstore a = Store.get zeroed d.dstore a) ∧
        (∀ a, (∀ k, k < 8 → d.islandOk islFir = true → d.present k = true → a ≠ 1152 * k + 768 + d.firCnt % 384) →
          Store.get firInit t.dev.firMem a = Store.get firInit d.firMem a)))

/-- RACK_FRAME_START (R60, R70): RACK_FRAME shows the frame number. A pending swap is settled: a valid standby table
changes place with the active one and SWAP_DONE is set, an invalid one stays and REFUSED is set; SWAP_PENDING is clear.
RACK_SLOT_START (R61, R63): CUR_SLOT and CUR_CODE show the slot and its activity, which becomes the slot in progress. A
slot whose activity targets a domain that is not in RUN passes idle and is counted in RACK_SKIP_CNT. -/
def Obligations.RackFramesAndSlots : Prop :=
  (∀ s : State, s.env.frameStart = true → 0 < s.env.tick → s.dev.aonRuns = true →
     ∃ t, exec .rackFrameStart s = .next t ∧ OnlyDev s t ∧
       t.dev.fld Fd.RACK_FRAME_FRAME = s.env.tick / 65536 % 2 ^ 32 ∧ t.dev.bit Fd.RACK_STATUS_SWAP_PENDING = false ∧
       (s.dev.bit Fd.RACK_STATUS_SWAP_PENDING = true → s.dev.standbyOk = true →
         t.dev.bit Fd.RACK_EVT_SWAP_DONE = true ∧
         ∀ w, w < 128 → t.dev.reg (Reg.RACK_ACTIVEw w) = s.dev.reg (Reg.RACK_STBYw w) ∧
           t.dev.reg (Reg.RACK_STBYw w) = s.dev.reg (Reg.RACK_ACTIVEw w)) ∧
       (s.dev.bit Fd.RACK_STATUS_SWAP_PENDING = true → s.dev.standbyOk = false → t.dev.bit Fd.RACK_EVT_REFUSED = true) ∧
       (s.dev.bit Fd.RACK_STATUS_SWAP_PENDING = false ∨ s.dev.standbyOk = false →
         ∀ w, w < 128 → t.dev.reg (Reg.RACK_ACTIVEw w) = s.dev.reg (Reg.RACK_ACTIVEw w) ∧
           t.dev.reg (Reg.RACK_STBYw w) = s.dev.reg (Reg.RACK_STBYw w))) ∧
  (∀ s : State, s.env.started = true → s.env.tick % 256 = 0 →
     ∃ t, exec .rackSlotStart s = .next t ∧ OnlyDev s t ∧
       (let n := s.env.tick / 256 % 256
        let x := s.dev.rackEntry n
        t.dev.fld Fd.RACK_STATUS_CUR_SLOT = n ∧ t.dev.fld Fd.RACK_STATUS_CUR_CODE = x / 4096 ∧
        t.dev.bg.slot.code = x / 4096 ∧ t.dev.bg.slot.param = x % 4096 ∧ t.dev.bg.slot.start = s.env.tick ∧
        (s.dev.slotDomains (x / 4096) (x % 4096) = false → t.dev.bg.slot.live = false ∧
          FieldsBut s.dev t.dev [Fd.RACK_STATUS_CUR_SLOT, Fd.RACK_STATUS_CUR_CODE, Fd.RACK_SKIP_CNT_SKIP]) ∧
        t.dev.fld Fd.RACK_SKIP_CNT_SKIP =
          if t.dev.bg.slot.live then s.dev.fld Fd.RACK_SKIP_CNT_SKIP else min (2 ^ 32 - 1) (s.dev.fld Fd.RACK_SKIP_CNT_SKIP + 1)))

/-- TRANSFER_TAKEUP (R50, R52): a transfer whose source has failed is late: CLK_LATE_CNT counts it, saturating, with the
source and CLK_EVT.LATE. Taken up in time, the state of a string passes to the Lid, whose NOBASE and LEARN follow the
class that it carries (R328, R341); a row of samples changes nothing by itself but check bits, and a row that has no
take-up at this tick changes nothing. That each production tick counts once, that the rows of samples only count
lateness, and that a source has produced what it produced before its failure, is the model's reading (log entries 55,
65). -/
def Obligations.TransfersAreTakenUpOrLate : Prop :=
  ∀ (k : Fin 8) (row : TransferRow) (s : State), s.env.started = true → s.dev.aonRuns = true →
    ∃ t, exec (.transferTakeup k row) s = .next t ∧ OnlyDev s t ∧
      (let made := rowMade s.dev.period s.env.tick row
       (made = [] → t.dev = s.dev) ∧
       (made ≠ [] → (rowOfString row = false ∨ s.dev.present k.val = true) → s.dev.islandOk (rowTarget k.val row) = true →
        ((∀ m ∈ made, s.dev.produced (rowSource k.val row) m = false) →
          t.dev.fld Fd.CLK_LATE_CNT_COUNT = min (2 ^ 24 - 1) (s.dev.fld Fd.CLK_LATE_CNT_COUNT + made.length) ∧
          t.dev.fld Fd.CLK_LATE_CNT_LAST_SRC = rowSource k.val row ∧ t.dev.bit Fd.CLK_EVT_LATE = true) ∧
        ((∀ m ∈ made, s.dev.produced (rowSource k.val row) m = true) →
          t.dev.fld Fd.CLK_LATE_CNT_COUNT = s.dev.fld Fd.CLK_LATE_CNT_COUNT ∧
          (row = .stringState →
            t.dev = { s.dev with regs := t.dev.regs, lid := { s.dev.lid with
              strs := vset s.dev.lid.strs k.val (vat s.dev.lid.strsNext k.val) } } ∧
            (let base := s.dev.bit (Fd.LID_SUPk_BA_VALID k.val)
             t.dev.bit (Fd.LID_SUPk_VERD_NOBASE k.val) = !base ∧
             t.dev.bit (Fd.LID_SUPk_VERD_LEARN k.val) = (!base && (vat s.dev.lid.strsNext k.val).cls)) ∧
            FieldsBut s.dev t.dev [Fd.LID_SUPk_VERD_NOBASE k.val, Fd.LID_SUPk_VERD_LEARN k.val]) ∧
          (row = .fast ∨ row = .precise ∨ row = .pilotPhase → t.dev = s.dev) ∧
          (row = .zoneFeed ∨ row = .delayed → t.dev = { s.dev with ecc := t.dev.ecc, bg := t.dev.bg }))))

/-! ### Audio ports and the audio path (R110 to R164) -/

/-- DELAY_FADE_END, FIR_FADE_END and OVERRIDE_FADE_END (R149, R152, R162, R163): at the end of its fade the new setting
stands alone: the live delay, the active bank with a deferred request to the other bank starting the next fade, the
override or none. -/
def Obligations.FadesEnd : Prop :=
  (∀ (k : Fin 8) (s : State), (s.dev.zone1 k.val).delayPos ≠ 0 → (s.dev.zone1 k.val).delayPos = s.dev.delayN →
    ∃ t, exec (.delayFadeEnd k) s = .next t ∧ OnlyDev s t ∧
      (t.dev.zone1 k.val).delayOld = (s.dev.zone1 k.val).delayNew ∧ (t.dev.zone1 k.val).delayPos = 0 ∧
      t.dev.fld (Fd.ROUTE_DLIVEk_LIVE k.val) = (s.dev.zone1 k.val).delayNew % 2 ^ (Fd.ROUTE_DLIVEk_LIVE k.val).w ∧
      t.dev.bit (Fd.ROUTE_DLIVEk_FADING k.val) = false ∧ t.dev.bit Fd.ROUTE_EVT_DELAY_DONE = true ∧
      (∀ j, j ≠ k.val → t.dev.zone1 j = s.dev.zone1 j) ∧
      FieldsBut s.dev t.dev [Fd.ROUTE_DLIVEk_LIVE k.val, Fd.ROUTE_DLIVEk_FADING k.val, Fd.ROUTE_EVT_DELAY_DONE] ∧
      t.dev = { s.dev with regs := t.dev.regs, zone := t.dev.zone }) ∧
  (∀ (k : Fin 8) (i b w : Nat) (s : State), (s.dev.zone1 k.val).firFade = some (i, b, w) →
    i = 2 ^ s.dev.fld Fd.FIR_CFG_FADE_LOG2 → w < s.env.tick → s.env.tick % s.dev.period = 0 →
    ∃ t, exec (.firFadeEnd k) s = .next t ∧ OnlyDev s t ∧
      t.dev.fld (Fd.FIR_BANKk_ACTIVE k.val) = b % 2 ∧ t.dev.bit (Fd.FIR_BANKk_FADING k.val) = false ∧
      t.dev.bit (Fd.FIR_BANKk_PENDING k.val) = false ∧ t.dev.fld (Fd.FIR_BANKk_STEP k.val) = 0 ∧
      t.dev.bit Fd.FIR_EVT_FADE_DONE = true ∧
      (t.dev.zone1 k.val).firFade =
        (if s.dev.bit (Fd.FIR_BANKk_PENDING k.val) = true ∧ s.dev.fld (Fd.FIR_BANKk_PEND_TARGET k.val) ≠ b then
          some (0, s.dev.fld (Fd.FIR_BANKk_PEND_TARGET k.val), s.env.tick) else none) ∧
      (∀ j, j ≠ k.val → t.dev.zone1 j = s.dev.zone1 j) ∧
      t.dev = { s.dev with regs := t.dev.regs, zone := t.dev.zone }) ∧
  (∀ (k : Fin 8) (s : State), (s.dev.zone1 k.val).ovrPos = (if (s.dev.zone1 k.val).ovr then s.dev.fadeN else 0) →
    ∃ t, exec (.overrideFadeEnd k) s = .next t ∧ OnlyDev s t ∧ t.dev.bit (Fd.ROUTE_OVRk_FADING k.val) = false ∧
      ((s.dev.zone1 k.val).ovr = false →
        t.dev.fld (Fd.ROUTE_OVRk_SRC k.val) = 0xFF ∧ t.dev.fld (Fd.ROUTE_OVRk_GAIN k.val) = 0) ∧
      OnlyFields s.dev t.dev ([Fd.ROUTE_OVRk_FADING k.val] ++
        if (s.dev.zone1 k.val).ovr then [] else [Fd.ROUTE_OVRk_SRC k.val, Fd.ROUTE_OVRk_GAIN k.val]))

/-- OUTER_LOOP_BOUNDARY (R167, R180, R203, R205) of a string in closed loop: its precise samples are the stage-2 outputs of
the boundary; the reference, the error, the compensator, the Mortar's correction, the limited output and the integrator
follow R180 with the bank in force, the error goes to the Mortar, and the output is the current reference from the
decision 16T later. With feedback lost (R214, R215) fallback begins there instead, with the modulation index. In fallback
(R215, R217) the index is formed anew, or, after 256 good boundaries with no severe loss, the loop is evaluated from zero
histories and closed 16T later. The detectors of a string in ARMED, RUN or SAFE (R208 to R212) and the ripple tracker (R201,
R202) take in the boundary's samples. DECISION_INSTANT (R203): an error that has arrived is learnt into its bin while the
Mortar ramps or runs; no other bin changes. That boundary values come into force within the commands of their tick is log
entry 63. -/
def Obligations.LoopsFormAtTheBoundary : Prop :=
  (∀ (k : Nat) (s : State), LiveStr s k → s.env.started = true → s.env.tick % 64 = 0 → s.dev.aonRuns = true →
     ∃ t, exec .outerLoopBoundary s = .next t ∧ OnlyDev s t ∧
       (let b := s.env.tick
        let d := s.dev
        let x := (d.st k).ctl
        let f := (d.st k).fb
        let o := (d.st k).mor
        let y := t.dev.st k
        -- the precise samples
        (d.islandOk islSieve = true →
          (∀ n, n < 20 → (vat t.dev.sieve n).precise =
            sat 24 (rsh (dot d.taps2 (vat d.sieve n).s1 * 2 ^ d.fld (Fd.SIEVE_INn_CFG_SHIFT2 n)) 23)) ∧
          y.pv = (vat t.dev.sieve k).precise ∧ y.pi = (vat t.dev.sieve (8 + k)).precise) ∧
        -- the loop
        (d.inRun k = true → d.ecc = [] → (d.st k).wh.left = [] → (d.st k).pr.entry ≠ b → x.inj = none →
         d.eff b (Fd.CHk_OL_SEL_TARGET k) = d.fld (Fd.CHk_CL_STATUS_ACTIVE k) →
          (let g := d.bank k (d.fld (Fd.CHk_CL_STATUS_ACTIVE k)) b
           let st := d.morState k
           let step := o.step + if o.wrap then 1 else 0
           let mg := d.eff b (Fd.CHk_MOR_GAIN_MGAIN k)
           let gain : Int := if st = morRamp ∧ step < 32 then rsh ((mg * step : Nat) : Int) 5
             else if st = morRamp ∨ st = morFull then mg else o.g
           let lim : Int := d.fld (Fd.CHk_MOR_LIM_MLIM k)
           let bin := (o.theta / 2 ^ 22 + d.fld (Fd.CHk_MOR_CFG_LEAD k)) % 1024
           let m := if st = morRamp ∨ st = morFull ∨ st = morHold then
               clampI (-lim) lim (sat 16 (rsh (gain * Store.get zeroed d.mortar (1024 * k + bin)) 23)) else 0
           let vr := sat 16 (rsh (d.sfld (Fd.CHk_OL_CFG_KREF k) * d.r15 k b) 15 + d.pilot k)
           let e := sat 40 (vr * 2 ^ 15 - y.pv * 2 ^ 7)
           let comp (e1 e2 c1 c2 : Int) : Int :=
             let a0 := sat 40 (rsh (g.b0 * e) 15)
             let a1 := sat 40 (a0 + rsh (g.b1 * e1) 15)
             let a2 := sat 40 (a1 + rsh (g.b2 * e2) 15)
             let a3 := sat 40 (a2 - rsh (g.a1 * c1) 15)
             sat 40 (sat 40 (a3 - rsh (g.a2 * c2) 15) * 2 ^ g.sh)
           let formed (c i m : Int) : Prop :=
             let u := sat 40 (sat 40 (c + i) + m * 2 ^ 15)
             let us := clampI (-g.umax) g.umax u
             let new := clampI (-g.imax) g.imax
               (sat 40 (sat 40 (i + rsh (g.ki * e) 15) + rsh (g.kaw * sat 40 (us - u)) 15))
             y.ctl.e1 = e ∧ y.ctl.c1 = c ∧ y.ctl.i = new ∧ y.ctl.us = us ∧ y.ctl.vr = vr ∧
             t.dev.bit (Fd.CHk_CL_STATUS_OSAT k) = (u != us) ∧
             t.dev.bit (Fd.CHk_CL_STATUS_ISAT k) = decide ((new.natAbs : Int) = g.imax) ∧
             y.mor.learn = some (e, o.theta / 2 ^ 22, b + 16)
           let vs := ((t.dev.aq k).map (t.dev.vbus k)).foldl (· + ·) 0 * d.fld (Fd.CHk_FB_SCALE_VSCALE k)
           let mi := if vs = 0 then 0 else sat 16 (rdiv (vr * 2 ^ 26) vs)
           (d.closed k = true →
             formed (comp x.e1 x.e2 x.c1 x.c2) x.i m ∧ y.ctl.e2 = x.e1 ∧ y.ctl.c2 = x.c1 ∧
             (y.fb.lostNow = false → y.ctl.irefNext = some (y.ctl.us, b + 16)) ∧
             (y.fb.lostNow = true → y.ctl.irefNext = none ∧ y.ctl.modeNext = some (2, b + 16) ∧
               y.ctl.miNext = some (mi, b + 16))) ∧
           (d.inFallback k = true →
             (let back := t.dev.fld (Fd.CHk_FB_STATUS_GOOD k) = 256 ∧ d.bit (Fd.CHk_PR_STATUS_FB_PIN k) = false
              let c := comp 0 0 0 0
              (back → formed c (clampI (-g.imax) g.imax (sat 40 (y.pi * 2 ^ 7 - c))) 0 ∧ y.ctl.e2 = 0 ∧ y.ctl.c2 = 0 ∧
                y.ctl.irefNext = some (y.ctl.us, b + 16) ∧ y.ctl.modeNext = some (1, b + 16)) ∧
              (¬ back → y.ctl.vr = vr ∧ y.ctl.miNext = some (mi, b + 16)))))) ∧
        -- the detectors
        (d.phase k = phArmed ∨ d.phase k = phRun ∨ d.phase k = phSafe → d.ecc = [] → (d.st k).wh.left = [] →
          (let edge := d.fld (Fd.CHk_FB_ACT_EDGE k)
           let inact (i : Nat) : Bool := decide (vat y.trans i < d.fld (Fd.CHk_FB_ACT_TMIN k)) ||
             decide (vat y.ones i ≤ edge) || decide (128 ≤ vat y.ones i + edge)
           let sameV := f.v.prev.any (fun p => y.preciseRep || p == y.pv)
           let sameI := f.i.prev.any (fun p => y.preciseRep || p == y.pi)
           let dly : Int := d.fld (Fd.CHk_FB_PL_DLY k)
           let pls := d.fld (Fd.CHk_FB_PL_PLS k)
           let vm := y.pv * 2 ^ 7
           let vmod := sat 40 (rsh (vSum f.vHist (b - 64 - dly) (b - dly) * d.fld (Fd.CHk_FB_SCALE_VSCALE k)) 2)
           let di := (f.i.prev.map (fun p => sat 40 (y.pi * 2 ^ 7 - p * 2 ^ 7))).getD 0
           let dip := sat 40 (rsh (d.sfld (Fd.CHk_FB_SCALE_KIPL k) * 2 ^ d.fld (Fd.CHk_FB_PL_ISH k) * sat 40 (vmod - vm)) 15)
           let tol (v : Int) (lim : Nat) : Bool := lim != 0 && decide ((lim * 2 ^ 15 : Nat) < v.natAbs)
           let bad := tol y.fb.fv (d.fld (Fd.CHk_FB_TOL_VTOL k)) || tol y.fb.fi (d.fld (Fd.CHk_FB_TOL_ITOL k))
           let actN := d.fld (Fd.CHk_FB_ACT_ACT_N k)
           let stuckN := d.fld (Fd.CHk_FB_STUCK_STUCK_N k)
           let lost := actN ≤ y.fb.v.actRun ∨ actN ≤ y.fb.i.actRun ∨ (sameV = true ∧ stuckN ≤ y.fb.v.sameRun + 1) ∨
             (sameI = true ∧ stuckN ≤ y.fb.i.sameRun + 1) ∨ d.fld (Fd.CHk_FB_PL_PL_N k) ≤ y.fb.plRun
           y.fb.v = { prev := some y.pv, actRun := if inact 0 then f.v.actRun + 1 else 0
                      sameRun := if sameV then f.v.sameRun + 1 else 0 } ∧
           y.fb.i = { prev := some y.pi, actRun := if inact 1 then f.i.actRun + 1 else 0
                      sameRun := if sameI then f.i.sameRun + 1 else 0 } ∧
           y.fb.fv = sat 40 (f.fv + rsh (sat 40 (vm - vmod) - f.fv) pls) ∧
           y.fb.fi = sat 40 (f.fi + rsh (sat 40 (di - dip) - f.fi) pls) ∧
           y.fb.plRun = (if f.neutral then f.plRun else if bad then f.plRun + 1 else 0) ∧
           (y.fb.lostNow = true ↔ lost) ∧ y.fb.neutral = false ∧
           t.dev.fld (Fd.CHk_FB_STATUS_GOOD k) =
             if !(inact 0) && !(inact 1) && !sameV && !sameI && (f.neutral || !bad) then
               min 256 (d.fld (Fd.CHk_FB_STATUS_GOOD k) + 1) else 0)) ∧
        -- the ripple tracker
        (d.morTracked k = true →
          (let dc := o.dc + rsh (vat y.aux 0 - o.dc) 12
           let a := sat 16 (flsh (vat y.aux 0 - dc) 8)
           let n := o.cnt + 1
           let armed := o.armed || decide (a < -(d.fld (Fd.CHk_MOR_TRK_HYS k) : Int))
           let cross := armed && decide (0 ≤ a)
           let valid := cross && decide (d.fld (Fd.CHk_MOR_DET_PMIN k) ≤ n) && decide (n ≤ d.fld (Fd.CHk_MOR_DET_PMAX k))
           let full := valid && o.n == 15
           let cnt := if cross then 0 else n
           let out := decide (2 * d.fld (Fd.CHk_MOR_DET_PMAX k) < cnt)
           let dth := if full then (rdiv (2 ^ 36) (o.sum + n)).toNat else o.dtheta
           let corr := if valid && o.lock then rsh (sx 32 o.theta) (d.fld (Fd.CHk_MOR_TRK_PH k)) else 0
           let base : Int := if full && !o.lock then 0 else o.theta
           y.mor.dc = dc ∧ y.mor.dtheta = dth ∧ y.mor.theta = ((base + dth - corr) % 2 ^ 32).toNat ∧
           y.mor.cnt = (if out then 0 else cnt) ∧ y.mor.armed = (armed && !cross && !out) ∧
           y.mor.n = (if out || full then 0 else if valid then o.n + 1 else if cross then 0 else o.n) ∧
           y.mor.lock = ((o.lock || full) && !out) ∧ t.dev.bit (Fd.CHk_MOR_STATUS_LOCK k) =
             (if y.mor.lock = o.lock then d.bit (Fd.CHk_MOR_STATUS_LOCK k) else y.mor.lock) ∧
           t.dev.fld (Fd.CHk_MOR_DLIVE_DLIVE k) = dth % 2 ^ (Fd.CHk_MOR_DLIVE_DLIVE k).w)) ∧
        (d.morTracked k = false →
          y.mor.theta = (o.theta + d.fld (Fd.CHk_MOR_DTHETA_DTHETA k)) % 2 ^ 32))) ∧
  (∀ (k bin due : Nat) (e : Int) (s : State), LiveStr s k → s.env.started = true → s.env.tick % 2 = 0 →
     (s.dev.st k).mor.learn = some (e, bin, due) → due ≤ s.env.tick → bin < 1024 → s.dev.ecc = [] →
     Undisturbed s.dev k s.env.tick → (∀ j x, (s.dev.st j).mor.learn = some x → x.2.1 < 1024) →
     ∃ t, exec .decisionInstant s = .next t ∧ OnlyDev s t ∧ (t.dev.st k).mor.learn = none ∧
       (let d := s.dev
        let old := Store.get zeroed d.mortar (1024 * k + bin)
        let leak := d.fld (Fd.CHk_MOR_CFG_LEAK k)
        let kept := if leak = 0 then old else old - rsh old leak
        let learns := d.morState k = morRamp ∨ d.morState k = morFull
        (learns → Store.get zeroed t.dev.mortar (1024 * k + bin) =
          sat 24 (kept + rsh (d.sfld (Fd.CHk_MOR_GAIN_KL k) * e) 22)) ∧
        (∀ a, 1024 * k ≤ a → a < 1024 * (k + 1) → (¬ learns ∨ a ≠ 1024 * k + bin) →
          Store.get zeroed t.dev.mortar a = Store.get zeroed d.mortar a)))

/-- ASRC_HOLD_TIMEOUT (R142, R143): a master that has not come back within HOLD frames: its converter unlocks, no longer
holds and begins its grid afresh; every other converter stays as it is. MORTAR_HOLD_TIMEOUT (R205, R206): after HOLD
wraps in HOLD without a lock the Mortar seeks again with a table that reads zero; the tables of the other strings stay
as they are. -/
def Obligations.HoldTimesRunOut : Prop :=
  (∀ (n : Fin 6) (h : Nat) (s : State), (s.dev.conv1 n.val).hold = some h → s.dev.fld Fd.ASRC_CFG_HOLD ≤ h →
     ∃ t, exec (.asrcHoldTimeout n) s = .next t ∧ OnlyDev s t ∧
       (t.dev.conv1 n.val).acq = false ∧ (t.dev.conv1 n.val).lock = false ∧ (t.dev.conv1 n.val).hold = none ∧
       (t.dev.conv1 n.val).grid = [] ∧ (t.dev.conv1 n.val).nextNum = 0 ∧ (t.dev.conv1 n.val).fade = (s.dev.conv1 n.val).fade ∧
       (∀ j, j ≠ n.val → t.dev.conv1 j = s.dev.conv1 j) ∧
       t.dev.bit (Fd.ASRCn_STATUS_LOCK n.val) = false ∧ t.dev.bit (Fd.ASRCn_STATUS_HOLD n.val) = false ∧
       ((s.dev.conv1 n.val).lock = true → t.dev.bit Fd.ROUTE_EVT_ASRC_UNLOCK = true) ∧
       t.dev = { s.dev with regs := t.dev.regs, conv := t.dev.conv }) ∧
  (∀ (k : Fin 8) (s : State), s.dev.morState k.val = morHold →
     s.dev.fld (Fd.CHk_MOR_LIM_HOLD k.val) ≤ (s.dev.st k.val).mor.wraps →
     ∃ t, exec (.mortarHoldTimeout k) s = .next t ∧ OnlyDev s t ∧ t.dev.morState k.val = morSeek ∧
       (∀ n, n < 1024 → Store.get zeroed t.dev.mortar (1024 * k.val + n) = 0) ∧
       (∀ a, a < 1024 * k.val ∨ 1024 * (k.val + 1) ≤ a → Store.get zeroed t.dev.mortar a = Store.get zeroed s.dev.mortar a) ∧
       t.dev.fld (Fd.CHk_MOR_CNT_CLEAR k.val) =
         min (2 ^ (Fd.CHk_MOR_CNT_CLEAR k.val).w - 1) (s.dev.fld (Fd.CHk_MOR_CNT_CLEAR k.val) + 1) ∧
       FieldsBut s.dev t.dev [Fd.CHk_MOR_STATUS_STATE k.val, Fd.CHk_MOR_STATUS_STEP k.val, Fd.CHk_MOR_STATUS_G k.val,
         Fd.CHk_MOR_CNT_CLEAR k.val])

/-! ### Strings: start-up, links, trips and retries (R99 to R106, R240, R256 to R266, R301 to R320, R329 to R333) -/

/-- ENUM_TIMEOUT (R99, R102, R264): a present cell whose link is still training is rejected with detail 1, one still in
management with detail 6, and both are failed. With enough cells left the string goes to PRECHARGE, else to START_WAIT
with STR_EN low, or to LATCHED when RETRY is severe. PRECHARGE_TIMEOUT (R99, R101, R102): every cell outside its class
window is failed. With enough cells left whose precharge conditions hold, the start test begins at QUIET with the first
fit cell; else the string goes to START_WAIT, or to LATCHED when RETRY is severe. That the cells are failed before the
conditions of the rest are judged, and that PRECHARGE ends here in any case, is the model's reading (log entry 49). -/
def Obligations.EntryTimeoutsJudgeTheCells : Prop :=
  (∀ (k : Fin 8) (s : State), s.env.frameStart = true → s.dev.islandOk (islCh k.val) = true →
     s.dev.phase k.val = phEnum → (s.dev.st k.val).pr.pinMode = false →
     s.dev.fld Fd.SYS_START0_ENUM_TO ≤ (s.dev.st k.val).pr.frames →
     ∃ t, exec (.enumTimeout k) s = .next t ∧ OnlyDev s t ∧
       (∀ p, p < 7 → s.dev.cellHere k.val p = true → s.dev.linkState k.val p = lkTraining →
         t.dev.linkState k.val p = lkRejected ∧ t.dev.fld (Fd.CELLc_LINK_DETAIL (cellIx k.val p)) = 1 ∧
         t.dev.failed k.val p = true) ∧
       (∀ p, p < 7 → s.dev.cellHere k.val p = true → s.dev.linkState k.val p = lkManage →
         t.dev.linkState k.val p = lkRejected ∧ t.dev.fld (Fd.CELLc_LINK_DETAIL (cellIx k.val p)) = 6 ∧
         t.dev.failed k.val p = true) ∧
       (t.dev.enoughCells k.val = true → t.dev.phase k.val = phPrecharge ∧ t.dev.enHigh k.val = s.dev.enHigh k.val) ∧
       (t.dev.enoughCells k.val = false →
         if s.dev.severe k.val srcRetry s.env.tick then t.dev.phase k.val = phLatched
         else t.dev.phase k.val = phStartWait ∧ t.dev.enHigh k.val = false ∧ t.dev.bit Fd.SYS_EVT_START_FAIL = true)) ∧
  (∀ (k : Fin 8) (s : State), s.env.frameStart = true → s.dev.islandOk (islCh k.val) = true → s.dev.phase k.val = phPrecharge →
     s.dev.fld Fd.SYS_START0_PRECHARGE_TO ≤ (s.dev.st k.val).pr.frames →
     ∃ t, exec (.prechargeTimeout k) s = .next t ∧ OnlyDev s t ∧
       (∀ p, p < 7 → s.dev.cellHere k.val p = true → s.dev.inWindow k.val p = false → t.dev.failed k.val p = true) ∧
       (∀ p, t.dev.enoughCells k.val = true → t.dev.preOk k.val s.env.tick = true → t.dev.testCell k.val = some p →
         t.dev.phase k.val = phTest ∧ t.dev.fld (Fd.CHk_DT_STATUS_STEP k.val) = 1 ∧ (t.dev.tst k.val).pos = p ∧
         (t.dev.tst k.val).f0 = s.env.tick) ∧
       (t.dev.enoughCells k.val = false ∨ t.dev.preOk k.val s.env.tick = false →
         if s.dev.severe k.val srcRetry s.env.tick then t.dev.phase k.val = phLatched
         else t.dev.phase k.val = phStartWait ∧ t.dev.enHigh k.val = false))

/-- START_TEST_STEP (R329): STEP follows the frames since the test began: QUIET, POS, NEG, then DRAIN; nothing else
changes. START_TEST_JUDGEMENT (R331, R333, R454): RESULT and R show the judgement of the means and TEST_DONE is set.
PASS leads to ARMED and gives the candidate baseline its R; any other result sets TEST_FAIL and leads to START_WAIT, or
to LATCHED when RETRY is severe. -/
def Obligations.StartTestsFollowTheFrames : Prop :=
  (∀ (k : Fin 8) (s : State), s.env.frameStart = true → s.dev.islandOk (islCh k.val) = true →
     s.dev.phase k.val = phTest → (s.dev.tst k.val).abort = none →
     (s.dev.tst k.val).restart = false →
     ∃ t, exec (.startTestStep k) s = .next t ∧ OnlyDev s t ∧
       (let w := s.dev.logS k.val + s.dev.logM k.val
        let n := (s.env.tick - (s.dev.tst k.val).f0) / 65536
        t.dev.fld (Fd.CHk_DT_STATUS_STEP k.val) = if n < w then 1 else if n < 2 * w then 2 else if n < 3 * w then 3 else 4) ∧
       OnlyFields s.dev t.dev [Fd.CHk_DT_STATUS_STEP k.val]) ∧
  (∀ (k : Fin 8) (s : State), s.env.frameStart = true → s.dev.islandOk (islCh k.val) = true →
     s.dev.phase k.val = phTest → (s.dev.tst k.val).restart = false →
     (4 * s.dev.logS k.val + 3 * s.dev.logM k.val ≤ (s.env.tick - (s.dev.tst k.val).f0) / 65536 ∨
       ∃ b, (s.dev.tst k.val).abort = some b ∧ b < s.env.tick) →
     ∃ t, exec (.startTestJudgement k) s = .next t ∧ OnlyDev s t ∧
       (let m := (s.dev.tst k.val).sum.toList.map (fun x => rsh x (10 + s.dev.fld (Fd.CHk_DT_CFG_MLOG k.val)))
        let j := s.dev.testResult k.val
          #v[lat m 0, lat m 1, lat m 2, lat m 3, lat m 4, lat m 5, lat m 6, lat m 7, lat m 8] (s.dev.tst k.val).abort.isSome
        t.dev.fld (Fd.CHk_DT_STATUS_RESULT k.val) = j.1 ∧ t.dev.fld (Fd.CHk_DT_RES_R k.val) = j.2 % 2 ^ 32 ∧
        t.dev.bit (Fd.CHk_LM_EVT_TEST_DONE k.val) = true ∧ t.dev.fld (Fd.CHk_DT_STATUS_STEP k.val) = 0 ∧
        (j.1 = 1 → t.dev.phase k.val = phArmed ∧ t.dev.fld (Fd.DIAG_Ck_R_CRDC k.val) = j.2 % 2 ^ 32) ∧
        (j.1 ≠ 1 → t.dev.bit (Fd.CHk_LM_EVT_TEST_FAIL k.val) = true ∧
          if s.dev.severe k.val srcRetry s.env.tick then t.dev.phase k.val = phLatched
          else t.dev.phase k.val = phStartWait ∧ t.dev.enHigh k.val = false)))

/-- ARM_COMPLETE (R99, R105, R308, R313): a string that found its feedback lost in the last frame goes to START_WAIT or
LATCHED, one under a stop level to SAFE with cause HOST; any other enters RUN in closed loop, or LATCHED with cause
HEADROOM when too few cells are active. -/
def Obligations.ArmedEntersRun : Prop :=
  ∀ (k : Fin 8) (s : State), s.env.frameStart = true → s.dev.islandOk (islCh k.val) = true → s.dev.phase k.val = phArmed →
    s.dev.fld Fd.SYS_START0_ARM_FRAMES ≤ (s.dev.st k.val).pr.frames →
    ∃ t, exec (.armComplete k) s = .next t ∧ OnlyDev s t ∧
      (inFrameBefore s.env.tick (s.dev.st k.val).fb.lostAt = true →
        if s.dev.severe k.val srcRetry s.env.tick then t.dev.phase k.val = phLatched
        else t.dev.phase k.val = phStartWait ∧ t.dev.enHigh k.val = false) ∧
      (inFrameBefore s.env.tick (s.dev.st k.val).fb.lostAt = false → (s.dev.st k.val).pr.stop = true →
        t.dev.phase k.val = phSafe ∧ t.dev.fld (Fd.CHk_PR_STATUS_CAUSE k.val) = causeHost ∧
        t.dev.fld (Fd.CHk_PR_TRIP_TICK k.val) = s.env.tick % 2 ^ (Fd.CHk_PR_TRIP_TICK k.val).w) ∧
      (inFrameBefore s.env.tick (s.dev.st k.val).fb.lostAt = false → (s.dev.st k.val).pr.stop = false →
        (s.dev.fld (Fd.CHk_WH_CFG_NMIN k.val) ≤ (s.dev.formRoles k.val).nact k.val →
          t.dev.phase k.val = phRun ∧ t.dev.fld (Fd.CHk_CL_STATUS_MODE k.val) = 1 ∧ t.dev.bit Fd.SYS_EVT_STR_RUN = true ∧
          (t.dev.st k.val).pr.release = some s.env.tick) ∧
        ((s.dev.formRoles k.val).nact k.val < s.dev.fld (Fd.CHk_WH_CFG_NMIN k.val) →
          t.dev.phase k.val = phLatched ∧ t.dev.fld (Fd.CHk_PR_STATUS_CAUSE k.val) = causeHeadroom))

/-- START_WAIT_EXPIRY (R103): 4.000 s after it entered START_WAIT a string enters ENUM again, with STR_EN high, no cell
marked failed and the links of its present cells training; its restarts are counted. CONFIRM_TIMEOUT (R305, R309): a
string whose safe state is not confirmed in time is LATCHED at once with STR_EN low and UNCONF set. -/
def Obligations.WaitingAndUnconfirmedStrings : Prop :=
  (∀ (k : Fin 8) (s : State), s.env.frameStart = true → s.dev.islandOk (islCh k.val) = true → s.dev.pwr.shutdown = false →
     s.dev.phase k.val = phStartWait →
     (s.dev.st k.val).pr.since + 98304000 ≤ s.env.tick →
     ∃ t, exec (.startWaitExpiry k) s = .next t ∧ OnlyDev s t ∧ t.dev.phase k.val = phEnum ∧ t.dev.enHigh k.val = true ∧
       (∀ p, t.dev.failed k.val p = false) ∧
       (∀ p, p < 7 → s.dev.cellHere k.val p = true → t.dev.linkState k.val p = lkTraining) ∧
       t.dev.fld (Fd.SYS_RESTART_CNT k.val) =
         min (2 ^ (Fd.SYS_RESTART_CNT k.val).w - 1) (s.dev.fld (Fd.SYS_RESTART_CNT k.val) + 1)) ∧
  (∀ (k : Fin 8) (s : State), s.dev.phase k.val = phSafe → (s.dev.st k.val).pr.handling = true →
     (s.dev.st k.val).pr.d + s.dev.fld (Fd.CHk_PR_CFG_CONFIRM k.val) ≤ s.env.tick →
     ∃ t, exec (.confirmTimeout k) s = .next t ∧ OnlyDev s t ∧ t.dev.phase k.val = phLatched ∧ t.dev.enHigh k.val = false ∧
       t.dev.bit (Fd.CHk_PR_STATUS_UNCONF k.val) = true ∧ t.dev.bit (Fd.CHk_PR_EVT_LATCHED k.val) = true ∧
       (t.dev.st k.val).pr.handling = false ∧ (∀ j, j < 8 → j ≠ k.val → t.dev.phase j = s.dev.phase j))

/-- STRING_RETRY_ENTRY (R308, R310): a string that may return enters RUN in closed loop, its retries counted with RETRY,
on its probe when the trip was of kind Probe, else with its release at this frame start; with too few cells active it is
LATCHED with cause HEADROOM. -/
def Obligations.RetryEntersRun : Prop :=
  ∀ (k : Fin 8) (s : State), s.env.frameStart = true → s.dev.islandOk (islCh k.val) = true → s.dev.mayReturn k.val s.env.tick = true →
    ∃ t, exec (.stringRetryEntry k) s = .next t ∧ OnlyDev s t ∧
      (s.dev.fld (Fd.CHk_WH_CFG_NMIN k.val) ≤ (s.dev.formRoles k.val).nact k.val →
        t.dev.phase k.val = phRun ∧ t.dev.fld (Fd.CHk_CL_STATUS_MODE k.val) = 1 ∧
        t.dev.bit (Fd.CHk_PR_EVT_RETRY k.val) = true ∧
        t.dev.fld (Fd.CHk_PR_CNT_RETRIES k.val) =
          min (2 ^ (Fd.CHk_PR_CNT_RETRIES k.val).w - 1) (s.dev.fld (Fd.CHk_PR_CNT_RETRIES k.val) + 1) ∧
        ((s.dev.st k.val).pr.kind = kindProbe → t.dev.fld (Fd.CHk_PR_STATUS_PHASE k.val) = 3 ∧
          (t.dev.st k.val).pr.release = none ∧ (t.dev.st k.val).pr.probe = some { start := s.env.tick, phi := 0, sv := 0, si := 0 }) ∧
        ((s.dev.st k.val).pr.kind ≠ kindProbe → t.dev.fld (Fd.CHk_PR_STATUS_PHASE k.val) = 0 ∧
          (t.dev.st k.val).pr.release = some s.env.tick ∧ (t.dev.st k.val).pr.probe = none)) ∧
      ((s.dev.formRoles k.val).nact k.val < s.dev.fld (Fd.CHk_WH_CFG_NMIN k.val) →
        t.dev.phase k.val = phLatched ∧ t.dev.fld (Fd.CHk_PR_STATUS_CAUSE k.val) = causeHeadroom)

/-- PROBE_JUDGEMENT (R311): 16T after the probe's last boundary, a string in RUN whose sums show at least the threshold
impedance passes and is released from that boundary on; one that shows less trips with cause PROBE and leaves RUN for
SAFE. -/
def Obligations.ProbePassesOrTrips : Prop :=
  ∀ (k : Fin 8) (p : Probe) (s : State), s.env.started = true → s.dev.inRun k.val = true →
    (s.dev.st k.val).pr.probe = some p →
    s.env.tick = p.start + s.dev.fld (Fd.CHk_PR_PROBE0_LEN k.val) * 64 + 16 →
    ∃ t, exec (.probeJudgement k) s = .next t ∧ OnlyDev s t ∧
      ((s.dev.fld (Fd.CHk_PR_SHORT0_ZTH k.val) : Int) * p.si ≤ p.sv * 2 ^ 15 →
        t.dev.fld (Fd.CHk_PR_STATUS_PHASE k.val) = 0 ∧ t.dev.bit (Fd.CHk_PR_EVT_PROBE_PASS k.val) = true ∧
        (t.dev.st k.val).pr.probe = none ∧ (t.dev.st k.val).pr.release = some (s.env.tick - 16) ∧
        t.dev.phase k.val = phRun ∧
        FieldsBut s.dev t.dev [Fd.CHk_PR_STATUS_PHASE k.val, Fd.CHk_PR_EVT_PROBE_PASS k.val]) ∧
      (p.sv * 2 ^ 15 < (s.dev.fld (Fd.CHk_PR_SHORT0_ZTH k.val) : Int) * p.si →
        t.dev.phase k.val = phSafe ∧ t.dev.fld (Fd.CHk_PR_STATUS_CAUSE k.val) = causeProbe ∧
        t.dev.fld (Fd.CHk_PR_STATUS_PHASE k.val) = 1 ∧ (t.dev.st k.val).pr.forceDue = true ∧
        t.dev.fld (Fd.CHk_CL_STATUS_MODE k.val) = 0 ∧ t.dev.bit (Fd.CHk_PR_EVT_TRIP k.val) = true)

/-- FAULT_WINDOW_CLOSE (R315): a window whose length has run out closes and its count reads 0; nothing else changes.
ACK_BOUND_EXPIRY (R240, R242): the oldest command that has passed its bound without an acknowledgement counts once as an
exceedance of its string. -/
def Obligations.WindowsCloseAndLateAcknowledgementsCount : Prop :=
  (∀ (k : Fin 8) (w : WinSrc) (x : Win) (s : State), vat (s.dev.st k.val).pr.win (winIx w) = some x →
     x.start + (s.dev.winCfg k.val (winIx w)).2 ≤ s.env.tick →
     ∃ t, exec (.faultWindowClose k w) s = .next t ∧ OnlyDev s t ∧
       (let f := match w with
          | .limit => Fd.CHk_PR_WCNT_LIMIT k.val
          | .retry => Fd.CHk_PR_STATUS_RETRIES k.val
          | .audio => Fd.CHk_PR_WCNT_AUDIO k.val
          | .mem => Fd.CHk_PR_WCNT_MEM k.val
          | .link => Fd.CHk_PR_WCNT_LINK k.val
        vat (t.dev.st k.val).pr.win (winIx w) = none ∧ t.dev.fld f = 0 ∧ FieldsBut s.dev t.dev [f] ∧
        (∀ i, i ≠ winIx w → vat (t.dev.st k.val).pr.win i = vat (s.dev.st k.val).pr.win i) ∧
        (∀ j, j ≠ k.val → t.dev.st j = s.dev.st j) ∧ t.dev = { s.dev with regs := t.dev.regs, str := t.dev.str })) ∧
  (∀ (c : Fin 56) (x : Pend) (s : State),
     (s.dev.cellC (c.val / 7) (c.val % 7)).pend.find?
       (fun y => !y.exceeded && decide (y.q + s.dev.fld (Fd.CHk_WH_SLOW_BOUND (c.val / 7)) < s.env.tick)) = some x →
     ∃ t, exec (.ackBoundExpiry c) s = .next t ∧ OnlyDev s t ∧
       t.dev.fld (Fd.CHk_WH_SLOWCNT_EXCEED (c.val / 7)) =
         min (2 ^ (Fd.CHk_WH_SLOWCNT_EXCEED (c.val / 7)).w - 1) (s.dev.fld (Fd.CHk_WH_SLOWCNT_EXCEED (c.val / 7)) + 1) ∧
       (t.dev.cellC (c.val / 7) (c.val % 7)).pend =
         (s.dev.cellC (c.val / 7) (c.val % 7)).pend.map (fun y => if y.q == x.q then { y with exceeded := true } else y) ∧
       (∀ j, j ≠ c.val / 7 → t.dev.st j = s.dev.st j))

/-- TELEMETRY_TAKEUP (R256, R257, R266) of an accepted link that was polled 21T before: a whole frame in time gives VBUS
and clears STALE; with none STALE is set and MISS counts, and the second in a row loses the link and fails the cell. -/
def Obligations.TelemetryIsTakenUpOrMissed : Prop :=
  ∀ (c : Fin 56) (rx : LinkRx) (s : State),
    let k := c.val / 7
    let p := c.val % 7
    s.dev.enHigh k = true → s.env.tick % 32 = (k + 5) % 32 → s.dev.cellHere k p = true → s.dev.linkState k p = lkAccepted →
    (s.dev.cellC k p).poll = some (s.env.tick - 21, false) → 21 ≤ s.env.tick →
    ∃ t, exec (.telemetryTakeup c rx) s = .next t ∧ OnlyDev s t ∧
      (∀ l b, rxBits rx (vat s.comps c.val).tx = some l → judgeFrame false l = .telemetry b →
        t.dev.vbus k p = (b.getD 0 0 + 256 * (b.getD 1 0 % 16)) % 2 ^ 12 ∧ t.dev.bit (Fd.CELLc_LINK_STALE c.val) = false ∧
        t.dev.linkState k p = lkAccepted) ∧
      (rxBits rx (vat s.comps c.val).tx = none →
        t.dev.bit (Fd.CELLc_LINK_STALE c.val) = true ∧
        t.dev.fld (Fd.CELLc_LINK_ERR_MISS c.val) =
          min (2 ^ (Fd.CELLc_LINK_ERR_MISS c.val).w - 1) (s.dev.fld (Fd.CELLc_LINK_ERR_MISS c.val) + 1) ∧
        (1 ≤ (s.dev.cellC k p).missRun → t.dev.linkState k p = lkLost ∧ t.dev.failed k p = true) ∧
        ((s.dev.cellC k p).missRun = 0 → t.dev.linkState k p = lkAccepted))

/-! ### The Lid and the Stockpot (R347, R348, R355 to R370) -/

/-- MAILBOX_PLAY, CANCEL, RESET, STOP, START, RESTART, ACK, HEARTBEAT and INVALID_CODE (R367, R368): with the Lid
working the request is answered: PENDING clears, CODE and TAG are the request's, RESULT is ARG for a code outside 1 to
8, PERM for a code that LID_PERMp does not permit, else the judgement of R368's table, and LID_EVT.MAILBOX is set. Only
an accepted request has its effect, and that effect is the code's. -/
def Obligations.MailboxRequestsAnswer : Prop :=
  ∀ (p : Fin 5) (arg : Byte) (tag : BitVec 16) (other : Byte) (i : Instr) (code : Nat) (s : State),
    ((i, code) ∈ [(Instr.mailboxPlay p arg tag, 1), (Instr.mailboxCancel p arg tag, 2), (Instr.mailboxReset p arg tag, 3),
      (Instr.mailboxStop p arg tag, 4), (Instr.mailboxStart p arg tag, 5), (Instr.mailboxRestart p arg tag, 6),
      (Instr.mailboxAck p arg tag, 7), (Instr.mailboxHeartbeat p arg tag, 8)] ∨
      i = Instr.mailboxInvalidCode p other arg tag ∧ code = other.toNat ∧ (code = 0 ∨ 8 < code)) →
    s.dev.lidRuns s.env = true →
    ∃ t, exec i s = .next t ∧ OnlyDev s t ∧
      (let a := arg.toNat
       let res := if code = 0 ∨ 8 < code then 4
         else if tbit (s.dev.fld (Fd.LID_PERMp_CODES p.val)) (code - 1) = false then 2 else s.dev.mbJudge code a
       let stat := [Fd.LID_MBp_STAT_PENDING p.val, Fd.LID_MBp_STAT_RESULT p.val, Fd.LID_MBp_STAT_CODE p.val,
         Fd.LID_MBp_STAT_TAG p.val, Fd.LID_EVT_MAILBOX]
       t.dev.bit (Fd.LID_MBp_STAT_PENDING p.val) = false ∧ t.dev.fld (Fd.LID_MBp_STAT_RESULT p.val) = res ∧
       t.dev.fld (Fd.LID_MBp_STAT_CODE p.val) = code ∧ t.dev.fld (Fd.LID_MBp_STAT_TAG p.val) = tag.toNat ∧
       t.dev.bit Fd.LID_EVT_MAILBOX = true ∧
       t.dev = { s.dev with regs := t.dev.regs, lid := t.dev.lid } ∧
       (res ≠ 1 → FieldsBut s.dev t.dev stat ∧ t.dev.lid = { s.dev.lid with mb := vset s.dev.lid.mb p.val none }) ∧
       (res = 1 →
         (code = 1 → a < 16 ∧ t.dev.ebit Fd.LID_ACT_HOSTACT a = true ∧ FieldsBut s.dev t.dev (Fd.LID_ACT_HOSTACT :: stat)) ∧
         (code = 2 → a < 16 ∧ t.dev.ebit Fd.LID_ACT_HOSTACT a = false ∧ FieldsBut s.dev t.dev (Fd.LID_ACT_HOSTACT :: stat)) ∧
         (code = 3 → a < 16 ∧ t.dev.ebit Fd.LID_LATCH_LATCHED a = false ∧
           FieldsBut s.dev t.dev (Fd.LID_LATCH_LATCHED :: stat)) ∧
         (code = 4 → a < 8 ∧ t.dev.ebit Fd.LID_STOP_STOP a = true ∧ FieldsBut s.dev t.dev (Fd.LID_STOP_STOP :: stat)) ∧
         (code = 5 → a < 8 ∧ t.dev.ebit Fd.LID_STOP_STOP a = false ∧ FieldsBut s.dev t.dev (Fd.LID_STOP_STOP :: stat)) ∧
         (code = 6 → a < 8 ∧ vat t.dev.lid.pulse a = true ∧ FieldsBut s.dev t.dev stat) ∧
         (code = 7 → a = 0 ∧ t.dev.fld Fd.LID_FLT_NEW_NEW = 0 ∧ FieldsBut s.dev t.dev (Fd.LID_FLT_NEW_NEW :: stat)) ∧
         (code = 8 → a = 0 ∧ vat t.dev.lid.hb p.val = 0 ∧ FieldsBut s.dev t.dev stat) ∧
         (code ≠ 6 → t.dev.lid.pulse = s.dev.lid.pulse ∧ t.dev.lid.rst = s.dev.lid.rst) ∧
         (code ≠ 8 → t.dev.lid.hb = s.dev.lid.hb)))

/-- CONTACT_CONVERSION (R347, R348): every 4 096 ticks LID_CADCi shows the code of input i. An input whose class has
come DEB times in a row takes it as its debounced state at once, used 64T later, and LID_EVT.CONTACT is set; any other
input keeps its state. RELAY_ENERGISE, HEARTBEAT_TIMEOUT and SAFE_DURATION_EXPIRY (R369, R370) at a Rack frame start. A
relay that has been free of its conditions for RLY_HOLD frames is energised. A heartbeat that is overdue, or a string
too long in SAFE, shows in LID_COND, whose newly present bits are noted in LID_FLT_NEW. -/
def Obligations.ContactsRelaysAndConditions : Prop :=
  (∀ (codes : List (BitVec 10)) (s : State), s.dev.lidRuns s.env = true → s.env.tick % 4096 = 0 →
     ∃ t, exec (.contactConversion codes) s = .next t ∧ OnlyDev s t ∧
       (∀ n, n < 8 → t.dev.fld (Fd.LID_CADCi_CODE n) = (codes.getD n 0).toNat) ∧
       (∀ n c, n < 8 → s.dev.cinClass n (codes.getD n 0).toNat = some c →
         let x := vat s.dev.lid.cin n
         let run := if x.cls = some c then x.run + 1 else 1
         let known := tbit (s.dev.fld Fd.LID_CIN_KNOWN) n && s.dev.fld (Fd.LID_CIN_STATE n) == c
         (vat t.dev.lid.cin n).cls = some c ∧ (vat t.dev.lid.cin n).run = run ∧
         (s.dev.fld Fd.LID_CINTH1_DEB ≤ run → known = false →
           t.dev.fld (Fd.LID_CIN_STATE n) = c ∧ tbit (t.dev.fld Fd.LID_CIN_KNOWN) n = true ∧
           t.dev.bit Fd.LID_EVT_CONTACT = true ∧ (vat t.dev.lid.cin n).next = some (c, s.env.tick + 64)) ∧
         (run < s.dev.fld Fd.LID_CINTH1_DEB ∨ known = true →
           t.dev.fld (Fd.LID_CIN_STATE n) = s.dev.fld (Fd.LID_CIN_STATE n) ∧
           tbit (t.dev.fld Fd.LID_CIN_KNOWN) n = tbit (s.dev.fld Fd.LID_CIN_KNOWN) n ∧
           (vat t.dev.lid.cin n).next = x.next)) ∧
       (∀ n, n < 8 → s.dev.cinClass n (codes.getD n 0).toNat = none →
         vat t.dev.lid.cin n = vat s.dev.lid.cin n ∧ t.dev.fld (Fd.LID_CIN_STATE n) = s.dev.fld (Fd.LID_CIN_STATE n)) ∧
       t.dev = { s.dev with regs := t.dev.regs, lid := { s.dev.lid with cin := t.dev.lid.cin } } ∧
       FieldsBut s.dev t.dev (Fd.LID_CIN_KNOWN :: Fd.LID_EVT_CONTACT ::
         (strings8.map Fd.LID_CIN_STATE ++ strings8.map Fd.LID_CADCi_CODE))) ∧
  ((∀ (r : Fin 4) (s : State), s.dev.lidRuns s.env = true → s.env.frameStart = true → s.dev.relayClear r.val = true →
     s.dev.fld Fd.LID_CFG1_RLY_HOLD ≤ vat s.dev.lid.rly r.val → s.dev.ebit Fd.LID_RLY_ENERGISED r.val = false →
     s.dev.pwr.relayHeld = false →
     ∃ t, exec (.relayEnergise r) s = .next t ∧ OnlyDev s t ∧ t.dev.relay r.val = true ∧ t.dev.bit Fd.LID_EVT_RELAY = true ∧
       (∀ j, j < 4 → j ≠ r.val → t.dev.ebit Fd.LID_RLY_ENERGISED j = s.dev.ebit Fd.LID_RLY_ENERGISED j) ∧
       OnlyFields s.dev t.dev [Fd.LID_RLY_ENERGISED, Fd.LID_EVT_RELAY]) ∧
   (∀ (i : Instr) (n : Nat) (s : State), s.dev.lidRuns s.env = true → s.env.frameStart = true →
     ((∃ p : Fin 5, i = .heartbeatTimeout p ∧ n = 30 ∧ tbit (s.dev.fld Fd.LID_CFG0_HB_MASK) p.val = true ∧
         s.dev.fld Fd.LID_CFG0_HB_T ≤ vat s.dev.lid.hb p.val) ∨
       ∃ k : Fin 8, i = .safeDurationExpiry k ∧ n = 8 + k.val ∧ s.dev.present k.val = true ∧
         s.dev.fld Fd.LID_CFG1_SAFE_T ≤ vat s.dev.lid.safeN k.val) →
     ∃ t, exec i s = .next t ∧ OnlyDev s t ∧
       t.dev.fld Fd.LID_COND_COND = s.dev.conditions ∧ tbit (t.dev.fld Fd.LID_COND_COND) n = true ∧
       (tbit (s.dev.fld Fd.LID_COND_COND) n = false →
         tbit (t.dev.fld Fd.LID_FLT_NEW_NEW) n = true ∧ t.dev.bit Fd.LID_EVT_COND = true) ∧
       OnlyFields s.dev t.dev [Fd.LID_COND_COND, Fd.LID_FLT_NEW_NEW, Fd.LID_EVT_COND]))

/-- STOCKPOT_MAP_LOAD, PLAY_START, REPETITION_END, GAP_END and FADE_END (R357, R359, R361, R366). With no valid map the
store is in NO_STORE, else MAPGEN shows the map's generation. Playback starts 1 179 648T after FILL began and again
after each gap, with START set and output sample 0. A repetition's end sets END and enters GAP for GAP × 65 536/P
samples; the owner's last one spends its entry. A faded-out message gives way to the new one's FILL, or to IDLE. A device
that does not answer leaves the store in NO_STORE too; which page of the map blocks holds the map, and that
the device's answer stands in the state, is log entry 37, and that START is set at each repetition is log entry 36. -/
def Obligations.StockpotPlaysMessages : Prop :=
  (∀ (s : State), s.dev.lidRuns s.env = true → s.dev.pot.mapLoading = true →
    ∃ t, exec .stockpotMapLoad s = .next t ∧ OnlyDev s t ∧ t.dev.pot.mapLoading = false ∧
      (∀ gen blk page m, s.env.nandAnswers = true → ({ s.dev with pot := { s.dev.pot with mapLoading := false, reloc := none } } : Dev).findMap s.env =
          some (gen, blk, page, m) →
        t.dev.pot.map = m ∧ t.dev.pot.mapAt = (blk, page) ∧ t.dev.pot.store = true ∧
        t.dev.fld Fd.STOCKPOT_MAPGEN_GEN = gen % 2 ^ 32 ∧ t.dev.potState ≠ potNoStore) ∧
      (s.env.nandAnswers = false ∨ ({ s.dev with pot := { s.dev.pot with mapLoading := false, reloc := none } } : Dev).findMap s.env = none →
        t.dev.potState = potNoStore ∧ t.dev.pot.store = false ∧ t.dev.pot.out = 0 ∧
        FieldsBut s.dev t.dev [Fd.STOCKPOT_STATUS_STATE, Fd.STOCKPOT_STATUS_BUF])) ∧
  (∀ (i : Instr) (s : State), s.dev.lidRuns s.env = true → s.dev.sampleBoundary s.env = true →
    (i = .stockpotPlayStart ∧ s.dev.potState = potFill ∧ s.dev.pot.store = true ∧ s.dev.pot.fillAt + 1179648 ≤ s.env.tick ∨
      i = .stockpotGapEnd ∧ s.dev.potState = potGap ∧ s.dev.pot.gapLeft = 0) →
    ∃ t, exec i s = .next t ∧ OnlyDev s t ∧ t.dev.potState = potPlay ∧ t.dev.pot = { s.dev.pot with n := 0 } ∧
      t.dev.bit Fd.STOCKPOT_EVT_START = true ∧ FieldsBut s.dev t.dev [Fd.STOCKPOT_STATUS_STATE, Fd.STOCKPOT_EVT_START]) ∧
  (∀ s : State, s.dev.lidRuns s.env = true → s.dev.potState = potPlay → 0 < s.dev.pot.n →
    s.dev.repLen s.dev.pot.dir ≤ s.dev.pot.n →
    ∃ t, exec .stockpotRepetitionEnd s = .next t ∧ OnlyDev s t ∧
      (let o := s.dev.lid.owner.getD 0
       t.dev.potState = potGap ∧ t.dev.bit Fd.STOCKPOT_EVT_END = true ∧ t.dev.pot.out = 0 ∧
       t.dev.pot.reps = s.dev.pot.reps + 1 ∧ t.dev.pot.gapLeft = s.dev.fld (Fd.LID_PRIe_REP_GAP o) * 65536 / s.dev.period ∧
       (s.dev.fld (Fd.LID_PRIe_REP_COUNT o) = s.dev.pot.reps + 1 → o < 16 →
         t.dev.ebit Fd.LID_LATCH_SPENT o = true ∧ t.dev.ebit Fd.LID_LATCH_LATCHED o = false ∧
         t.dev.ebit Fd.LID_ACT_HOSTACT o = false) ∧
       (s.dev.fld (Fd.LID_PRIe_REP_COUNT o) ≠ s.dev.pot.reps + 1 →
         FieldsBut s.dev t.dev [Fd.STOCKPOT_STATUS_STATE, Fd.STOCKPOT_STATUS_BUF, Fd.STOCKPOT_EVT_END]))) ∧
  (∀ s : State, s.dev.lidRuns s.env = true → s.dev.potState = potFade → s.dev.pot.fadePos = s.dev.fadeN →
    ∃ t, exec .stockpotFadeEnd s = .next t ∧ OnlyDev s t ∧ t.dev.pot.out = 0 ∧ t.dev.pot.buf = [] ∧ t.dev.pot.after = none ∧
      (s.dev.pot.after = none → t.dev.potState = potIdle ∧ t.dev.fld Fd.STOCKPOT_STATUS_MSG = 0) ∧
      (∀ dir b, s.dev.pot.after = some (dir, b) → t.dev.potState = potFill ∧ t.dev.pot.dir = dir ∧ t.dev.pot.fillAt = b ∧
        t.dev.pot.nextPage = 0 ∧ t.dev.fld Fd.STOCKPOT_STATUS_MSG = (s.dev.message dir).msg % 2 ^ 16) ∧
      FieldsBut s.dev t.dev [Fd.STOCKPOT_STATUS_STATE, Fd.STOCKPOT_STATUS_MSG, Fd.STOCKPOT_STATUS_BUF])

/-- NAND_PAGE_READ_DONE, NAND_ERASE_DONE and NAND_PROGRAM_DONE (R363 to R365). A page that fails its checks marks its
message damaged and counts as uncorrectable; a corrected one counts. Patrol goes on to the next page, or, after the last of
a message, compares the CRC of what it read, marking the message damaged if they differ, and goes on to the next message;
after the last message the pass counts. Each operation of a relocation leads to the next: the target's erase to the copies,
each copy read to its program, the last to the map, whose new generation names the target, that to the source's erase, which
completes the relocation. A failed erase or program of the target, or erase of the source, marks that block bad; one of a
map block stops relocation. That a failed operation leaves the content as it was, and that the mark is written at once, is
the model's reading (log entry 37).
SNAPSHOT_COMPLETE (R413, R414): the words read, the tick of the snapshot, the reads in error and the next sequence number
stand in the set's registers together, for each of the 16 sets, and BG_EVT.SNAP is set. DIAG_WINDOW_END (R335, R336): ZM,
ZA, CA and AV of a window that ended one boundary before stand in the string's registers; VALID stands exactly for a whole
window of good boundaries with current and a pilot of at least PVMIN, STEADY exactly for a valid one that differs from the
valid one before by no more than STAB allows. -/
def Obligations.NandSnapshotsAndWindowsComplete : Prop :=
  ((∀ (ecc : EccStatus) (s : State) (dir q : Nat), s.dev.lidRuns s.env = true → s.dev.pot.op = some (.play dir q) →
    ∃ t, exec (.nandPageReadDone ecc) s = .next t ∧ OnlyDev s t ∧
      (let m := s.dev.message dir
       let page := byteNats (s.env.nandPage (s.dev.messageRow dir (q % m.pages)))
       let bad := ecc == .uncorrectable || !(pageOk m (q % m.pages) page)
       t.dev.fld Fd.STOCKPOT_CNT_UNC = (if bad then min 255 (s.dev.fld Fd.STOCKPOT_CNT_UNC + 1) else s.dev.fld Fd.STOCKPOT_CNT_UNC) ∧
       t.dev.fld Fd.STOCKPOT_CNT_CORR = (if bad = false ∧ ecc ≠ .clean then min 255 (s.dev.fld Fd.STOCKPOT_CNT_CORR + 1)
         else s.dev.fld Fd.STOCKPOT_CNT_CORR) ∧
       (bad = true → dir < 64 → t.dev.damagedAt dir = true ∧ t.dev.bit Fd.STOCKPOT_EVT_DAMAGED = true) ∧
       FieldsBut s.dev t.dev [Fd.STOCKPOT_CNT_UNC, Fd.STOCKPOT_CNT_CORR, Fd.STOCKPOT_BAD0_BAD, Fd.STOCKPOT_BAD1_BAD,
         Fd.STOCKPOT_EVT_DAMAGED, Fd.STOCKPOT_STATUS_BUF])) ∧
  (∀ (ok : Bool) (b : Nat) (r : Reloc) (s : State), s.dev.lidRuns s.env = true → s.dev.pot.op = some (.eraseTarget b) →
    s.dev.pot.reloc = some r →
    ∃ t, exec (.nandEraseDone ok) s = .next t ∧ t.pending = s.pending ∧ t.comps = s.comps ∧
      t.env = (if ok then s.env.nandErase b else s.env.markBad b) ∧
      t.dev.pot.reloc = some { r with step := if ok then 1 else 0, page := 0, data := [] } ∧
      FieldsBut s.dev t.dev [Fd.STOCKPOT_POOL_SPARE, Fd.STOCKPOT_POOL_BAD]) ∧
  (∀ (p : Nat) (r : Reloc) (s : State), s.dev.lidRuns s.env = true → s.dev.pot.op = some (.copyProgram p) →
    s.dev.pot.reloc = some r →
    ∃ t u, exec (.nandProgramDone true) s = .next t ∧ exec (.nandProgramDone false) s = .next u ∧
      t.pending = s.pending ∧ t.comps = s.comps ∧ u.pending = s.pending ∧ u.comps = s.comps ∧
      t.env = s.env.nandProgram (r.target * 64 + p) r.data ∧
      t.dev.pot.reloc = some { r with step := if p = 63 then 2 else 1, page := p + 1, data := [] } ∧ t.dev.regs = s.dev.regs ∧
      u.env = s.env.markBad r.target ∧ u.dev.pot.reloc = some { r with step := 0, page := 0, data := [] } ∧
      u.dev.fld Fd.STOCKPOT_CNT_RELOC_FAIL = min 255 (s.dev.fld Fd.STOCKPOT_CNT_RELOC_FAIL + 1)) ∧
  (∀ (ecc : EccStatus) (s : State) (dir q : Nat), s.dev.lidRuns s.env = true → s.dev.pot.op = some (.patrol dir q) →
    s.dev.pot.patDir = dir → s.dev.pot.patPage = q → dir < 64 →
    ∃ t, exec (.nandPageReadDone ecc) s = .next t ∧ OnlyDev s t ∧
      (let m := s.dev.message dir
       let page := byteNats (s.env.nandPage (s.dev.messageRow dir q))
       let bad := ecc == .uncorrectable || !(pageOk m q page)
       let crc := (page.take (dataBytes m q)).foldl crc32Step (if q = 0 then crc32Init else s.dev.pot.patCrc)
       let wraps := m.pages ≤ q + 1 ∧ s.dev.img.cfg.msgDir.length ≤ dir + 1
       t.dev.fld Fd.STOCKPOT_CNT_UNC = (if bad then min 255 (s.dev.fld Fd.STOCKPOT_CNT_UNC + 1) else s.dev.fld Fd.STOCKPOT_CNT_UNC) ∧
       t.dev.fld Fd.STOCKPOT_CNT_CORR = (if bad = false ∧ ecc ≠ .clean then min 255 (s.dev.fld Fd.STOCKPOT_CNT_CORR + 1)
         else s.dev.fld Fd.STOCKPOT_CNT_CORR) ∧
       (bad = true → t.dev.damagedAt dir = true ∧ t.dev.bit Fd.STOCKPOT_EVT_DAMAGED = true) ∧
       (q + 1 < m.pages → t.dev.pot.patDir = dir ∧ t.dev.pot.patPage = q + 1 ∧ t.dev.pot.patCrc = crc) ∧
       (m.pages ≤ q + 1 → t.dev.pot.patDir = (if s.dev.img.cfg.msgDir.length ≤ dir + 1 then 0 else dir + 1) ∧
         t.dev.pot.patPage = 0 ∧ t.dev.pot.patCrc = crc32Init ∧ (crc32End crc ≠ m.crc → t.dev.damagedAt dir = true)) ∧
       t.dev.fld Fd.STOCKPOT_PATROL_PASSES = (if wraps then min 65535 (s.dev.fld Fd.STOCKPOT_PATROL_PASSES + 1)
         else s.dev.fld Fd.STOCKPOT_PATROL_PASSES) ∧
       (wraps → t.dev.bit Fd.STOCKPOT_EVT_PASS = true) ∧
       FieldsBut s.dev t.dev [Fd.STOCKPOT_CNT_UNC, Fd.STOCKPOT_CNT_CORR, Fd.STOCKPOT_BAD0_BAD, Fd.STOCKPOT_BAD1_BAD,
         Fd.STOCKPOT_EVT_DAMAGED, Fd.STOCKPOT_EVT_PASS, Fd.STOCKPOT_PATROL_PASSES, Fd.STOCKPOT_PATROL_BLOCK])) ∧
  (∀ (ecc : EccStatus) (p : Nat) (r : Reloc) (s : State), s.dev.lidRuns s.env = true → s.dev.pot.op = some (.copyRead p) →
    s.dev.pot.reloc = some r →
    ∃ t, exec (.nandPageReadDone ecc) s = .next t ∧ OnlyDev s t ∧ t.dev.pot.op = some (.copyProgram p) ∧
      t.dev.pot.reloc = some { r with data := s.env.nandPage (s.dev.pot.map.getD r.logical 0 * 64 + p) } ∧
      FieldsBut s.dev t.dev [Fd.STOCKPOT_CNT_UNC, Fd.STOCKPOT_CNT_CORR, Fd.STOCKPOT_BAD0_BAD, Fd.STOCKPOT_BAD1_BAD,
        Fd.STOCKPOT_EVT_DAMAGED]) ∧
  (∀ (b : Nat) (r : Reloc) (s : State), s.dev.lidRuns s.env = true → s.dev.pot.op = some (.mapErase b) →
    s.dev.pot.reloc = some r →
    ∃ t u, exec (.nandEraseDone true) s = .next t ∧ exec (.nandEraseDone false) s = .next u ∧
      t.pending = s.pending ∧ t.comps = s.comps ∧ t.env = s.env.nandErase b ∧ t.dev.pot.op = some (.mapProgram b 0) ∧
      t.dev.regs = s.dev.regs ∧
      OnlyDev s u ∧ u.dev.pot.relocStop = true ∧ u.dev.pot.reloc = none ∧ u.dev.regs = s.dev.regs) ∧
  (∀ (b p : Nat) (r : Reloc) (s : State), s.dev.lidRuns s.env = true → s.dev.pot.op = some (.mapProgram b p) →
    s.dev.pot.reloc = some r →
    ∃ t u, exec (.nandProgramDone true) s = .next t ∧ exec (.nandProgramDone false) s = .next u ∧
      (let gen := (s.dev.fld Fd.STOCKPOT_MAPGEN_GEN + 1) % 2 ^ 32
       let map := s.dev.pot.map.set r.logical r.target
       t.pending = s.pending ∧ t.comps = s.comps ∧ t.env = s.env.nandProgram (b * 64 + p) (mapPage gen map) ∧
       t.dev.pot.map = map ∧ t.dev.pot.mapAt = (b, p) ∧ t.dev.fld Fd.STOCKPOT_MAPGEN_GEN = gen ∧
       t.dev.pot.reloc = some { r with step := 3, page := s.dev.pot.map.getD r.logical 0, data := [] } ∧
       FieldsBut s.dev t.dev [Fd.STOCKPOT_MAPGEN_GEN, Fd.STOCKPOT_POOL_SPARE, Fd.STOCKPOT_POOL_BAD]) ∧
      OnlyDev s u ∧ u.dev.pot.relocStop = true ∧ u.dev.pot.reloc = none ∧ u.dev.regs = s.dev.regs) ∧
  (∀ (ok : Bool) (b : Nat) (r : Reloc) (s : State), s.dev.lidRuns s.env = true → s.dev.pot.op = some (.release b) →
    s.dev.pot.reloc = some r →
    ∃ t, exec (.nandEraseDone ok) s = .next t ∧ t.pending = s.pending ∧ t.comps = s.comps ∧
      t.env = (if ok then s.env.nandErase b else s.env.markBad b) ∧ t.dev.pot.reloc = none ∧
      t.dev.pot.refresh = s.dev.pot.refresh.drop 1 ∧
      t.dev.fld Fd.STOCKPOT_CNT_RELOC = min 255 (s.dev.fld Fd.STOCKPOT_CNT_RELOC + 1) ∧
      t.dev.bit Fd.STOCKPOT_EVT_RELOC = true ∧
      FieldsBut s.dev t.dev [Fd.STOCKPOT_CNT_RELOC, Fd.STOCKPOT_EVT_RELOC, Fd.STOCKPOT_POOL_SPARE, Fd.STOCKPOT_POOL_BAD])) ∧
  (∀ (x : SnapSt) (s : State), s.dev.hostRuns = true → s.dev.bg.snap = some x → x.set < 16 →
    x.vals.length = s.dev.fld (Fd.BG_SNAP_SETs_COUNT x.set) → x.vals.length ≤ 16 →
    ∃ t, exec .snapshotComplete s = .next t ∧ OnlyDev s t ∧ t.dev.bg.snap = none ∧
      (∀ j, j < x.vals.length → t.dev.reg (Reg.BG_SNAPs_Dj x.set j) = x.vals.getD j 0) ∧
      t.dev.reg (Reg.BG_SNAPs_TICK x.set) = BitVec.ofNat 32 x.tick ∧
      t.dev.fld (Fd.BG_SNAPs_STAT_SEQ x.set) = (s.dev.fld (Fd.BG_SNAPs_STAT_SEQ x.set) + 1) % 65536 ∧
      (∀ j, j < 16 → tbit (t.dev.fld (Fd.BG_SNAPs_STAT_ERR x.set)) j = x.errs.getD j false) ∧
      t.dev.bit Fd.BG_EVT_SNAP = true ∧ ((∃ j, j < 16 ∧ x.errs.getD j false = true) → t.dev.bit Fd.BG_EVT_TLM_ERR = true) ∧
      RegsBut s.dev t.dev (Reg.BG_SNAPs_TICK x.set :: Reg.BG_SNAPs_STAT x.set :: Reg.BG_EVT ::
        (upTo x.vals.length).map (Reg.BG_SNAPs_Dj x.set))) ∧
  (∀ s : State, s.env.tick % s.dev.windowTicks = 0 → s.dev.windowTicks ≤ s.env.tick → s.dev.domRun domSieve = true →
    ∃ t, exec .diagWindowEnd s = .next t ∧ OnlyDev s t ∧
      (∀ k w, k < 8 → s.dev.present k = true → s.dev.bit (Fd.CHk_DT_CFG_CLASS k) = true →
        w.start = s.env.tick - s.dev.windowTicks →
        ((vat s.dev.diag k).win = w ∧ w.n ≠ 0 ∨
          (vat s.dev.diag k).closed = some w ∧ ((vat s.dev.diag k).win.start ≠ w.start ∨ (vat s.dev.diag k).win.n = 0)) →
        let r := s.dev.diagResult k w
        let full := 2 ^ s.dev.fld Fd.DIAG_CFG_WLOG
        let v2 := (w.vs * w.vs + w.vc * w.vc).toNat
        let i2 := (w.is * w.is + w.ic * w.ic).toNat
        let valid := w.n = full ∧ w.good = true ∧ 0 < i2 ∧
          (s.dev.fld Fd.DIAG_PVMIN_PVMIN * full) * (s.dev.fld Fd.DIAG_PVMIN_PVMIN * full) * 2 ^ 46 ≤ 4 * v2
        let stab := 2 ^ s.dev.fld Fd.DIAG_CFG_STAB
        t.dev.fld (Fd.DIAG_Mk_Z_ZM k) = r.1 % 2 ^ 32 ∧ t.dev.sfld (Fd.DIAG_Mk_A_ZA k) = r.2.1 ∧
        t.dev.fld (Fd.DIAG_Mk_C_CA k) = r.2.2.1 % 2 ^ 32 ∧ t.dev.fld (Fd.DIAG_Mk_V_AV k) = r.2.2.2 % 2 ^ 16 ∧
        (t.dev.bit (Fd.DIAG_Mk_A_VALID k) = true ↔ valid) ∧
        (t.dev.bit (Fd.DIAG_Mk_A_STEADY k) = true ↔ valid ∧ ∃ z a, (vat s.dev.diag k).prev = some (z, a) ∧
          ((r.1 : Int) - z).natAbs ≤ r.1 / stab ∧ (r.2.1 - a).natAbs ≤ 0x8000 / stab)) ∧
      (∀ k, k < 8 → s.dev.present k = false ∨ s.dev.bit (Fd.CHk_DT_CFG_CLASS k) = false →
        vat t.dev.diag k = vat s.dev.diag k ∧
        ∀ a ∈ [Reg.DIAG_Mk_Z k, Reg.DIAG_Mk_A k, Reg.DIAG_Mk_C k, Reg.DIAG_Mk_V k], t.dev.reg a = s.dev.reg a) ∧
      (∀ a, a < 0x1E000 ∨ 0x1F000 ≤ a → t.dev.reg a = s.dev.reg a) ∧
      t.dev = { s.dev with regs := t.dev.regs, diag := t.dev.diag })

/-! ### Background activities and DIAG (R335 to R342, R410 to R415) -/

/-- SENSE_CAL_ROUND_CLOSE and CELL_CAL_ROUND_CLOSE (R410 to R412) once the round's last slot has ended. MEAN is the
rounded mean of the round's sum, saturated; OUT says that it lies beyond the tolerance; ROUNDS counts. A cell without a
valid sample reads NONE; one with samples shows its mean and its deviation from the others. The round's sums start again
at zero. That MEAN and DEV saturate and OUT is judged before they do is the model's reading (log entry 38). -/
def Obligations.CalibrationRoundsClose : Prop :=
  (∀ (n : Fin 20) (s : State),
    s.dev.roundEnds s.env.tick bgSense n.val (vat s.dev.bg.scal n.val).slots (s.dev.fld Fd.BG_SCAL_CFG_SLOTS) = true →
    ∃ t, exec (.senseCalRoundClose n) s = .next t ∧ OnlyDev s t ∧
      (let x := vat s.dev.bg.scal n.val
       let mean := sat 24 (rdiv (x.sum * 2 ^ 23) (512 * s.dev.fld Fd.BG_SCAL_CFG_SLOTS))
       let out := decide (((s.dev.fld Fd.BG_SCAL_CFG_TOL * 256 : Nat) : Int) < (mean.natAbs : Int))
       t.dev.sfld (Fd.BG_SCALn_MEAN_MEAN n.val) = mean ∧ t.dev.bit (Fd.BG_SCALn_STAT_OUT n.val) = out ∧
       t.dev.bit (Fd.BG_SCALn_STAT_RUN n.val) = x.run ∧
       t.dev.fld (Fd.BG_SCALn_STAT_ROUNDS n.val) = min 65535 (s.dev.fld (Fd.BG_SCALn_STAT_ROUNDS n.val) + 1) ∧
       t.dev.bit Fd.BG_EVT_SENSE_DONE = true ∧
       t.dev.bit Fd.BG_EVT_SENSE_TOL = (s.dev.bit Fd.BG_EVT_SENSE_TOL || (out && !s.dev.bit (Fd.BG_SCALn_STAT_OUT n.val))) ∧
       vat t.dev.bg.scal n.val = default ∧ (∀ j, j ≠ n.val → vat t.dev.bg.scal j = vat s.dev.bg.scal j) ∧
       RegsBut s.dev t.dev [Reg.BG_SCALn_MEAN n.val, Reg.BG_SCALn_STAT n.val, Reg.BG_EVT])) ∧
  (∀ (c : Fin 56) (s : State),
    s.dev.roundEnds s.env.tick bgCell c.val (vat s.dev.bg.ccal c.val).slots (s.dev.fld Fd.BG_CCAL_CFG_SLOTS) = true →
    ∃ t, exec (.cellCalRoundClose c) s = .next t ∧ OnlyDev s t ∧
      (let x := vat s.dev.bg.ccal c.val
       let dev := rdiv (16 * (60 * (x.a : Int) - x.b)) (60 * x.n)
       t.dev.bit Fd.BG_EVT_CELL_DONE = true ∧ vat t.dev.bg.ccal c.val = default ∧
       t.dev.bit (Fd.BG_CCALc_NONE c.val) = (x.n == 0) ∧
       (x.n ≠ 0 → t.dev.fld (Fd.BG_CCALc_AVG c.val) = (rdiv x.a x.n).toNat % 4096 ∧
         t.dev.sfld (Fd.BG_CCALc_DEV c.val) = sat 16 dev ∧
         t.dev.bit (Fd.BG_CCALc_OUT c.val) = decide ((s.dev.fld Fd.BG_CCAL_CFG_TOL : Int) < (dev.natAbs : Int))) ∧
       (x.n = 0 → FieldsBut s.dev t.dev [Fd.BG_CCALc_NONE c.val, Fd.BG_EVT_CELL_DONE]) ∧
       RegsBut s.dev t.dev [Reg.BG_CCALc c.val, Reg.BG_EVT]))

/-- DECISION_INSTANT (R182, R183, R213) of a string in closed loop: from the reference in force, held within the limit, and
the fast current sample of two ticks before, it forms the error and decides: up or down outside the wide band, outside the
narrow one once the hold-off of that direction is over, held during it, limited where the level can go no further, held
while the current input has been at its rail for eight decisions. ISSUE_TICK (R186, R221, R222, R227, R228): the latest
decision at least two ticks old that wants a step moves one active cell by one level: of those that are neither failed nor
slow, not yet at that level and have dwelt 64T, the one that comes first under R228's ranking; with none fit the step is
declined, with no candidate the period is limited. Without a wanted step (R229 to R231, R234) the second command of a pair
goes out, else a failed cell's BYP, else a parked or held spare cell goes to ZL, else a pair of cells begins, one up and one
down. In fallback (R215) the cell whose turn it is takes the state that its carrier gives against the modulation index,
once it has dwelt. That boundary values come into force within these commands at their tick is log entry 63. -/
def Obligations.InnerLoopAndWhiskCommandTheCells : Prop :=
  (∀ (k : Nat) (s : State), LiveStr s k → s.env.started = true → s.env.tick % 2 = 0 → 2 ≤ s.env.tick →
     s.dev.produced islSieve (s.env.tick - 2) = true → s.dev.inRun k = true → s.dev.closed k = true →
     Undisturbed s.dev k s.env.tick → Positions s.dev k → (∀ p ∈ s.dev.aq k, s.dev.failed k p = false) → s.dev.ecc = [] →
     (s.dev.st k).ctl.inj = none → s.dev.fld (Fd.CHk_PR_OCF_N k) ≠ 0 →
     (s.dev.fld (Fd.CHk_PR_OCF_LEVEL k) ≤ (vat s.dev.sieve (8 + k)).fast.natAbs →
       (s.dev.st k).pr.ocRun + 1 < s.dev.fld (Fd.CHk_PR_OCF_N k)) →
     ∃ t, exec .decisionInstant s = .next t ∧ OnlyDev s t ∧
       (let now := s.env.tick
        let x := (s.dev.st k).ctl
        let im := (vat s.dev.sieve (8 + k)).fast
        let iref := dueBy x.irefNext now x.iref
        let set := s.dev.eff (now - 16) (Fd.CHk_ILIM_LIMIT k)
        let live := if s.dev.fld (Fd.CHk_PR_STATUS_PHASE k) = 3 then min set (s.dev.fld (Fd.CHk_PR_PROBE2_PILIM k)) else set
        let ir := clampI (-(live * 2 ^ 15 : Int)) (live * 2 ^ 15) (sat 40 iref)
        let err := ir - im * 2 ^ 15
        let hb : Int := s.dev.fld (Fd.CHk_IL_BAND_HB k) * 2 ^ 15
        let hb2 : Int := s.dev.fld (Fd.CHk_IL_BAND_HB2 k) * 2 ^ 15
        let level := sumI ((s.dev.aq k).map (s.dev.lvl k))
        let nact := (s.dev.aq k).length
        let rail := (im = 32767 ∨ im = -32768) ∧ 7 ≤ x.railN
        let band : Want :=
          if hb2 < err ∨ (hb < err ∧ x.holdUp ≤ now) then .up
          else if hb < err then .held
          else if err < -hb2 ∨ (err < -hb ∧ x.holdDn ≤ now) then .down
          else if err < -hb then .held
          else .none
        let room : Want := if (band = .up ∧ level = nact) ∨ (band = .down ∧ level = -(nact : Int)) then .limited else band
        let want : Want := if (room = .up ∨ room = .down) ∧ rail then .held else room
        (∃ y, (t.dev.st k).ctl.dec.head? = some y ∧ y.t = now ∧ y.want = want ∧ y.err = err ∧ y.im = im) ∧
        (t.dev.st k).ctl.iref = iref ∧ (t.dev.st k).ctl.limited = (x.limited || want == .limited) ∧
        (t.dev.st k).ctl.clamped = (x.clamped || ir != sat 40 iref) ∧
        t.dev.fld (Fd.CHk_ILIM_LIVE k) = live % 2 ^ (Fd.CHk_ILIM_LIVE k).w ∧
        (t.dev.bit (Fd.CHk_FB_STATUS_RAIL k) = true ↔ rail) ∧
        t.dev.fld (Fd.CHk_CL_STATUS_NACT k) = nact % 2 ^ (Fd.CHk_CL_STATUS_NACT k).w ∧
        t.dev.fld (Fd.CHk_CL_STATUS_LEVEL k) = ux (Fd.CHk_CL_STATUS_LEVEL k).w level)) ∧
  (∀ (k : Nat) (s : State), k = s.env.tick % 8 → LiveStr s k → s.env.started = true → s.dev.inRun k = true →
     s.dev.closed k = true → Undisturbed s.dev k s.env.tick → Positions s.dev k →
     ∃ t, exec .issueTick s = .next t ∧ OnlyDev s t ∧
       (let q := s.env.tick
        let d := s.dev
        let x := (d.st k).ctl
        let read := x.dec.find? (fun y => decide (y.t + 2 ≤ q))
        let zero (p : Nat) : Nat := d.fld (Fd.CHk_WH_CELLp_ZF k p)
        let same (r : Nat) : Prop := t.dev.cmdOf k r = d.cmdOf k r ∧ (t.dev.cellC k r).dwellFrom = (d.cellC k r).dwellFrom
        let moved (p st : Nat) : Prop :=
          t.dev.cmdOf k p = st ∧ (t.dev.cellC k p).dwellFrom = q ∧ ∀ r, r < 7 → r ≠ p → same r
        let wait (p : Nat) : Prop := 64 ≤ d.dwell k p q
        let valid (p : Nat) : Prop := p ∈ d.aq k ∧ d.failed k p = false
        let byp (p : Nat) : Prop :=
          d.cellHere k p = true ∧ d.failed k p = true ∧ d.linkState k p = lkAccepted ∧ (d.cellC k p).bypSent = false
        let rest (p : Nat) : Prop := (p ∈ (d.st k).wh.pq ∨ ((d.st k).wh.heldSpare = true ∧ d.isSpare k p = true)) ∧
          d.cmdOf k p = stZH ∧ wait p
        (∀ (y : Decision) (up : Bool), read = some y → y.want = (if up then .up else .down) →
          (let dir : Int := if up then 1 else -1
           let pull : Int := if (y.im.natAbs : Int) < d.fld (Fd.CHk_WH_BAL_IDEAD k) then 0 else
             if y.im < 0 then -dir else if y.im = 0 then 0 else dir
           let key (p : Nat) : List Int :=
             [ if d.lvl k p = -dir then 0 else 1, if d.fld (Fd.CHk_WH_FREQ_FMAX k) < (d.cellC k p).fa then 1 else 0,
               if (d.st k).wh.rot = some p then (if d.lvl k p = -dir then 0 else if d.lvl k p = 0 then 2 else 1) else 1,
               -(pull * d.vbus k p), -(d.dwell k p q : Int), p ]
           let cand (p : Nat) : Prop := valid p ∧ d.slow k p = false ∧ d.lvl k p ≠ dir
           ((∀ p, ¬ cand p) → (t.dev.st k).ctl.limited = true ∧ ∀ r, r < 7 → same r) ∧
           ((∃ p, cand p) → (∀ p, cand p → ¬ wait p) →
             t.dev.fld (Fd.CHk_DLY_STAT_DECLINED k) =
               min (2 ^ (Fd.CHk_DLY_STAT_DECLINED k).w - 1) (d.fld (Fd.CHk_DLY_STAT_DECLINED k) + 1) ∧ ∀ r, r < 7 → same r) ∧
           (∀ p, cand p → wait p → (∀ r, cand r → wait r → r ≠ p → keyLt (key p) (key r) = true) →
             moved p (if d.lvl k p = 0 then (if up then stP else stN) else zero p) ∧
             (d.lvl k p ≠ 0 → t.dev.fld (Fd.CHk_WH_CELLp_ZF k p) = 1 - zero p) ∧
             t.dev.fld (Fd.CHk_STEP_CNT_STEPS k) = (d.fld (Fd.CHk_STEP_CNT_STEPS k) + 1) % 2 ^ (Fd.CHk_STEP_CNT_STEPS k).w ∧
             (t.dev.st k).ctl.holdUp = (if up then q + d.fld (Fd.CHk_IL_HOLD_HOLD k) else x.holdUp) ∧
             (t.dev.st k).ctl.holdDn = (if up then x.holdDn else q + d.fld (Fd.CHk_IL_HOLD_HOLD k))) ∧
           (t.dev.st k).wh.pair = none)) ∧
        ((∀ y, read = some y → y.want ≠ .up ∧ y.want ≠ .down) →
          (∀ pr, (d.st k).wh.pair = some pr → valid pr.h → valid pr.d → pr.pos < 7 → pr.state ≤ 5 →
            moved pr.pos (if pr.state = 5 then zero pr.pos else pr.state) ∧ (t.dev.st k).wh.pair = none) ∧
          ((∀ pr, (d.st k).wh.pair = some pr → ¬ (valid pr.h ∧ valid pr.d)) →
            (∀ p, p < 7 → byp p → (∀ r, r < p → ¬ byp r) → moved p stBYP) ∧
            ((∀ p, p < 7 → ¬ byp p) →
              (∀ p, p < 7 → rest p → (∀ r, r < p → ¬ rest r) → moved p stZL) ∧
              ((∀ p, p < 7 → ¬ rest p) →
                (let err : Int := (read.map (·.err)).getD 0
                 let im : Int := (read.map (·.im)).getD 0
                 (d.findPair k im q = none → ∀ r, r < 7 → same r) ∧
                 (∀ pl, d.findPair k im q = some pl →
                   (let a := if 0 ≤ err then pl.raise else pl.lower
                    let b := if 0 ≤ err then pl.lower else pl.raise
                    let fit (p : Nat) : Prop := valid p ∧ wait p ∧ d.overFreq k p = false
                    fit pl.raise.1 ∧ fit pl.lower.1 ∧ pl.raise.2 = d.lvl k pl.raise.1 + 1 ∧
                    pl.lower.2 = d.lvl k pl.lower.1 - 1 ∧
                    moved a.1 (if a.2 = 1 then stP else if a.2 = -1 then stN else zero a.1) ∧
                    (t.dev.st k).wh.pair = some { h := pl.h, d := pl.d, pos := b.1, q := q + 8
                                                  state := if b.2 = 1 then stP else if b.2 = -1 then stN else 5 } ∧
                    t.dev.fld (Fd.CHk_WH_CNT_PAIRS k) =
                      min (2 ^ (Fd.CHk_WH_CNT_PAIRS k).w - 1) (d.fld (Fd.CHk_WH_CNT_PAIRS k) + 1)))))))))) ∧
  (∀ (k : Nat) (s : State), k = s.env.tick % 8 → LiveStr s k → s.env.started = true → s.dev.inRun k = true →
     s.dev.inFallback k = true → Undisturbed s.dev k s.env.tick →
     ∃ t, exec .issueTick s = .next t ∧ OnlyDev s t ∧
       (let q := s.env.tick
        let act := (s.dev.st k).wh.act
        let na := act.length
        let c := act.getD (q / 8 % na) 0
        let mi := dueBy (s.dev.st k).ctl.miNext q (s.dev.st k).ctl.mi
        let per := 64 * 2 ^ s.dev.fld (Fd.CHk_FB_PWM_PER k)
        let ph : Int := ((q / 8 + q / 8 % na * per / (2 * na)) % per * 65536 / per : Nat)
        let car := if ph < 32768 then 2 * ph - 32768 else 98303 - 2 * ph
        let want := if car < mi then (if car < -mi then stZH else stP) else if car < -mi then stN else stZL
        0 < na → c < 7 → s.dev.cmdOf k c ≠ want → 64 ≤ s.dev.dwell k c q →
          t.dev.cmdOf k c = want ∧ (t.dev.cellC k c).dwellFrom = q ∧
          ∀ r, r < 7 → r ≠ c → t.dev.cmdOf k r = s.dev.cmdOf k r))

/-! ### Host ports, locks and accesses (R11 to R20, R59, R69, R157 to R162, R190, R195 to R200, R342, R374 to R393) -/

/-- REGISTER_WRITE (R13 to R16, R20, R384 to R388, R393). A write to an address with no register, or to a block that does
not run, is an access error (judged before the permissions, log entry 20); one that the requester may not make, or to an
absent string or cell, is rejected, and so is one to a read-only field of the Lid; one to any other read-only register
changes nothing. The value written is the one that the limits of the image allow, and a write they narrowed is counted
as a clamp. A write to SH fields is rejected while another requester holds the lock, or its holder commits, goes into the
shadow of a lock that the requester holds while there is room, and with no lock sets the register. A write to a register
without SH fields sets its RW fields and clears the W1C bits written as 1; FIR_CADDR is each requester's own. A value that
a field declares invalid is rejected (log entry 60), and what a lock, an override or a running bank bars is too (log
entry 21). -/
def Obligations.RegisterWritesFollowTheirRules : Prop :=
  ∀ (p : Fin 5) (addr : BitVec 20) (v : Word) (s : State), s.dev.hostRuns = true →
    let a := addr.toNat
    let wr := Instr.registerWrite p addr v
    let u := s.dev.clampWord a v.toNat
    let outside : Prop := a < 0x22000 ∨ 0x24000 ≤ a
    (regInfoAt a = none ∨ s.dev.addrRuns a = false → ∃ t, exec wr s = .next t ∧ AccessError s t p.val a) ∧
    (∀ i, regInfoAt a = some i → s.dev.addrRuns a = true →
      s.dev.mayWrite p.val a = false ∨ s.dev.absentString s.env a = true ∨ s.dev.absentCell a = true →
      ∃ t, exec wr s = .next t ∧ Rejected s t p.val a) ∧
    (∀ i, regInfoAt a = some i → MayReach s p.val a →
      let clamped : Prop := u &&& (i.rw ||| i.sh) ≠ v.toNat &&& (i.rw ||| i.sh)
      let accounts := [Reg.HOSTIF_GRANTS p.val, Reg.HOSTIF_ERRS p.val, Reg.HOSTIF_LAST p.val]
      -- read-only registers
      (i.rw ||| i.sh ||| i.w1c ||| i.wo = 0 →
        (i.lid ≠ 0 → ∃ t, exec wr s = .next t ∧ Rejected s t p.val a) ∧
        (i.lid = 0 → ∃ t, exec wr s = .next t ∧ OnlyDev s t ∧ FieldsBut s.dev t.dev [Fd.HOSTIF_GRANTS_GRANTS p.val])) ∧
      -- SH fields, locked by another requester or committing
      (∀ q, i.sh ≠ 0 → s.dev.lock.owner = some q → q ≠ p.val ∨ s.dev.lock.committing ≠ none →
        ∃ t, exec wr s = .next t ∧ Rejected s t p.val a) ∧
      -- SH fields in the requester's own lock
      (i.sh ≠ 0 → s.dev.lock.owner = some p.val → s.dev.lock.committing = none →
        (let seen (x : Nat) : Nat := match s.dev.shadowOf p.val x with
           | some w => w.toNat
           | none => (s.dev.reg x).toNat
         let room : Prop := s.dev.lock.shadow.length < 256 ∨ ∃ x ∈ s.dev.lock.shadow, x.1 = a
         let w := mergeWord i (overlay i.sh (s.dev.reg a).toNat (seen a)) u
         (room → s.dev.formOk i a w seen = true →
           ∃ t, exec wr s = .next t ∧ OnlyDev s t ∧
             t.dev.shadowOf p.val a = some (BitVec.ofNat 32 w) ∧ t.dev.lock.owner = some p.val ∧
             (¬ clamped → FieldsBut s.dev t.dev [Fd.HOSTIF_GRANTS_GRANTS p.val]) ∧
             (clamped → Clamped s t p.val a ∧ RegsBut s.dev t.dev accounts)) ∧
         (¬ room ∨ s.dev.formOk i a w seen = false → ∃ t, exec wr s = .next t ∧ Rejected s t p.val a))) ∧
      -- SH fields with no lock
      (i.sh ≠ 0 → s.dev.lock.owner = none →
        (let w := mergeWord i (s.dev.reg a).toNat u
         let valid := s.dev.formOk i a w (fun x => (s.dev.reg x).toNat) = true ∧ s.dev.liveOk a w = true
         ((vat s.dev.req p.val).lost = false → valid →
           ∃ t, exec wr s = .next t ∧ OnlyDev s t ∧ t.dev.reg a = BitVec.ofNat 32 w ∧ (clamped → Clamped s t p.val a) ∧
             (let l := if u &&& (i.rw ||| i.sh) = v.toNat &&& (i.rw ||| i.sh) then [Reg.HOSTIF_GRANTS p.val] else accounts
              (pendPort a = none → RegsBut s.dev t.dev (a :: l)) ∧
              (∀ n, pendPort a = some n → t.dev.bit (Fd.TDMn_STATUS_UPDATE_PENDING n) = true ∧
                RegsBut s.dev t.dev (a :: Reg.TDMn_STATUS n :: l)))) ∧
         ((vat s.dev.req p.val).lost = true ∨ ¬ valid → ∃ t, exec wr s = .next t ∧ Rejected s t p.val a))) ∧
      -- registers without SH fields and without an action of their own
      (let plain : Prop := outside ∧ a ≠ Reg.FIR_CADDR ∧ writeValid i a (mergeWord i (s.dev.reg a).toNat u) = true ∧
           (s.dev.takeGrant p.val).woAction s.env p.val a u = some (s.dev.takeGrant p.val) ∨
         ∃ q o, pageOf a = some (q, o) ∧ o ≠ 8
       i.sh = 0 → i.rw ||| i.w1c ||| i.wo ≠ 0 → a ≠ Reg.FIR_CDATA → plain →
         ∃ t, exec wr s = .next t ∧ OnlyDev s t ∧
           (let w := mergeWord i ((s.dev.takeGrant p.val).reg a).toNat u
            (¬ clamped → t.dev.reg a = BitVec.ofNat 32 w ∧ RegsBut s.dev t.dev [a, Reg.HOSTIF_GRANTS p.val]) ∧
            (clamped → a ≠ Reg.HOSTIF_ERRS p.val → a ≠ Reg.HOSTIF_LAST p.val →
              t.dev.reg a = BitVec.ofNat 32 w ∧ Clamped s t p.val a ∧ RegsBut s.dev t.dev (a :: accounts)))) ∧
      -- an invalid value, or one that the register's action refuses
      (i.sh = 0 → i.rw ||| i.w1c ||| i.wo ≠ 0 → a ≠ Reg.FIR_CDATA → outside →
        writeValid i a (mergeWord i (s.dev.reg a).toNat u) = false ∨ (s.dev.takeGrant p.val).woAction s.env p.val a u = none →
        ∃ t, exec wr s = .next t ∧ Rejected s t p.val a) ∧
      -- the requester's own coefficient address
      (a = Reg.FIR_CADDR → writeValid i a (mergeWord i (s.dev.reg a).toNat u) = true →
        ∃ t, exec wr s = .next t ∧ OnlyDev s t ∧
          (vat t.dev.req p.val).firCaddr = BitVec.ofNat 32 (mergeWord i (vat s.dev.req p.val).firCaddr.toNat u) ∧
          (∀ q, q ≠ p.val → vat t.dev.req q = vat s.dev.req q) ∧ RegsBut s.dev t.dev accounts) ∧
      -- the service block, but for its registers that act
      (0x23000 ≤ a → a < 0x24000 → i.sh = 0 → i.rw ||| i.w1c ||| i.wo ≠ 0 →
        a ∉ [Reg.SVC_CTL, Reg.SVC_COMMIT, Reg.SVC_FL_CTL, Reg.SVC_FL_DATA, Reg.SVC_PIN] →
        ∃ t, exec wr s = .next t ∧ OnlyDev s t ∧
          t.dev.reg a = BitVec.ofNat 32 (if i.wo = 0xFFFFFFFF then u else mergeWord i (s.dev.reg a).toNat u) ∧
          RegsBut s.dev t.dev [a, Reg.HOSTIF_GRANTS p.val]))

/-- HOST_WRITE_FRAME, HOST_READ_FRAME, ARBITER_GRANT, PORT_RESET, LINK_DOWN and CS_LOW_TIMEOUT (R374 to R381, R384, R391,
R414). A good frame advances SEQ, performs its words one after the other, at rising addresses or with FIX at one, and
answers 0x5A with the data read and a status word that shows whether any word was in error, rejected, clamped or locked;
a word beyond the register window is an access error. A frame whose CRC is wrong, or with a reserved bit set, performs
nothing and answers 0xA5. A write frame that ends early, a chip select that rises early or stays low is a link-down. The
highest-ranked waiting requester is granted; TLM then makes its next read. A port reset or link-down of a lock's owner is
owner loss. -/
def Obligations.FramesAndPorts : Prop :=
  (∀ (p : Fin 5) (cmd : Word) (data : List Word) (crc : BitVec 16) (s : State), s.dev.hostRuns = true →
    bits cmd.toNat 20 3 = 0 → crc.toNat = frameCrc cmd.toNat data →
    let n := cmdWords cmd.toNat
    let at_ (i : Nat) : Nat := bits cmd.toNat 0 20 + if cmdFix cmd.toNat then 0 else 4 * i
    let d := s.dev.put (Fd.HOSTIF_SEQ_SEQ p.val) (s.dev.fld (Fd.HOSTIF_SEQ_SEQ p.val) + 1)
    let d := if p.val = 4 then d.modSvc (fun x => { x with idle := 0 }) else d
    let beyond (d : Dev) (a : Nat) : Dev := (d.takeGrant p.val).noteAccess p.val (a % 2 ^ 20) true false false
    (∀ g : Nat → Env × Dev, g 0 = (s.env, d) → cmdWrite cmd.toNat = true → n ≤ data.length →
      (let r (i : Nat) : WrOut := accessWrite (g i).1 (g i).2 p.val (at_ i) (data.getD i 0).toNat
       let inside (i : Nat) : Bool := decide (at_ i ≤ 0xFFFFC)
       (∀ i, i < n → g (i + 1) = if inside i then ((r i).env, (r i).dev) else ((g i).1, beyond (g i).2 (at_ i))) →
       ∃ t, exec (.hostWriteFrame p cmd data crc) s = .next t ∧ t.pending = s.pending ∧ t.comps = s.comps ∧
         (let o := (vat t.dev.req p.val).out
          t.env = (g n).1 ∧ t.dev.regs = (g n).2.regs ∧ t.dev.lock = (g n).2.lock ∧ o.start = 0x5A ∧ o.data = [] ∧
          tbit o.status.toNat 30 = (upTo n).any (fun i => !(inside i) || (r i).err) ∧
          tbit o.status.toNat 29 = (upTo n).any (fun i => inside i && (r i).rej) ∧
          tbit o.status.toNat 28 = (upTo n).any (fun i => inside i && (r i).clamp) ∧
          tbit o.status.toNat 27 = (upTo n).any (fun i => inside i && (r i).locked) ∧ tbit o.status.toNat 31 = false))) ∧
    (∀ (g : Nat → Dev) (i : Instr), g 0 = d → cmdWrite cmd.toNat = false →
      i = .hostReadFrame p cmd crc ∨ i = .hostWriteFrame p cmd data crc →
      (let r (j : Nat) : RdOut := (g j).accessRead s.env p.val (at_ j)
       let inside (j : Nat) : Bool := decide (at_ j ≤ 0xFFFFC)
       (∀ j, j < n → g (j + 1) = if inside j then (r j).dev else beyond (g j) (at_ j)) →
       ∃ t, exec i s = .next t ∧ OnlyDev s t ∧
         (let o := (vat t.dev.req p.val).out
          t.dev.regs = (g n).regs ∧ t.dev.lock = (g n).lock ∧ o.start = 0x5A ∧
          o.data = (upTo n).map (fun j => if inside j then BitVec.ofNat 32 (r j).val else 0) ∧
          tbit o.status.toNat 30 = (upTo n).any (fun j => !(inside j) || (r j).err) ∧ tbit o.status.toNat 31 = false)))) ∧
  (∀ (p : Fin 5) (cmd : Word) (data : List Word) (crc : BitVec 16) (i : Instr) (s : State), s.dev.hostRuns = true →
    crc.toNat ≠ frameCrc cmd.toNat data ∨ bits cmd.toNat 20 3 ≠ 0 →
    (i = .hostWriteFrame p cmd data crc ∧ (cmdWrite cmd.toNat = true → cmdWords cmd.toNat ≤ data.length) ∨
      i = .hostReadFrame p cmd crc ∧ cmdWrite cmd.toNat = false) →
    ∃ t, exec i s = .next t ∧ OnlyDev s t ∧
      t.dev.fld (Fd.HOSTIF_ERRS_CRC p.val) = min 255 (s.dev.fld (Fd.HOSTIF_ERRS_CRC p.val) + 1) ∧
      (vat t.dev.req p.val).out.start = 0xA5 ∧ (vat t.dev.req p.val).out.data = [] ∧
      tbit (vat t.dev.req p.val).out.status.toNat 31 = true ∧ FieldsBut s.dev t.dev [Fd.HOSTIF_ERRS_CRC p.val]) ∧
  (∀ (p : Fin 5) (cmd : Word) (data : List Word) (i : Instr) (s : State), s.dev.hostRuns = true →
    (i = .linkDown p ∨ i = .csLowTimeout p ∨ i = .portReset p ∨
      (∃ crc, i = .hostWriteFrame p cmd data crc ∧ cmdWrite cmd.toNat = true ∧ data.length < cmdWords cmd.toNat) ∨
      ∃ crc, i = .hostReadFrame p cmd crc ∧ cmdWrite cmd.toNat = true) →
    ∃ t, exec i s = .next t ∧ OnlyDev s t ∧ t.dev.bit (Fd.HOSTIF_EVT_LINK p.val) = true ∧
      (let f := if i = .portReset p then Fd.HOSTIF_LINK_RESETS p.val else Fd.HOSTIF_LINK_LINKDOWN p.val
       t.dev.fld f = min 255 (s.dev.fld f + 1) ∧
       (i = .portReset p → (vat t.dev.req p.val).firCaddr = 0 ∧ (vat t.dev.req p.val).tickHi = 0) ∧
       (s.dev.lock.owner = some p.val → s.dev.lock.committing = none →
         LockLost s t p.val (if i = .portReset p then 6 else 5)) ∧
       (s.dev.lock.owner ≠ some p.val ∨ s.dev.lock.committing ≠ none → t.dev.lock = s.dev.lock ∧
         (p.val ≠ 4 → FieldsBut s.dev t.dev [f, Fd.HOSTIF_EVT_LINK p.val])) ∧
       (p.val = 4 → s.dev.svc.state = svcRead ∨ s.dev.svc.state = svcFull → t.dev.svc.state = svcClosed))) ∧
  (∀ (waits : List (Nat × Nat)) (s : State), s.dev.hostRuns = true → (∃ x ∈ waits, x.1 < 6) →
    ∃ t p w, exec (.arbiterGrant waits) s = .next t ∧ OnlyDev s t ∧ (p, w) ∈ waits ∧ p < 6 ∧
      (∀ x ∈ waits, x.1 < 6 → s.dev.fld (Fd.HOSTIF_CFG_RANK p) ≤ s.dev.fld (Fd.HOSTIF_CFG_RANK x.1)) ∧
      t.dev.fld (Fd.HOSTIF_GRANTS_GRANTS p) = min (2 ^ 32 - 1) (s.dev.fld (Fd.HOSTIF_GRANTS_GRANTS p) + 1) ∧
      t.dev.fld (Fd.HOSTIF_WAITS_WAITS p) =
        (if w = 0 then s.dev.fld (Fd.HOSTIF_WAITS_WAITS p) else min 65535 (s.dev.fld (Fd.HOSTIF_WAITS_WAITS p) + 1)) ∧
      t.dev.fld (Fd.HOSTIF_WAITS_MAXWAIT p) =
        (if w = 0 then s.dev.fld (Fd.HOSTIF_WAITS_MAXWAIT p) else max (s.dev.fld (Fd.HOSTIF_WAITS_MAXWAIT p)) (min 31 w)) ∧
      (p ≠ 5 → FieldsBut s.dev t.dev [Fd.HOSTIF_GRANTS_GRANTS p, Fd.HOSTIF_WAITS_WAITS p, Fd.HOSTIF_WAITS_MAXWAIT p]) ∧
      (∀ x, p = 5 → s.dev.bg.snap = some x → x.vals.length < s.dev.fld (Fd.BG_SNAP_SETs_COUNT x.set) →
        ∃ v e, t.dev.bg.snap = some { x with vals := x.vals ++ [v], errs := x.errs ++ [e] }))

/-- LOCK_OPEN, LOCK_COMMIT, LOCK_COMMIT_DECIDE, LEASE_EXPIRY and HOSTIF_LOCKST_READ (R386 to R392). A permitted OPEN
gives its requester the lock with an empty shadow and a full lease. A COMMIT of its owner begins to commit; at the first
boundary after it the whole shadow takes effect, or, where a word may not, none of it and LOCKERR names that word. An
open lock whose lease has run out is lost; a read of LOCKST clears the mark of the loss. -/
def Obligations.LockedSequences : Prop :=
  (∀ (p : Fin 5) (s : State), MayWrite s p.val (Reg.HOSTIF_LOCK p.val) 1 →
    (s.dev.mayOpen p.val = true → ∃ t, exec (.lockOpen p) s = .next t ∧ OnlyDev s t ∧
      t.dev.lock = { owner := some p.val, committing := none, shadow := [], lease := s.dev.fld (Fd.HOSTIF_LEASE_LEASE p.val) } ∧
      RegsBut s.dev t.dev [Reg.HOSTIF_GRANTS p.val, Reg.HOSTIF_LOCK p.val]) ∧
    (s.dev.mayOpen p.val = false → ∃ t, exec (.lockOpen p) s = .next t ∧ Rejected s t p.val (Reg.HOSTIF_LOCK p.val))) ∧
  (∀ (p : Fin 5) (s : State), MayWrite s p.val (Reg.HOSTIF_LOCK p.val) 2 →
    (s.dev.lock.owner = some p.val → s.dev.lock.committing = none → ∃ t, exec (.lockCommit p) s = .next t ∧ OnlyDev s t ∧
      t.dev.lock = { s.dev.lock with committing := some s.env.tick } ∧
      RegsBut s.dev t.dev [Reg.HOSTIF_GRANTS p.val, Reg.HOSTIF_LOCK p.val]) ∧
    (s.dev.lock.owner ≠ some p.val ∨ s.dev.lock.committing ≠ none →
      ∃ t, exec (.lockCommit p) s = .next t ∧ Rejected s t p.val (Reg.HOSTIF_LOCK p.val))) ∧
  (∀ (p t0 : Nat) (s : State), s.dev.lock.owner = some p → p < 5 → s.dev.lock.committing = some t0 → s.env.started = true →
    s.env.tick % 64 = 0 → boundaryAfter t0 ≤ s.env.tick →
    ∃ t, exec .lockCommitDecide s = .next t ∧ OnlyDev s t ∧ t.dev.lock.owner = none ∧ t.dev.lock.shadow = [] ∧
      (∀ x, s.dev.lock.shadow.find? (fun x => !(s.dev.liveOk x.1 (s.dev.commitWord x))) = some x →
        t.dev.fld (Fd.HOSTIF_LOCKST_RESULT p) = 2 ∧ t.dev.fld (Fd.HOSTIF_LOCKERR_ADDR p) = x.1 % 2 ^ 20 ∧
        t.dev.bit (Fd.HOSTIF_EVT_COMMIT_REJ p) = true ∧
        FieldsBut s.dev t.dev [Fd.HOSTIF_LOCKST_RESULT p, Fd.HOSTIF_LOCKERR_ADDR p, Fd.HOSTIF_EVT_COMMIT_REJ p]) ∧
      ((∀ x ∈ s.dev.lock.shadow, s.dev.liveOk x.1 (s.dev.commitWord x) = true ∧ shMask x.1 ≠ 0) →
        (s.dev.lock.shadow.map (·.1)).Nodup →
        t.dev.fld (Fd.HOSTIF_LOCKST_RESULT p) = 1 ∧
        (∀ x ∈ s.dev.lock.shadow, s.dev.addrRuns x.1 = true →
          t.dev.reg x.1 = BitVec.ofNat 32 (s.dev.commitWord x)) ∧
        (∀ a, shMask a ≠ 0 → (∀ x ∈ s.dev.lock.shadow, x.1 ≠ a) → t.dev.reg a = s.dev.reg a))) ∧
  (∀ (p : Nat) (s : State), s.dev.lock.owner = some p → p < 5 → s.dev.lock.lease = 0 → s.dev.lock.committing = none →
    ∃ t, exec .leaseExpiry s = .next t ∧ OnlyDev s t ∧ LockLost s t p 4 ∧
      FieldsBut s.dev t.dev [Fd.HOSTIF_LOCKST_RESULT p, Fd.HOSTIF_LINK_LOSSES p, Fd.HOSTIF_EVT_LOCK_LOST p]) ∧
  (∀ (p : Fin 5) (s : State), MayRead s p.val (Reg.HOSTIF_LOCKST p.val) →
    ∃ t, exec (.hostifLockstRead p) s = .next t ∧ OnlyDev s t ∧ (vat t.dev.req p.val).lost = false ∧
      (vat t.dev.req p.val).out.data = [BitVec.ofNat 32 (s.dev.lockst p.val)] ∧
      FieldsBut s.dev t.dev [Fd.HOSTIF_GRANTS_GRANTS p.val])

/-- R389: what a write of HOSTIF_LOCK with ABORT set does, LOCK_ABORT among them, and which writes of HOSTIF_LOCK are
rejected: they are counted, and REJ of the status word shows them. -/
def Obligations.AbortReleasesTheLock : Prop :=
  ∀ (p : Fin 5) (v : Word) (s : State), MayWrite s p.val (Reg.HOSTIF_LOCK p.val) v.toNat →
    let wr : Instr := .registerWrite p (BitVec.ofNat 20 (Reg.HOSTIF_LOCK p.val)) v
    let mine : Prop := s.dev.lock.owner = some p.val ∧ s.dev.lock.committing = none
    let opens := tbit v.toNat 0
    let commits := tbit v.toNat 1
    let aborts := tbit v.toNat 2
    let bad : Prop := (opens = true ∧ (commits = true ∨ aborts = true)) ∨
      (opens = true ∧ s.dev.mayOpen p.val = false) ∨ (¬ mine ∧ (commits = true ∨ aborts = true)) ∨
      (opens = false ∧ commits = false ∧ aborts = false)
    (∀ i, i = wr ∨ i = .lockAbort p ∧ v = 4 →
      (mine → aborts = true → opens = false →
        ∃ t, exec i s = .next t ∧ OnlyDev s t ∧ t.dev.lock.owner = none ∧ t.dev.lock.shadow = [] ∧
          t.dev.lock.committing = none ∧ t.dev.fld (Fd.HOSTIF_LOCKST_RESULT p.val) = 3 ∧
          RegsBut s.dev t.dev [Reg.HOSTIF_GRANTS p.val, Reg.HOSTIF_LOCK p.val, Reg.HOSTIF_LOCKST p.val]) ∧
      (bad → ∃ t, exec i s = .next t ∧ Rejected s t p.val (Reg.HOSTIF_LOCK p.val))) ∧
    (∀ (cmd : Word) (crc : BitVec 16), cmdWrite cmd.toNat = true → cmdWords cmd.toNat = 1 → bits cmd.toNat 20 3 = 0 →
      crc.toNat = frameCrc cmd.toNat [v] → bits cmd.toNat 0 20 = Reg.HOSTIF_LOCK p.val → bad →
      ∃ t, exec (.hostWriteFrame p cmd [v] crc) s = .next t ∧ tbit (vat t.dev.req p.val).out.status.toNat 29 = true)

/-- R59: a read of CLK_TICK_LO by requester p returns the lower half of the tick number and captures the upper half for
p alone; what every requester then reads from CLK_TICK_HI is its own capture. -/
def Obligations.TickCapturesAreSeparate : Prop :=
  ∀ (p : Fin 5) (s : State), MayRead s p.val Reg.CLK_TICK_LO →
    ∃ t, exec (.clkTickLoRead p) s = .next t ∧ OnlyDev s t ∧
      (vat t.dev.req p.val).out.data = [BitVec.ofNat 32 s.env.tick] ∧
      t.dev.view t.env p.val Reg.CLK_TICK_HI = some (s.env.tick / 2 ^ 32 % 2 ^ 32) ∧
      (∀ q, q ≠ p.val → t.dev.view t.env q Reg.CLK_TICK_HI = s.dev.view s.env q Reg.CLK_TICK_HI) ∧
      FieldsBut s.dev t.dev [Fd.HOSTIF_GRANTS_GRANTS p.val] ∧
      ∀ r q, r < 6 → q ≠ r →
        (s.dev.accessRead s.env r Reg.CLK_TICK_LO).dev.view s.env q Reg.CLK_TICK_HI = s.dev.view s.env q Reg.CLK_TICK_HI

/-- R69: SWAP sets SWAP_PENDING, ABORT clears it and takes precedence, and a SWAP while one is pending changes nothing.
-/
def Obligations.SwapIsRequestedAndAborted : Prop :=
  ∀ (p : Fin 5) (v : Word) (i : Instr) (s : State),
    (i = .registerWrite p (BitVec.ofNat 20 Reg.RACK_CTRL) v ∨ i = .rackSwap p ∧ v = 1 ∨ i = .rackAbort p ∧ v = 2) →
    MayWrite s p.val Reg.RACK_CTRL v.toNat →
    ∃ t, exec i s = .next t ∧ OnlyDev s t ∧
      t.dev.bit Fd.RACK_STATUS_SWAP_PENDING =
        (if tbit v.toNat 1 then false else if tbit v.toNat 0 then true else s.dev.bit Fd.RACK_STATUS_SWAP_PENDING) ∧
      FieldsBut s.dev t.dev [Fd.RACK_STATUS_SWAP_PENDING, Fd.HOSTIF_GRANTS_GRANTS p.val]

/-- FIR_CDATA_READ, FIR_CDATA_WRITE, FIR_COPY_GO, FIR_COPY_DONE, FIR_BANK_REQUEST, OL_BANK_REQUEST and DIAG_CRST_WRITE
(R157 to R162, R190, R342). An accepted access reads or writes the coefficient at the requester's own address, whose TAP
then advances; one beyond the taps or of an absent string is an access error, and a bank that is not open takes no
write. A copy is busy until the response stands in its bank. That its words appear
all at once, and that bank requests are kept by their ticks, is the model's choice (log entries 61, 57). -/
def Obligations.CoefficientAccesses : Prop :=
  (∀ (p : Fin 5) (s : State), MayRead s p.val Reg.FIR_CDATA →
    let c := s.dev.caddr p.val
    (s.dev.caddrBad p.val = false → ∃ t, exec (.firCdataRead p) s = .next t ∧ OnlyDev s t ∧
      (vat t.dev.req p.val).out.data = [BitVec.ofInt 32 (Store.get firInit s.dev.firMem (firWords * c.1 + 384 * c.2.1 + c.2.2))] ∧
      t.dev.caddr p.val = (c.1, c.2.1, if c.2.2 + 1 = s.dev.firN then 0 else c.2.2 + 1) ∧
      (∀ q, q ≠ p.val → vat t.dev.req q = vat s.dev.req q) ∧ t.dev.firMem = s.dev.firMem ∧
      FieldsBut s.dev t.dev [Fd.HOSTIF_GRANTS_GRANTS p.val]) ∧
    (s.dev.caddrBad p.val = true → ∃ t, exec (.firCdataRead p) s = .next t ∧ AccessError s t p.val Reg.FIR_CDATA ∧
      (vat t.dev.req p.val).out.data = [0] ∧ t.dev.caddr p.val = c)) ∧
  (∀ (p : Fin 5) (v : Word) (s : State), MayWrite s p.val Reg.FIR_CDATA v.toNat →
    let c := s.dev.caddr p.val
    (s.dev.caddrBad p.val = false → s.dev.firBankOpen c.1 c.2.1 = true →
      ∃ t, exec (.firCdataWrite p v) s = .next t ∧ OnlyDev s t ∧
      (∀ a, Store.get firInit t.dev.firMem a =
        if a = firWords * c.1 + (384 * c.2.1 + c.2.2) then sx 24 v.toNat else Store.get firInit s.dev.firMem a) ∧
      t.dev.caddr p.val = (c.1, c.2.1, if c.2.2 + 1 = s.dev.firN then 0 else c.2.2 + 1) ∧
      (∀ q, q ≠ p.val → vat t.dev.req q = vat s.dev.req q) ∧ FieldsBut s.dev t.dev [Fd.HOSTIF_GRANTS_GRANTS p.val]) ∧
    (s.dev.caddrBad p.val = false → s.dev.firBankOpen c.1 c.2.1 = false →
      ∃ t, exec (.firCdataWrite p v) s = .next t ∧ Rejected s t p.val Reg.FIR_CDATA ∧ t.dev.firMem = s.dev.firMem ∧
        t.dev.caddr p.val = c) ∧
    (s.dev.caddrBad p.val = true → ∃ t, exec (.firCdataWrite p v) s = .next t ∧ AccessError s t p.val Reg.FIR_CDATA ∧
      t.dev.firMem = s.dev.firMem ∧ t.dev.caddr p.val = c)) ∧
  (∀ (p : Fin 5) (v : Word) (s : State), MayWrite s p.val Reg.FIR_COPY (putBit v.toNat 31 true) →
    let k := bits v.toNat 16 3
    let b := bits v.toNat 12 1
    let n := bits v.toNat 0 5
    (s.dev.firCopy = none → n < 24 → s.dev.present k = true → (s.dev.img.cfg.rate = 2 → n = 0) → s.dev.firBankOpen k b = true →
      ∃ t, exec (.firCopyGo p v) s = .next t ∧ OnlyDev s t ∧ t.dev.firCopy = some (k, b, n, s.env.tick) ∧
        t.dev.bit Fd.FIR_STATUS_COPY_BUSY = true ∧ t.dev.firMem = s.dev.firMem) ∧
    (s.dev.firCopy ≠ none ∨ 24 ≤ n ∨ s.dev.present k = false ∨ s.dev.firBankOpen k b = false ∨
        s.dev.img.cfg.rate = 2 ∧ n ≠ 0 →
      ∃ t, exec (.firCopyGo p v) s = .next t ∧ Rejected s t p.val Reg.FIR_COPY ∧ t.dev.firCopy = s.dev.firCopy)) ∧
  (∀ (k b n t0 : Nat) (s : State), s.dev.firCopy = some (k, b, n, t0) → s.dev.islandOk islFir = true →
    ∃ t, exec .firCopyDone s = .next t ∧ OnlyDev s t ∧ t.dev.firCopy = none ∧ t.dev.bit Fd.FIR_STATUS_COPY_BUSY = false ∧
      t.dev.bit Fd.FIR_EVT_COPY_DONE = true ∧
      (∀ a, Store.get firInit t.dev.firMem a =
        let o := firWords * k + 384 * b
        if o ≤ a ∧ a < o + s.dev.firN then romTap n (a - o) else Store.get firInit s.dev.firMem a) ∧
      FieldsBut s.dev t.dev [Fd.FIR_STATUS_COPY_BUSY, Fd.FIR_EVT_COPY_DONE]) ∧
  (∀ (p : Fin 5) (k : Fin 8) (x : Bool) (i : Instr) (a : Nat) (s : State),
    (i = .firBankRequest p k x ∧ a = Reg.FIR_REQk k.val ∨ i = .olBankRequest p k x ∧ a = Reg.CHk_OL_SEL k.val) →
    MayWrite s p.val a (b2n x) → s.dev.lock.owner = none → (vat s.dev.req p.val).lost = false →
    ∃ t, exec i s = .next t ∧ OnlyDev s t ∧ tbit (t.dev.reg a).toNat 0 = x ∧
      (a = Reg.FIR_REQk k.val → (vat t.dev.zone k.val).firReq = (vat s.dev.zone k.val).firReq ++ [s.env.tick]) ∧
      RegsBut s.dev t.dev [a, Reg.HOSTIF_GRANTS p.val]) ∧
  (∀ (p : Fin 5) (v : Word) (s : State), MayWrite s p.val Reg.DIAG_CRST v.toNat →
    ∃ t, exec (.diagCrstWrite p v) s = .next t ∧ OnlyDev s t ∧
      (∀ k, k < 8 → tbit v.toNat k = true → s.dev.present k = true → t.dev.fld (Fd.DIAG_Ck_A_CNT k) = 0) ∧
      (∀ k, k < 8 → tbit v.toNat k = false ∨ s.dev.present k = false →
        t.dev.fld (Fd.DIAG_Ck_A_CNT k) = s.dev.fld (Fd.DIAG_Ck_A_CNT k)) ∧
      FieldsBut s.dev t.dev (Fd.HOSTIF_GRANTS_GRANTS p.val :: strings8.map Fd.DIAG_Ck_A_CNT))

/-- INJ_GO, INJ_ABORT, INJECTION_END, CAP_ARM, CAP_ABORT, CAPTURE_DONE and CAP_DATA_READ (R195 to R200). SVC in full
service starts and stops injections and captures; such a write of any other requester, or of SVC in any other state, is
rejected. An injection ends after LEN samples, a capture with its last entry: that their commands find that end is log
entry 30. A read of the buffer while a capture runs is an access error, and any other advances the address. -/
def Obligations.InjectionsAndCaptures : Prop :=
  (∀ (k : Fin 8) (v : Word) (s : State), MayWrite s 4 (Reg.CHk_INJ_CTL k.val) (putBit v.toNat 31 true) → s.dev.svcWrites = true →
    tbit v.toNat 30 = false →
    (s.dev.mayInject k.val (bits v.toNat 0 2) = true → ∃ t, exec (.injGo 4 k v) s = .next t ∧ OnlyDev s t ∧
      (t.dev.st k.val).ctl.inj = some
        { point := bits v.toNat 8 2, kind := bits v.toNat 0 2, amp := s.dev.sfld (Fd.CHk_INJ_AMP_AMP k.val)
          freq := s.dev.fld (Fd.CHk_INJ_FREQ_FREQ k.val), len := s.dev.fld (Fd.CHk_INJ_LEN_LEN k.val)
          start := boundaryAfter s.env.tick, j := 0, lfsr := 0x7FFF } ∧
      RegsBut s.dev t.dev [Reg.CHk_INJ_CTL k.val, Reg.HOSTIF_GRANTS 4]) ∧
    (s.dev.mayInject k.val (bits v.toNat 0 2) = false →
      ∃ t, exec (.injGo 4 k v) s = .next t ∧ Rejected s t 4 (Reg.CHk_INJ_CTL k.val) ∧
        (t.dev.st k.val).ctl.inj = (s.dev.st k.val).ctl.inj)) ∧
  (∀ (k : Fin 8) (s : State),
    MayWrite s 4 (Reg.CHk_INJ_CTL k.val) (putBit (s.dev.reg (Reg.CHk_INJ_CTL k.val)).toNat 30 true) → s.dev.svcWrites = true →
    ∃ t, exec (.injAbort 4 k) s = .next t ∧ OnlyDev s t ∧ (t.dev.st k.val).ctl.inj = none ∧
      t.dev.bit (Fd.CHk_CL_STATUS_INJ k.val) = false ∧
      FieldsBut s.dev t.dev [Fd.CHk_CL_STATUS_INJ k.val, ⟨Reg.CHk_INJ_CTL k.val, 0, 32⟩, Fd.HOSTIF_GRANTS_GRANTS 4]) ∧
  (∀ (k : Fin 8) (x : Inj) (s : State), (s.dev.st k.val).ctl.inj = some x → x.len ≤ x.j →
    ∃ t, exec (.injectionEnd k) s = .next t ∧ OnlyDev s t ∧ (t.dev.st k.val).ctl.inj = none ∧
      t.dev.bit (Fd.CHk_CL_STATUS_INJ k.val) = false ∧ FieldsBut s.dev t.dev [Fd.CHk_CL_STATUS_INJ k.val] ∧
      (∀ j, j ≠ k.val → t.dev.st j = s.dev.st j)) ∧
  (∀ (p : Fin 5) (k : Fin 8) (v : Word) (i : Instr) (a w : Nat) (s : State),
    (i = .injGo p k v ∧ a = Reg.CHk_INJ_CTL k.val ∧ w = putBit v.toNat 31 true ∨
      i = .injAbort p k ∧ a = Reg.CHk_INJ_CTL k.val ∧ w = putBit (s.dev.reg (Reg.CHk_INJ_CTL k.val)).toNat 30 true ∨
      i = .capArm p k v ∧ a = Reg.CHk_CAP_CTL k.val ∧ w = putBit v.toNat 31 true ∨
      i = .capAbort p k ∧ a = Reg.CHk_CAP_CTL k.val ∧ w = putBit (s.dev.reg (Reg.CHk_CAP_CTL k.val)).toNat 30 true) →
    (MayWrite s p.val a w ∧ p.val ≠ 4 ∨
      p.val = 4 ∧ s.dev.hostRuns = true ∧ s.dev.addrRuns a = true ∧ s.dev.svcWrites = false) →
    ∃ t, exec i s = .next t ∧ Rejected s t p.val a ∧ t.dev.str = s.dev.str) ∧
  (∀ (k : Fin 8) (v : Word) (s : State), MayWrite s 4 (Reg.CHk_CAP_CTL k.val) (putBit v.toNat 31 true) → s.dev.svcWrites = true →
    (∀ r, regInfoAt (Reg.CHk_CAP_CTL k.val) = some r → writeValid r (Reg.CHk_CAP_CTL k.val)
      (mergeWord r (s.dev.reg (Reg.CHk_CAP_CTL k.val)).toNat (putBit v.toNat 31 true)) = true) → tbit v.toNat 30 = false →
    (let m := tbit v.toNat 11
     let ok := !((s.dev.st k.val).ctl.cap.busy) && capSelOk m (bits v.toNat 0 4) && capSelOk m (bits v.toNat 4 4)
     (ok = true → ∃ t, exec (.capArm 4 k v) s = .next t ∧ OnlyDev s t ∧ (t.dev.st k.val).ctl.cap.busy = true ∧
       (t.dev.st k.val).ctl.cap.start = boundaryAfter s.env.tick ∧ t.dev.bit (Fd.CHk_CAP_STATUS_BUSY k.val) = true ∧
       RegsBut s.dev t.dev [Reg.CHk_CAP_CTL k.val, Reg.CHk_CAP_STATUS k.val, Reg.HOSTIF_GRANTS 4]) ∧
     (ok = false → ∃ t, exec (.capArm 4 k v) s = .next t ∧ Rejected s t 4 (Reg.CHk_CAP_CTL k.val) ∧
       (t.dev.st k.val).ctl.cap = (s.dev.st k.val).ctl.cap))) ∧
  (∀ (k : Fin 8) (i : Instr) (s : State), (s.dev.st k.val).ctl.cap.busy = true →
    (i = .captureDone k ∧ (s.dev.st k.val).ctl.cap.left = some 0 ∨
      i = .capAbort 4 k ∧ s.dev.svcWrites = true ∧
        (let w := putBit (s.dev.reg (Reg.CHk_CAP_CTL k.val)).toNat 30 true
         MayWrite s 4 (Reg.CHk_CAP_CTL k.val) w ∧ ∀ r, regInfoAt (Reg.CHk_CAP_CTL k.val) = some r →
           writeValid r (Reg.CHk_CAP_CTL k.val) (mergeWord r (s.dev.reg (Reg.CHk_CAP_CTL k.val)).toNat w) = true)) →
    ∃ t, exec i s = .next t ∧ OnlyDev s t ∧ (t.dev.st k.val).ctl.cap.busy = false ∧
      (t.dev.st k.val).ctl.cap.buf = (s.dev.st k.val).ctl.cap.buf ∧ t.dev.bit (Fd.CHk_CAP_STATUS_BUSY k.val) = false ∧
      t.dev.bit (Fd.CHk_CAP_STATUS_DONE k.val) = true ∧ t.dev.bit (Fd.CHk_CL_EVT_CAP_DONE k.val) = true ∧
      FieldsBut s.dev t.dev [Fd.CHk_CAP_STATUS_BUSY k.val, Fd.CHk_CAP_STATUS_DONE k.val, Fd.CHk_CL_EVT_CAP_DONE k.val,
        ⟨Reg.CHk_CAP_CTL k.val, 0, 32⟩, Fd.HOSTIF_GRANTS_GRANTS 4]) ∧
  (∀ (p : Fin 5) (k : Fin 8) (s : State), MayRead s p.val (Reg.CHk_CAP_DATA k.val) →
    (s.dev.bit (Fd.CHk_CAP_STATUS_BUSY k.val) = true → ∃ t, exec (.capDataRead p k) s = .next t ∧
      AccessError s t p.val (Reg.CHk_CAP_DATA k.val) ∧ (vat t.dev.req p.val).out.data = [0]) ∧
    (s.dev.bit (Fd.CHk_CAP_STATUS_BUSY k.val) = false → ∃ t, exec (.capDataRead p k) s = .next t ∧ OnlyDev s t ∧
      (vat t.dev.req p.val).out.data = [BitVec.ofNat 32 (s.dev.capWord k.val)] ∧
      t.dev.fld (Fd.CHk_CAP_ADDR_ADDR k.val) = (s.dev.fld (Fd.CHk_CAP_ADDR_ADDR k.val) + 1) % 2048 ∧
      FieldsBut s.dev t.dev [Fd.CHk_CAP_ADDR_ADDR k.val, Fd.HOSTIF_GRANTS_GRANTS p.val]))

/-! ### Service access (R395 to R405) -/

/-- SVC_REQ_CHAL, SVC_TRY_PASS, SVC_TRY_RESP, SVC_CLOSE and SVC_IDLE_CLOSE (R397 to R400). Outside a lockout a challenge
is drawn, or a passcode or a response is put to its check; a response needs a current challenge, which it uses up.
Everything else is rejected. READ and FULL close on CLOSE and after IDLE seconds without a good frame; that CLOSE outside
them changes nothing, and that checks may run at once, is the model's reading (log entry 51). SVC_PIN_GO and SVC_PIN_STOP
(R405): in full service a LATCHED string is asked into pin mode with the mask of the write; any other GO is rejected. That
several strings may be in pin mode, and that STOP asks the string it names out of it and drops a GO that waits for it, is
the model's reading (log entry 54). -/
def Obligations.ServiceRequestsAndPinMode : Prop :=
  ((∀ s : State, MayWrite s 4 Reg.SVC_CTL 1 →
     (s.dev.svc.lockout = 0 → ∃ t, exec (.svcReqChal 4) s = .next t ∧ OnlyDev s t ∧
       t.dev.svc = { s.dev.svc with chal := some s.env.lockTicks, draws := s.dev.svc.draws + 1 } ∧
       (∀ w b, w < 4 → b < 4 → bits (t.dev.reg (Reg.SVC_CHALw w)).toNat (8 * b) 8 =
         (Config.challengeByte s.dev.svc.draws (4 * w + b)).toNat) ∧
       RegsBut s.dev t.dev (Reg.SVC_CTL :: Reg.HOSTIF_GRANTS 4 :: (upTo 4).map Reg.SVC_CHALw)) ∧
     (s.dev.svc.lockout ≠ 0 → ∃ t, exec (.svcReqChal 4) s = .next t ∧ Rejected s t 4 Reg.SVC_CTL ∧ t.dev.svc = s.dev.svc)) ∧
   (∀ s : State, MayWrite s 4 Reg.SVC_CTL 4 →
     (s.dev.svc.lockout = 0 → ∃ t, exec (.svcTryPass 4) s = .next t ∧ OnlyDev s t ∧
       t.dev.svc = { s.dev.svc with passBusy := s.dev.svc.passBusy ++ [s.dev.passcodeOk] } ∧
       RegsBut s.dev t.dev [Reg.SVC_CTL, Reg.HOSTIF_GRANTS 4]) ∧
     (s.dev.svc.lockout ≠ 0 → ∃ t, exec (.svcTryPass 4) s = .next t ∧ Rejected s t 4 Reg.SVC_CTL ∧ t.dev.svc = s.dev.svc)) ∧
   (∀ s : State, MayWrite s 4 Reg.SVC_CTL 2 →
     (s.dev.svc.lockout = 0 → s.dev.svc.chal ≠ none → ∃ t, exec (.svcTryResp 4) s = .next t ∧ OnlyDev s t ∧
       t.dev.svc = { s.dev.svc with respBusy := s.dev.svc.respBusy ++ [s.dev.responseOk s.env], chal := none } ∧
       RegsBut s.dev t.dev [Reg.SVC_CTL, Reg.HOSTIF_GRANTS 4]) ∧
     (s.dev.svc.lockout ≠ 0 ∨ s.dev.svc.chal = none →
       ∃ t, exec (.svcTryResp 4) s = .next t ∧ Rejected s t 4 Reg.SVC_CTL ∧ t.dev.svc = s.dev.svc)) ∧
   (∀ (i : Instr) (s : State),
     (i = .svcClose 4 ∧ MayWrite s 4 Reg.SVC_CTL 8 ∨
       i = .svcIdleClose ∧ s.dev.hostRuns = true ∧ s.dev.fld Fd.SVC_CFG_IDLE * 375 ≤ s.dev.svc.idle) →
     ∃ t, exec i s = .next t ∧ OnlyDev s t ∧
       (s.dev.svc.state = svcRead ∨ s.dev.svc.state = svcFull →
         t.dev.svc.state = svcClosed ∧ t.dev.svc.chal = none ∧ t.dev.bit Fd.SVC_EVT_CLOSE = true ∧
         (∀ k, k < 8 → (t.dev.st k).ctl.inj = none) ∧ t.dev.svc.flash = s.dev.svc.flash ∧
         t.dev.bit Fd.SVC_FL_STATUS_SESSION = false ∧
         (∀ c, s.dev.svc.norDirty = some c → t.dev.img.standby = some (c, true)) ∧
         (∀ k, k < 8 → vat t.dev.svc.pinGo k = none ∧
           vat t.dev.svc.pinStop k = (vat s.dev.svc.pinStop k || (vat s.dev.svc.pin k).isSome))) ∧
       (s.dev.svc.state ≠ svcRead → s.dev.svc.state ≠ svcFull →
         t.dev.svc = s.dev.svc ∧ RegsBut s.dev t.dev [Reg.SVC_CTL, Reg.HOSTIF_GRANTS 4])) ∧
   (∀ (p : Fin 5) (i : Instr) (s : State), p.val ≠ 4 → s.dev.hostRuns = true →
     (i = .svcReqChal p ∨ i = .svcTryPass p ∨ i = .svcTryResp p ∨ i = .svcClose p) →
     ∃ t, exec i s = .next t ∧ Rejected s t p.val Reg.SVC_CTL ∧ t.dev.svc = s.dev.svc)) ∧
  ((∀ (v : Word) (s : State), MayWrite s 4 Reg.SVC_PIN (putBit v.toNat 31 true) → tbit v.toNat 30 = false →
     let k := bits v.toNat 16 3
     let ok : Prop := s.dev.svc.state = svcFull ∧ s.dev.phase k = phLatched
     (ok → ∃ t, exec (.svcPinGo 4 v) s = .next t ∧ OnlyDev s t ∧
       t.dev.svc = { s.dev.svc with pinGo := vset s.dev.svc.pinGo k (some (bits v.toNat 0 7)) } ∧
       RegsBut s.dev t.dev [Reg.SVC_PIN, Reg.HOSTIF_GRANTS 4]) ∧
     (¬ ok → ∃ t, exec (.svcPinGo 4 v) s = .next t ∧ Rejected s t 4 Reg.SVC_PIN ∧ t.dev.svc = s.dev.svc)) ∧
   (∀ s : State, MayWrite s 4 Reg.SVC_PIN (putBit (s.dev.reg Reg.SVC_PIN).toNat 30 true) →
     let k := bits (s.dev.reg Reg.SVC_PIN).toNat 16 3
     ∃ t, exec (.svcPinStop 4) s = .next t ∧ OnlyDev s t ∧
       t.dev.svc = { s.dev.svc with pinGo := vset s.dev.svc.pinGo k none
                                    pinStop := vset s.dev.svc.pinStop k
                                      (vat s.dev.svc.pinStop k || (vat s.dev.svc.pin k).isSome) } ∧
       RegsBut s.dev t.dev [Reg.SVC_PIN, Reg.HOSTIF_GRANTS 4]))

/-- PASSCODE_CHECK_DONE, RESPONSE_CHECK_DONE, SVC_LOCKOUT_END, CHALLENGE_EXPIRY and SVC_COMMIT (R397 to R401). A passed
check clears the failures and any lockout and opens READ or FULL where the port may enter it; a failed one counts, and
from the fifth on locks the port out for twice as long each time. A commissioning that is accepted programs both keys;
that any other write of SVC_COMMIT is rejected is the model's reading (log entry 51). -/
def Obligations.ServiceChecksAndCommissioning : Prop :=
  (∀ (ok : Bool) (rest : List Bool) (i : Instr) (st : Nat) (s : State), s.dev.hostRuns = true →
    (i = .passcodeCheckDone ∧ s.dev.svc.passBusy = ok :: rest ∧ st = svcRead ∨
      i = .responseCheckDone ∧ s.dev.svc.respBusy = ok :: rest ∧ st = svcFull) →
    ∃ t, exec i s = .next t ∧ OnlyDev s t ∧
      (i = .passcodeCheckDone → t.dev.svc.passBusy = rest ∧ ∀ w, w < 8 → t.dev.reg (Reg.SVC_PASSw w) = 0) ∧
      (i = .responseCheckDone → t.dev.svc.respBusy = rest) ∧
      (ok = true → t.dev.svc.fails = 0 ∧ t.dev.svc.lockout = 0 ∧
        t.dev.svc.state = (if s.dev.svc.state < st ∧ s.dev.svc.state ≤ svcRead then st else s.dev.svc.state) ∧
        (s.dev.svc.state < st → s.dev.svc.state ≤ svcRead → t.dev.bit Fd.SVC_EVT_OPEN = true)) ∧
      (ok = false → t.dev.svc.state = s.dev.svc.state ∧ t.dev.bit Fd.SVC_EVT_FAIL = true ∧
        (let n := min 255 (s.dev.svc.fails + 1)
         t.dev.svc.fails = n ∧
         (n < 5 → t.dev.svc.lockout = s.dev.svc.lockout) ∧
         (5 ≤ n → t.dev.svc.lockout = 30 * 2 ^ min (n - 5) 12 * 375 + 1 ∧ t.dev.bit Fd.SVC_EVT_LOCKOUT = true))) ∧
      RegsBut s.dev t.dev (Reg.SVC_EVT :: (upTo 8).map Reg.SVC_PASSw)) ∧
  (∀ s : State, s.dev.svc.lockout = 1 → ∃ t, exec .svcLockoutEnd s = .next t ∧ OnlyDev s t ∧
    t.dev = { s.dev with svc := { s.dev.svc with lockout := 0 } }) ∧
  (∀ (t0 : Nat) (s : State), s.dev.svc.chal = some t0 → t0 + 1474560000 ≤ s.env.lockTicks →
    ∃ t, exec .challengeExpiry s = .next t ∧ OnlyDev s t ∧ t.dev = { s.dev with svc := { s.dev.svc with chal := none } }) ∧
  (∀ (v : Word) (s : State), MayWrite s 4 Reg.SVC_COMMIT v.toNat →
    let key := s.dev.regBytes (Reg.SVC_KEYw 0) 8
    let ok : Prop := v = 0xC0DE ∧ s.dev.svc.state = svcCommission ∧ s.dev.fld Fd.SYS_STATE_STATE = 9 ∧
      (∃ x ∈ key, x ≠ 0) ∧ s.env.fuses.ownerKey = none
    (ok → ∃ t, exec (.svcCommit 4 v) s = .next t ∧ t.pending = s.pending ∧ t.comps = s.comps ∧
      t.env = { s.env with fuses := { s.env.fuses with
        ownerKey := some ((sha256 (byteNats s.dev.img.seen.keyXY)).map (BitVec.ofNat 8))
        serviceKey := some (key.map (BitVec.ofNat 8)) } } ∧
      FieldsBut s.dev t.dev [Fd.SVC_EVT_FLASH_DONE, Fd.HOSTIF_GRANTS_GRANTS 4]) ∧
    (¬ ok → ∃ t, exec (.svcCommit 4 v) s = .next t ∧ Rejected s t 4 Reg.SVC_COMMIT))

/-- NOR_READ, NOR_ERASE, NOR_PROGRAM, NOR_VERIFY, NAND_READ, NAND_ERASE, NAND_PROGRAM, NAND_VERIFY, FLASH_OP_DONE and
SVC_FL_DATA_ACCESS (R403, R404). An operation that R403's table allows begins, busy, on the slot that is not loaded; one
that it refuses, NAND_VERIFY always, shows RESULT 3; one while another is busy, or outside FULL and COMMISSION, is
rejected. A completed operation shows its result; erasing and programming change the device only where they are aimed,
and programming clears bits only. That a refused operation counts as a rejected write and a failed one leaves the content
as it was is log entry 51, and that an address runs round within its slot is log entry 53. -/
def Obligations.FlashOperations : Prop :=
  (∀ (i : Instr) (nand : Bool) (op : Nat) (slotB : Bool) (s : State),
    (i, nand, op, slotB) ∈ [(Instr.norRead 4 slotB, false, 0, slotB), (Instr.norErase 4 slotB, false, 1, slotB),
      (Instr.norProgram 4 slotB, false, 2, slotB), (Instr.norVerify 4 slotB, false, 3, slotB),
      (Instr.nandRead 4, true, 0, false), (Instr.nandErase 4, true, 1, false),
      (Instr.nandProgram 4, true, 2, false), (Instr.nandVerify 4, true, 3, false)] →
    MayWrite s 4 Reg.SVC_FL_CTL (flGoWord nand op slotB) →
    let full : Prop := s.dev.svc.state = svcFull ∨ s.dev.svc.state = svcCommission
    (¬ full → ∃ t, exec i s = .next t ∧ Rejected s t 4 Reg.SVC_FL_CTL ∧ t.dev.svc = s.dev.svc) ∧
    (full → s.dev.bit Fd.SVC_FL_STATUS_BUSY = false → s.dev.flashRefused s.env nand op = false →
      ∃ t, exec i s = .next t ∧ OnlyDev s t ∧ t.dev.bit Fd.SVC_FL_STATUS_BUSY = true ∧
        t.dev.fld Fd.SVC_FL_STATUS_RESULT = 0 ∧
        t.dev.svc.flash = some { nand := nand, op := op, slotB := s.dev.flashSlot slotB
                                 addr := s.dev.fld Fd.SVC_FL_ADDR_ADDR } ∧
        (nand = true → t.dev.bit Fd.SVC_FL_STATUS_SESSION = true ∧
          (s.dev.session = false → t.dev.potState = potNoStore)) ∧
        (nand = false → RegsBut s.dev t.dev [Reg.SVC_FL_STATUS, Reg.SVC_FL_CTL, Reg.HOSTIF_GRANTS 4])) ∧
    (full → s.dev.bit Fd.SVC_FL_STATUS_BUSY = false → s.dev.flashRefused s.env nand op = true →
      ∃ t, exec i s = .next t ∧ OnlyDev s t ∧ t.dev.fld Fd.SVC_FL_STATUS_RESULT = 3 ∧ t.dev.svc = s.dev.svc ∧
        t.dev.fld (Fd.HOSTIF_ERRS_REJECTS 4) = min 255 (s.dev.fld (Fd.HOSTIF_ERRS_REJECTS 4) + 1) ∧
        t.dev.bit Fd.SVC_FL_STATUS_BUSY = false) ∧
    (s.dev.bit Fd.SVC_FL_STATUS_BUSY = true → ∃ t, exec i s = .next t ∧ Rejected s t 4 Reg.SVC_FL_CTL ∧
      t.dev.svc = s.dev.svc) ∧
    (nand = true → op = 3 → s.dev.flashRefused s.env nand op = true)) ∧
  (∀ (ok : Bool) (f : FlashOp) (s : State), s.dev.svc.flash = some f → s.dev.domRun domNvm = true → s.dev.hostRuns = true →
    ∃ t, exec (.flashOpDone ok) s = .next t ∧ t.pending = s.pending ∧ t.comps = s.comps ∧
      t.dev.svc.flash = none ∧ t.dev.bit Fd.SVC_FL_STATUS_BUSY = false ∧
      t.dev.fld Fd.SVC_FL_STATUS_RESULT = (if ok then 1 else 2) ∧ t.dev.bit Fd.SVC_EVT_FLASH_DONE = true ∧
      t.env.fuses = s.env.fuses ∧
      (ok = false → t.env = s.env) ∧
      (let base := norAddr f.slotB f.addr 0
       (ok = true → f.nand = false → f.op = 0 → t.env = s.env ∧ ∀ w, w < 64 → t.dev.flWord w =
         leAt (byteNats ((upTo 256).map (fun j => Store.get erased s.env.nor (norAddr f.slotB f.addr j)))) (4 * w) 4) ∧
       (ok = true → f.nand = false → f.op = 1 → t.env.nand = s.env.nand ∧ ∀ a, Store.get erased t.env.nor a =
         if norAddr f.slotB 0 0 ≤ a ∧ a < norAddr f.slotB 0 0 + 0x200000 then 0xFF else Store.get erased s.env.nor a) ∧
       (ok = true → f.nand = false → f.op = 2 → f.addr % 256 = 0 → t.env.nand = s.env.nand ∧
         ∀ a, Store.get erased t.env.nor a =
         if base ≤ a ∧ a < base + 256 then Store.get erased s.env.nor a &&& (s.dev.flBytes 256).getD (a - base) 0
         else Store.get erased s.env.nor a) ∧
       (ok = true → f.nand = false → 3 ≤ f.op → t.env = s.env) ∧
       (ok = true → f.nand = true → t.env.nor = s.env.nor ∧
         (f.op = 0 → t.env = s.env) ∧ (f.op = 1 → t.env = s.env.nandErase (f.addr / 64)) ∧
         (f.op = 2 → t.env = s.env.nandProgram f.addr (s.dev.flBytes 2048))))) ∧
  (∀ (v : Word) (s : State),
    let n := s.dev.fld Fd.SVC_FL_PTR_PTR
    (MayRead s 4 Reg.SVC_FL_DATA → ∃ t, exec (.svcFlDataAccess 4 none) s = .next t ∧ OnlyDev s t ∧
      (vat t.dev.req 4).out.data = [BitVec.ofNat 32 (s.dev.flWord n)] ∧ t.dev.svc = s.dev.svc ∧
      t.dev.fld Fd.SVC_FL_PTR_PTR = (n + 1) % 512 ∧
      FieldsBut s.dev t.dev [Fd.SVC_FL_PTR_PTR, Fd.HOSTIF_GRANTS_GRANTS 4]) ∧
    (MayWrite s 4 Reg.SVC_FL_DATA v.toNat → ∃ t, exec (.svcFlDataAccess 4 (some v)) s = .next t ∧ OnlyDev s t ∧
      (∀ w, t.dev.flWord w = if w = n then v.toNat else s.dev.flWord w) ∧
      t.dev.fld Fd.SVC_FL_PTR_PTR = (n + 1) % 512 ∧
      FieldsBut s.dev t.dev [Fd.SVC_FL_PTR_PTR, Fd.HOSTIF_GRANTS_GRANTS 4]))

/-! ### The cell companion (R249 to R295) -/

/-- COMMAND_FRAME, IDLE_FRAME and BAD_DOWNSTREAM_FRAME (R252, R261, R273, R285). A valid command to a companion that
listens is its commanded state; with its bootstraps charged and no dead time running the switches change to that state,
and 4 is the BYP command. An idle frame with the companion's SEQ changes no switch; one with another SEQ is taken as a
command and shows in RSYNC. A bad frame sets DERR, and a run of valid frames that has not reached 16 starts again; that
one that has reached 16 stays reached is the model's reading (log entry 33). -/
def Obligations.CompanionTakesCommands : Prop :=
  (∀ (c : Fin 56) (t0 : Nat) (cb : Byte) (s : State),
    let x := s.comp c.val
    let code := bits cb.toNat 3 3
    x.en = true → x.mode ≠ .pin → x.fault = none → x.bypCmd = false → code ≠ 5 → code ≠ 6 →
    (tbit cb.toNat 6 = true →
      ∃ t, exec (.commandFrame c t0 cb) s = .next t ∧ OnlyComp s t c.val ∧
        (t.comp c.val).cmd = code ∧ (t.comp c.val).seq = bits cb.toNat 0 3 ∧ (t.comp c.val).lastValid = t0 ∧
        (t.comp c.val).ccfg = x.ccfg ∧ (t.comp c.val).mode = x.mode ∧
        (code = 4 → (t.comp c.val).bypCmd = true) ∧
        (x.gatesOk = true → Charged x → Settled x → (t.comp c.val).fault = none ∧ (t.comp c.val).bypCmd = (code == 4) ∧
          ChangesTo x (t.comp c.val) t0 (.ofState code))) ∧
    (tbit cb.toNat 6 = false →
      ∃ t, exec (.idleFrame c t0 cb) s = .next t ∧ OnlyComp s t c.val ∧ (t.comp c.val).lastValid = t0 ∧
        (bits cb.toNat 0 3 = x.seq → (t.comp c.val).on = x.on ∧ (t.comp c.val).cmd = x.cmd ∧
          (t.comp c.val).seq = x.seq ∧ (t.comp c.val).rsync = x.rsync) ∧
        (bits cb.toNat 0 3 ≠ x.seq → (t.comp c.val).cmd = code ∧ (t.comp c.val).seq = bits cb.toNat 0 3 ∧
          (t.comp c.val).rsync = true))) ∧
  (∀ (c : Fin 56) (t0 : Nat) (s : State),
    let x := s.comp c.val
    x.en = true → ∃ t, exec (.badDownstreamFrame c t0) s = .next t ∧ OnlyComp s t c.val ∧
      t.comp c.val = { x with derr := true, validRun := if x.validRun < 16 then 0 else 16 })

/-- TELEMETRY_FRAME_SEND, MGMT_RESPONSE_SEND, MGMT_READ, MGMT_WRITE_CCFG, OPER_ENTER_OPERATION and OPER_ENTER_PIN_MODE
(R254, R263, R264, R288, R293). A poll is answered with the telemetry bytes and their CRC, and the flags start afresh. A
management read answers the register's value; a write of a CCFG word that is allowed is stored and answered with its
value, any other is answered with ERR and changes nothing; OPER ends management. The data of an answer with ERR is a
free value (log entry 15), and when the companion may answer is log entry 33. -/
def Obligations.CompanionAnswersTheLink : Prop :=
  (∀ (c : Fin 56) (t0 : Nat) (s : State),
    let x := s.comp c.val
    x.en = true →
    (x.poll = true → ∃ t, exec (.telemetryFrameSend c t0) s = .next t ∧ OnlyComp s t c.val ∧
      (let f := encFrame false x.rd (x.telemetry ++ hiLo (crc16 x.telemetry))
       t.comp c.val = { x with tx := f.1, rd := f.2, derr := false, rsync := false, seen := x.present, poll := false
                               fseq := (x.fseq + 1) % 8 })) ∧
    (∀ a b d0 d1, x.resp = some (a, b, d0, d1) →
      ∃ t, exec (.mgmtResponseSend c t0) s = .next t ∧ OnlyComp s t c.val ∧
      (let f := encFrame true x.rd ([a, b, d0, d1, 0] ++ hiLo (crc16 [a, b, d0, d1, 0]))
       t.comp c.val = { x with tx := f.1, rd := f.2, derr := false, rsync := false, seen := x.present, resp := none }))) ∧
  (∀ (c : Fin 56) (t0 tag addr : Nat) (v : BitVec 16) (s : State),
    let x := s.comp c.val
    let h := { x with lastValid := t0, validRun := min 16 (x.validRun + 1), tx := [] }
    let ans (wr err : Nat) (w : Nat) : Nat × Nat × Nat × Nat :=
      (wr * 128 + err * 64 + tag % 16, addr % 256, w % 256, w / 256 % 256)
    x.en = true → x.mode = .manage → 15 ≤ x.validRun → x.fault = none →
    (∀ w, x.mgmtReg addr = some w → ∃ t, exec (.mgmtRead c t0 tag addr) s = .next t ∧ OnlyComp s t c.val ∧
      t.comp c.val = { h with resp := some (ans 0 0 w) }) ∧
    (x.mgmtReg addr = none → ∃ t w, exec (.mgmtRead c t0 tag addr) s = .next t ∧ OnlyComp s t c.val ∧
      t.comp c.val = { h with resp := some (ans 0 1 w) }) ∧
    (∀ n, addr = 0x10 + n → n ≤ 3 → ccfgOk x.classH n v.toNat = true →
      ∃ t, exec (.mgmtWriteCcfg c t0 tag addr v) s = .next t ∧ OnlyComp s t c.val ∧
        t.comp c.val = { h with ccfg := vset x.ccfg n v.toNat, resp := some (ans 1 0 v.toNat) }) ∧
    ((∀ n, addr = 0x10 + n → n ≤ 3 → ccfgOk x.classH n v.toNat = false) → addr ≠ 0x1F →
      ∃ t, exec (.mgmtWriteCcfg c t0 tag addr v) s = .next t ∧ OnlyComp s t c.val ∧
        t.comp c.val = { h with resp := some (ans 1 1 v.toNat) }) ∧
    (addr = 0x1F →
      (∃ t, exec (.operEnterOperation c t0 tag) s = .next t ∧ OnlyComp s t c.val ∧
        t.comp c.val = { h with mode := .operation, resp := some (ans 1 0 1) }) ∧
      (∃ t, exec (.operEnterPinMode c t0 tag) s = .next t ∧ OnlyComp s t c.val ∧
        (t.comp c.val).mode = .pin ∧ (t.comp c.val).resp = some (ans 1 0 2) ∧ (t.comp c.val).ccfg = x.ccfg)))

/-- EN_FALL, EN_RISE, VCC_UVLO, VCC_WARN and BOOTSTRAP_THRESHOLD (R270 to R272, R282). A low pulse of EN below 0.3 µs is
ignored; from 0.5 µs on EN low turns every switch off, and so does a loss of VCC or of VDD3. A rise of EN resets the
companion after 0.5 µs and clears a latched code after 2.0 µs. A bootstrap that falls under its conducting switch latches
0x1F. What a pulse between 0.3 and 0.5 µs does is free (log entry 13). -/
def Obligations.CompanionSuppliesAndReset : Prop :=
  ∀ (c : Fin 56) (t0 low : Nat) (classH : Bool) (leg : Leg) (s : State),
    let x := s.comp c.val
    (x.en = true → low < 300 → ∃ t, exec (.enFall c ⟨t0, low⟩) s = .next t ∧ OnlyComp s t c.val ∧ t.comp c.val = x) ∧
    (x.en = true → 500 ≤ low → ∃ t, exec (.enFall c ⟨t0, low⟩) s = .next t ∧ OnlyComp s t c.val ∧ (t.comp c.val).en = false ∧
      AllOff (t.comp c.val) ∧ (t.comp c.val).fault = x.fault ∧ (t.comp c.val).byp = x.byp ∧ (t.comp c.val).ccfg = x.ccfg) ∧
    (x.en = true → ∃ t, exec (.enRise c t0 low classH) s = .next t ∧ OnlyComp s t c.val ∧ t.comp c.val = x) ∧
    (x.en = false → 500 ≤ low → ∃ t, exec (.enRise c t0 low classH) s = .next t ∧ OnlyComp s t c.val ∧
      (t.comp c.val).en = true ∧ (t.comp c.val).mode = .manage ∧ (t.comp c.val).validRun = 0 ∧
      (t.comp c.val).ccfg = ccfgReset classH ∧ (t.comp c.val).classH = classH ∧ (t.comp c.val).cmd = 7 ∧
      (t.comp c.val).bypCmd = false ∧ (∀ j, j < 8 → vat (t.comp c.val).strength j = 16) ∧
      (low ≤ 1500 → (t.comp c.val).fault = x.fault) ∧
      (2000 ≤ low → (t.comp c.val).fault = none ∧ (t.comp c.val).byp = false)) ∧
    (∀ vdd, ∃ t, exec (.vccUvlo c t0 ⟨false, vdd⟩) s = .next t ∧ OnlyComp s t c.val ∧ (t.comp c.val).vccOk = false ∧
      (t.comp c.val).vddOk = vdd ∧ AllOff (t.comp c.val) ∧ (t.comp c.val).fault = x.fault) ∧
    (x.vccOk = false → x.en = false → ∀ vdd, ∃ t, exec (.vccUvlo c t0 ⟨true, vdd⟩) s = .next t ∧ OnlyComp s t c.val ∧
      (t.comp c.val).vccOk = true ∧ (t.comp c.val).vddOk = vdd ∧ (t.comp c.val).fault = x.fault ∧
      (vdd = true → (t.comp c.val).on = x.on) ∧ (vdd = false → AllOff (t.comp c.val))) ∧
    (x.vccOk = true → ∃ t, exec (.vccUvlo c t0 ⟨true, false⟩) s = .next t ∧ OnlyComp s t c.val ∧
      (t.comp c.val).vccOk = true ∧ (t.comp c.val).vddOk = false ∧ AllOff (t.comp c.val) ∧ (t.comp c.val).fault = x.fault) ∧
    (∀ below, ∃ t, exec (.vccWarn c t0 below) s = .next t ∧ OnlyComp s t c.val ∧ (t.comp c.val).vccLow = below ∧
      tbit (t.comp c.val).present 5 = (below && x.vccOk) ∧ (t.comp c.val).on = x.on ∧ (t.comp c.val).fault = x.fault) ∧
    (∃ t, exec (.bootstrapThreshold c t0 leg true) s = .next t ∧ OnlyComp s t c.val ∧
      vat (t.comp c.val).bootOk (legIx leg) = true ∧ vat (t.comp c.val).bootPassed (legIx leg) = true) ∧
    (vat x.bootPassed (legIx leg) = false ∨ x.on.get (2 * legIx leg) = false →
      ∃ t, exec (.bootstrapThreshold c t0 leg false) s = .next t ∧ OnlyComp s t c.val ∧
        t.comp c.val = { x with bootOk := vset x.bootOk (legIx leg) false }) ∧
    (vat x.bootPassed (legIx leg) = true → x.on.get (2 * legIx leg) = true → x.fault = none →
      ∃ t, exec (.bootstrapThreshold c t0 leg false) s = .next t ∧ OnlyComp s t c.val ∧ Latched x (t.comp c.val) t0 0x1F)

/-- DEAD_TIME_END, BLANKING_END, SWITCH_TRANSITION_MEASURED, OC_TRIP, LIMIT_HOLD_END and IN_PIN_CHANGE (R273 to R279,
R288, R289): an incoming switch turns on at the end of its dead time, a blanking ends, a strength code moves one step
towards its target, an over-current in P or N goes back to its zero form for t_OFF and then to the commanded state, and
in pin mode each switch follows its input, a leg with both inputs high staying off. A transition that ends after the
dead time and 100 ns moves no code, and a current below the comparator's least threshold (R294) trips nothing. That the
hold runs from the trip is log entry 31; which way a part of a nanosecond rounds, and whether an interlock event between
9.5 and 10.5 ms old counts, is free (log entry 14). -/
def Obligations.CompanionSwitches : Prop :=
  (∀ (c : Fin 56) (t0 : Nat) (s : State),
    let x := s.comp c.val
    let ready (i : Nat) : Prop := ∃ e, vat x.inc i = some e ∧ e ≤ t0 + 5 + x.tDT / 20
    x.gatesOk = true → Charged x → x.nextDue = none →
    ∃ t, exec (.deadTimeEnd c t0) s = .next t ∧ OnlyComp s t c.val ∧ (t.comp c.val).fault = x.fault ∧
      ∀ i, i < 4 → (ready i → (t.comp c.val).on.get i = true ∧ vat (t.comp c.val).inc i = none) ∧
        (¬ ready i → (t.comp c.val).on.get i = x.on.get i ∧ vat (t.comp c.val).inc i = vat x.inc i)) ∧
  (∀ (c : Fin 56) (sw : Switch) (t0 e : Nat) (s : State),
    let x := s.comp c.val
    vat x.blank (switchIx sw) = some e → e ≤ t0 + x.tBL / 10 →
    ∃ t, exec (.blankingEnd c sw t0) s = .next t ∧ OnlyComp s t c.val ∧
      t.comp c.val = { x with blank := vset x.blank (switchIx sw) none
                              blankOver := vset x.blankOver (switchIx sw) (some t0) }) ∧
  (∀ (c : Fin 56) (leg : Leg) (a n o : Nat) (s : State),
    let x := s.comp c.val
    let j := 2 * o + 1
    let target := 8 + bits (x.cc 1) 4 6
    let tol := bits (x.cc 1) 2 2 + 1
    let now := vat x.strength j
    x.classH = false →
    (vat x.legOut (legIx leg) = some o → o < 4 → vat x.legIn (legIx leg) = none →
      x.legOver (legIx leg) ((a + 4 * n) / 4) = false →
      ∃ t, exec (.switchTransitionMeasured c leg a (a + 4 * n)) s = .next t ∧ OnlyComp s t c.val ∧
        vat (t.comp c.val).strength j =
          (if target + tol < n then min (now + 1) 31 else if n + tol < target then now - 1 else now) ∧
        (∀ i, i ≠ j → vat (t.comp c.val).strength i = vat x.strength i) ∧
        (t.comp c.val).on = x.on ∧ (t.comp c.val).fault = x.fault) ∧
    (x.legOver (legIx leg) ((a + 4 * n) / 4) = true →
      ∃ t, exec (.switchTransitionMeasured c leg a (a + 4 * n)) s = .next t ∧ OnlyComp s t c.val ∧
        t.comp c.val = { x with legOut := vset x.legOut (legIx leg) none, legIn := vset x.legIn (legIx leg) none })) ∧
  (∀ (c : Fin 56) (t0 mv : Nat) (s : State),
    let x := s.comp c.val
    let octh := bits (x.cc 0) 0 7
    (95 * (4 * octh) < 100 * (mv + 3) →
      x.on.state = 2 ∨ x.on.state = 3 → x.blanking t0 = [] → x.fault = none → x.gatesOk = true → Charged x → Settled x →
      ∃ t, exec (.ocTrip c ⟨t0, mv⟩) s = .next t ∧ OnlyComp s t c.val ∧ (t.comp c.val).limit = some (t0 + x.tOff) ∧
        (t.comp c.val).limcnt = (x.limcnt + 1) % 16 ∧ (t.comp c.val).cmd = x.cmd ∧ (t.comp c.val).fault = none ∧
        ChangesTo x (t.comp c.val) t0 (.ofState x.back)) ∧
    (100 * (mv + 3) ≤ 95 * (4 * octh) → ∃ t, exec (.ocTrip c ⟨t0, mv⟩) s = .next t ∧ OnlyComp s t c.val ∧ t.comp c.val = x)) ∧
  (∀ (c : Fin 56) (t0 e : Nat) (s : State),
    let x := s.comp c.val
    x.limit = some e → e ≤ t0 → x.mode ≠ .pin → x.gatesOk = true → Charged x → (∀ i, i < 4 → vat x.inc i = none) →
    ∃ t, exec (.limitHoldEnd c t0) s = .next t ∧ OnlyComp s t c.val ∧ (t.comp c.val).limit = none ∧
      ChangesTo x (t.comp c.val) t0 (.ofState x.cmd)) ∧
  (∀ (c : Fin 56) (t0 : Nat) (ah al bh bl : Bool) (s : State),
    let x := s.comp c.val
    let w : SwSet := ⟨ah, al, bh, bl⟩
    let off (i : Nat) : Nat := if x.on.get (partner i) then t0 else vat x.offAt (partner i)
    x.mode = .pin → x.gatesOk = true → x.fault = none → Charged x →
    ((ah && al) = false → (bh && bl) = false →
      ∃ t, exec (.inPinChange c t0 ah al bh bl) s = .next t ∧ OnlyComp s t c.val ∧ (t.comp c.val).pins = w ∧
        (t.comp c.val).fault = none ∧
        ∀ i, i < 4 → (w.get i = false → (t.comp c.val).on.get i = false ∧ vat (t.comp c.val).inc i = none) ∧
          (w.get i = true → x.on.get i = true → (t.comp c.val).on.get i = true) ∧
          (w.get i = true → x.on.get i = false → off i + x.tDT ≤ t0 → (t.comp c.val).on.get i = true) ∧
          (w.get i = true → x.on.get i = false → t0 < off i + x.tDT →
            (t.comp c.val).on.get i = false ∧ vat (t.comp c.val).inc i = some (off i + x.tDT))) ∧
    (ah = true → al = true → (bh && bl) = false → (x.pins.ah && x.pins.al) = false →
      ∃ t, exec (.inPinChange c t0 ah al bh bl) s = .next t ∧ OnlyComp s t c.val ∧
        tbit (t.comp c.val).seen 1 = true ∧ (t.comp c.val).on.ah = false ∧ (t.comp c.val).on.al = false ∧
        (2 ≤ (x.ilock.filter (fun e => decide (t0 < e + 9500000))).length → Latched x (t.comp c.val) t0 0x14) ∧
        ((x.ilock.filter (fun e => decide (t0 < e + 10500000))).length < 2 → (t.comp c.val).fault = none)))

/-- LINK_LOSS_TIMEOUT, TEMP_MEASUREMENT, VBUS_CONVERSION, OSCILLATOR_OR_SELF_CHECK_FAILURE, VCC_UVLO, OC2_TRIP and
DESAT_TRIP (R267, R270, R277, R280 to R287): each of these conditions latches its code in a companion with none latched,
with every switch off at once; the code of a trip names the partner of the switch it is attributed to. A desaturation
comparator acts on a switch that is on, or that has been turned off softly for at most 300 ns, outside its blanking; an
unattributed trip of it within 200 ns of an unattributed one in the other leg makes the code 0x10. A level below a
comparator's least threshold (R294) trips nothing. ZERO_BYPASS_HOLDOFF_END (R284): 1.0 µs later the zero form of the code
is on. A measurement that is in range only shows its code. -/
def Obligations.CompanionLatchesFaults : Prop :=
  (∀ (c : Fin 56) (t0 mv : Nat) (i : Instr) (code : Nat) (s : State),
    let x := s.comp c.val
    let vov := 16 * bits (x.cc 2) 8 8
    let vuv := 16 * bits (x.cc 2) 0 8
    let trips := 95 * (8 * bits (x.cc 0) 0 7) < 100 * (mv + 5)
    (i = .oscillatorOrSelfCheckFailure c t0 ∧ code = 0x15 ∨
      (∃ vdd, i = .vccUvlo c t0 ⟨true, vdd⟩) ∧ x.vccOk = false ∧ x.en = true ∧ code = 0x12 ∨
      i = .linkLossTimeout c t0 ∧ x.en = true ∧ x.lastValid + 1200 ≤ t0 ∧ code = 0x1E ∨
      (∃ v : BitVec 8, i = .tempMeasurement c t0 v ∧ bits (x.cc 3) 8 8 ≤ v.toNat ∧ code = 0x13) ∨
      (∃ v : BitVec 12, i = .vbusConversion c t0 v ∧ vov ≤ v.toNat ∧ 7 ≤ x.ovRun ∧ code = 0x1C) ∨
      (∃ v : BitVec 12, i = .vbusConversion c t0 v ∧ v.toNat < vov ∧ v.toNat ≤ vuv ∧ 63 ≤ x.uvRun ∧ x.uvArmed = true ∧
        code = 0x1D) ∨
      (∃ n, i = .oc2Trip c ⟨t0, mv⟩ ∧ trips ∧ x.blanking t0 = [n] ∧ code = 0x18 + partner n) ∨
      i = .oc2Trip c ⟨t0, mv⟩ ∧ trips ∧ (x.blanking t0).length ≠ 1 ∧ code = 0x11) →
    ∃ t, exec i s = .next t ∧ OnlyComp s t c.val ∧
      (x.fault = none → Latched x (t.comp c.val) t0 code) ∧
      (∀ f, x.fault = some f → (t.comp c.val).fault = some f ∧
        (relayCode code = true → (t.comp c.val).byp = true ∧ AllOff (t.comp c.val)))) ∧
  (∀ (c : Fin 56) (sw : Switch) (t0 mv : Nat) (s : State),
    let x := s.comp c.val
    let n := switchIx sw
    let other := vat x.tripAt (1 - n / 2)
    let acts : Prop := 6500 < mv ∧ (x.on.get n = true ∨ ∃ u, vat x.softAt n = some u ∧ t0 ≤ u + 300) ∧ x.inBlank n t0 = false
    let near : Prop := ∃ e, x.blankedTo n = some e ∧ t0 ≤ e + 200
    (acts → near → ∃ t, exec (.desatTrip c sw ⟨t0, mv⟩) s = .next t ∧ OnlyComp s t c.val ∧
      (x.fault = none → Latched x (t.comp c.val) t0 (0x18 + partner n)) ∧
      (∀ f, x.fault = some f → (t.comp c.val).fault = some f)) ∧
    (acts → ¬ near → ∃ t, exec (.desatTrip c sw ⟨t0, mv⟩) s = .next t ∧ OnlyComp s t c.val ∧
      (x.fault = none → (∃ u, other = some u ∧ t0 ≤ u + 200) → Latched x (t.comp c.val) t0 0x10) ∧
      (x.fault = none → (∀ u, other = some u → u + 200 < t0) → Latched x (t.comp c.val) t0 0x11) ∧
      (∀ f, x.fault = some f → AllOff (t.comp c.val) ∧ (t.comp c.val).byp = true ∧
        (f = 0x11 → other = some x.latchAt → t0 ≤ x.latchAt + 200 → (t.comp c.val).fault = some 0x10) ∧
        (f ≠ 0x11 ∨ other ≠ some x.latchAt ∨ x.latchAt + 200 < t0 → (t.comp c.val).fault = some f))) ∧
    (¬ acts → ∃ t, exec (.desatTrip c sw ⟨t0, mv⟩) s = .next t ∧ OnlyComp s t c.val ∧ t.comp c.val = x) ∧
    (100 * (mv + 5) ≤ 95 * (8 * bits (x.cc 0) 0 7) →
      ∃ t, exec (.oc2Trip c ⟨t0, mv⟩) s = .next t ∧ OnlyComp s t c.val ∧ t.comp c.val = x)) ∧
  (∀ (c : Fin 56) (t0 h f : Nat) (s : State),
    let x := s.comp c.val
    x.holdoff = some h → h ≤ t0 + 50 → x.fault = some f → x.gatesOk = true → (∀ l, l < 2 → vat x.bootOk l = true) →
    ∃ t, exec (.zeroBypassHoldoffEnd c t0) s = .next t ∧ OnlyComp s t c.val ∧ (t.comp c.val).zero = true ∧
      (t.comp c.val).holdoff = none ∧ (t.comp c.val).fault = some f ∧
      ∀ i, i < 4 → (t.comp c.val).on.get i = (x.on.get i || (SwSet.ofState (zeroForm f)).get i)) ∧
  (∀ (c : Fin 56) (t0 : Nat) (tc : BitVec 8) (v : BitVec 12) (s : State),
    let x := s.comp c.val
    (tc.toNat < bits (x.cc 3) 8 8 → ∃ t, exec (.tempMeasurement c t0 tc) s = .next t ∧ OnlyComp s t c.val ∧
      (t.comp c.val).temp = tc.toNat ∧ (t.comp c.val).fault = x.fault ∧ (t.comp c.val).on = x.on ∧
      tbit (t.comp c.val).present 2 = decide (bits (x.cc 3) 8 8 ≤ tc.toNat + 15)) ∧
    (v.toNat < 16 * bits (x.cc 2) 8 8 → 16 * bits (x.cc 2) 0 8 < v.toNat →
      ∃ t, exec (.vbusConversion c t0 v) s = .next t ∧ OnlyComp s t c.val ∧ (t.comp c.val).vbus = v.toNat ∧
        (t.comp c.val).ovRun = 0 ∧ (t.comp c.val).uvRun = 0 ∧ (t.comp c.val).fault = x.fault ∧ (t.comp c.val).on = x.on))
end

