-- ==== Sys2Proof/Laws/Bits.lean ====
section
/-! SUPPORT. Laws of bit fields, vectors and saturation. -/
namespace Sys2Proof.Machine

/-- A number split at two positions. -/
theorem bits_split (n lo w : Nat) : n = n / 2 ^ (lo + w) * 2 ^ (lo + w) + bits n lo w * 2 ^ lo + n % 2 ^ lo := by
  unfold bits
  have h1 := Nat.div_add_mod n (2 ^ lo)
  have h2 := Nat.div_add_mod (n / 2 ^ lo) (2 ^ w)
  rw [Nat.div_div_eq_div_mul, ← pow_add] at h2
  rw [pow_add] at *
  calc n = 2 ^ lo * (n / 2 ^ lo) + n % 2 ^ lo := h1.symm
    _ = 2 ^ lo * (2 ^ w * (n / (2 ^ lo * 2 ^ w)) + n / 2 ^ lo % 2 ^ w) + n % 2 ^ lo := by rw [h2]
    _ = _ := by ring

/-- A field write as the two parts it keeps and the one it sets. -/
theorem putBits_eq (n lo w v : Nat) :
    putBits n lo w v = n / 2 ^ (lo + w) * 2 ^ (lo + w) + v % 2 ^ w * 2 ^ lo + n % 2 ^ lo := by
  have h := bits_split n lo w
  unfold putBits
  generalize bits n lo w * 2 ^ lo = x at *
  omega

theorem putBits_lt {n lo w v : Nat} (hn : n < 2 ^ 32) (h : lo + w ≤ 32) : putBits n lo w v < 2 ^ 32 := by
  rw [putBits_eq]
  have h1 : v % 2 ^ w < 2 ^ w := Nat.mod_lt _ (by positivity)
  have h2 : n % 2 ^ lo < 2 ^ lo := Nat.mod_lt _ (by positivity)
  have h3 : n / 2 ^ (lo + w) < 2 ^ (32 - (lo + w)) := by
    rw [Nat.div_lt_iff_lt_mul (by positivity), ← pow_add]
    rwa [Nat.sub_add_cancel h]
  have h4 : v % 2 ^ w * 2 ^ lo + n % 2 ^ lo < 2 ^ (lo + w) := by
    rw [pow_add]
    have := Nat.mul_le_mul_right (2 ^ lo) (Nat.succ_le_of_lt h1)
    rw [Nat.succ_mul] at this
    calc _ < v % 2 ^ w * 2 ^ lo + 2 ^ lo := by omega
      _ ≤ 2 ^ w * 2 ^ lo := this
      _ = 2 ^ lo * 2 ^ w := Nat.mul_comm _ _
  calc n / 2 ^ (lo + w) * 2 ^ (lo + w) + v % 2 ^ w * 2 ^ lo + n % 2 ^ lo
      < n / 2 ^ (lo + w) * 2 ^ (lo + w) + 2 ^ (lo + w) := by omega
    _ = (n / 2 ^ (lo + w) + 1) * 2 ^ (lo + w) := by ring
    _ ≤ 2 ^ (32 - (lo + w)) * 2 ^ (lo + w) := Nat.mul_le_mul_right _ h3
    _ = 2 ^ 32 := by rw [← pow_add, Nat.sub_add_cancel h]

/-- A field reads back what was put into it. -/
theorem bits_putBits_same (n lo w v : Nat) : bits (putBits n lo w v) lo w = v % 2 ^ w := by
  rw [putBits_eq, bits, pow_add]
  have h2 : n % 2 ^ lo < 2 ^ lo := Nat.mod_lt _ (by positivity)
  have : n / (2 ^ lo * 2 ^ w) * (2 ^ lo * 2 ^ w) + v % 2 ^ w * 2 ^ lo + n % 2 ^ lo
      = n % 2 ^ lo + 2 ^ lo * (v % 2 ^ w + 2 ^ w * (n / (2 ^ lo * 2 ^ w))) := by ring
  rw [this, Nat.add_mul_div_left _ _ (by positivity), Nat.div_eq_of_lt h2, zero_add, Nat.add_mul_mod_self_left,
    Nat.mod_mod]

/-- Bits below a position depend on the number modulo that power only. -/
theorem bits_mod {n m k lo w : Nat} (h : lo + w ≤ k) (e : n % 2 ^ k = m % 2 ^ k) : bits n lo w = bits m lo w := by
  have key : ∀ x, bits x lo w = bits (x % 2 ^ k) lo w := fun x => by
    apply Nat.eq_of_testBit_eq
    intro i
    simp only [bits, Nat.testBit_mod_two_pow, Nat.testBit_div_two_pow]
    by_cases hi : i < w
    · have : lo + i < k := by omega
      simp [hi, this, Nat.add_comm]
    · simp [hi]
  rw [key n, key m, e]

/-- Bits from a position up depend on the quotient by that power only. -/
theorem bits_div {n m k lo w : Nat} (h : k ≤ lo) (e : n / 2 ^ k = m / 2 ^ k) : bits n lo w = bits m lo w := by
  have key : ∀ x, x / 2 ^ lo = x / 2 ^ k / 2 ^ (lo - k) := fun x => by
    rw [Nat.div_div_eq_div_mul, ← pow_add, Nat.add_sub_cancel' h]
  unfold bits
  rw [key n, key m, e]

/-- A field below keeps its value. -/
theorem bits_putBits_below {n lo w v lo' w' : Nat} (h : lo' + w' ≤ lo) :
    bits (putBits n lo w v) lo' w' = bits n lo' w' := by
  refine bits_mod h ?_
  rw [putBits_eq, pow_add]
  have : n / (2 ^ lo * 2 ^ w) * (2 ^ lo * 2 ^ w) + v % 2 ^ w * 2 ^ lo + n % 2 ^ lo
      = n % 2 ^ lo + 2 ^ lo * (v % 2 ^ w + 2 ^ w * (n / (2 ^ lo * 2 ^ w))) := by ring
  rw [this, Nat.add_mul_mod_self_left, Nat.mod_mod]

/-- A field above keeps its value. -/
theorem bits_putBits_above {n lo w v lo' w' : Nat} (h : lo + w ≤ lo') :
    bits (putBits n lo w v) lo' w' = bits n lo' w' := by
  refine bits_div h ?_
  rw [putBits_eq]
  have h1 : v % 2 ^ w < 2 ^ w := Nat.mod_lt _ (by positivity)
  have h2 : n % 2 ^ lo < 2 ^ lo := Nat.mod_lt _ (by positivity)
  have h4 : v % 2 ^ w * 2 ^ lo + n % 2 ^ lo < 2 ^ (lo + w) := by
    rw [pow_add]
    have := Nat.mul_le_mul_right (2 ^ lo) (Nat.succ_le_of_lt h1)
    rw [Nat.succ_mul] at this
    calc _ < v % 2 ^ w * 2 ^ lo + 2 ^ lo := by omega
      _ ≤ 2 ^ w * 2 ^ lo := this
      _ = 2 ^ lo * 2 ^ w := Nat.mul_comm _ _
  rw [add_assoc, Nat.mul_comm, Nat.mul_add_div (by positivity), Nat.div_eq_of_lt h4, add_zero]

theorem tbit_eq_bits (n i : Nat) : tbit n i = (bits n i 1 == 1) := by simp [tbit, bits]

/-! ### Vectors -/

@[simp] theorem vat_vset_same {α : Type} [Inhabited α] {n : Nat} {v : Vector α n} {i : Nat} {x : α} (h : i < n) :
    vat (vset v i x) i = x := by
  simp [vat, vset, Vector.getD, h]

theorem vat_vset_other {α : Type} [Inhabited α] {n : Nat} {v : Vector α n} {i j : Nat} {x : α} (h : j ≠ i) :
    vat (vset v i x) j = vat v j := by
  simp only [vat, vset, Vector.getD, Vector.toArray_setIfInBounds, Array.getD_eq_getD_getElem?]
  rw [Array.getElem?_setIfInBounds_ne (Ne.symm h)]

@[simp] theorem vat_vmod_same {α : Type} [Inhabited α] {n : Nat} {v : Vector α n} {i : Nat} {f : α → α} (h : i < n) :
    vat (vmod v i f) i = f (vat v i) := by
  simp [vat, vmod, Vector.getD, h]

theorem vat_vmod_other {α : Type} [Inhabited α] {n : Nat} {v : Vector α n} {i j : Nat} {f : α → α} (h : j ≠ i) :
    vat (vmod v i f) j = vat v j := vat_vset_other h

theorem vat_replicate {α : Type} [Inhabited α] {n : Nat} {x : α} {i : Nat} (h : i < n) : vat (Vector.replicate n x) i = x := by
  simp [vat, Vector.getD, h]

/-! ### Saturation (R9, R19) -/

theorem addSat_le (w a b : Nat) : addSat w a b ≤ 2 ^ w - 1 := Nat.min_le_left _ _

theorem addSat_lt (w a b : Nat) : addSat w a b < 2 ^ w := by
  have : 0 < 2 ^ w := by positivity
  have := addSat_le w a b
  omega

theorem clampI_bounds {lo hi x : Int} (h : lo ≤ hi) : lo ≤ clampI lo hi x ∧ clampI lo hi x ≤ hi := by
  unfold clampI; split
  · exact ⟨le_refl _, h⟩
  · split
    · exact ⟨h, le_refl _⟩
    · omega

theorem sat_bounds (w : Nat) (x : Int) : -(2 ^ (w - 1)) ≤ sat w x ∧ sat w x ≤ 2 ^ (w - 1) - 1 := by
  have : (0 : Int) < 2 ^ (w - 1) := by positivity
  exact clampI_bounds (by omega)

end Sys2Proof.Machine
end

