-- ==== Sys2Proof/Laws/Image.lean ====
section
/-! SUPPORT. What judging the rules of an image leaves alone: the words and the baselines that its records load are those of
its two sections. -/
namespace Sys2Proof.Machine

theorem ImgBuild.judge_loads (b : ImgBuild) (r : ImgRule) :
    (b.judge r).words = b.words ∧ (b.judge r).bases = b.bases := by
  unfold ImgBuild.judge
  split
  · exact ⟨rfl, rfl⟩
  · dsimp only; split <;> exact ⟨rfl, rfl⟩

theorem ImgBuild.limitRule_loads (b : ImgBuild) (x : LimitEnt × Nat) :
    (b.limitRule x).words = b.words ∧ (b.limitRule x).bases = b.bases := by
  unfold ImgBuild.limitRule
  dsimp only
  cases fieldOfMask x.1.addr x.1.mask with
  | none => exact ⟨rfl, rfl⟩
  | some f => dsimp only; split <;> (try split) <;> exact ⟨rfl, rfl⟩

/-- A fold of steps that leave the loaded words and baselines alone leaves them alone. -/
theorem ImgBuild.foldl_loads {α : Type} (f : ImgBuild → α → ImgBuild)
    (h : ∀ b x, (f b x).words = b.words ∧ (f b x).bases = b.bases) (l : List α) (b : ImgBuild) :
    (l.foldl f b).words = b.words ∧ (l.foldl f b).bases = b.bases := by
  induction l generalizing b with
  | nil => exact ⟨rfl, rfl⟩
  | cons x t ih => exact ⟨(ih _).1.trans (h b x).1, (ih _).2.trans (h b x).2⟩

/-- The words and the baselines of an image are those that its two sections load. -/
theorem readImage_loads (is440 : Bool) (gen safe : List Nat) (safeOff : Nat) :
    let b := ((default : ImgBuild).section is440 false (gen.length + 1) 0 0x40 gen).section is440 true (safe.length + 1) 0
      safeOff safe
    (readImage is440 gen safe safeOff).words = b.words ∧ (readImage is440 gen safe safeOff).bases = b.bases := by
  unfold readImage
  exact ⟨((ImgBuild.foldl_loads _ ImgBuild.judge_loads _ _).1).trans (ImgBuild.foldl_loads _ ImgBuild.limitRule_loads _ _).1,
    ((ImgBuild.foldl_loads _ ImgBuild.judge_loads _ _).2).trans (ImgBuild.foldl_loads _ ImgBuild.limitRule_loads _ _).2⟩

end Sys2Proof.Machine
end

