-- ==== Sys2Proof/Laws/State.lean ====
section
/-! SUPPORT. The frame of every named update of the controller's state, one lemma per field per update, each true by
unfolding: an update of one part leaves every other part as it is. -/
namespace Sys2Proof.Machine

variable (d : Dev)

/-! ### setReg -/

@[simp] theorem Dev.setReg_held (a : Nat) (v : Word) : (d.setReg a v).held = d.held := (rfl)
@[simp] theorem Dev.setReg_pwr (a : Nat) (v : Word) : (d.setReg a v).pwr = d.pwr := (rfl)
@[simp] theorem Dev.setReg_img (a : Nat) (v : Word) : (d.setReg a v).img = d.img := (rfl)
@[simp] theorem Dev.setReg_port (a : Nat) (v : Word) : (d.setReg a v).port = d.port := (rfl)
@[simp] theorem Dev.setReg_aes (a : Nat) (v : Word) : (d.setReg a v).aes = d.aes := (rfl)
@[simp] theorem Dev.setReg_conv (a : Nat) (v : Word) : (d.setReg a v).conv = d.conv := (rfl)
@[simp] theorem Dev.setReg_align (a : Nat) (v : Word) : (d.setReg a v).align = d.align := (rfl)
@[simp] theorem Dev.setReg_zone (a : Nat) (v : Word) : (d.setReg a v).zone = d.zone := (rfl)
@[simp] theorem Dev.setReg_mon (a : Nat) (v : Word) : (d.setReg a v).mon = d.mon := (rfl)
@[simp] theorem Dev.setReg_monPrev (a : Nat) (v : Word) : (d.setReg a v).monPrev = d.monPrev := (rfl)
@[simp] theorem Dev.setReg_sieve (a : Nat) (v : Word) : (d.setReg a v).sieve = d.sieve := (rfl)
@[simp] theorem Dev.setReg_firMem (a : Nat) (v : Word) : (d.setReg a v).firMem = d.firMem := (rfl)
@[simp] theorem Dev.setReg_firCnt (a : Nat) (v : Word) : (d.setReg a v).firCnt = d.firCnt := (rfl)
@[simp] theorem Dev.setReg_firCopy (a : Nat) (v : Word) : (d.setReg a v).firCopy = d.firCopy := (rfl)
@[simp] theorem Dev.setReg_dstore (a : Nat) (v : Word) : (d.setReg a v).dstore = d.dstore := (rfl)
@[simp] theorem Dev.setReg_dsCnt (a : Nat) (v : Word) : (d.setReg a v).dsCnt = d.dsCnt := (rfl)
@[simp] theorem Dev.setReg_mortar (a : Nat) (v : Word) : (d.setReg a v).mortar = d.mortar := (rfl)
@[simp] theorem Dev.setReg_ecc (a : Nat) (v : Word) : (d.setReg a v).ecc = d.ecc := (rfl)
@[simp] theorem Dev.setReg_str (a : Nat) (v : Word) : (d.setReg a v).str = d.str := (rfl)
@[simp] theorem Dev.setReg_load (a : Nat) (v : Word) : (d.setReg a v).load = d.load := (rfl)
@[simp] theorem Dev.setReg_test (a : Nat) (v : Word) : (d.setReg a v).test = d.test := (rfl)
@[simp] theorem Dev.setReg_diag (a : Nat) (v : Word) : (d.setReg a v).diag = d.diag := (rfl)
@[simp] theorem Dev.setReg_lid (a : Nat) (v : Word) : (d.setReg a v).lid = d.lid := (rfl)
@[simp] theorem Dev.setReg_pot (a : Nat) (v : Word) : (d.setReg a v).pot = d.pot := (rfl)
@[simp] theorem Dev.setReg_lock (a : Nat) (v : Word) : (d.setReg a v).lock = d.lock := (rfl)
@[simp] theorem Dev.setReg_req (a : Nat) (v : Word) : (d.setReg a v).req = d.req := (rfl)
@[simp] theorem Dev.setReg_svc (a : Nat) (v : Word) : (d.setReg a v).svc = d.svc := (rfl)
@[simp] theorem Dev.setReg_bg (a : Nat) (v : Word) : (d.setReg a v).bg = d.bg := (rfl)
@[simp] theorem Dev.setReg_free (a : Nat) (v : Word) : (d.setReg a v).free = d.free := (rfl)

/-! ### put -/

@[simp] theorem Dev.put_held (f : Fld) (v : Nat) : (d.put f v).held = d.held := (rfl)
@[simp] theorem Dev.put_pwr (f : Fld) (v : Nat) : (d.put f v).pwr = d.pwr := (rfl)
@[simp] theorem Dev.put_img (f : Fld) (v : Nat) : (d.put f v).img = d.img := (rfl)
@[simp] theorem Dev.put_port (f : Fld) (v : Nat) : (d.put f v).port = d.port := (rfl)
@[simp] theorem Dev.put_aes (f : Fld) (v : Nat) : (d.put f v).aes = d.aes := (rfl)
@[simp] theorem Dev.put_conv (f : Fld) (v : Nat) : (d.put f v).conv = d.conv := (rfl)
@[simp] theorem Dev.put_align (f : Fld) (v : Nat) : (d.put f v).align = d.align := (rfl)
@[simp] theorem Dev.put_zone (f : Fld) (v : Nat) : (d.put f v).zone = d.zone := (rfl)
@[simp] theorem Dev.put_mon (f : Fld) (v : Nat) : (d.put f v).mon = d.mon := (rfl)
@[simp] theorem Dev.put_monPrev (f : Fld) (v : Nat) : (d.put f v).monPrev = d.monPrev := (rfl)
@[simp] theorem Dev.put_sieve (f : Fld) (v : Nat) : (d.put f v).sieve = d.sieve := (rfl)
@[simp] theorem Dev.put_firMem (f : Fld) (v : Nat) : (d.put f v).firMem = d.firMem := (rfl)
@[simp] theorem Dev.put_firCnt (f : Fld) (v : Nat) : (d.put f v).firCnt = d.firCnt := (rfl)
@[simp] theorem Dev.put_firCopy (f : Fld) (v : Nat) : (d.put f v).firCopy = d.firCopy := (rfl)
@[simp] theorem Dev.put_dstore (f : Fld) (v : Nat) : (d.put f v).dstore = d.dstore := (rfl)
@[simp] theorem Dev.put_dsCnt (f : Fld) (v : Nat) : (d.put f v).dsCnt = d.dsCnt := (rfl)
@[simp] theorem Dev.put_mortar (f : Fld) (v : Nat) : (d.put f v).mortar = d.mortar := (rfl)
@[simp] theorem Dev.put_ecc (f : Fld) (v : Nat) : (d.put f v).ecc = d.ecc := (rfl)
@[simp] theorem Dev.put_str (f : Fld) (v : Nat) : (d.put f v).str = d.str := (rfl)
@[simp] theorem Dev.put_load (f : Fld) (v : Nat) : (d.put f v).load = d.load := (rfl)
@[simp] theorem Dev.put_test (f : Fld) (v : Nat) : (d.put f v).test = d.test := (rfl)
@[simp] theorem Dev.put_diag (f : Fld) (v : Nat) : (d.put f v).diag = d.diag := (rfl)
@[simp] theorem Dev.put_lid (f : Fld) (v : Nat) : (d.put f v).lid = d.lid := (rfl)
@[simp] theorem Dev.put_pot (f : Fld) (v : Nat) : (d.put f v).pot = d.pot := (rfl)
@[simp] theorem Dev.put_lock (f : Fld) (v : Nat) : (d.put f v).lock = d.lock := (rfl)
@[simp] theorem Dev.put_req (f : Fld) (v : Nat) : (d.put f v).req = d.req := (rfl)
@[simp] theorem Dev.put_svc (f : Fld) (v : Nat) : (d.put f v).svc = d.svc := (rfl)
@[simp] theorem Dev.put_bg (f : Fld) (v : Nat) : (d.put f v).bg = d.bg := (rfl)
@[simp] theorem Dev.put_free (f : Fld) (v : Nat) : (d.put f v).free = d.free := (rfl)

/-! ### putI -/

@[simp] theorem Dev.putI_held (f : Fld) (v : Int) : (d.putI f v).held = d.held := (rfl)
@[simp] theorem Dev.putI_pwr (f : Fld) (v : Int) : (d.putI f v).pwr = d.pwr := (rfl)
@[simp] theorem Dev.putI_img (f : Fld) (v : Int) : (d.putI f v).img = d.img := (rfl)
@[simp] theorem Dev.putI_port (f : Fld) (v : Int) : (d.putI f v).port = d.port := (rfl)
@[simp] theorem Dev.putI_aes (f : Fld) (v : Int) : (d.putI f v).aes = d.aes := (rfl)
@[simp] theorem Dev.putI_conv (f : Fld) (v : Int) : (d.putI f v).conv = d.conv := (rfl)
@[simp] theorem Dev.putI_align (f : Fld) (v : Int) : (d.putI f v).align = d.align := (rfl)
@[simp] theorem Dev.putI_zone (f : Fld) (v : Int) : (d.putI f v).zone = d.zone := (rfl)
@[simp] theorem Dev.putI_mon (f : Fld) (v : Int) : (d.putI f v).mon = d.mon := (rfl)
@[simp] theorem Dev.putI_monPrev (f : Fld) (v : Int) : (d.putI f v).monPrev = d.monPrev := (rfl)
@[simp] theorem Dev.putI_sieve (f : Fld) (v : Int) : (d.putI f v).sieve = d.sieve := (rfl)
@[simp] theorem Dev.putI_firMem (f : Fld) (v : Int) : (d.putI f v).firMem = d.firMem := (rfl)
@[simp] theorem Dev.putI_firCnt (f : Fld) (v : Int) : (d.putI f v).firCnt = d.firCnt := (rfl)
@[simp] theorem Dev.putI_firCopy (f : Fld) (v : Int) : (d.putI f v).firCopy = d.firCopy := (rfl)
@[simp] theorem Dev.putI_dstore (f : Fld) (v : Int) : (d.putI f v).dstore = d.dstore := (rfl)
@[simp] theorem Dev.putI_dsCnt (f : Fld) (v : Int) : (d.putI f v).dsCnt = d.dsCnt := (rfl)
@[simp] theorem Dev.putI_mortar (f : Fld) (v : Int) : (d.putI f v).mortar = d.mortar := (rfl)
@[simp] theorem Dev.putI_ecc (f : Fld) (v : Int) : (d.putI f v).ecc = d.ecc := (rfl)
@[simp] theorem Dev.putI_str (f : Fld) (v : Int) : (d.putI f v).str = d.str := (rfl)
@[simp] theorem Dev.putI_load (f : Fld) (v : Int) : (d.putI f v).load = d.load := (rfl)
@[simp] theorem Dev.putI_test (f : Fld) (v : Int) : (d.putI f v).test = d.test := (rfl)
@[simp] theorem Dev.putI_diag (f : Fld) (v : Int) : (d.putI f v).diag = d.diag := (rfl)
@[simp] theorem Dev.putI_lid (f : Fld) (v : Int) : (d.putI f v).lid = d.lid := (rfl)
@[simp] theorem Dev.putI_pot (f : Fld) (v : Int) : (d.putI f v).pot = d.pot := (rfl)
@[simp] theorem Dev.putI_lock (f : Fld) (v : Int) : (d.putI f v).lock = d.lock := (rfl)
@[simp] theorem Dev.putI_req (f : Fld) (v : Int) : (d.putI f v).req = d.req := (rfl)
@[simp] theorem Dev.putI_svc (f : Fld) (v : Int) : (d.putI f v).svc = d.svc := (rfl)
@[simp] theorem Dev.putI_bg (f : Fld) (v : Int) : (d.putI f v).bg = d.bg := (rfl)
@[simp] theorem Dev.putI_free (f : Fld) (v : Int) : (d.putI f v).free = d.free := (rfl)

/-! ### putB -/

@[simp] theorem Dev.putB_held (f : Fld) (b : Bool) : (d.putB f b).held = d.held := (rfl)
@[simp] theorem Dev.putB_pwr (f : Fld) (b : Bool) : (d.putB f b).pwr = d.pwr := (rfl)
@[simp] theorem Dev.putB_img (f : Fld) (b : Bool) : (d.putB f b).img = d.img := (rfl)
@[simp] theorem Dev.putB_port (f : Fld) (b : Bool) : (d.putB f b).port = d.port := (rfl)
@[simp] theorem Dev.putB_aes (f : Fld) (b : Bool) : (d.putB f b).aes = d.aes := (rfl)
@[simp] theorem Dev.putB_conv (f : Fld) (b : Bool) : (d.putB f b).conv = d.conv := (rfl)
@[simp] theorem Dev.putB_align (f : Fld) (b : Bool) : (d.putB f b).align = d.align := (rfl)
@[simp] theorem Dev.putB_zone (f : Fld) (b : Bool) : (d.putB f b).zone = d.zone := (rfl)
@[simp] theorem Dev.putB_mon (f : Fld) (b : Bool) : (d.putB f b).mon = d.mon := (rfl)
@[simp] theorem Dev.putB_monPrev (f : Fld) (b : Bool) : (d.putB f b).monPrev = d.monPrev := (rfl)
@[simp] theorem Dev.putB_sieve (f : Fld) (b : Bool) : (d.putB f b).sieve = d.sieve := (rfl)
@[simp] theorem Dev.putB_firMem (f : Fld) (b : Bool) : (d.putB f b).firMem = d.firMem := (rfl)
@[simp] theorem Dev.putB_firCnt (f : Fld) (b : Bool) : (d.putB f b).firCnt = d.firCnt := (rfl)
@[simp] theorem Dev.putB_firCopy (f : Fld) (b : Bool) : (d.putB f b).firCopy = d.firCopy := (rfl)
@[simp] theorem Dev.putB_dstore (f : Fld) (b : Bool) : (d.putB f b).dstore = d.dstore := (rfl)
@[simp] theorem Dev.putB_dsCnt (f : Fld) (b : Bool) : (d.putB f b).dsCnt = d.dsCnt := (rfl)
@[simp] theorem Dev.putB_mortar (f : Fld) (b : Bool) : (d.putB f b).mortar = d.mortar := (rfl)
@[simp] theorem Dev.putB_ecc (f : Fld) (b : Bool) : (d.putB f b).ecc = d.ecc := (rfl)
@[simp] theorem Dev.putB_str (f : Fld) (b : Bool) : (d.putB f b).str = d.str := (rfl)
@[simp] theorem Dev.putB_load (f : Fld) (b : Bool) : (d.putB f b).load = d.load := (rfl)
@[simp] theorem Dev.putB_test (f : Fld) (b : Bool) : (d.putB f b).test = d.test := (rfl)
@[simp] theorem Dev.putB_diag (f : Fld) (b : Bool) : (d.putB f b).diag = d.diag := (rfl)
@[simp] theorem Dev.putB_lid (f : Fld) (b : Bool) : (d.putB f b).lid = d.lid := (rfl)
@[simp] theorem Dev.putB_pot (f : Fld) (b : Bool) : (d.putB f b).pot = d.pot := (rfl)
@[simp] theorem Dev.putB_lock (f : Fld) (b : Bool) : (d.putB f b).lock = d.lock := (rfl)
@[simp] theorem Dev.putB_req (f : Fld) (b : Bool) : (d.putB f b).req = d.req := (rfl)
@[simp] theorem Dev.putB_svc (f : Fld) (b : Bool) : (d.putB f b).svc = d.svc := (rfl)
@[simp] theorem Dev.putB_bg (f : Fld) (b : Bool) : (d.putB f b).bg = d.bg := (rfl)
@[simp] theorem Dev.putB_free (f : Fld) (b : Bool) : (d.putB f b).free = d.free := (rfl)

/-! ### add -/

@[simp] theorem Dev.add_held (f : Fld) (n : Nat) : (d.add f n).held = d.held := (rfl)
@[simp] theorem Dev.add_pwr (f : Fld) (n : Nat) : (d.add f n).pwr = d.pwr := (rfl)
@[simp] theorem Dev.add_img (f : Fld) (n : Nat) : (d.add f n).img = d.img := (rfl)
@[simp] theorem Dev.add_port (f : Fld) (n : Nat) : (d.add f n).port = d.port := (rfl)
@[simp] theorem Dev.add_aes (f : Fld) (n : Nat) : (d.add f n).aes = d.aes := (rfl)
@[simp] theorem Dev.add_conv (f : Fld) (n : Nat) : (d.add f n).conv = d.conv := (rfl)
@[simp] theorem Dev.add_align (f : Fld) (n : Nat) : (d.add f n).align = d.align := (rfl)
@[simp] theorem Dev.add_zone (f : Fld) (n : Nat) : (d.add f n).zone = d.zone := (rfl)
@[simp] theorem Dev.add_mon (f : Fld) (n : Nat) : (d.add f n).mon = d.mon := (rfl)
@[simp] theorem Dev.add_monPrev (f : Fld) (n : Nat) : (d.add f n).monPrev = d.monPrev := (rfl)
@[simp] theorem Dev.add_sieve (f : Fld) (n : Nat) : (d.add f n).sieve = d.sieve := (rfl)
@[simp] theorem Dev.add_firMem (f : Fld) (n : Nat) : (d.add f n).firMem = d.firMem := (rfl)
@[simp] theorem Dev.add_firCnt (f : Fld) (n : Nat) : (d.add f n).firCnt = d.firCnt := (rfl)
@[simp] theorem Dev.add_firCopy (f : Fld) (n : Nat) : (d.add f n).firCopy = d.firCopy := (rfl)
@[simp] theorem Dev.add_dstore (f : Fld) (n : Nat) : (d.add f n).dstore = d.dstore := (rfl)
@[simp] theorem Dev.add_dsCnt (f : Fld) (n : Nat) : (d.add f n).dsCnt = d.dsCnt := (rfl)
@[simp] theorem Dev.add_mortar (f : Fld) (n : Nat) : (d.add f n).mortar = d.mortar := (rfl)
@[simp] theorem Dev.add_ecc (f : Fld) (n : Nat) : (d.add f n).ecc = d.ecc := (rfl)
@[simp] theorem Dev.add_str (f : Fld) (n : Nat) : (d.add f n).str = d.str := (rfl)
@[simp] theorem Dev.add_load (f : Fld) (n : Nat) : (d.add f n).load = d.load := (rfl)
@[simp] theorem Dev.add_test (f : Fld) (n : Nat) : (d.add f n).test = d.test := (rfl)
@[simp] theorem Dev.add_diag (f : Fld) (n : Nat) : (d.add f n).diag = d.diag := (rfl)
@[simp] theorem Dev.add_lid (f : Fld) (n : Nat) : (d.add f n).lid = d.lid := (rfl)
@[simp] theorem Dev.add_pot (f : Fld) (n : Nat) : (d.add f n).pot = d.pot := (rfl)
@[simp] theorem Dev.add_lock (f : Fld) (n : Nat) : (d.add f n).lock = d.lock := (rfl)
@[simp] theorem Dev.add_req (f : Fld) (n : Nat) : (d.add f n).req = d.req := (rfl)
@[simp] theorem Dev.add_svc (f : Fld) (n : Nat) : (d.add f n).svc = d.svc := (rfl)
@[simp] theorem Dev.add_bg (f : Fld) (n : Nat) : (d.add f n).bg = d.bg := (rfl)
@[simp] theorem Dev.add_free (f : Fld) (n : Nat) : (d.add f n).free = d.free := (rfl)

/-! ### bump -/

@[simp] theorem Dev.bump_held (f : Fld) : (d.bump f).held = d.held := (rfl)
@[simp] theorem Dev.bump_pwr (f : Fld) : (d.bump f).pwr = d.pwr := (rfl)
@[simp] theorem Dev.bump_img (f : Fld) : (d.bump f).img = d.img := (rfl)
@[simp] theorem Dev.bump_port (f : Fld) : (d.bump f).port = d.port := (rfl)
@[simp] theorem Dev.bump_aes (f : Fld) : (d.bump f).aes = d.aes := (rfl)
@[simp] theorem Dev.bump_conv (f : Fld) : (d.bump f).conv = d.conv := (rfl)
@[simp] theorem Dev.bump_align (f : Fld) : (d.bump f).align = d.align := (rfl)
@[simp] theorem Dev.bump_zone (f : Fld) : (d.bump f).zone = d.zone := (rfl)
@[simp] theorem Dev.bump_mon (f : Fld) : (d.bump f).mon = d.mon := (rfl)
@[simp] theorem Dev.bump_monPrev (f : Fld) : (d.bump f).monPrev = d.monPrev := (rfl)
@[simp] theorem Dev.bump_sieve (f : Fld) : (d.bump f).sieve = d.sieve := (rfl)
@[simp] theorem Dev.bump_firMem (f : Fld) : (d.bump f).firMem = d.firMem := (rfl)
@[simp] theorem Dev.bump_firCnt (f : Fld) : (d.bump f).firCnt = d.firCnt := (rfl)
@[simp] theorem Dev.bump_firCopy (f : Fld) : (d.bump f).firCopy = d.firCopy := (rfl)
@[simp] theorem Dev.bump_dstore (f : Fld) : (d.bump f).dstore = d.dstore := (rfl)
@[simp] theorem Dev.bump_dsCnt (f : Fld) : (d.bump f).dsCnt = d.dsCnt := (rfl)
@[simp] theorem Dev.bump_mortar (f : Fld) : (d.bump f).mortar = d.mortar := (rfl)
@[simp] theorem Dev.bump_ecc (f : Fld) : (d.bump f).ecc = d.ecc := (rfl)
@[simp] theorem Dev.bump_str (f : Fld) : (d.bump f).str = d.str := (rfl)
@[simp] theorem Dev.bump_load (f : Fld) : (d.bump f).load = d.load := (rfl)
@[simp] theorem Dev.bump_test (f : Fld) : (d.bump f).test = d.test := (rfl)
@[simp] theorem Dev.bump_diag (f : Fld) : (d.bump f).diag = d.diag := (rfl)
@[simp] theorem Dev.bump_lid (f : Fld) : (d.bump f).lid = d.lid := (rfl)
@[simp] theorem Dev.bump_pot (f : Fld) : (d.bump f).pot = d.pot := (rfl)
@[simp] theorem Dev.bump_lock (f : Fld) : (d.bump f).lock = d.lock := (rfl)
@[simp] theorem Dev.bump_req (f : Fld) : (d.bump f).req = d.req := (rfl)
@[simp] theorem Dev.bump_svc (f : Fld) : (d.bump f).svc = d.svc := (rfl)
@[simp] theorem Dev.bump_bg (f : Fld) : (d.bump f).bg = d.bg := (rfl)
@[simp] theorem Dev.bump_free (f : Fld) : (d.bump f).free = d.free := (rfl)

/-! ### evt -/

@[simp] theorem Dev.evt_held (f : Fld) : (d.evt f).held = d.held := (rfl)
@[simp] theorem Dev.evt_pwr (f : Fld) : (d.evt f).pwr = d.pwr := (rfl)
@[simp] theorem Dev.evt_img (f : Fld) : (d.evt f).img = d.img := (rfl)
@[simp] theorem Dev.evt_port (f : Fld) : (d.evt f).port = d.port := (rfl)
@[simp] theorem Dev.evt_aes (f : Fld) : (d.evt f).aes = d.aes := (rfl)
@[simp] theorem Dev.evt_conv (f : Fld) : (d.evt f).conv = d.conv := (rfl)
@[simp] theorem Dev.evt_align (f : Fld) : (d.evt f).align = d.align := (rfl)
@[simp] theorem Dev.evt_zone (f : Fld) : (d.evt f).zone = d.zone := (rfl)
@[simp] theorem Dev.evt_mon (f : Fld) : (d.evt f).mon = d.mon := (rfl)
@[simp] theorem Dev.evt_monPrev (f : Fld) : (d.evt f).monPrev = d.monPrev := (rfl)
@[simp] theorem Dev.evt_sieve (f : Fld) : (d.evt f).sieve = d.sieve := (rfl)
@[simp] theorem Dev.evt_firMem (f : Fld) : (d.evt f).firMem = d.firMem := (rfl)
@[simp] theorem Dev.evt_firCnt (f : Fld) : (d.evt f).firCnt = d.firCnt := (rfl)
@[simp] theorem Dev.evt_firCopy (f : Fld) : (d.evt f).firCopy = d.firCopy := (rfl)
@[simp] theorem Dev.evt_dstore (f : Fld) : (d.evt f).dstore = d.dstore := (rfl)
@[simp] theorem Dev.evt_dsCnt (f : Fld) : (d.evt f).dsCnt = d.dsCnt := (rfl)
@[simp] theorem Dev.evt_mortar (f : Fld) : (d.evt f).mortar = d.mortar := (rfl)
@[simp] theorem Dev.evt_ecc (f : Fld) : (d.evt f).ecc = d.ecc := (rfl)
@[simp] theorem Dev.evt_str (f : Fld) : (d.evt f).str = d.str := (rfl)
@[simp] theorem Dev.evt_load (f : Fld) : (d.evt f).load = d.load := (rfl)
@[simp] theorem Dev.evt_test (f : Fld) : (d.evt f).test = d.test := (rfl)
@[simp] theorem Dev.evt_diag (f : Fld) : (d.evt f).diag = d.diag := (rfl)
@[simp] theorem Dev.evt_lid (f : Fld) : (d.evt f).lid = d.lid := (rfl)
@[simp] theorem Dev.evt_pot (f : Fld) : (d.evt f).pot = d.pot := (rfl)
@[simp] theorem Dev.evt_lock (f : Fld) : (d.evt f).lock = d.lock := (rfl)
@[simp] theorem Dev.evt_req (f : Fld) : (d.evt f).req = d.req := (rfl)
@[simp] theorem Dev.evt_svc (f : Fld) : (d.evt f).svc = d.svc := (rfl)
@[simp] theorem Dev.evt_bg (f : Fld) : (d.evt f).bg = d.bg := (rfl)
@[simp] theorem Dev.evt_free (f : Fld) : (d.evt f).free = d.free := (rfl)

/-! ### setPhase -/

@[simp] theorem Dev.setPhase_held (k ph : Nat) : (d.setPhase k ph).held = d.held := (rfl)
@[simp] theorem Dev.setPhase_pwr (k ph : Nat) : (d.setPhase k ph).pwr = d.pwr := (rfl)
@[simp] theorem Dev.setPhase_img (k ph : Nat) : (d.setPhase k ph).img = d.img := (rfl)
@[simp] theorem Dev.setPhase_port (k ph : Nat) : (d.setPhase k ph).port = d.port := (rfl)
@[simp] theorem Dev.setPhase_aes (k ph : Nat) : (d.setPhase k ph).aes = d.aes := (rfl)
@[simp] theorem Dev.setPhase_conv (k ph : Nat) : (d.setPhase k ph).conv = d.conv := (rfl)
@[simp] theorem Dev.setPhase_align (k ph : Nat) : (d.setPhase k ph).align = d.align := (rfl)
@[simp] theorem Dev.setPhase_zone (k ph : Nat) : (d.setPhase k ph).zone = d.zone := (rfl)
@[simp] theorem Dev.setPhase_mon (k ph : Nat) : (d.setPhase k ph).mon = d.mon := (rfl)
@[simp] theorem Dev.setPhase_monPrev (k ph : Nat) : (d.setPhase k ph).monPrev = d.monPrev := (rfl)
@[simp] theorem Dev.setPhase_sieve (k ph : Nat) : (d.setPhase k ph).sieve = d.sieve := (rfl)
@[simp] theorem Dev.setPhase_firMem (k ph : Nat) : (d.setPhase k ph).firMem = d.firMem := (rfl)
@[simp] theorem Dev.setPhase_firCnt (k ph : Nat) : (d.setPhase k ph).firCnt = d.firCnt := (rfl)
@[simp] theorem Dev.setPhase_firCopy (k ph : Nat) : (d.setPhase k ph).firCopy = d.firCopy := (rfl)
@[simp] theorem Dev.setPhase_dstore (k ph : Nat) : (d.setPhase k ph).dstore = d.dstore := (rfl)
@[simp] theorem Dev.setPhase_dsCnt (k ph : Nat) : (d.setPhase k ph).dsCnt = d.dsCnt := (rfl)
@[simp] theorem Dev.setPhase_mortar (k ph : Nat) : (d.setPhase k ph).mortar = d.mortar := (rfl)
@[simp] theorem Dev.setPhase_ecc (k ph : Nat) : (d.setPhase k ph).ecc = d.ecc := (rfl)
@[simp] theorem Dev.setPhase_str (k ph : Nat) : (d.setPhase k ph).str = d.str := (rfl)
@[simp] theorem Dev.setPhase_load (k ph : Nat) : (d.setPhase k ph).load = d.load := (rfl)
@[simp] theorem Dev.setPhase_test (k ph : Nat) : (d.setPhase k ph).test = d.test := (rfl)
@[simp] theorem Dev.setPhase_diag (k ph : Nat) : (d.setPhase k ph).diag = d.diag := (rfl)
@[simp] theorem Dev.setPhase_lid (k ph : Nat) : (d.setPhase k ph).lid = d.lid := (rfl)
@[simp] theorem Dev.setPhase_pot (k ph : Nat) : (d.setPhase k ph).pot = d.pot := (rfl)
@[simp] theorem Dev.setPhase_lock (k ph : Nat) : (d.setPhase k ph).lock = d.lock := (rfl)
@[simp] theorem Dev.setPhase_req (k ph : Nat) : (d.setPhase k ph).req = d.req := (rfl)
@[simp] theorem Dev.setPhase_svc (k ph : Nat) : (d.setPhase k ph).svc = d.svc := (rfl)
@[simp] theorem Dev.setPhase_bg (k ph : Nat) : (d.setPhase k ph).bg = d.bg := (rfl)
@[simp] theorem Dev.setPhase_free (k ph : Nat) : (d.setPhase k ph).free = d.free := (rfl)

/-! ### hold -/

@[simp] theorem Dev.hold_regs (t a : Nat) (old : Word) : (d.hold t a old).regs = d.regs := (rfl)
@[simp] theorem Dev.hold_pwr (t a : Nat) (old : Word) : (d.hold t a old).pwr = d.pwr := (rfl)
@[simp] theorem Dev.hold_img (t a : Nat) (old : Word) : (d.hold t a old).img = d.img := (rfl)
@[simp] theorem Dev.hold_port (t a : Nat) (old : Word) : (d.hold t a old).port = d.port := (rfl)
@[simp] theorem Dev.hold_aes (t a : Nat) (old : Word) : (d.hold t a old).aes = d.aes := (rfl)
@[simp] theorem Dev.hold_conv (t a : Nat) (old : Word) : (d.hold t a old).conv = d.conv := (rfl)
@[simp] theorem Dev.hold_align (t a : Nat) (old : Word) : (d.hold t a old).align = d.align := (rfl)
@[simp] theorem Dev.hold_zone (t a : Nat) (old : Word) : (d.hold t a old).zone = d.zone := (rfl)
@[simp] theorem Dev.hold_mon (t a : Nat) (old : Word) : (d.hold t a old).mon = d.mon := (rfl)
@[simp] theorem Dev.hold_monPrev (t a : Nat) (old : Word) : (d.hold t a old).monPrev = d.monPrev := (rfl)
@[simp] theorem Dev.hold_sieve (t a : Nat) (old : Word) : (d.hold t a old).sieve = d.sieve := (rfl)
@[simp] theorem Dev.hold_firMem (t a : Nat) (old : Word) : (d.hold t a old).firMem = d.firMem := (rfl)
@[simp] theorem Dev.hold_firCnt (t a : Nat) (old : Word) : (d.hold t a old).firCnt = d.firCnt := (rfl)
@[simp] theorem Dev.hold_firCopy (t a : Nat) (old : Word) : (d.hold t a old).firCopy = d.firCopy := (rfl)
@[simp] theorem Dev.hold_dstore (t a : Nat) (old : Word) : (d.hold t a old).dstore = d.dstore := (rfl)
@[simp] theorem Dev.hold_dsCnt (t a : Nat) (old : Word) : (d.hold t a old).dsCnt = d.dsCnt := (rfl)
@[simp] theorem Dev.hold_mortar (t a : Nat) (old : Word) : (d.hold t a old).mortar = d.mortar := (rfl)
@[simp] theorem Dev.hold_ecc (t a : Nat) (old : Word) : (d.hold t a old).ecc = d.ecc := (rfl)
@[simp] theorem Dev.hold_str (t a : Nat) (old : Word) : (d.hold t a old).str = d.str := (rfl)
@[simp] theorem Dev.hold_load (t a : Nat) (old : Word) : (d.hold t a old).load = d.load := (rfl)
@[simp] theorem Dev.hold_test (t a : Nat) (old : Word) : (d.hold t a old).test = d.test := (rfl)
@[simp] theorem Dev.hold_diag (t a : Nat) (old : Word) : (d.hold t a old).diag = d.diag := (rfl)
@[simp] theorem Dev.hold_lid (t a : Nat) (old : Word) : (d.hold t a old).lid = d.lid := (rfl)
@[simp] theorem Dev.hold_pot (t a : Nat) (old : Word) : (d.hold t a old).pot = d.pot := (rfl)
@[simp] theorem Dev.hold_lock (t a : Nat) (old : Word) : (d.hold t a old).lock = d.lock := (rfl)
@[simp] theorem Dev.hold_req (t a : Nat) (old : Word) : (d.hold t a old).req = d.req := (rfl)
@[simp] theorem Dev.hold_svc (t a : Nat) (old : Word) : (d.hold t a old).svc = d.svc := (rfl)
@[simp] theorem Dev.hold_bg (t a : Nat) (old : Word) : (d.hold t a old).bg = d.bg := (rfl)
@[simp] theorem Dev.hold_free (t a : Nat) (old : Word) : (d.hold t a old).free = d.free := (rfl)

/-! ### settle -/

@[simp] theorem Dev.settle_regs (b : Nat) : (d.settle b).regs = d.regs := (rfl)
@[simp] theorem Dev.settle_pwr (b : Nat) : (d.settle b).pwr = d.pwr := (rfl)
@[simp] theorem Dev.settle_img (b : Nat) : (d.settle b).img = d.img := (rfl)
@[simp] theorem Dev.settle_port (b : Nat) : (d.settle b).port = d.port := (rfl)
@[simp] theorem Dev.settle_aes (b : Nat) : (d.settle b).aes = d.aes := (rfl)
@[simp] theorem Dev.settle_conv (b : Nat) : (d.settle b).conv = d.conv := (rfl)
@[simp] theorem Dev.settle_align (b : Nat) : (d.settle b).align = d.align := (rfl)
@[simp] theorem Dev.settle_zone (b : Nat) : (d.settle b).zone = d.zone := (rfl)
@[simp] theorem Dev.settle_mon (b : Nat) : (d.settle b).mon = d.mon := (rfl)
@[simp] theorem Dev.settle_monPrev (b : Nat) : (d.settle b).monPrev = d.monPrev := (rfl)
@[simp] theorem Dev.settle_sieve (b : Nat) : (d.settle b).sieve = d.sieve := (rfl)
@[simp] theorem Dev.settle_firMem (b : Nat) : (d.settle b).firMem = d.firMem := (rfl)
@[simp] theorem Dev.settle_firCnt (b : Nat) : (d.settle b).firCnt = d.firCnt := (rfl)
@[simp] theorem Dev.settle_firCopy (b : Nat) : (d.settle b).firCopy = d.firCopy := (rfl)
@[simp] theorem Dev.settle_dstore (b : Nat) : (d.settle b).dstore = d.dstore := (rfl)
@[simp] theorem Dev.settle_dsCnt (b : Nat) : (d.settle b).dsCnt = d.dsCnt := (rfl)
@[simp] theorem Dev.settle_mortar (b : Nat) : (d.settle b).mortar = d.mortar := (rfl)
@[simp] theorem Dev.settle_ecc (b : Nat) : (d.settle b).ecc = d.ecc := (rfl)
@[simp] theorem Dev.settle_str (b : Nat) : (d.settle b).str = d.str := (rfl)
@[simp] theorem Dev.settle_load (b : Nat) : (d.settle b).load = d.load := (rfl)
@[simp] theorem Dev.settle_test (b : Nat) : (d.settle b).test = d.test := (rfl)
@[simp] theorem Dev.settle_diag (b : Nat) : (d.settle b).diag = d.diag := (rfl)
@[simp] theorem Dev.settle_lid (b : Nat) : (d.settle b).lid = d.lid := (rfl)
@[simp] theorem Dev.settle_pot (b : Nat) : (d.settle b).pot = d.pot := (rfl)
@[simp] theorem Dev.settle_lock (b : Nat) : (d.settle b).lock = d.lock := (rfl)
@[simp] theorem Dev.settle_req (b : Nat) : (d.settle b).req = d.req := (rfl)
@[simp] theorem Dev.settle_svc (b : Nat) : (d.settle b).svc = d.svc := (rfl)
@[simp] theorem Dev.settle_bg (b : Nat) : (d.settle b).bg = d.bg := (rfl)
@[simp] theorem Dev.settle_free (b : Nat) : (d.settle b).free = d.free := (rfl)

/-! ### modStr -/

@[simp] theorem Dev.modStr_regs (k : Nat) (f : Str → Str) : (d.modStr k f).regs = d.regs := (rfl)
@[simp] theorem Dev.modStr_held (k : Nat) (f : Str → Str) : (d.modStr k f).held = d.held := (rfl)
@[simp] theorem Dev.modStr_pwr (k : Nat) (f : Str → Str) : (d.modStr k f).pwr = d.pwr := (rfl)
@[simp] theorem Dev.modStr_img (k : Nat) (f : Str → Str) : (d.modStr k f).img = d.img := (rfl)
@[simp] theorem Dev.modStr_port (k : Nat) (f : Str → Str) : (d.modStr k f).port = d.port := (rfl)
@[simp] theorem Dev.modStr_aes (k : Nat) (f : Str → Str) : (d.modStr k f).aes = d.aes := (rfl)
@[simp] theorem Dev.modStr_conv (k : Nat) (f : Str → Str) : (d.modStr k f).conv = d.conv := (rfl)
@[simp] theorem Dev.modStr_align (k : Nat) (f : Str → Str) : (d.modStr k f).align = d.align := (rfl)
@[simp] theorem Dev.modStr_zone (k : Nat) (f : Str → Str) : (d.modStr k f).zone = d.zone := (rfl)
@[simp] theorem Dev.modStr_mon (k : Nat) (f : Str → Str) : (d.modStr k f).mon = d.mon := (rfl)
@[simp] theorem Dev.modStr_monPrev (k : Nat) (f : Str → Str) : (d.modStr k f).monPrev = d.monPrev := (rfl)
@[simp] theorem Dev.modStr_sieve (k : Nat) (f : Str → Str) : (d.modStr k f).sieve = d.sieve := (rfl)
@[simp] theorem Dev.modStr_firMem (k : Nat) (f : Str → Str) : (d.modStr k f).firMem = d.firMem := (rfl)
@[simp] theorem Dev.modStr_firCnt (k : Nat) (f : Str → Str) : (d.modStr k f).firCnt = d.firCnt := (rfl)
@[simp] theorem Dev.modStr_firCopy (k : Nat) (f : Str → Str) : (d.modStr k f).firCopy = d.firCopy := (rfl)
@[simp] theorem Dev.modStr_dstore (k : Nat) (f : Str → Str) : (d.modStr k f).dstore = d.dstore := (rfl)
@[simp] theorem Dev.modStr_dsCnt (k : Nat) (f : Str → Str) : (d.modStr k f).dsCnt = d.dsCnt := (rfl)
@[simp] theorem Dev.modStr_mortar (k : Nat) (f : Str → Str) : (d.modStr k f).mortar = d.mortar := (rfl)
@[simp] theorem Dev.modStr_ecc (k : Nat) (f : Str → Str) : (d.modStr k f).ecc = d.ecc := (rfl)
@[simp] theorem Dev.modStr_load (k : Nat) (f : Str → Str) : (d.modStr k f).load = d.load := (rfl)
@[simp] theorem Dev.modStr_test (k : Nat) (f : Str → Str) : (d.modStr k f).test = d.test := (rfl)
@[simp] theorem Dev.modStr_diag (k : Nat) (f : Str → Str) : (d.modStr k f).diag = d.diag := (rfl)
@[simp] theorem Dev.modStr_lid (k : Nat) (f : Str → Str) : (d.modStr k f).lid = d.lid := (rfl)
@[simp] theorem Dev.modStr_pot (k : Nat) (f : Str → Str) : (d.modStr k f).pot = d.pot := (rfl)
@[simp] theorem Dev.modStr_lock (k : Nat) (f : Str → Str) : (d.modStr k f).lock = d.lock := (rfl)
@[simp] theorem Dev.modStr_req (k : Nat) (f : Str → Str) : (d.modStr k f).req = d.req := (rfl)
@[simp] theorem Dev.modStr_svc (k : Nat) (f : Str → Str) : (d.modStr k f).svc = d.svc := (rfl)
@[simp] theorem Dev.modStr_bg (k : Nat) (f : Str → Str) : (d.modStr k f).bg = d.bg := (rfl)
@[simp] theorem Dev.modStr_free (k : Nat) (f : Str → Str) : (d.modStr k f).free = d.free := (rfl)

/-! ### modCtl -/

@[simp] theorem Dev.modCtl_regs (k : Nat) (f : Ctl → Ctl) : (d.modCtl k f).regs = d.regs := (rfl)
@[simp] theorem Dev.modCtl_held (k : Nat) (f : Ctl → Ctl) : (d.modCtl k f).held = d.held := (rfl)
@[simp] theorem Dev.modCtl_pwr (k : Nat) (f : Ctl → Ctl) : (d.modCtl k f).pwr = d.pwr := (rfl)
@[simp] theorem Dev.modCtl_img (k : Nat) (f : Ctl → Ctl) : (d.modCtl k f).img = d.img := (rfl)
@[simp] theorem Dev.modCtl_port (k : Nat) (f : Ctl → Ctl) : (d.modCtl k f).port = d.port := (rfl)
@[simp] theorem Dev.modCtl_aes (k : Nat) (f : Ctl → Ctl) : (d.modCtl k f).aes = d.aes := (rfl)
@[simp] theorem Dev.modCtl_conv (k : Nat) (f : Ctl → Ctl) : (d.modCtl k f).conv = d.conv := (rfl)
@[simp] theorem Dev.modCtl_align (k : Nat) (f : Ctl → Ctl) : (d.modCtl k f).align = d.align := (rfl)
@[simp] theorem Dev.modCtl_zone (k : Nat) (f : Ctl → Ctl) : (d.modCtl k f).zone = d.zone := (rfl)
@[simp] theorem Dev.modCtl_mon (k : Nat) (f : Ctl → Ctl) : (d.modCtl k f).mon = d.mon := (rfl)
@[simp] theorem Dev.modCtl_monPrev (k : Nat) (f : Ctl → Ctl) : (d.modCtl k f).monPrev = d.monPrev := (rfl)
@[simp] theorem Dev.modCtl_sieve (k : Nat) (f : Ctl → Ctl) : (d.modCtl k f).sieve = d.sieve := (rfl)
@[simp] theorem Dev.modCtl_firMem (k : Nat) (f : Ctl → Ctl) : (d.modCtl k f).firMem = d.firMem := (rfl)
@[simp] theorem Dev.modCtl_firCnt (k : Nat) (f : Ctl → Ctl) : (d.modCtl k f).firCnt = d.firCnt := (rfl)
@[simp] theorem Dev.modCtl_firCopy (k : Nat) (f : Ctl → Ctl) : (d.modCtl k f).firCopy = d.firCopy := (rfl)
@[simp] theorem Dev.modCtl_dstore (k : Nat) (f : Ctl → Ctl) : (d.modCtl k f).dstore = d.dstore := (rfl)
@[simp] theorem Dev.modCtl_dsCnt (k : Nat) (f : Ctl → Ctl) : (d.modCtl k f).dsCnt = d.dsCnt := (rfl)
@[simp] theorem Dev.modCtl_mortar (k : Nat) (f : Ctl → Ctl) : (d.modCtl k f).mortar = d.mortar := (rfl)
@[simp] theorem Dev.modCtl_ecc (k : Nat) (f : Ctl → Ctl) : (d.modCtl k f).ecc = d.ecc := (rfl)
@[simp] theorem Dev.modCtl_load (k : Nat) (f : Ctl → Ctl) : (d.modCtl k f).load = d.load := (rfl)
@[simp] theorem Dev.modCtl_test (k : Nat) (f : Ctl → Ctl) : (d.modCtl k f).test = d.test := (rfl)
@[simp] theorem Dev.modCtl_diag (k : Nat) (f : Ctl → Ctl) : (d.modCtl k f).diag = d.diag := (rfl)
@[simp] theorem Dev.modCtl_lid (k : Nat) (f : Ctl → Ctl) : (d.modCtl k f).lid = d.lid := (rfl)
@[simp] theorem Dev.modCtl_pot (k : Nat) (f : Ctl → Ctl) : (d.modCtl k f).pot = d.pot := (rfl)
@[simp] theorem Dev.modCtl_lock (k : Nat) (f : Ctl → Ctl) : (d.modCtl k f).lock = d.lock := (rfl)
@[simp] theorem Dev.modCtl_req (k : Nat) (f : Ctl → Ctl) : (d.modCtl k f).req = d.req := (rfl)
@[simp] theorem Dev.modCtl_svc (k : Nat) (f : Ctl → Ctl) : (d.modCtl k f).svc = d.svc := (rfl)
@[simp] theorem Dev.modCtl_bg (k : Nat) (f : Ctl → Ctl) : (d.modCtl k f).bg = d.bg := (rfl)
@[simp] theorem Dev.modCtl_free (k : Nat) (f : Ctl → Ctl) : (d.modCtl k f).free = d.free := (rfl)

/-! ### modMor -/

@[simp] theorem Dev.modMor_regs (k : Nat) (f : MortarSt → MortarSt) : (d.modMor k f).regs = d.regs := (rfl)
@[simp] theorem Dev.modMor_held (k : Nat) (f : MortarSt → MortarSt) : (d.modMor k f).held = d.held := (rfl)
@[simp] theorem Dev.modMor_pwr (k : Nat) (f : MortarSt → MortarSt) : (d.modMor k f).pwr = d.pwr := (rfl)
@[simp] theorem Dev.modMor_img (k : Nat) (f : MortarSt → MortarSt) : (d.modMor k f).img = d.img := (rfl)
@[simp] theorem Dev.modMor_port (k : Nat) (f : MortarSt → MortarSt) : (d.modMor k f).port = d.port := (rfl)
@[simp] theorem Dev.modMor_aes (k : Nat) (f : MortarSt → MortarSt) : (d.modMor k f).aes = d.aes := (rfl)
@[simp] theorem Dev.modMor_conv (k : Nat) (f : MortarSt → MortarSt) : (d.modMor k f).conv = d.conv := (rfl)
@[simp] theorem Dev.modMor_align (k : Nat) (f : MortarSt → MortarSt) : (d.modMor k f).align = d.align := (rfl)
@[simp] theorem Dev.modMor_zone (k : Nat) (f : MortarSt → MortarSt) : (d.modMor k f).zone = d.zone := (rfl)
@[simp] theorem Dev.modMor_mon (k : Nat) (f : MortarSt → MortarSt) : (d.modMor k f).mon = d.mon := (rfl)
@[simp] theorem Dev.modMor_monPrev (k : Nat) (f : MortarSt → MortarSt) : (d.modMor k f).monPrev = d.monPrev := (rfl)
@[simp] theorem Dev.modMor_sieve (k : Nat) (f : MortarSt → MortarSt) : (d.modMor k f).sieve = d.sieve := (rfl)
@[simp] theorem Dev.modMor_firMem (k : Nat) (f : MortarSt → MortarSt) : (d.modMor k f).firMem = d.firMem := (rfl)
@[simp] theorem Dev.modMor_firCnt (k : Nat) (f : MortarSt → MortarSt) : (d.modMor k f).firCnt = d.firCnt := (rfl)
@[simp] theorem Dev.modMor_firCopy (k : Nat) (f : MortarSt → MortarSt) : (d.modMor k f).firCopy = d.firCopy := (rfl)
@[simp] theorem Dev.modMor_dstore (k : Nat) (f : MortarSt → MortarSt) : (d.modMor k f).dstore = d.dstore := (rfl)
@[simp] theorem Dev.modMor_dsCnt (k : Nat) (f : MortarSt → MortarSt) : (d.modMor k f).dsCnt = d.dsCnt := (rfl)
@[simp] theorem Dev.modMor_mortar (k : Nat) (f : MortarSt → MortarSt) : (d.modMor k f).mortar = d.mortar := (rfl)
@[simp] theorem Dev.modMor_ecc (k : Nat) (f : MortarSt → MortarSt) : (d.modMor k f).ecc = d.ecc := (rfl)
@[simp] theorem Dev.modMor_load (k : Nat) (f : MortarSt → MortarSt) : (d.modMor k f).load = d.load := (rfl)
@[simp] theorem Dev.modMor_test (k : Nat) (f : MortarSt → MortarSt) : (d.modMor k f).test = d.test := (rfl)
@[simp] theorem Dev.modMor_diag (k : Nat) (f : MortarSt → MortarSt) : (d.modMor k f).diag = d.diag := (rfl)
@[simp] theorem Dev.modMor_lid (k : Nat) (f : MortarSt → MortarSt) : (d.modMor k f).lid = d.lid := (rfl)
@[simp] theorem Dev.modMor_pot (k : Nat) (f : MortarSt → MortarSt) : (d.modMor k f).pot = d.pot := (rfl)
@[simp] theorem Dev.modMor_lock (k : Nat) (f : MortarSt → MortarSt) : (d.modMor k f).lock = d.lock := (rfl)
@[simp] theorem Dev.modMor_req (k : Nat) (f : MortarSt → MortarSt) : (d.modMor k f).req = d.req := (rfl)
@[simp] theorem Dev.modMor_svc (k : Nat) (f : MortarSt → MortarSt) : (d.modMor k f).svc = d.svc := (rfl)
@[simp] theorem Dev.modMor_bg (k : Nat) (f : MortarSt → MortarSt) : (d.modMor k f).bg = d.bg := (rfl)
@[simp] theorem Dev.modMor_free (k : Nat) (f : MortarSt → MortarSt) : (d.modMor k f).free = d.free := (rfl)

/-! ### modFb -/

@[simp] theorem Dev.modFb_regs (k : Nat) (f : FbSt → FbSt) : (d.modFb k f).regs = d.regs := (rfl)
@[simp] theorem Dev.modFb_held (k : Nat) (f : FbSt → FbSt) : (d.modFb k f).held = d.held := (rfl)
@[simp] theorem Dev.modFb_pwr (k : Nat) (f : FbSt → FbSt) : (d.modFb k f).pwr = d.pwr := (rfl)
@[simp] theorem Dev.modFb_img (k : Nat) (f : FbSt → FbSt) : (d.modFb k f).img = d.img := (rfl)
@[simp] theorem Dev.modFb_port (k : Nat) (f : FbSt → FbSt) : (d.modFb k f).port = d.port := (rfl)
@[simp] theorem Dev.modFb_aes (k : Nat) (f : FbSt → FbSt) : (d.modFb k f).aes = d.aes := (rfl)
@[simp] theorem Dev.modFb_conv (k : Nat) (f : FbSt → FbSt) : (d.modFb k f).conv = d.conv := (rfl)
@[simp] theorem Dev.modFb_align (k : Nat) (f : FbSt → FbSt) : (d.modFb k f).align = d.align := (rfl)
@[simp] theorem Dev.modFb_zone (k : Nat) (f : FbSt → FbSt) : (d.modFb k f).zone = d.zone := (rfl)
@[simp] theorem Dev.modFb_mon (k : Nat) (f : FbSt → FbSt) : (d.modFb k f).mon = d.mon := (rfl)
@[simp] theorem Dev.modFb_monPrev (k : Nat) (f : FbSt → FbSt) : (d.modFb k f).monPrev = d.monPrev := (rfl)
@[simp] theorem Dev.modFb_sieve (k : Nat) (f : FbSt → FbSt) : (d.modFb k f).sieve = d.sieve := (rfl)
@[simp] theorem Dev.modFb_firMem (k : Nat) (f : FbSt → FbSt) : (d.modFb k f).firMem = d.firMem := (rfl)
@[simp] theorem Dev.modFb_firCnt (k : Nat) (f : FbSt → FbSt) : (d.modFb k f).firCnt = d.firCnt := (rfl)
@[simp] theorem Dev.modFb_firCopy (k : Nat) (f : FbSt → FbSt) : (d.modFb k f).firCopy = d.firCopy := (rfl)
@[simp] theorem Dev.modFb_dstore (k : Nat) (f : FbSt → FbSt) : (d.modFb k f).dstore = d.dstore := (rfl)
@[simp] theorem Dev.modFb_dsCnt (k : Nat) (f : FbSt → FbSt) : (d.modFb k f).dsCnt = d.dsCnt := (rfl)
@[simp] theorem Dev.modFb_mortar (k : Nat) (f : FbSt → FbSt) : (d.modFb k f).mortar = d.mortar := (rfl)
@[simp] theorem Dev.modFb_ecc (k : Nat) (f : FbSt → FbSt) : (d.modFb k f).ecc = d.ecc := (rfl)
@[simp] theorem Dev.modFb_load (k : Nat) (f : FbSt → FbSt) : (d.modFb k f).load = d.load := (rfl)
@[simp] theorem Dev.modFb_test (k : Nat) (f : FbSt → FbSt) : (d.modFb k f).test = d.test := (rfl)
@[simp] theorem Dev.modFb_diag (k : Nat) (f : FbSt → FbSt) : (d.modFb k f).diag = d.diag := (rfl)
@[simp] theorem Dev.modFb_lid (k : Nat) (f : FbSt → FbSt) : (d.modFb k f).lid = d.lid := (rfl)
@[simp] theorem Dev.modFb_pot (k : Nat) (f : FbSt → FbSt) : (d.modFb k f).pot = d.pot := (rfl)
@[simp] theorem Dev.modFb_lock (k : Nat) (f : FbSt → FbSt) : (d.modFb k f).lock = d.lock := (rfl)
@[simp] theorem Dev.modFb_req (k : Nat) (f : FbSt → FbSt) : (d.modFb k f).req = d.req := (rfl)
@[simp] theorem Dev.modFb_svc (k : Nat) (f : FbSt → FbSt) : (d.modFb k f).svc = d.svc := (rfl)
@[simp] theorem Dev.modFb_bg (k : Nat) (f : FbSt → FbSt) : (d.modFb k f).bg = d.bg := (rfl)
@[simp] theorem Dev.modFb_free (k : Nat) (f : FbSt → FbSt) : (d.modFb k f).free = d.free := (rfl)

/-! ### modWh -/

@[simp] theorem Dev.modWh_regs (k : Nat) (f : WhiskSt → WhiskSt) : (d.modWh k f).regs = d.regs := (rfl)
@[simp] theorem Dev.modWh_held (k : Nat) (f : WhiskSt → WhiskSt) : (d.modWh k f).held = d.held := (rfl)
@[simp] theorem Dev.modWh_pwr (k : Nat) (f : WhiskSt → WhiskSt) : (d.modWh k f).pwr = d.pwr := (rfl)
@[simp] theorem Dev.modWh_img (k : Nat) (f : WhiskSt → WhiskSt) : (d.modWh k f).img = d.img := (rfl)
@[simp] theorem Dev.modWh_port (k : Nat) (f : WhiskSt → WhiskSt) : (d.modWh k f).port = d.port := (rfl)
@[simp] theorem Dev.modWh_aes (k : Nat) (f : WhiskSt → WhiskSt) : (d.modWh k f).aes = d.aes := (rfl)
@[simp] theorem Dev.modWh_conv (k : Nat) (f : WhiskSt → WhiskSt) : (d.modWh k f).conv = d.conv := (rfl)
@[simp] theorem Dev.modWh_align (k : Nat) (f : WhiskSt → WhiskSt) : (d.modWh k f).align = d.align := (rfl)
@[simp] theorem Dev.modWh_zone (k : Nat) (f : WhiskSt → WhiskSt) : (d.modWh k f).zone = d.zone := (rfl)
@[simp] theorem Dev.modWh_mon (k : Nat) (f : WhiskSt → WhiskSt) : (d.modWh k f).mon = d.mon := (rfl)
@[simp] theorem Dev.modWh_monPrev (k : Nat) (f : WhiskSt → WhiskSt) : (d.modWh k f).monPrev = d.monPrev := (rfl)
@[simp] theorem Dev.modWh_sieve (k : Nat) (f : WhiskSt → WhiskSt) : (d.modWh k f).sieve = d.sieve := (rfl)
@[simp] theorem Dev.modWh_firMem (k : Nat) (f : WhiskSt → WhiskSt) : (d.modWh k f).firMem = d.firMem := (rfl)
@[simp] theorem Dev.modWh_firCnt (k : Nat) (f : WhiskSt → WhiskSt) : (d.modWh k f).firCnt = d.firCnt := (rfl)
@[simp] theorem Dev.modWh_firCopy (k : Nat) (f : WhiskSt → WhiskSt) : (d.modWh k f).firCopy = d.firCopy := (rfl)
@[simp] theorem Dev.modWh_dstore (k : Nat) (f : WhiskSt → WhiskSt) : (d.modWh k f).dstore = d.dstore := (rfl)
@[simp] theorem Dev.modWh_dsCnt (k : Nat) (f : WhiskSt → WhiskSt) : (d.modWh k f).dsCnt = d.dsCnt := (rfl)
@[simp] theorem Dev.modWh_mortar (k : Nat) (f : WhiskSt → WhiskSt) : (d.modWh k f).mortar = d.mortar := (rfl)
@[simp] theorem Dev.modWh_ecc (k : Nat) (f : WhiskSt → WhiskSt) : (d.modWh k f).ecc = d.ecc := (rfl)
@[simp] theorem Dev.modWh_load (k : Nat) (f : WhiskSt → WhiskSt) : (d.modWh k f).load = d.load := (rfl)
@[simp] theorem Dev.modWh_test (k : Nat) (f : WhiskSt → WhiskSt) : (d.modWh k f).test = d.test := (rfl)
@[simp] theorem Dev.modWh_diag (k : Nat) (f : WhiskSt → WhiskSt) : (d.modWh k f).diag = d.diag := (rfl)
@[simp] theorem Dev.modWh_lid (k : Nat) (f : WhiskSt → WhiskSt) : (d.modWh k f).lid = d.lid := (rfl)
@[simp] theorem Dev.modWh_pot (k : Nat) (f : WhiskSt → WhiskSt) : (d.modWh k f).pot = d.pot := (rfl)
@[simp] theorem Dev.modWh_lock (k : Nat) (f : WhiskSt → WhiskSt) : (d.modWh k f).lock = d.lock := (rfl)
@[simp] theorem Dev.modWh_req (k : Nat) (f : WhiskSt → WhiskSt) : (d.modWh k f).req = d.req := (rfl)
@[simp] theorem Dev.modWh_svc (k : Nat) (f : WhiskSt → WhiskSt) : (d.modWh k f).svc = d.svc := (rfl)
@[simp] theorem Dev.modWh_bg (k : Nat) (f : WhiskSt → WhiskSt) : (d.modWh k f).bg = d.bg := (rfl)
@[simp] theorem Dev.modWh_free (k : Nat) (f : WhiskSt → WhiskSt) : (d.modWh k f).free = d.free := (rfl)

/-! ### modPr -/

@[simp] theorem Dev.modPr_regs (k : Nat) (f : ProtSt → ProtSt) : (d.modPr k f).regs = d.regs := (rfl)
@[simp] theorem Dev.modPr_held (k : Nat) (f : ProtSt → ProtSt) : (d.modPr k f).held = d.held := (rfl)
@[simp] theorem Dev.modPr_pwr (k : Nat) (f : ProtSt → ProtSt) : (d.modPr k f).pwr = d.pwr := (rfl)
@[simp] theorem Dev.modPr_img (k : Nat) (f : ProtSt → ProtSt) : (d.modPr k f).img = d.img := (rfl)
@[simp] theorem Dev.modPr_port (k : Nat) (f : ProtSt → ProtSt) : (d.modPr k f).port = d.port := (rfl)
@[simp] theorem Dev.modPr_aes (k : Nat) (f : ProtSt → ProtSt) : (d.modPr k f).aes = d.aes := (rfl)
@[simp] theorem Dev.modPr_conv (k : Nat) (f : ProtSt → ProtSt) : (d.modPr k f).conv = d.conv := (rfl)
@[simp] theorem Dev.modPr_align (k : Nat) (f : ProtSt → ProtSt) : (d.modPr k f).align = d.align := (rfl)
@[simp] theorem Dev.modPr_zone (k : Nat) (f : ProtSt → ProtSt) : (d.modPr k f).zone = d.zone := (rfl)
@[simp] theorem Dev.modPr_mon (k : Nat) (f : ProtSt → ProtSt) : (d.modPr k f).mon = d.mon := (rfl)
@[simp] theorem Dev.modPr_monPrev (k : Nat) (f : ProtSt → ProtSt) : (d.modPr k f).monPrev = d.monPrev := (rfl)
@[simp] theorem Dev.modPr_sieve (k : Nat) (f : ProtSt → ProtSt) : (d.modPr k f).sieve = d.sieve := (rfl)
@[simp] theorem Dev.modPr_firMem (k : Nat) (f : ProtSt → ProtSt) : (d.modPr k f).firMem = d.firMem := (rfl)
@[simp] theorem Dev.modPr_firCnt (k : Nat) (f : ProtSt → ProtSt) : (d.modPr k f).firCnt = d.firCnt := (rfl)
@[simp] theorem Dev.modPr_firCopy (k : Nat) (f : ProtSt → ProtSt) : (d.modPr k f).firCopy = d.firCopy := (rfl)
@[simp] theorem Dev.modPr_dstore (k : Nat) (f : ProtSt → ProtSt) : (d.modPr k f).dstore = d.dstore := (rfl)
@[simp] theorem Dev.modPr_dsCnt (k : Nat) (f : ProtSt → ProtSt) : (d.modPr k f).dsCnt = d.dsCnt := (rfl)
@[simp] theorem Dev.modPr_mortar (k : Nat) (f : ProtSt → ProtSt) : (d.modPr k f).mortar = d.mortar := (rfl)
@[simp] theorem Dev.modPr_ecc (k : Nat) (f : ProtSt → ProtSt) : (d.modPr k f).ecc = d.ecc := (rfl)
@[simp] theorem Dev.modPr_load (k : Nat) (f : ProtSt → ProtSt) : (d.modPr k f).load = d.load := (rfl)
@[simp] theorem Dev.modPr_test (k : Nat) (f : ProtSt → ProtSt) : (d.modPr k f).test = d.test := (rfl)
@[simp] theorem Dev.modPr_diag (k : Nat) (f : ProtSt → ProtSt) : (d.modPr k f).diag = d.diag := (rfl)
@[simp] theorem Dev.modPr_lid (k : Nat) (f : ProtSt → ProtSt) : (d.modPr k f).lid = d.lid := (rfl)
@[simp] theorem Dev.modPr_pot (k : Nat) (f : ProtSt → ProtSt) : (d.modPr k f).pot = d.pot := (rfl)
@[simp] theorem Dev.modPr_lock (k : Nat) (f : ProtSt → ProtSt) : (d.modPr k f).lock = d.lock := (rfl)
@[simp] theorem Dev.modPr_req (k : Nat) (f : ProtSt → ProtSt) : (d.modPr k f).req = d.req := (rfl)
@[simp] theorem Dev.modPr_svc (k : Nat) (f : ProtSt → ProtSt) : (d.modPr k f).svc = d.svc := (rfl)
@[simp] theorem Dev.modPr_bg (k : Nat) (f : ProtSt → ProtSt) : (d.modPr k f).bg = d.bg := (rfl)
@[simp] theorem Dev.modPr_free (k : Nat) (f : ProtSt → ProtSt) : (d.modPr k f).free = d.free := (rfl)

/-! ### modCell -/

@[simp] theorem Dev.modCell_regs (k p : Nat) (f : CellC → CellC) : (d.modCell k p f).regs = d.regs := (rfl)
@[simp] theorem Dev.modCell_held (k p : Nat) (f : CellC → CellC) : (d.modCell k p f).held = d.held := (rfl)
@[simp] theorem Dev.modCell_pwr (k p : Nat) (f : CellC → CellC) : (d.modCell k p f).pwr = d.pwr := (rfl)
@[simp] theorem Dev.modCell_img (k p : Nat) (f : CellC → CellC) : (d.modCell k p f).img = d.img := (rfl)
@[simp] theorem Dev.modCell_port (k p : Nat) (f : CellC → CellC) : (d.modCell k p f).port = d.port := (rfl)
@[simp] theorem Dev.modCell_aes (k p : Nat) (f : CellC → CellC) : (d.modCell k p f).aes = d.aes := (rfl)
@[simp] theorem Dev.modCell_conv (k p : Nat) (f : CellC → CellC) : (d.modCell k p f).conv = d.conv := (rfl)
@[simp] theorem Dev.modCell_align (k p : Nat) (f : CellC → CellC) : (d.modCell k p f).align = d.align := (rfl)
@[simp] theorem Dev.modCell_zone (k p : Nat) (f : CellC → CellC) : (d.modCell k p f).zone = d.zone := (rfl)
@[simp] theorem Dev.modCell_mon (k p : Nat) (f : CellC → CellC) : (d.modCell k p f).mon = d.mon := (rfl)
@[simp] theorem Dev.modCell_monPrev (k p : Nat) (f : CellC → CellC) : (d.modCell k p f).monPrev = d.monPrev := (rfl)
@[simp] theorem Dev.modCell_sieve (k p : Nat) (f : CellC → CellC) : (d.modCell k p f).sieve = d.sieve := (rfl)
@[simp] theorem Dev.modCell_firMem (k p : Nat) (f : CellC → CellC) : (d.modCell k p f).firMem = d.firMem := (rfl)
@[simp] theorem Dev.modCell_firCnt (k p : Nat) (f : CellC → CellC) : (d.modCell k p f).firCnt = d.firCnt := (rfl)
@[simp] theorem Dev.modCell_firCopy (k p : Nat) (f : CellC → CellC) : (d.modCell k p f).firCopy = d.firCopy := (rfl)
@[simp] theorem Dev.modCell_dstore (k p : Nat) (f : CellC → CellC) : (d.modCell k p f).dstore = d.dstore := (rfl)
@[simp] theorem Dev.modCell_dsCnt (k p : Nat) (f : CellC → CellC) : (d.modCell k p f).dsCnt = d.dsCnt := (rfl)
@[simp] theorem Dev.modCell_mortar (k p : Nat) (f : CellC → CellC) : (d.modCell k p f).mortar = d.mortar := (rfl)
@[simp] theorem Dev.modCell_ecc (k p : Nat) (f : CellC → CellC) : (d.modCell k p f).ecc = d.ecc := (rfl)
@[simp] theorem Dev.modCell_load (k p : Nat) (f : CellC → CellC) : (d.modCell k p f).load = d.load := (rfl)
@[simp] theorem Dev.modCell_test (k p : Nat) (f : CellC → CellC) : (d.modCell k p f).test = d.test := (rfl)
@[simp] theorem Dev.modCell_diag (k p : Nat) (f : CellC → CellC) : (d.modCell k p f).diag = d.diag := (rfl)
@[simp] theorem Dev.modCell_lid (k p : Nat) (f : CellC → CellC) : (d.modCell k p f).lid = d.lid := (rfl)
@[simp] theorem Dev.modCell_pot (k p : Nat) (f : CellC → CellC) : (d.modCell k p f).pot = d.pot := (rfl)
@[simp] theorem Dev.modCell_lock (k p : Nat) (f : CellC → CellC) : (d.modCell k p f).lock = d.lock := (rfl)
@[simp] theorem Dev.modCell_req (k p : Nat) (f : CellC → CellC) : (d.modCell k p f).req = d.req := (rfl)
@[simp] theorem Dev.modCell_svc (k p : Nat) (f : CellC → CellC) : (d.modCell k p f).svc = d.svc := (rfl)
@[simp] theorem Dev.modCell_bg (k p : Nat) (f : CellC → CellC) : (d.modCell k p f).bg = d.bg := (rfl)
@[simp] theorem Dev.modCell_free (k p : Nat) (f : CellC → CellC) : (d.modCell k p f).free = d.free := (rfl)

/-! ### modZone -/

@[simp] theorem Dev.modZone_regs (k : Nat) (f : ZoneSt → ZoneSt) : (d.modZone k f).regs = d.regs := (rfl)
@[simp] theorem Dev.modZone_held (k : Nat) (f : ZoneSt → ZoneSt) : (d.modZone k f).held = d.held := (rfl)
@[simp] theorem Dev.modZone_pwr (k : Nat) (f : ZoneSt → ZoneSt) : (d.modZone k f).pwr = d.pwr := (rfl)
@[simp] theorem Dev.modZone_img (k : Nat) (f : ZoneSt → ZoneSt) : (d.modZone k f).img = d.img := (rfl)
@[simp] theorem Dev.modZone_port (k : Nat) (f : ZoneSt → ZoneSt) : (d.modZone k f).port = d.port := (rfl)
@[simp] theorem Dev.modZone_aes (k : Nat) (f : ZoneSt → ZoneSt) : (d.modZone k f).aes = d.aes := (rfl)
@[simp] theorem Dev.modZone_conv (k : Nat) (f : ZoneSt → ZoneSt) : (d.modZone k f).conv = d.conv := (rfl)
@[simp] theorem Dev.modZone_align (k : Nat) (f : ZoneSt → ZoneSt) : (d.modZone k f).align = d.align := (rfl)
@[simp] theorem Dev.modZone_mon (k : Nat) (f : ZoneSt → ZoneSt) : (d.modZone k f).mon = d.mon := (rfl)
@[simp] theorem Dev.modZone_monPrev (k : Nat) (f : ZoneSt → ZoneSt) : (d.modZone k f).monPrev = d.monPrev := (rfl)
@[simp] theorem Dev.modZone_sieve (k : Nat) (f : ZoneSt → ZoneSt) : (d.modZone k f).sieve = d.sieve := (rfl)
@[simp] theorem Dev.modZone_firMem (k : Nat) (f : ZoneSt → ZoneSt) : (d.modZone k f).firMem = d.firMem := (rfl)
@[simp] theorem Dev.modZone_firCnt (k : Nat) (f : ZoneSt → ZoneSt) : (d.modZone k f).firCnt = d.firCnt := (rfl)
@[simp] theorem Dev.modZone_firCopy (k : Nat) (f : ZoneSt → ZoneSt) : (d.modZone k f).firCopy = d.firCopy := (rfl)
@[simp] theorem Dev.modZone_dstore (k : Nat) (f : ZoneSt → ZoneSt) : (d.modZone k f).dstore = d.dstore := (rfl)
@[simp] theorem Dev.modZone_dsCnt (k : Nat) (f : ZoneSt → ZoneSt) : (d.modZone k f).dsCnt = d.dsCnt := (rfl)
@[simp] theorem Dev.modZone_mortar (k : Nat) (f : ZoneSt → ZoneSt) : (d.modZone k f).mortar = d.mortar := (rfl)
@[simp] theorem Dev.modZone_ecc (k : Nat) (f : ZoneSt → ZoneSt) : (d.modZone k f).ecc = d.ecc := (rfl)
@[simp] theorem Dev.modZone_str (k : Nat) (f : ZoneSt → ZoneSt) : (d.modZone k f).str = d.str := (rfl)
@[simp] theorem Dev.modZone_load (k : Nat) (f : ZoneSt → ZoneSt) : (d.modZone k f).load = d.load := (rfl)
@[simp] theorem Dev.modZone_test (k : Nat) (f : ZoneSt → ZoneSt) : (d.modZone k f).test = d.test := (rfl)
@[simp] theorem Dev.modZone_diag (k : Nat) (f : ZoneSt → ZoneSt) : (d.modZone k f).diag = d.diag := (rfl)
@[simp] theorem Dev.modZone_lid (k : Nat) (f : ZoneSt → ZoneSt) : (d.modZone k f).lid = d.lid := (rfl)
@[simp] theorem Dev.modZone_pot (k : Nat) (f : ZoneSt → ZoneSt) : (d.modZone k f).pot = d.pot := (rfl)
@[simp] theorem Dev.modZone_lock (k : Nat) (f : ZoneSt → ZoneSt) : (d.modZone k f).lock = d.lock := (rfl)
@[simp] theorem Dev.modZone_req (k : Nat) (f : ZoneSt → ZoneSt) : (d.modZone k f).req = d.req := (rfl)
@[simp] theorem Dev.modZone_svc (k : Nat) (f : ZoneSt → ZoneSt) : (d.modZone k f).svc = d.svc := (rfl)
@[simp] theorem Dev.modZone_bg (k : Nat) (f : ZoneSt → ZoneSt) : (d.modZone k f).bg = d.bg := (rfl)
@[simp] theorem Dev.modZone_free (k : Nat) (f : ZoneSt → ZoneSt) : (d.modZone k f).free = d.free := (rfl)

/-! ### modConv -/

@[simp] theorem Dev.modConv_regs (n : Nat) (f : ConvSt → ConvSt) : (d.modConv n f).regs = d.regs := (rfl)
@[simp] theorem Dev.modConv_held (n : Nat) (f : ConvSt → ConvSt) : (d.modConv n f).held = d.held := (rfl)
@[simp] theorem Dev.modConv_pwr (n : Nat) (f : ConvSt → ConvSt) : (d.modConv n f).pwr = d.pwr := (rfl)
@[simp] theorem Dev.modConv_img (n : Nat) (f : ConvSt → ConvSt) : (d.modConv n f).img = d.img := (rfl)
@[simp] theorem Dev.modConv_port (n : Nat) (f : ConvSt → ConvSt) : (d.modConv n f).port = d.port := (rfl)
@[simp] theorem Dev.modConv_aes (n : Nat) (f : ConvSt → ConvSt) : (d.modConv n f).aes = d.aes := (rfl)
@[simp] theorem Dev.modConv_align (n : Nat) (f : ConvSt → ConvSt) : (d.modConv n f).align = d.align := (rfl)
@[simp] theorem Dev.modConv_zone (n : Nat) (f : ConvSt → ConvSt) : (d.modConv n f).zone = d.zone := (rfl)
@[simp] theorem Dev.modConv_mon (n : Nat) (f : ConvSt → ConvSt) : (d.modConv n f).mon = d.mon := (rfl)
@[simp] theorem Dev.modConv_monPrev (n : Nat) (f : ConvSt → ConvSt) : (d.modConv n f).monPrev = d.monPrev := (rfl)
@[simp] theorem Dev.modConv_sieve (n : Nat) (f : ConvSt → ConvSt) : (d.modConv n f).sieve = d.sieve := (rfl)
@[simp] theorem Dev.modConv_firMem (n : Nat) (f : ConvSt → ConvSt) : (d.modConv n f).firMem = d.firMem := (rfl)
@[simp] theorem Dev.modConv_firCnt (n : Nat) (f : ConvSt → ConvSt) : (d.modConv n f).firCnt = d.firCnt := (rfl)
@[simp] theorem Dev.modConv_firCopy (n : Nat) (f : ConvSt → ConvSt) : (d.modConv n f).firCopy = d.firCopy := (rfl)
@[simp] theorem Dev.modConv_dstore (n : Nat) (f : ConvSt → ConvSt) : (d.modConv n f).dstore = d.dstore := (rfl)
@[simp] theorem Dev.modConv_dsCnt (n : Nat) (f : ConvSt → ConvSt) : (d.modConv n f).dsCnt = d.dsCnt := (rfl)
@[simp] theorem Dev.modConv_mortar (n : Nat) (f : ConvSt → ConvSt) : (d.modConv n f).mortar = d.mortar := (rfl)
@[simp] theorem Dev.modConv_ecc (n : Nat) (f : ConvSt → ConvSt) : (d.modConv n f).ecc = d.ecc := (rfl)
@[simp] theorem Dev.modConv_str (n : Nat) (f : ConvSt → ConvSt) : (d.modConv n f).str = d.str := (rfl)
@[simp] theorem Dev.modConv_load (n : Nat) (f : ConvSt → ConvSt) : (d.modConv n f).load = d.load := (rfl)
@[simp] theorem Dev.modConv_test (n : Nat) (f : ConvSt → ConvSt) : (d.modConv n f).test = d.test := (rfl)
@[simp] theorem Dev.modConv_diag (n : Nat) (f : ConvSt → ConvSt) : (d.modConv n f).diag = d.diag := (rfl)
@[simp] theorem Dev.modConv_lid (n : Nat) (f : ConvSt → ConvSt) : (d.modConv n f).lid = d.lid := (rfl)
@[simp] theorem Dev.modConv_pot (n : Nat) (f : ConvSt → ConvSt) : (d.modConv n f).pot = d.pot := (rfl)
@[simp] theorem Dev.modConv_lock (n : Nat) (f : ConvSt → ConvSt) : (d.modConv n f).lock = d.lock := (rfl)
@[simp] theorem Dev.modConv_req (n : Nat) (f : ConvSt → ConvSt) : (d.modConv n f).req = d.req := (rfl)
@[simp] theorem Dev.modConv_svc (n : Nat) (f : ConvSt → ConvSt) : (d.modConv n f).svc = d.svc := (rfl)
@[simp] theorem Dev.modConv_bg (n : Nat) (f : ConvSt → ConvSt) : (d.modConv n f).bg = d.bg := (rfl)
@[simp] theorem Dev.modConv_free (n : Nat) (f : ConvSt → ConvSt) : (d.modConv n f).free = d.free := (rfl)

/-! ### modPort -/

@[simp] theorem Dev.modPort_regs (n : Nat) (f : PortSt → PortSt) : (d.modPort n f).regs = d.regs := (rfl)
@[simp] theorem Dev.modPort_held (n : Nat) (f : PortSt → PortSt) : (d.modPort n f).held = d.held := (rfl)
@[simp] theorem Dev.modPort_pwr (n : Nat) (f : PortSt → PortSt) : (d.modPort n f).pwr = d.pwr := (rfl)
@[simp] theorem Dev.modPort_img (n : Nat) (f : PortSt → PortSt) : (d.modPort n f).img = d.img := (rfl)
@[simp] theorem Dev.modPort_aes (n : Nat) (f : PortSt → PortSt) : (d.modPort n f).aes = d.aes := (rfl)
@[simp] theorem Dev.modPort_conv (n : Nat) (f : PortSt → PortSt) : (d.modPort n f).conv = d.conv := (rfl)
@[simp] theorem Dev.modPort_align (n : Nat) (f : PortSt → PortSt) : (d.modPort n f).align = d.align := (rfl)
@[simp] theorem Dev.modPort_zone (n : Nat) (f : PortSt → PortSt) : (d.modPort n f).zone = d.zone := (rfl)
@[simp] theorem Dev.modPort_mon (n : Nat) (f : PortSt → PortSt) : (d.modPort n f).mon = d.mon := (rfl)
@[simp] theorem Dev.modPort_monPrev (n : Nat) (f : PortSt → PortSt) : (d.modPort n f).monPrev = d.monPrev := (rfl)
@[simp] theorem Dev.modPort_sieve (n : Nat) (f : PortSt → PortSt) : (d.modPort n f).sieve = d.sieve := (rfl)
@[simp] theorem Dev.modPort_firMem (n : Nat) (f : PortSt → PortSt) : (d.modPort n f).firMem = d.firMem := (rfl)
@[simp] theorem Dev.modPort_firCnt (n : Nat) (f : PortSt → PortSt) : (d.modPort n f).firCnt = d.firCnt := (rfl)
@[simp] theorem Dev.modPort_firCopy (n : Nat) (f : PortSt → PortSt) : (d.modPort n f).firCopy = d.firCopy := (rfl)
@[simp] theorem Dev.modPort_dstore (n : Nat) (f : PortSt → PortSt) : (d.modPort n f).dstore = d.dstore := (rfl)
@[simp] theorem Dev.modPort_dsCnt (n : Nat) (f : PortSt → PortSt) : (d.modPort n f).dsCnt = d.dsCnt := (rfl)
@[simp] theorem Dev.modPort_mortar (n : Nat) (f : PortSt → PortSt) : (d.modPort n f).mortar = d.mortar := (rfl)
@[simp] theorem Dev.modPort_ecc (n : Nat) (f : PortSt → PortSt) : (d.modPort n f).ecc = d.ecc := (rfl)
@[simp] theorem Dev.modPort_str (n : Nat) (f : PortSt → PortSt) : (d.modPort n f).str = d.str := (rfl)
@[simp] theorem Dev.modPort_load (n : Nat) (f : PortSt → PortSt) : (d.modPort n f).load = d.load := (rfl)
@[simp] theorem Dev.modPort_test (n : Nat) (f : PortSt → PortSt) : (d.modPort n f).test = d.test := (rfl)
@[simp] theorem Dev.modPort_diag (n : Nat) (f : PortSt → PortSt) : (d.modPort n f).diag = d.diag := (rfl)
@[simp] theorem Dev.modPort_lid (n : Nat) (f : PortSt → PortSt) : (d.modPort n f).lid = d.lid := (rfl)
@[simp] theorem Dev.modPort_pot (n : Nat) (f : PortSt → PortSt) : (d.modPort n f).pot = d.pot := (rfl)
@[simp] theorem Dev.modPort_lock (n : Nat) (f : PortSt → PortSt) : (d.modPort n f).lock = d.lock := (rfl)
@[simp] theorem Dev.modPort_req (n : Nat) (f : PortSt → PortSt) : (d.modPort n f).req = d.req := (rfl)
@[simp] theorem Dev.modPort_svc (n : Nat) (f : PortSt → PortSt) : (d.modPort n f).svc = d.svc := (rfl)
@[simp] theorem Dev.modPort_bg (n : Nat) (f : PortSt → PortSt) : (d.modPort n f).bg = d.bg := (rfl)
@[simp] theorem Dev.modPort_free (n : Nat) (f : PortSt → PortSt) : (d.modPort n f).free = d.free := (rfl)

/-! ### modLoad -/

@[simp] theorem Dev.modLoad_regs (k : Nat) (f : LoadSt → LoadSt) : (d.modLoad k f).regs = d.regs := (rfl)
@[simp] theorem Dev.modLoad_held (k : Nat) (f : LoadSt → LoadSt) : (d.modLoad k f).held = d.held := (rfl)
@[simp] theorem Dev.modLoad_pwr (k : Nat) (f : LoadSt → LoadSt) : (d.modLoad k f).pwr = d.pwr := (rfl)
@[simp] theorem Dev.modLoad_img (k : Nat) (f : LoadSt → LoadSt) : (d.modLoad k f).img = d.img := (rfl)
@[simp] theorem Dev.modLoad_port (k : Nat) (f : LoadSt → LoadSt) : (d.modLoad k f).port = d.port := (rfl)
@[simp] theorem Dev.modLoad_aes (k : Nat) (f : LoadSt → LoadSt) : (d.modLoad k f).aes = d.aes := (rfl)
@[simp] theorem Dev.modLoad_conv (k : Nat) (f : LoadSt → LoadSt) : (d.modLoad k f).conv = d.conv := (rfl)
@[simp] theorem Dev.modLoad_align (k : Nat) (f : LoadSt → LoadSt) : (d.modLoad k f).align = d.align := (rfl)
@[simp] theorem Dev.modLoad_zone (k : Nat) (f : LoadSt → LoadSt) : (d.modLoad k f).zone = d.zone := (rfl)
@[simp] theorem Dev.modLoad_mon (k : Nat) (f : LoadSt → LoadSt) : (d.modLoad k f).mon = d.mon := (rfl)
@[simp] theorem Dev.modLoad_monPrev (k : Nat) (f : LoadSt → LoadSt) : (d.modLoad k f).monPrev = d.monPrev := (rfl)
@[simp] theorem Dev.modLoad_sieve (k : Nat) (f : LoadSt → LoadSt) : (d.modLoad k f).sieve = d.sieve := (rfl)
@[simp] theorem Dev.modLoad_firMem (k : Nat) (f : LoadSt → LoadSt) : (d.modLoad k f).firMem = d.firMem := (rfl)
@[simp] theorem Dev.modLoad_firCnt (k : Nat) (f : LoadSt → LoadSt) : (d.modLoad k f).firCnt = d.firCnt := (rfl)
@[simp] theorem Dev.modLoad_firCopy (k : Nat) (f : LoadSt → LoadSt) : (d.modLoad k f).firCopy = d.firCopy := (rfl)
@[simp] theorem Dev.modLoad_dstore (k : Nat) (f : LoadSt → LoadSt) : (d.modLoad k f).dstore = d.dstore := (rfl)
@[simp] theorem Dev.modLoad_dsCnt (k : Nat) (f : LoadSt → LoadSt) : (d.modLoad k f).dsCnt = d.dsCnt := (rfl)
@[simp] theorem Dev.modLoad_mortar (k : Nat) (f : LoadSt → LoadSt) : (d.modLoad k f).mortar = d.mortar := (rfl)
@[simp] theorem Dev.modLoad_ecc (k : Nat) (f : LoadSt → LoadSt) : (d.modLoad k f).ecc = d.ecc := (rfl)
@[simp] theorem Dev.modLoad_str (k : Nat) (f : LoadSt → LoadSt) : (d.modLoad k f).str = d.str := (rfl)
@[simp] theorem Dev.modLoad_test (k : Nat) (f : LoadSt → LoadSt) : (d.modLoad k f).test = d.test := (rfl)
@[simp] theorem Dev.modLoad_diag (k : Nat) (f : LoadSt → LoadSt) : (d.modLoad k f).diag = d.diag := (rfl)
@[simp] theorem Dev.modLoad_lid (k : Nat) (f : LoadSt → LoadSt) : (d.modLoad k f).lid = d.lid := (rfl)
@[simp] theorem Dev.modLoad_pot (k : Nat) (f : LoadSt → LoadSt) : (d.modLoad k f).pot = d.pot := (rfl)
@[simp] theorem Dev.modLoad_lock (k : Nat) (f : LoadSt → LoadSt) : (d.modLoad k f).lock = d.lock := (rfl)
@[simp] theorem Dev.modLoad_req (k : Nat) (f : LoadSt → LoadSt) : (d.modLoad k f).req = d.req := (rfl)
@[simp] theorem Dev.modLoad_svc (k : Nat) (f : LoadSt → LoadSt) : (d.modLoad k f).svc = d.svc := (rfl)
@[simp] theorem Dev.modLoad_bg (k : Nat) (f : LoadSt → LoadSt) : (d.modLoad k f).bg = d.bg := (rfl)
@[simp] theorem Dev.modLoad_free (k : Nat) (f : LoadSt → LoadSt) : (d.modLoad k f).free = d.free := (rfl)

/-! ### modTest -/

@[simp] theorem Dev.modTest_regs (k : Nat) (f : TestSt → TestSt) : (d.modTest k f).regs = d.regs := (rfl)
@[simp] theorem Dev.modTest_held (k : Nat) (f : TestSt → TestSt) : (d.modTest k f).held = d.held := (rfl)
@[simp] theorem Dev.modTest_pwr (k : Nat) (f : TestSt → TestSt) : (d.modTest k f).pwr = d.pwr := (rfl)
@[simp] theorem Dev.modTest_img (k : Nat) (f : TestSt → TestSt) : (d.modTest k f).img = d.img := (rfl)
@[simp] theorem Dev.modTest_port (k : Nat) (f : TestSt → TestSt) : (d.modTest k f).port = d.port := (rfl)
@[simp] theorem Dev.modTest_aes (k : Nat) (f : TestSt → TestSt) : (d.modTest k f).aes = d.aes := (rfl)
@[simp] theorem Dev.modTest_conv (k : Nat) (f : TestSt → TestSt) : (d.modTest k f).conv = d.conv := (rfl)
@[simp] theorem Dev.modTest_align (k : Nat) (f : TestSt → TestSt) : (d.modTest k f).align = d.align := (rfl)
@[simp] theorem Dev.modTest_zone (k : Nat) (f : TestSt → TestSt) : (d.modTest k f).zone = d.zone := (rfl)
@[simp] theorem Dev.modTest_mon (k : Nat) (f : TestSt → TestSt) : (d.modTest k f).mon = d.mon := (rfl)
@[simp] theorem Dev.modTest_monPrev (k : Nat) (f : TestSt → TestSt) : (d.modTest k f).monPrev = d.monPrev := (rfl)
@[simp] theorem Dev.modTest_sieve (k : Nat) (f : TestSt → TestSt) : (d.modTest k f).sieve = d.sieve := (rfl)
@[simp] theorem Dev.modTest_firMem (k : Nat) (f : TestSt → TestSt) : (d.modTest k f).firMem = d.firMem := (rfl)
@[simp] theorem Dev.modTest_firCnt (k : Nat) (f : TestSt → TestSt) : (d.modTest k f).firCnt = d.firCnt := (rfl)
@[simp] theorem Dev.modTest_firCopy (k : Nat) (f : TestSt → TestSt) : (d.modTest k f).firCopy = d.firCopy := (rfl)
@[simp] theorem Dev.modTest_dstore (k : Nat) (f : TestSt → TestSt) : (d.modTest k f).dstore = d.dstore := (rfl)
@[simp] theorem Dev.modTest_dsCnt (k : Nat) (f : TestSt → TestSt) : (d.modTest k f).dsCnt = d.dsCnt := (rfl)
@[simp] theorem Dev.modTest_mortar (k : Nat) (f : TestSt → TestSt) : (d.modTest k f).mortar = d.mortar := (rfl)
@[simp] theorem Dev.modTest_ecc (k : Nat) (f : TestSt → TestSt) : (d.modTest k f).ecc = d.ecc := (rfl)
@[simp] theorem Dev.modTest_str (k : Nat) (f : TestSt → TestSt) : (d.modTest k f).str = d.str := (rfl)
@[simp] theorem Dev.modTest_load (k : Nat) (f : TestSt → TestSt) : (d.modTest k f).load = d.load := (rfl)
@[simp] theorem Dev.modTest_diag (k : Nat) (f : TestSt → TestSt) : (d.modTest k f).diag = d.diag := (rfl)
@[simp] theorem Dev.modTest_lid (k : Nat) (f : TestSt → TestSt) : (d.modTest k f).lid = d.lid := (rfl)
@[simp] theorem Dev.modTest_pot (k : Nat) (f : TestSt → TestSt) : (d.modTest k f).pot = d.pot := (rfl)
@[simp] theorem Dev.modTest_lock (k : Nat) (f : TestSt → TestSt) : (d.modTest k f).lock = d.lock := (rfl)
@[simp] theorem Dev.modTest_req (k : Nat) (f : TestSt → TestSt) : (d.modTest k f).req = d.req := (rfl)
@[simp] theorem Dev.modTest_svc (k : Nat) (f : TestSt → TestSt) : (d.modTest k f).svc = d.svc := (rfl)
@[simp] theorem Dev.modTest_bg (k : Nat) (f : TestSt → TestSt) : (d.modTest k f).bg = d.bg := (rfl)
@[simp] theorem Dev.modTest_free (k : Nat) (f : TestSt → TestSt) : (d.modTest k f).free = d.free := (rfl)

/-! ### modReq -/

@[simp] theorem Dev.modReq_regs (p : Nat) (f : ReqSt → ReqSt) : (d.modReq p f).regs = d.regs := (rfl)
@[simp] theorem Dev.modReq_held (p : Nat) (f : ReqSt → ReqSt) : (d.modReq p f).held = d.held := (rfl)
@[simp] theorem Dev.modReq_pwr (p : Nat) (f : ReqSt → ReqSt) : (d.modReq p f).pwr = d.pwr := (rfl)
@[simp] theorem Dev.modReq_img (p : Nat) (f : ReqSt → ReqSt) : (d.modReq p f).img = d.img := (rfl)
@[simp] theorem Dev.modReq_port (p : Nat) (f : ReqSt → ReqSt) : (d.modReq p f).port = d.port := (rfl)
@[simp] theorem Dev.modReq_aes (p : Nat) (f : ReqSt → ReqSt) : (d.modReq p f).aes = d.aes := (rfl)
@[simp] theorem Dev.modReq_conv (p : Nat) (f : ReqSt → ReqSt) : (d.modReq p f).conv = d.conv := (rfl)
@[simp] theorem Dev.modReq_align (p : Nat) (f : ReqSt → ReqSt) : (d.modReq p f).align = d.align := (rfl)
@[simp] theorem Dev.modReq_zone (p : Nat) (f : ReqSt → ReqSt) : (d.modReq p f).zone = d.zone := (rfl)
@[simp] theorem Dev.modReq_mon (p : Nat) (f : ReqSt → ReqSt) : (d.modReq p f).mon = d.mon := (rfl)
@[simp] theorem Dev.modReq_monPrev (p : Nat) (f : ReqSt → ReqSt) : (d.modReq p f).monPrev = d.monPrev := (rfl)
@[simp] theorem Dev.modReq_sieve (p : Nat) (f : ReqSt → ReqSt) : (d.modReq p f).sieve = d.sieve := (rfl)
@[simp] theorem Dev.modReq_firMem (p : Nat) (f : ReqSt → ReqSt) : (d.modReq p f).firMem = d.firMem := (rfl)
@[simp] theorem Dev.modReq_firCnt (p : Nat) (f : ReqSt → ReqSt) : (d.modReq p f).firCnt = d.firCnt := (rfl)
@[simp] theorem Dev.modReq_firCopy (p : Nat) (f : ReqSt → ReqSt) : (d.modReq p f).firCopy = d.firCopy := (rfl)
@[simp] theorem Dev.modReq_dstore (p : Nat) (f : ReqSt → ReqSt) : (d.modReq p f).dstore = d.dstore := (rfl)
@[simp] theorem Dev.modReq_dsCnt (p : Nat) (f : ReqSt → ReqSt) : (d.modReq p f).dsCnt = d.dsCnt := (rfl)
@[simp] theorem Dev.modReq_mortar (p : Nat) (f : ReqSt → ReqSt) : (d.modReq p f).mortar = d.mortar := (rfl)
@[simp] theorem Dev.modReq_ecc (p : Nat) (f : ReqSt → ReqSt) : (d.modReq p f).ecc = d.ecc := (rfl)
@[simp] theorem Dev.modReq_str (p : Nat) (f : ReqSt → ReqSt) : (d.modReq p f).str = d.str := (rfl)
@[simp] theorem Dev.modReq_load (p : Nat) (f : ReqSt → ReqSt) : (d.modReq p f).load = d.load := (rfl)
@[simp] theorem Dev.modReq_test (p : Nat) (f : ReqSt → ReqSt) : (d.modReq p f).test = d.test := (rfl)
@[simp] theorem Dev.modReq_diag (p : Nat) (f : ReqSt → ReqSt) : (d.modReq p f).diag = d.diag := (rfl)
@[simp] theorem Dev.modReq_lid (p : Nat) (f : ReqSt → ReqSt) : (d.modReq p f).lid = d.lid := (rfl)
@[simp] theorem Dev.modReq_pot (p : Nat) (f : ReqSt → ReqSt) : (d.modReq p f).pot = d.pot := (rfl)
@[simp] theorem Dev.modReq_lock (p : Nat) (f : ReqSt → ReqSt) : (d.modReq p f).lock = d.lock := (rfl)
@[simp] theorem Dev.modReq_svc (p : Nat) (f : ReqSt → ReqSt) : (d.modReq p f).svc = d.svc := (rfl)
@[simp] theorem Dev.modReq_bg (p : Nat) (f : ReqSt → ReqSt) : (d.modReq p f).bg = d.bg := (rfl)
@[simp] theorem Dev.modReq_free (p : Nat) (f : ReqSt → ReqSt) : (d.modReq p f).free = d.free := (rfl)

/-! ### modAes -/

@[simp] theorem Dev.modAes_regs (n : Nat) (f : AesSt → AesSt) : (d.modAes n f).regs = d.regs := (rfl)
@[simp] theorem Dev.modAes_held (n : Nat) (f : AesSt → AesSt) : (d.modAes n f).held = d.held := (rfl)
@[simp] theorem Dev.modAes_pwr (n : Nat) (f : AesSt → AesSt) : (d.modAes n f).pwr = d.pwr := (rfl)
@[simp] theorem Dev.modAes_img (n : Nat) (f : AesSt → AesSt) : (d.modAes n f).img = d.img := (rfl)
@[simp] theorem Dev.modAes_port (n : Nat) (f : AesSt → AesSt) : (d.modAes n f).port = d.port := (rfl)
@[simp] theorem Dev.modAes_conv (n : Nat) (f : AesSt → AesSt) : (d.modAes n f).conv = d.conv := (rfl)
@[simp] theorem Dev.modAes_align (n : Nat) (f : AesSt → AesSt) : (d.modAes n f).align = d.align := (rfl)
@[simp] theorem Dev.modAes_zone (n : Nat) (f : AesSt → AesSt) : (d.modAes n f).zone = d.zone := (rfl)
@[simp] theorem Dev.modAes_mon (n : Nat) (f : AesSt → AesSt) : (d.modAes n f).mon = d.mon := (rfl)
@[simp] theorem Dev.modAes_monPrev (n : Nat) (f : AesSt → AesSt) : (d.modAes n f).monPrev = d.monPrev := (rfl)
@[simp] theorem Dev.modAes_sieve (n : Nat) (f : AesSt → AesSt) : (d.modAes n f).sieve = d.sieve := (rfl)
@[simp] theorem Dev.modAes_firMem (n : Nat) (f : AesSt → AesSt) : (d.modAes n f).firMem = d.firMem := (rfl)
@[simp] theorem Dev.modAes_firCnt (n : Nat) (f : AesSt → AesSt) : (d.modAes n f).firCnt = d.firCnt := (rfl)
@[simp] theorem Dev.modAes_firCopy (n : Nat) (f : AesSt → AesSt) : (d.modAes n f).firCopy = d.firCopy := (rfl)
@[simp] theorem Dev.modAes_dstore (n : Nat) (f : AesSt → AesSt) : (d.modAes n f).dstore = d.dstore := (rfl)
@[simp] theorem Dev.modAes_dsCnt (n : Nat) (f : AesSt → AesSt) : (d.modAes n f).dsCnt = d.dsCnt := (rfl)
@[simp] theorem Dev.modAes_mortar (n : Nat) (f : AesSt → AesSt) : (d.modAes n f).mortar = d.mortar := (rfl)
@[simp] theorem Dev.modAes_ecc (n : Nat) (f : AesSt → AesSt) : (d.modAes n f).ecc = d.ecc := (rfl)
@[simp] theorem Dev.modAes_str (n : Nat) (f : AesSt → AesSt) : (d.modAes n f).str = d.str := (rfl)
@[simp] theorem Dev.modAes_load (n : Nat) (f : AesSt → AesSt) : (d.modAes n f).load = d.load := (rfl)
@[simp] theorem Dev.modAes_test (n : Nat) (f : AesSt → AesSt) : (d.modAes n f).test = d.test := (rfl)
@[simp] theorem Dev.modAes_diag (n : Nat) (f : AesSt → AesSt) : (d.modAes n f).diag = d.diag := (rfl)
@[simp] theorem Dev.modAes_lid (n : Nat) (f : AesSt → AesSt) : (d.modAes n f).lid = d.lid := (rfl)
@[simp] theorem Dev.modAes_pot (n : Nat) (f : AesSt → AesSt) : (d.modAes n f).pot = d.pot := (rfl)
@[simp] theorem Dev.modAes_lock (n : Nat) (f : AesSt → AesSt) : (d.modAes n f).lock = d.lock := (rfl)
@[simp] theorem Dev.modAes_req (n : Nat) (f : AesSt → AesSt) : (d.modAes n f).req = d.req := (rfl)
@[simp] theorem Dev.modAes_svc (n : Nat) (f : AesSt → AesSt) : (d.modAes n f).svc = d.svc := (rfl)
@[simp] theorem Dev.modAes_bg (n : Nat) (f : AesSt → AesSt) : (d.modAes n f).bg = d.bg := (rfl)
@[simp] theorem Dev.modAes_free (n : Nat) (f : AesSt → AesSt) : (d.modAes n f).free = d.free := (rfl)

/-! ### modBg -/

@[simp] theorem Dev.modBg_regs (f : BgSt → BgSt) : (d.modBg f).regs = d.regs := (rfl)
@[simp] theorem Dev.modBg_held (f : BgSt → BgSt) : (d.modBg f).held = d.held := (rfl)
@[simp] theorem Dev.modBg_pwr (f : BgSt → BgSt) : (d.modBg f).pwr = d.pwr := (rfl)
@[simp] theorem Dev.modBg_img (f : BgSt → BgSt) : (d.modBg f).img = d.img := (rfl)
@[simp] theorem Dev.modBg_port (f : BgSt → BgSt) : (d.modBg f).port = d.port := (rfl)
@[simp] theorem Dev.modBg_aes (f : BgSt → BgSt) : (d.modBg f).aes = d.aes := (rfl)
@[simp] theorem Dev.modBg_conv (f : BgSt → BgSt) : (d.modBg f).conv = d.conv := (rfl)
@[simp] theorem Dev.modBg_align (f : BgSt → BgSt) : (d.modBg f).align = d.align := (rfl)
@[simp] theorem Dev.modBg_zone (f : BgSt → BgSt) : (d.modBg f).zone = d.zone := (rfl)
@[simp] theorem Dev.modBg_mon (f : BgSt → BgSt) : (d.modBg f).mon = d.mon := (rfl)
@[simp] theorem Dev.modBg_monPrev (f : BgSt → BgSt) : (d.modBg f).monPrev = d.monPrev := (rfl)
@[simp] theorem Dev.modBg_sieve (f : BgSt → BgSt) : (d.modBg f).sieve = d.sieve := (rfl)
@[simp] theorem Dev.modBg_firMem (f : BgSt → BgSt) : (d.modBg f).firMem = d.firMem := (rfl)
@[simp] theorem Dev.modBg_firCnt (f : BgSt → BgSt) : (d.modBg f).firCnt = d.firCnt := (rfl)
@[simp] theorem Dev.modBg_firCopy (f : BgSt → BgSt) : (d.modBg f).firCopy = d.firCopy := (rfl)
@[simp] theorem Dev.modBg_dstore (f : BgSt → BgSt) : (d.modBg f).dstore = d.dstore := (rfl)
@[simp] theorem Dev.modBg_dsCnt (f : BgSt → BgSt) : (d.modBg f).dsCnt = d.dsCnt := (rfl)
@[simp] theorem Dev.modBg_mortar (f : BgSt → BgSt) : (d.modBg f).mortar = d.mortar := (rfl)
@[simp] theorem Dev.modBg_ecc (f : BgSt → BgSt) : (d.modBg f).ecc = d.ecc := (rfl)
@[simp] theorem Dev.modBg_str (f : BgSt → BgSt) : (d.modBg f).str = d.str := (rfl)
@[simp] theorem Dev.modBg_load (f : BgSt → BgSt) : (d.modBg f).load = d.load := (rfl)
@[simp] theorem Dev.modBg_test (f : BgSt → BgSt) : (d.modBg f).test = d.test := (rfl)
@[simp] theorem Dev.modBg_diag (f : BgSt → BgSt) : (d.modBg f).diag = d.diag := (rfl)
@[simp] theorem Dev.modBg_lid (f : BgSt → BgSt) : (d.modBg f).lid = d.lid := (rfl)
@[simp] theorem Dev.modBg_pot (f : BgSt → BgSt) : (d.modBg f).pot = d.pot := (rfl)
@[simp] theorem Dev.modBg_lock (f : BgSt → BgSt) : (d.modBg f).lock = d.lock := (rfl)
@[simp] theorem Dev.modBg_req (f : BgSt → BgSt) : (d.modBg f).req = d.req := (rfl)
@[simp] theorem Dev.modBg_svc (f : BgSt → BgSt) : (d.modBg f).svc = d.svc := (rfl)
@[simp] theorem Dev.modBg_free (f : BgSt → BgSt) : (d.modBg f).free = d.free := (rfl)

/-! ### modDiag -/

@[simp] theorem Dev.modDiag_regs (k : Nat) (f : DiagSt → DiagSt) : (d.modDiag k f).regs = d.regs := (rfl)
@[simp] theorem Dev.modDiag_held (k : Nat) (f : DiagSt → DiagSt) : (d.modDiag k f).held = d.held := (rfl)
@[simp] theorem Dev.modDiag_pwr (k : Nat) (f : DiagSt → DiagSt) : (d.modDiag k f).pwr = d.pwr := (rfl)
@[simp] theorem Dev.modDiag_img (k : Nat) (f : DiagSt → DiagSt) : (d.modDiag k f).img = d.img := (rfl)
@[simp] theorem Dev.modDiag_port (k : Nat) (f : DiagSt → DiagSt) : (d.modDiag k f).port = d.port := (rfl)
@[simp] theorem Dev.modDiag_aes (k : Nat) (f : DiagSt → DiagSt) : (d.modDiag k f).aes = d.aes := (rfl)
@[simp] theorem Dev.modDiag_conv (k : Nat) (f : DiagSt → DiagSt) : (d.modDiag k f).conv = d.conv := (rfl)
@[simp] theorem Dev.modDiag_align (k : Nat) (f : DiagSt → DiagSt) : (d.modDiag k f).align = d.align := (rfl)
@[simp] theorem Dev.modDiag_zone (k : Nat) (f : DiagSt → DiagSt) : (d.modDiag k f).zone = d.zone := (rfl)
@[simp] theorem Dev.modDiag_mon (k : Nat) (f : DiagSt → DiagSt) : (d.modDiag k f).mon = d.mon := (rfl)
@[simp] theorem Dev.modDiag_monPrev (k : Nat) (f : DiagSt → DiagSt) : (d.modDiag k f).monPrev = d.monPrev := (rfl)
@[simp] theorem Dev.modDiag_sieve (k : Nat) (f : DiagSt → DiagSt) : (d.modDiag k f).sieve = d.sieve := (rfl)
@[simp] theorem Dev.modDiag_firMem (k : Nat) (f : DiagSt → DiagSt) : (d.modDiag k f).firMem = d.firMem := (rfl)
@[simp] theorem Dev.modDiag_firCnt (k : Nat) (f : DiagSt → DiagSt) : (d.modDiag k f).firCnt = d.firCnt := (rfl)
@[simp] theorem Dev.modDiag_firCopy (k : Nat) (f : DiagSt → DiagSt) : (d.modDiag k f).firCopy = d.firCopy := (rfl)
@[simp] theorem Dev.modDiag_dstore (k : Nat) (f : DiagSt → DiagSt) : (d.modDiag k f).dstore = d.dstore := (rfl)
@[simp] theorem Dev.modDiag_dsCnt (k : Nat) (f : DiagSt → DiagSt) : (d.modDiag k f).dsCnt = d.dsCnt := (rfl)
@[simp] theorem Dev.modDiag_mortar (k : Nat) (f : DiagSt → DiagSt) : (d.modDiag k f).mortar = d.mortar := (rfl)
@[simp] theorem Dev.modDiag_ecc (k : Nat) (f : DiagSt → DiagSt) : (d.modDiag k f).ecc = d.ecc := (rfl)
@[simp] theorem Dev.modDiag_str (k : Nat) (f : DiagSt → DiagSt) : (d.modDiag k f).str = d.str := (rfl)
@[simp] theorem Dev.modDiag_load (k : Nat) (f : DiagSt → DiagSt) : (d.modDiag k f).load = d.load := (rfl)
@[simp] theorem Dev.modDiag_test (k : Nat) (f : DiagSt → DiagSt) : (d.modDiag k f).test = d.test := (rfl)
@[simp] theorem Dev.modDiag_lid (k : Nat) (f : DiagSt → DiagSt) : (d.modDiag k f).lid = d.lid := (rfl)
@[simp] theorem Dev.modDiag_pot (k : Nat) (f : DiagSt → DiagSt) : (d.modDiag k f).pot = d.pot := (rfl)
@[simp] theorem Dev.modDiag_lock (k : Nat) (f : DiagSt → DiagSt) : (d.modDiag k f).lock = d.lock := (rfl)
@[simp] theorem Dev.modDiag_req (k : Nat) (f : DiagSt → DiagSt) : (d.modDiag k f).req = d.req := (rfl)
@[simp] theorem Dev.modDiag_svc (k : Nat) (f : DiagSt → DiagSt) : (d.modDiag k f).svc = d.svc := (rfl)
@[simp] theorem Dev.modDiag_bg (k : Nat) (f : DiagSt → DiagSt) : (d.modDiag k f).bg = d.bg := (rfl)
@[simp] theorem Dev.modDiag_free (k : Nat) (f : DiagSt → DiagSt) : (d.modDiag k f).free = d.free := (rfl)

/-! ### modLid -/

@[simp] theorem Dev.modLid_regs (f : LidSt → LidSt) : (d.modLid f).regs = d.regs := (rfl)
@[simp] theorem Dev.modLid_held (f : LidSt → LidSt) : (d.modLid f).held = d.held := (rfl)
@[simp] theorem Dev.modLid_pwr (f : LidSt → LidSt) : (d.modLid f).pwr = d.pwr := (rfl)
@[simp] theorem Dev.modLid_img (f : LidSt → LidSt) : (d.modLid f).img = d.img := (rfl)
@[simp] theorem Dev.modLid_port (f : LidSt → LidSt) : (d.modLid f).port = d.port := (rfl)
@[simp] theorem Dev.modLid_aes (f : LidSt → LidSt) : (d.modLid f).aes = d.aes := (rfl)
@[simp] theorem Dev.modLid_conv (f : LidSt → LidSt) : (d.modLid f).conv = d.conv := (rfl)
@[simp] theorem Dev.modLid_align (f : LidSt → LidSt) : (d.modLid f).align = d.align := (rfl)
@[simp] theorem Dev.modLid_zone (f : LidSt → LidSt) : (d.modLid f).zone = d.zone := (rfl)
@[simp] theorem Dev.modLid_mon (f : LidSt → LidSt) : (d.modLid f).mon = d.mon := (rfl)
@[simp] theorem Dev.modLid_monPrev (f : LidSt → LidSt) : (d.modLid f).monPrev = d.monPrev := (rfl)
@[simp] theorem Dev.modLid_sieve (f : LidSt → LidSt) : (d.modLid f).sieve = d.sieve := (rfl)
@[simp] theorem Dev.modLid_firMem (f : LidSt → LidSt) : (d.modLid f).firMem = d.firMem := (rfl)
@[simp] theorem Dev.modLid_firCnt (f : LidSt → LidSt) : (d.modLid f).firCnt = d.firCnt := (rfl)
@[simp] theorem Dev.modLid_firCopy (f : LidSt → LidSt) : (d.modLid f).firCopy = d.firCopy := (rfl)
@[simp] theorem Dev.modLid_dstore (f : LidSt → LidSt) : (d.modLid f).dstore = d.dstore := (rfl)
@[simp] theorem Dev.modLid_dsCnt (f : LidSt → LidSt) : (d.modLid f).dsCnt = d.dsCnt := (rfl)
@[simp] theorem Dev.modLid_mortar (f : LidSt → LidSt) : (d.modLid f).mortar = d.mortar := (rfl)
@[simp] theorem Dev.modLid_ecc (f : LidSt → LidSt) : (d.modLid f).ecc = d.ecc := (rfl)
@[simp] theorem Dev.modLid_str (f : LidSt → LidSt) : (d.modLid f).str = d.str := (rfl)
@[simp] theorem Dev.modLid_load (f : LidSt → LidSt) : (d.modLid f).load = d.load := (rfl)
@[simp] theorem Dev.modLid_test (f : LidSt → LidSt) : (d.modLid f).test = d.test := (rfl)
@[simp] theorem Dev.modLid_diag (f : LidSt → LidSt) : (d.modLid f).diag = d.diag := (rfl)
@[simp] theorem Dev.modLid_pot (f : LidSt → LidSt) : (d.modLid f).pot = d.pot := (rfl)
@[simp] theorem Dev.modLid_lock (f : LidSt → LidSt) : (d.modLid f).lock = d.lock := (rfl)
@[simp] theorem Dev.modLid_req (f : LidSt → LidSt) : (d.modLid f).req = d.req := (rfl)
@[simp] theorem Dev.modLid_svc (f : LidSt → LidSt) : (d.modLid f).svc = d.svc := (rfl)
@[simp] theorem Dev.modLid_bg (f : LidSt → LidSt) : (d.modLid f).bg = d.bg := (rfl)
@[simp] theorem Dev.modLid_free (f : LidSt → LidSt) : (d.modLid f).free = d.free := (rfl)

/-! ### modSvc -/

@[simp] theorem Dev.modSvc_regs (f : SvcSt → SvcSt) : (d.modSvc f).regs = d.regs := (rfl)
@[simp] theorem Dev.modSvc_held (f : SvcSt → SvcSt) : (d.modSvc f).held = d.held := (rfl)
@[simp] theorem Dev.modSvc_pwr (f : SvcSt → SvcSt) : (d.modSvc f).pwr = d.pwr := (rfl)
@[simp] theorem Dev.modSvc_img (f : SvcSt → SvcSt) : (d.modSvc f).img = d.img := (rfl)
@[simp] theorem Dev.modSvc_port (f : SvcSt → SvcSt) : (d.modSvc f).port = d.port := (rfl)
@[simp] theorem Dev.modSvc_aes (f : SvcSt → SvcSt) : (d.modSvc f).aes = d.aes := (rfl)
@[simp] theorem Dev.modSvc_conv (f : SvcSt → SvcSt) : (d.modSvc f).conv = d.conv := (rfl)
@[simp] theorem Dev.modSvc_align (f : SvcSt → SvcSt) : (d.modSvc f).align = d.align := (rfl)
@[simp] theorem Dev.modSvc_zone (f : SvcSt → SvcSt) : (d.modSvc f).zone = d.zone := (rfl)
@[simp] theorem Dev.modSvc_mon (f : SvcSt → SvcSt) : (d.modSvc f).mon = d.mon := (rfl)
@[simp] theorem Dev.modSvc_monPrev (f : SvcSt → SvcSt) : (d.modSvc f).monPrev = d.monPrev := (rfl)
@[simp] theorem Dev.modSvc_sieve (f : SvcSt → SvcSt) : (d.modSvc f).sieve = d.sieve := (rfl)
@[simp] theorem Dev.modSvc_firMem (f : SvcSt → SvcSt) : (d.modSvc f).firMem = d.firMem := (rfl)
@[simp] theorem Dev.modSvc_firCnt (f : SvcSt → SvcSt) : (d.modSvc f).firCnt = d.firCnt := (rfl)
@[simp] theorem Dev.modSvc_firCopy (f : SvcSt → SvcSt) : (d.modSvc f).firCopy = d.firCopy := (rfl)
@[simp] theorem Dev.modSvc_dstore (f : SvcSt → SvcSt) : (d.modSvc f).dstore = d.dstore := (rfl)
@[simp] theorem Dev.modSvc_dsCnt (f : SvcSt → SvcSt) : (d.modSvc f).dsCnt = d.dsCnt := (rfl)
@[simp] theorem Dev.modSvc_mortar (f : SvcSt → SvcSt) : (d.modSvc f).mortar = d.mortar := (rfl)
@[simp] theorem Dev.modSvc_ecc (f : SvcSt → SvcSt) : (d.modSvc f).ecc = d.ecc := (rfl)
@[simp] theorem Dev.modSvc_str (f : SvcSt → SvcSt) : (d.modSvc f).str = d.str := (rfl)
@[simp] theorem Dev.modSvc_load (f : SvcSt → SvcSt) : (d.modSvc f).load = d.load := (rfl)
@[simp] theorem Dev.modSvc_test (f : SvcSt → SvcSt) : (d.modSvc f).test = d.test := (rfl)
@[simp] theorem Dev.modSvc_diag (f : SvcSt → SvcSt) : (d.modSvc f).diag = d.diag := (rfl)
@[simp] theorem Dev.modSvc_lid (f : SvcSt → SvcSt) : (d.modSvc f).lid = d.lid := (rfl)
@[simp] theorem Dev.modSvc_pot (f : SvcSt → SvcSt) : (d.modSvc f).pot = d.pot := (rfl)
@[simp] theorem Dev.modSvc_lock (f : SvcSt → SvcSt) : (d.modSvc f).lock = d.lock := (rfl)
@[simp] theorem Dev.modSvc_req (f : SvcSt → SvcSt) : (d.modSvc f).req = d.req := (rfl)
@[simp] theorem Dev.modSvc_bg (f : SvcSt → SvcSt) : (d.modSvc f).bg = d.bg := (rfl)
@[simp] theorem Dev.modSvc_free (f : SvcSt → SvcSt) : (d.modSvc f).free = d.free := (rfl)

/-! ### modSieve -/

@[simp] theorem Dev.modSieve_regs (n : Nat) (f : SieveIn → SieveIn) : (d.modSieve n f).regs = d.regs := (rfl)
@[simp] theorem Dev.modSieve_held (n : Nat) (f : SieveIn → SieveIn) : (d.modSieve n f).held = d.held := (rfl)
@[simp] theorem Dev.modSieve_pwr (n : Nat) (f : SieveIn → SieveIn) : (d.modSieve n f).pwr = d.pwr := (rfl)
@[simp] theorem Dev.modSieve_img (n : Nat) (f : SieveIn → SieveIn) : (d.modSieve n f).img = d.img := (rfl)
@[simp] theorem Dev.modSieve_port (n : Nat) (f : SieveIn → SieveIn) : (d.modSieve n f).port = d.port := (rfl)
@[simp] theorem Dev.modSieve_aes (n : Nat) (f : SieveIn → SieveIn) : (d.modSieve n f).aes = d.aes := (rfl)
@[simp] theorem Dev.modSieve_conv (n : Nat) (f : SieveIn → SieveIn) : (d.modSieve n f).conv = d.conv := (rfl)
@[simp] theorem Dev.modSieve_align (n : Nat) (f : SieveIn → SieveIn) : (d.modSieve n f).align = d.align := (rfl)
@[simp] theorem Dev.modSieve_zone (n : Nat) (f : SieveIn → SieveIn) : (d.modSieve n f).zone = d.zone := (rfl)
@[simp] theorem Dev.modSieve_mon (n : Nat) (f : SieveIn → SieveIn) : (d.modSieve n f).mon = d.mon := (rfl)
@[simp] theorem Dev.modSieve_monPrev (n : Nat) (f : SieveIn → SieveIn) : (d.modSieve n f).monPrev = d.monPrev := (rfl)
@[simp] theorem Dev.modSieve_firMem (n : Nat) (f : SieveIn → SieveIn) : (d.modSieve n f).firMem = d.firMem := (rfl)
@[simp] theorem Dev.modSieve_firCnt (n : Nat) (f : SieveIn → SieveIn) : (d.modSieve n f).firCnt = d.firCnt := (rfl)
@[simp] theorem Dev.modSieve_firCopy (n : Nat) (f : SieveIn → SieveIn) : (d.modSieve n f).firCopy = d.firCopy := (rfl)
@[simp] theorem Dev.modSieve_dstore (n : Nat) (f : SieveIn → SieveIn) : (d.modSieve n f).dstore = d.dstore := (rfl)
@[simp] theorem Dev.modSieve_dsCnt (n : Nat) (f : SieveIn → SieveIn) : (d.modSieve n f).dsCnt = d.dsCnt := (rfl)
@[simp] theorem Dev.modSieve_mortar (n : Nat) (f : SieveIn → SieveIn) : (d.modSieve n f).mortar = d.mortar := (rfl)
@[simp] theorem Dev.modSieve_ecc (n : Nat) (f : SieveIn → SieveIn) : (d.modSieve n f).ecc = d.ecc := (rfl)
@[simp] theorem Dev.modSieve_str (n : Nat) (f : SieveIn → SieveIn) : (d.modSieve n f).str = d.str := (rfl)
@[simp] theorem Dev.modSieve_load (n : Nat) (f : SieveIn → SieveIn) : (d.modSieve n f).load = d.load := (rfl)
@[simp] theorem Dev.modSieve_test (n : Nat) (f : SieveIn → SieveIn) : (d.modSieve n f).test = d.test := (rfl)
@[simp] theorem Dev.modSieve_diag (n : Nat) (f : SieveIn → SieveIn) : (d.modSieve n f).diag = d.diag := (rfl)
@[simp] theorem Dev.modSieve_lid (n : Nat) (f : SieveIn → SieveIn) : (d.modSieve n f).lid = d.lid := (rfl)
@[simp] theorem Dev.modSieve_pot (n : Nat) (f : SieveIn → SieveIn) : (d.modSieve n f).pot = d.pot := (rfl)
@[simp] theorem Dev.modSieve_lock (n : Nat) (f : SieveIn → SieveIn) : (d.modSieve n f).lock = d.lock := (rfl)
@[simp] theorem Dev.modSieve_req (n : Nat) (f : SieveIn → SieveIn) : (d.modSieve n f).req = d.req := (rfl)
@[simp] theorem Dev.modSieve_svc (n : Nat) (f : SieveIn → SieveIn) : (d.modSieve n f).svc = d.svc := (rfl)
@[simp] theorem Dev.modSieve_bg (n : Nat) (f : SieveIn → SieveIn) : (d.modSieve n f).bg = d.bg := (rfl)
@[simp] theorem Dev.modSieve_free (n : Nat) (f : SieveIn → SieveIn) : (d.modSieve n f).free = d.free := (rfl)

/-! ### modPot -/

@[simp] theorem Dev.modPot_regs (f : PotSt → PotSt) : (d.modPot f).regs = d.regs := (rfl)
@[simp] theorem Dev.modPot_held (f : PotSt → PotSt) : (d.modPot f).held = d.held := (rfl)
@[simp] theorem Dev.modPot_pwr (f : PotSt → PotSt) : (d.modPot f).pwr = d.pwr := (rfl)
@[simp] theorem Dev.modPot_img (f : PotSt → PotSt) : (d.modPot f).img = d.img := (rfl)
@[simp] theorem Dev.modPot_port (f : PotSt → PotSt) : (d.modPot f).port = d.port := (rfl)
@[simp] theorem Dev.modPot_aes (f : PotSt → PotSt) : (d.modPot f).aes = d.aes := (rfl)
@[simp] theorem Dev.modPot_conv (f : PotSt → PotSt) : (d.modPot f).conv = d.conv := (rfl)
@[simp] theorem Dev.modPot_align (f : PotSt → PotSt) : (d.modPot f).align = d.align := (rfl)
@[simp] theorem Dev.modPot_zone (f : PotSt → PotSt) : (d.modPot f).zone = d.zone := (rfl)
@[simp] theorem Dev.modPot_mon (f : PotSt → PotSt) : (d.modPot f).mon = d.mon := (rfl)
@[simp] theorem Dev.modPot_monPrev (f : PotSt → PotSt) : (d.modPot f).monPrev = d.monPrev := (rfl)
@[simp] theorem Dev.modPot_sieve (f : PotSt → PotSt) : (d.modPot f).sieve = d.sieve := (rfl)
@[simp] theorem Dev.modPot_firMem (f : PotSt → PotSt) : (d.modPot f).firMem = d.firMem := (rfl)
@[simp] theorem Dev.modPot_firCnt (f : PotSt → PotSt) : (d.modPot f).firCnt = d.firCnt := (rfl)
@[simp] theorem Dev.modPot_firCopy (f : PotSt → PotSt) : (d.modPot f).firCopy = d.firCopy := (rfl)
@[simp] theorem Dev.modPot_dstore (f : PotSt → PotSt) : (d.modPot f).dstore = d.dstore := (rfl)
@[simp] theorem Dev.modPot_dsCnt (f : PotSt → PotSt) : (d.modPot f).dsCnt = d.dsCnt := (rfl)
@[simp] theorem Dev.modPot_mortar (f : PotSt → PotSt) : (d.modPot f).mortar = d.mortar := (rfl)
@[simp] theorem Dev.modPot_ecc (f : PotSt → PotSt) : (d.modPot f).ecc = d.ecc := (rfl)
@[simp] theorem Dev.modPot_str (f : PotSt → PotSt) : (d.modPot f).str = d.str := (rfl)
@[simp] theorem Dev.modPot_load (f : PotSt → PotSt) : (d.modPot f).load = d.load := (rfl)
@[simp] theorem Dev.modPot_test (f : PotSt → PotSt) : (d.modPot f).test = d.test := (rfl)
@[simp] theorem Dev.modPot_diag (f : PotSt → PotSt) : (d.modPot f).diag = d.diag := (rfl)
@[simp] theorem Dev.modPot_lid (f : PotSt → PotSt) : (d.modPot f).lid = d.lid := (rfl)
@[simp] theorem Dev.modPot_lock (f : PotSt → PotSt) : (d.modPot f).lock = d.lock := (rfl)
@[simp] theorem Dev.modPot_req (f : PotSt → PotSt) : (d.modPot f).req = d.req := (rfl)
@[simp] theorem Dev.modPot_svc (f : PotSt → PotSt) : (d.modPot f).svc = d.svc := (rfl)
@[simp] theorem Dev.modPot_bg (f : PotSt → PotSt) : (d.modPot f).bg = d.bg := (rfl)
@[simp] theorem Dev.modPot_free (f : PotSt → PotSt) : (d.modPot f).free = d.free := (rfl)

/-! ### setDom -/

@[simp] theorem Dev.setDom_regs (i : Nat) (x : DomSt) : (d.setDom i x).regs = d.regs := (rfl)
@[simp] theorem Dev.setDom_held (i : Nat) (x : DomSt) : (d.setDom i x).held = d.held := (rfl)
@[simp] theorem Dev.setDom_img (i : Nat) (x : DomSt) : (d.setDom i x).img = d.img := (rfl)
@[simp] theorem Dev.setDom_port (i : Nat) (x : DomSt) : (d.setDom i x).port = d.port := (rfl)
@[simp] theorem Dev.setDom_aes (i : Nat) (x : DomSt) : (d.setDom i x).aes = d.aes := (rfl)
@[simp] theorem Dev.setDom_conv (i : Nat) (x : DomSt) : (d.setDom i x).conv = d.conv := (rfl)
@[simp] theorem Dev.setDom_align (i : Nat) (x : DomSt) : (d.setDom i x).align = d.align := (rfl)
@[simp] theorem Dev.setDom_zone (i : Nat) (x : DomSt) : (d.setDom i x).zone = d.zone := (rfl)
@[simp] theorem Dev.setDom_mon (i : Nat) (x : DomSt) : (d.setDom i x).mon = d.mon := (rfl)
@[simp] theorem Dev.setDom_monPrev (i : Nat) (x : DomSt) : (d.setDom i x).monPrev = d.monPrev := (rfl)
@[simp] theorem Dev.setDom_sieve (i : Nat) (x : DomSt) : (d.setDom i x).sieve = d.sieve := (rfl)
@[simp] theorem Dev.setDom_firMem (i : Nat) (x : DomSt) : (d.setDom i x).firMem = d.firMem := (rfl)
@[simp] theorem Dev.setDom_firCnt (i : Nat) (x : DomSt) : (d.setDom i x).firCnt = d.firCnt := (rfl)
@[simp] theorem Dev.setDom_firCopy (i : Nat) (x : DomSt) : (d.setDom i x).firCopy = d.firCopy := (rfl)
@[simp] theorem Dev.setDom_dstore (i : Nat) (x : DomSt) : (d.setDom i x).dstore = d.dstore := (rfl)
@[simp] theorem Dev.setDom_dsCnt (i : Nat) (x : DomSt) : (d.setDom i x).dsCnt = d.dsCnt := (rfl)
@[simp] theorem Dev.setDom_mortar (i : Nat) (x : DomSt) : (d.setDom i x).mortar = d.mortar := (rfl)
@[simp] theorem Dev.setDom_ecc (i : Nat) (x : DomSt) : (d.setDom i x).ecc = d.ecc := (rfl)
@[simp] theorem Dev.setDom_str (i : Nat) (x : DomSt) : (d.setDom i x).str = d.str := (rfl)
@[simp] theorem Dev.setDom_load (i : Nat) (x : DomSt) : (d.setDom i x).load = d.load := (rfl)
@[simp] theorem Dev.setDom_test (i : Nat) (x : DomSt) : (d.setDom i x).test = d.test := (rfl)
@[simp] theorem Dev.setDom_diag (i : Nat) (x : DomSt) : (d.setDom i x).diag = d.diag := (rfl)
@[simp] theorem Dev.setDom_lid (i : Nat) (x : DomSt) : (d.setDom i x).lid = d.lid := (rfl)
@[simp] theorem Dev.setDom_pot (i : Nat) (x : DomSt) : (d.setDom i x).pot = d.pot := (rfl)
@[simp] theorem Dev.setDom_lock (i : Nat) (x : DomSt) : (d.setDom i x).lock = d.lock := (rfl)
@[simp] theorem Dev.setDom_req (i : Nat) (x : DomSt) : (d.setDom i x).req = d.req := (rfl)
@[simp] theorem Dev.setDom_svc (i : Nat) (x : DomSt) : (d.setDom i x).svc = d.svc := (rfl)
@[simp] theorem Dev.setDom_bg (i : Nat) (x : DomSt) : (d.setDom i x).bg = d.bg := (rfl)
@[simp] theorem Dev.setDom_free (i : Nat) (x : DomSt) : (d.setDom i x).free = d.free := (rfl)

/-! ### holdRelays -/

@[simp] theorem Dev.holdRelays_regs (b : Bool) : (d.holdRelays b).regs = d.regs := (rfl)
@[simp] theorem Dev.holdRelays_held (b : Bool) : (d.holdRelays b).held = d.held := (rfl)
@[simp] theorem Dev.holdRelays_img (b : Bool) : (d.holdRelays b).img = d.img := (rfl)
@[simp] theorem Dev.holdRelays_port (b : Bool) : (d.holdRelays b).port = d.port := (rfl)
@[simp] theorem Dev.holdRelays_aes (b : Bool) : (d.holdRelays b).aes = d.aes := (rfl)
@[simp] theorem Dev.holdRelays_conv (b : Bool) : (d.holdRelays b).conv = d.conv := (rfl)
@[simp] theorem Dev.holdRelays_align (b : Bool) : (d.holdRelays b).align = d.align := (rfl)
@[simp] theorem Dev.holdRelays_zone (b : Bool) : (d.holdRelays b).zone = d.zone := (rfl)
@[simp] theorem Dev.holdRelays_mon (b : Bool) : (d.holdRelays b).mon = d.mon := (rfl)
@[simp] theorem Dev.holdRelays_monPrev (b : Bool) : (d.holdRelays b).monPrev = d.monPrev := (rfl)
@[simp] theorem Dev.holdRelays_sieve (b : Bool) : (d.holdRelays b).sieve = d.sieve := (rfl)
@[simp] theorem Dev.holdRelays_firMem (b : Bool) : (d.holdRelays b).firMem = d.firMem := (rfl)
@[simp] theorem Dev.holdRelays_firCnt (b : Bool) : (d.holdRelays b).firCnt = d.firCnt := (rfl)
@[simp] theorem Dev.holdRelays_firCopy (b : Bool) : (d.holdRelays b).firCopy = d.firCopy := (rfl)
@[simp] theorem Dev.holdRelays_dstore (b : Bool) : (d.holdRelays b).dstore = d.dstore := (rfl)
@[simp] theorem Dev.holdRelays_dsCnt (b : Bool) : (d.holdRelays b).dsCnt = d.dsCnt := (rfl)
@[simp] theorem Dev.holdRelays_mortar (b : Bool) : (d.holdRelays b).mortar = d.mortar := (rfl)
@[simp] theorem Dev.holdRelays_ecc (b : Bool) : (d.holdRelays b).ecc = d.ecc := (rfl)
@[simp] theorem Dev.holdRelays_str (b : Bool) : (d.holdRelays b).str = d.str := (rfl)
@[simp] theorem Dev.holdRelays_load (b : Bool) : (d.holdRelays b).load = d.load := (rfl)
@[simp] theorem Dev.holdRelays_test (b : Bool) : (d.holdRelays b).test = d.test := (rfl)
@[simp] theorem Dev.holdRelays_diag (b : Bool) : (d.holdRelays b).diag = d.diag := (rfl)
@[simp] theorem Dev.holdRelays_lid (b : Bool) : (d.holdRelays b).lid = d.lid := (rfl)
@[simp] theorem Dev.holdRelays_pot (b : Bool) : (d.holdRelays b).pot = d.pot := (rfl)
@[simp] theorem Dev.holdRelays_lock (b : Bool) : (d.holdRelays b).lock = d.lock := (rfl)
@[simp] theorem Dev.holdRelays_req (b : Bool) : (d.holdRelays b).req = d.req := (rfl)
@[simp] theorem Dev.holdRelays_svc (b : Bool) : (d.holdRelays b).svc = d.svc := (rfl)
@[simp] theorem Dev.holdRelays_bg (b : Bool) : (d.holdRelays b).bg = d.bg := (rfl)
@[simp] theorem Dev.holdRelays_free (b : Bool) : (d.holdRelays b).free = d.free := (rfl)

/-! ### imgPhase -/

@[simp] theorem Dev.imgPhase_regs (p : ImgPhase) : (d.imgPhase p).regs = d.regs := (rfl)
@[simp] theorem Dev.imgPhase_held (p : ImgPhase) : (d.imgPhase p).held = d.held := (rfl)
@[simp] theorem Dev.imgPhase_pwr (p : ImgPhase) : (d.imgPhase p).pwr = d.pwr := (rfl)
@[simp] theorem Dev.imgPhase_port (p : ImgPhase) : (d.imgPhase p).port = d.port := (rfl)
@[simp] theorem Dev.imgPhase_aes (p : ImgPhase) : (d.imgPhase p).aes = d.aes := (rfl)
@[simp] theorem Dev.imgPhase_conv (p : ImgPhase) : (d.imgPhase p).conv = d.conv := (rfl)
@[simp] theorem Dev.imgPhase_align (p : ImgPhase) : (d.imgPhase p).align = d.align := (rfl)
@[simp] theorem Dev.imgPhase_zone (p : ImgPhase) : (d.imgPhase p).zone = d.zone := (rfl)
@[simp] theorem Dev.imgPhase_mon (p : ImgPhase) : (d.imgPhase p).mon = d.mon := (rfl)
@[simp] theorem Dev.imgPhase_monPrev (p : ImgPhase) : (d.imgPhase p).monPrev = d.monPrev := (rfl)
@[simp] theorem Dev.imgPhase_sieve (p : ImgPhase) : (d.imgPhase p).sieve = d.sieve := (rfl)
@[simp] theorem Dev.imgPhase_firMem (p : ImgPhase) : (d.imgPhase p).firMem = d.firMem := (rfl)
@[simp] theorem Dev.imgPhase_firCnt (p : ImgPhase) : (d.imgPhase p).firCnt = d.firCnt := (rfl)
@[simp] theorem Dev.imgPhase_firCopy (p : ImgPhase) : (d.imgPhase p).firCopy = d.firCopy := (rfl)
@[simp] theorem Dev.imgPhase_dstore (p : ImgPhase) : (d.imgPhase p).dstore = d.dstore := (rfl)
@[simp] theorem Dev.imgPhase_dsCnt (p : ImgPhase) : (d.imgPhase p).dsCnt = d.dsCnt := (rfl)
@[simp] theorem Dev.imgPhase_mortar (p : ImgPhase) : (d.imgPhase p).mortar = d.mortar := (rfl)
@[simp] theorem Dev.imgPhase_ecc (p : ImgPhase) : (d.imgPhase p).ecc = d.ecc := (rfl)
@[simp] theorem Dev.imgPhase_str (p : ImgPhase) : (d.imgPhase p).str = d.str := (rfl)
@[simp] theorem Dev.imgPhase_load (p : ImgPhase) : (d.imgPhase p).load = d.load := (rfl)
@[simp] theorem Dev.imgPhase_test (p : ImgPhase) : (d.imgPhase p).test = d.test := (rfl)
@[simp] theorem Dev.imgPhase_diag (p : ImgPhase) : (d.imgPhase p).diag = d.diag := (rfl)
@[simp] theorem Dev.imgPhase_lid (p : ImgPhase) : (d.imgPhase p).lid = d.lid := (rfl)
@[simp] theorem Dev.imgPhase_pot (p : ImgPhase) : (d.imgPhase p).pot = d.pot := (rfl)
@[simp] theorem Dev.imgPhase_lock (p : ImgPhase) : (d.imgPhase p).lock = d.lock := (rfl)
@[simp] theorem Dev.imgPhase_req (p : ImgPhase) : (d.imgPhase p).req = d.req := (rfl)
@[simp] theorem Dev.imgPhase_svc (p : ImgPhase) : (d.imgPhase p).svc = d.svc := (rfl)
@[simp] theorem Dev.imgPhase_bg (p : ImgPhase) : (d.imgPhase p).bg = d.bg := (rfl)
@[simp] theorem Dev.imgPhase_free (p : ImgPhase) : (d.imgPhase p).free = d.free := (rfl)

/-! ### The part that an update changes -/

@[simp] theorem Dev.setReg_regs (a : Nat) (v : Word) : (d.setReg a v).regs = Store.set resetWord d.regs a v := (rfl)
@[simp] theorem Dev.hold_held (t a : Nat) (old : Word) :
    (d.hold t a old).held = d.held ++ [⟨a, old, t⟩] := rfl
@[simp] theorem Dev.settle_held (b : Nat) :
    (d.settle b).held = d.held.filter (fun h => b < boundaryAfter h.tick + 64) := rfl
@[simp] theorem Dev.modStr_str (k : Nat) (f : Str → Str) : (d.modStr k f).str = vmod d.str k f := (rfl)
@[simp] theorem Dev.modZone_zone (k : Nat) (f : ZoneSt → ZoneSt) : (d.modZone k f).zone = vmod d.zone k f := (rfl)
@[simp] theorem Dev.modConv_conv (n : Nat) (f : ConvSt → ConvSt) : (d.modConv n f).conv = vmod d.conv n f := (rfl)
@[simp] theorem Dev.modPort_port (n : Nat) (f : PortSt → PortSt) : (d.modPort n f).port = vmod d.port n f := (rfl)
@[simp] theorem Dev.modLoad_load (k : Nat) (f : LoadSt → LoadSt) : (d.modLoad k f).load = vmod d.load k f := (rfl)
@[simp] theorem Dev.modTest_test (k : Nat) (f : TestSt → TestSt) : (d.modTest k f).test = vmod d.test k f := (rfl)
@[simp] theorem Dev.modReq_req (p : Nat) (f : ReqSt → ReqSt) : (d.modReq p f).req = vmod d.req p f := (rfl)
@[simp] theorem Dev.modAes_aes (n : Nat) (f : AesSt → AesSt) : (d.modAes n f).aes = vmod d.aes n f := (rfl)
@[simp] theorem Dev.modDiag_diag (k : Nat) (f : DiagSt → DiagSt) : (d.modDiag k f).diag = vmod d.diag k f := (rfl)
@[simp] theorem Dev.modSieve_sieve (n : Nat) (f : SieveIn → SieveIn) : (d.modSieve n f).sieve = vmod d.sieve n f := (rfl)
@[simp] theorem Dev.modBg_bg (f : BgSt → BgSt) : (d.modBg f).bg = f d.bg := (rfl)
@[simp] theorem Dev.modLid_lid (f : LidSt → LidSt) : (d.modLid f).lid = f d.lid := (rfl)
@[simp] theorem Dev.modSvc_svc (f : SvcSt → SvcSt) : (d.modSvc f).svc = f d.svc := (rfl)
@[simp] theorem Dev.modPot_pot (f : PotSt → PotSt) : (d.modPot f).pot = f d.pot := (rfl)
@[simp] theorem Dev.setDom_pwr (i : Nat) (x : DomSt) :
    (d.setDom i x).pwr = { d.pwr with dom := vset d.pwr.dom i x } := rfl
@[simp] theorem Dev.holdRelays_pwr (b : Bool) : (d.holdRelays b).pwr = { d.pwr with relayHeld := b } := (rfl)
@[simp] theorem Dev.imgPhase_img (p : ImgPhase) : (d.imgPhase p).img = { d.img with phase := p } := (rfl)

end Sys2Proof.Machine
end

