-- ==== Sys2Proof/Laws/Store.lean ====
section
/-! SUPPORT. Laws of the sparse stores: what a read gives after a write, and that every operation keeps the canonical
form. -/
namespace Sys2Proof.Machine

variable {α : Type} {dflt : Nat → α} {l : List (Nat × α)} {a b : Nat} {v : α}

theorem Store.get_drop_same (l : List (Nat × α)) (a : Nat) : Store.get dflt (Store.drop l a) a = dflt a := by
  induction l with
  | nil => rfl
  | cons e t ih =>
    simp only [Store.drop]
    split
    · exact ih
    · rename_i h; simp [Store.get, h, ih]

theorem Store.get_drop_other (h : b ≠ a) : Store.get dflt (Store.drop l a) b = Store.get dflt l b := by
  induction l with
  | nil => rfl
  | cons e t ih =>
    simp only [Store.drop, Store.get]
    split
    · rename_i h1; subst h1; simp [h, ih]
    · simp [Store.get, ih]

theorem Store.get_put_same (l : List (Nat × α)) (a : Nat) (v : α) (h : ∀ x ∈ l, x.1 ≠ a) :
    Store.get dflt (Store.put l a v) a = v := by
  induction l with
  | nil => simp [Store.put, Store.get]
  | cons e t ih =>
    have he : a ≠ e.1 := fun c => h e (by simp) c.symm
    simp only [Store.put]
    split
    · simp [Store.get]
    · simp only [Store.get, he, if_false]
      exact ih fun x hx => h x (by simp [hx])

theorem Store.get_put_other (h : b ≠ a) : Store.get dflt (Store.put l a v) b = Store.get dflt l b := by
  induction l with
  | nil => simp [Store.put, Store.get, h]
  | cons e t ih =>
    simp only [Store.put]
    split
    · simp [Store.get, h]
    · simp [Store.get, ih]

theorem Store.mem_drop {x : Nat × α} : x ∈ Store.drop l a → x ∈ l ∧ x.1 ≠ a := by
  induction l with
  | nil => intro h; cases h
  | cons e t ih =>
    intro h
    simp only [Store.drop] at h
    split at h
    · exact ⟨by simp [(ih h).1], (ih h).2⟩
    · rename_i he
      rcases List.mem_cons.1 h with h | h
      · subst h; exact ⟨by simp, fun c => he c.symm⟩
      · exact ⟨by simp [(ih h).1], (ih h).2⟩

/-- A read gives the value last written. -/
@[simp] theorem Store.get_set_same [DecidableEq α] : Store.get dflt (Store.set dflt l a v) a = v := by
  simp only [Store.set]
  split
  · rename_i h; rw [Store.get_drop_same, h]
  · exact Store.get_put_same _ _ _ fun x hx => (Store.mem_drop hx).2

/-- A write leaves every other address alone. -/
theorem Store.get_set_other [DecidableEq α] (h : b ≠ a) :
    Store.get dflt (Store.set dflt l a v) b = Store.get dflt l b := by
  simp only [Store.set]
  split
  · exact Store.get_drop_other h
  · rw [Store.get_put_other h, Store.get_drop_other h]

/-- A read after a write, in one equation. -/
theorem Store.get_set [DecidableEq α] :
    Store.get dflt (Store.set dflt l a v) b = if b = a then v else Store.get dflt l b := by
  split
  · rename_i h; subst h; simp
  · rename_i h; exact Store.get_set_other h

/-- Clearing a range: its addresses read as unlisted, every other as before. -/
theorem Store.get_clear {lo hi : Nat} :
    Store.get dflt (Store.clear lo hi l) b = if lo ≤ b ∧ b < hi then dflt b else Store.get dflt l b := by
  induction l with
  | nil => simp [Store.clear, Store.get]
  | cons e t ih =>
    simp only [Store.clear, Bool.and_eq_true, decide_eq_true_eq]
    split
    · rename_i h
      rw [ih, Store.get]
      split
      · rfl
      · rename_i h2
        have : b ≠ e.1 := fun c => h2 (by rw [c]; exact h)
        simp [this]
    · rename_i h
      rw [Store.get, Store.get, ih]
      by_cases hb : b = e.1
      · subst hb; simp [h]
      · simp [hb]

/-- A block write: an address of the block reads what was written there, every other as before. -/
theorem Store.get_setList [DecidableEq α] (vs : List α) : ∀ (l : List (Nat × α)) (a : Nat),
    Store.get dflt (Store.setList dflt l a vs) b =
      if h : a ≤ b ∧ b < a + vs.length then vs[b - a]'(by omega) else Store.get dflt l b := by
  induction vs with
  | nil =>
    intro l a
    have h : ¬(a ≤ b ∧ b < a + ([] : List α).length) := fun h => absurd h.2 (Nat.not_lt_of_le h.1)
    rw [dif_neg h, Store.setList]
  | cons v t ih =>
    intro l a
    rw [Store.setList, ih, Store.get_set]
    by_cases hb : b = a
    · subst hb; rw [dif_neg (by omega), if_pos rfl, dif_pos (by simp)]; simp
    · by_cases hr : a ≤ b ∧ b < a + (v :: t).length
      · have h1 : a + 1 ≤ b ∧ b < a + 1 + t.length := by simp at hr; omega
        rw [dif_pos h1, dif_pos hr]
        have : b - a = (b - (a + 1)) + 1 := by omega
        simp [this]
      · have h1 : ¬ (a + 1 ≤ b ∧ b < a + 1 + t.length) := by simp at hr; omega
        rw [dif_neg h1, dif_neg hr, if_neg hb]

/-! ### The canonical form -/

/-- The canonical form in words: addresses strictly rise and no entry equals what its address reads as unlisted. -/
theorem Store.wf_iff [DecidableEq α] : ∀ l : List (Nat × α),
    Store.wf dflt l = true ↔ l.Pairwise (fun x y => x.1 < y.1) ∧ ∀ x ∈ l, x.2 ≠ dflt x.1
  | [] => by simp [Store.wf]
  | [(b, w)] => by simp [Store.wf]
  | (b, w) :: (c, x) :: t => by
    have ih := Store.wf_iff ((c, x) :: t)
    simp only [Store.wf, Bool.and_eq_true, decide_eq_true_eq, ih]
    constructor
    · rintro ⟨⟨h1, h2⟩, h3, h4⟩
      refine ⟨List.pairwise_cons.2 ⟨fun y hy => ?_, h3⟩, fun y hy => ?_⟩
      · rcases List.mem_cons.1 hy with h | h
        · rw [h]; exact h2
        · exact Nat.lt_trans h2 ((List.pairwise_cons.1 h3).1 y h)
      · rcases List.mem_cons.1 hy with h | h
        · rw [h]; exact h1
        · exact h4 y h
    · rintro ⟨h1, h2⟩
      have h1' := List.pairwise_cons.1 h1
      exact ⟨⟨h2 (b, w) (by simp), h1'.1 (c, x) (by simp)⟩, h1'.2, fun y hy => h2 y (List.mem_cons_of_mem _ hy)⟩

theorem Store.drop_sublist (l : List (Nat × α)) (a : Nat) : (Store.drop l a).Sublist l := by
  induction l with
  | nil => exact .slnil
  | cons e t ih =>
    simp only [Store.drop]
    split
    · exact ih.cons _
    · exact ih.cons_cons _

theorem Store.clear_sublist (lo hi : Nat) (l : List (Nat × α)) : (Store.clear lo hi l).Sublist l := by
  induction l with
  | nil => exact .slnil
  | cons e t ih =>
    simp only [Store.clear]
    split
    · exact ih.cons _
    · exact ih.cons_cons _

/-- A part of a canonical store is canonical. -/
theorem Store.wf_sublist [DecidableEq α] {l' : List (Nat × α)} (hs : l'.Sublist l) (h : Store.wf dflt l = true) :
    Store.wf dflt l' = true := by
  rw [Store.wf_iff] at *
  exact ⟨h.1.sublist hs, fun x hx => h.2 x (hs.subset hx)⟩

theorem Store.mem_put {x : Nat × α} : x ∈ Store.put l a v → x = (a, v) ∨ x ∈ l := by
  induction l with
  | nil => intro h; simpa [Store.put] using h
  | cons e t ih =>
    intro h
    simp only [Store.put] at h
    split at h
    · simpa using h
    · rcases List.mem_cons.1 h with h | h
      · right; simp [h]
      · rcases ih h with h | h
        · left; exact h
        · right; simp [h]

theorem Store.put_pairwise (hl : l.Pairwise (fun x y => x.1 < y.1)) (ha : ∀ x ∈ l, x.1 ≠ a) :
    (Store.put l a v).Pairwise (fun x y => x.1 < y.1) := by
  induction l with
  | nil => simp [Store.put]
  | cons e t ih =>
    have hl' := List.pairwise_cons.1 hl
    simp only [Store.put]
    split
    · rename_i h
      refine List.pairwise_cons.2 ⟨fun y hy => ?_, hl⟩
      rcases List.mem_cons.1 hy with hy | hy
      · rw [hy]; exact h
      · exact Nat.lt_trans h (hl'.1 y hy)
    · rename_i h
      refine List.pairwise_cons.2 ⟨fun y hy => ?_, ih hl'.2 fun x hx => ha x (List.mem_cons_of_mem _ hx)⟩
      rcases Store.mem_put hy with hy | hy
      · have := ha e (by simp)
        rw [hy]; show e.1 < a
        omega
      · exact hl'.1 y hy

/-- A write keeps the canonical form. -/
theorem Store.wf_set [DecidableEq α] (h : Store.wf dflt l = true) : Store.wf dflt (Store.set dflt l a v) = true := by
  simp only [Store.set]
  split
  · exact Store.wf_sublist (Store.drop_sublist l a) h
  · rename_i hv
    have hd := (Store.wf_iff _).1 (Store.wf_sublist (Store.drop_sublist l a) h)
    rw [Store.wf_iff]
    refine ⟨Store.put_pairwise hd.1 fun x hx => (Store.mem_drop hx).2, fun x hx => ?_⟩
    rcases Store.mem_put hx with hx | hx
    · rw [hx]; exact hv
    · exact hd.2 x hx

/-- Clearing a range keeps the canonical form. -/
theorem Store.wf_clear [DecidableEq α] {lo hi : Nat} (h : Store.wf dflt l = true) :
    Store.wf dflt (Store.clear lo hi l) = true := Store.wf_sublist (Store.clear_sublist lo hi l) h

/-- A block write keeps the canonical form. -/
theorem Store.wf_setList [DecidableEq α] (vs : List α) : ∀ (l : List (Nat × α)) (a : Nat),
    Store.wf dflt l = true → Store.wf dflt (Store.setList dflt l a vs) = true := by
  induction vs with
  | nil => intro l a h; exact h
  | cons v t ih => intro l a h; exact ih _ _ (Store.wf_set h)

end Sys2Proof.Machine
end

