-- ==== Sys2Proof/Laws/Regs.lean ====
section
/-! SUPPORT. Laws of the register operations: what a register or a field reads after a field write, and that a write
leaves every other register and every other field alone. One lemma per shared operation. -/
namespace Sys2Proof.Machine

variable {d : Dev} {a b : Nat} {f g : Fld}

theorem Fld.apart_symm (h : f.apart g) : g.apart f := by omega

/-! ### Whole registers -/

theorem Dev.reg_congr {e : Dev} (h : d.regs = e.regs) : d.reg a = e.reg a := by simp [Dev.reg, h]

@[simp] theorem Dev.reg_setReg_same {v : Word} : (d.setReg a v).reg a = v := by simp [Dev.reg]

theorem Dev.reg_setReg_other {v : Word} (h : b ≠ a) : (d.setReg a v).reg b = d.reg b := by
  simp [Dev.reg, Store.get_set_other h]

theorem Dev.reg_put_same {v : Nat} :
    (d.put f v).reg f.addr = BitVec.ofNat 32 (putBits (d.reg f.addr).toNat f.lo f.w v) := Dev.reg_setReg_same

theorem Dev.reg_put_other {v : Nat} (h : a ≠ f.addr) : (d.put f v).reg a = d.reg a := Dev.reg_setReg_other h

theorem Dev.reg_putB_other {v : Bool} (h : a ≠ f.addr) : (d.putB f v).reg a = d.reg a := Dev.reg_put_other h

theorem Dev.reg_putI_other {v : Int} (h : a ≠ f.addr) : (d.putI f v).reg a = d.reg a := Dev.reg_put_other h

theorem Dev.reg_add_other {n : Nat} (h : a ≠ f.addr) : (d.add f n).reg a = d.reg a := Dev.reg_put_other h

theorem Dev.reg_bump_other (h : a ≠ f.addr) : (d.bump f).reg a = d.reg a := Dev.reg_put_other h

theorem Dev.reg_evt_other (h : a ≠ f.addr) : (d.evt f).reg a = d.reg a := Dev.reg_put_other h

theorem Dev.reg_evtIf_other {c : Bool} (h : a ≠ f.addr) : (d.evtIf c f).reg a = d.reg a := by
  unfold Dev.evtIf; split
  · exact Dev.reg_evt_other h
  · rfl

/-! ### Fields -/

theorem Dev.fld_congr {e : Dev} (h : d.reg f.addr = e.reg f.addr) : d.fld f = e.fld f := by simp [Dev.fld, h]

theorem Dev.bit_congr {e : Dev} (h : d.reg f.addr = e.reg f.addr) : d.bit f = e.bit f := by simp [Dev.bit, h]

theorem Dev.fld_lt : d.fld f < 2 ^ f.w := Nat.mod_lt _ (by positivity)

/-- A field reads back what was put into it, to its width. -/
theorem Dev.fld_put_same {v : Nat} (h : f.fits) : (d.put f v).fld f = v % 2 ^ f.w := by
  rw [Dev.fld, Dev.reg_put_same, BitVec.toNat_ofNat,
    Nat.mod_eq_of_lt (putBits_lt (BitVec.isLt _) h), bits_putBits_same]

/-- A write of one field leaves a field that shares no bit with it. -/
theorem Dev.fld_put_other {v : Nat} (hf : f.fits) (h : f.apart g) : (d.put f v).fld g = d.fld g := by
  by_cases e : g.addr = f.addr
  · rw [Dev.fld, Dev.fld, e, Dev.reg_put_same, BitVec.toNat_ofNat, Nat.mod_eq_of_lt (putBits_lt (BitVec.isLt _) hf)]
    rcases h with h | h | h
    · exact absurd e.symm h
    · exact bits_putBits_above h
    · exact bits_putBits_below h
  · exact Dev.fld_congr (Dev.reg_put_other e)

theorem Dev.bit_eq_fld (h : f.w = 1) : d.bit f = (d.fld f == 1) := by rw [Dev.bit, Dev.fld, tbit_eq_bits, h]

theorem Dev.fld_putB_same {v : Bool} (h : f.fits) (hw : f.w = 1) : (d.putB f v).fld f = b2n v := by
  rw [Dev.putB, Dev.fld_put_same h, hw]; cases v <;> rfl

theorem Dev.bit_putB_same {v : Bool} (h : f.fits) (hw : f.w = 1) : (d.putB f v).bit f = v := by
  rw [Dev.bit_eq_fld hw, Dev.fld_putB_same h hw]; cases v <;> rfl

theorem Dev.bit_evt_same (h : f.fits) (hw : f.w = 1) : (d.evt f).bit f = true := Dev.bit_putB_same h hw

theorem Dev.fld_putB_other {v : Bool} (hf : f.fits) (h : f.apart g) : (d.putB f v).fld g = d.fld g := Dev.fld_put_other hf h

theorem Dev.fld_evt_other (hf : f.fits) (h : f.apart g) : (d.evt f).fld g = d.fld g := Dev.fld_put_other hf h

theorem Dev.bit_put_other {v : Nat} (hf : f.fits) (hw : g.w = 1) (h : f.apart g) : (d.put f v).bit g = d.bit g := by
  rw [Dev.bit_eq_fld hw, Dev.bit_eq_fld hw, Dev.fld_put_other hf h]

theorem Dev.bit_putB_other {v : Bool} (hf : f.fits) (hw : g.w = 1) (h : f.apart g) : (d.putB f v).bit g = d.bit g :=
  Dev.bit_put_other hf hw h

theorem Dev.bit_evt_other (hf : f.fits) (hw : g.w = 1) (h : f.apart g) : (d.evt f).bit g = d.bit g :=
  Dev.bit_put_other hf hw h

/-- R19: a counter field after an addition: the sum, saturated at all ones. -/
theorem Dev.fld_add_same {n : Nat} (h : f.fits) : (d.add f n).fld f = addSat f.w (d.fld f) n := by
  rw [Dev.add, Dev.fld_put_same h, Nat.mod_eq_of_lt (addSat_lt _ _ _)]

theorem Dev.fld_bump_same (h : f.fits) : (d.bump f).fld f = addSat f.w (d.fld f) 1 := Dev.fld_add_same h

theorem Dev.fld_add_other {n : Nat} (hf : f.fits) (h : f.apart g) : (d.add f n).fld g = d.fld g := Dev.fld_put_other hf h

theorem Dev.fld_bump_other (hf : f.fits) (h : f.apart g) : (d.bump f).fld g = d.fld g := Dev.fld_put_other hf h

theorem Dev.bit_bump_other (hf : f.fits) (hw : g.w = 1) (h : f.apart g) : (d.bump f).bit g = d.bit g :=
  Dev.bit_put_other hf hw h

/-! ### Frames of field writes -/

theorem FieldsBut.refl {l : List Fld} : FieldsBut d d l := fun _ _ => rfl

/-- Frames compose: what neither of two changes touches is as before. -/
theorem FieldsBut.trans {d' e : Dev} {l m : List Fld} (h : FieldsBut d d' l) (h' : FieldsBut d' e m) :
    FieldsBut d e (l ++ m) := fun g hg =>
  (h' g fun f hf => hg f (by simp [hf])).trans (h g fun f hf => hg f (by simp [hf]))

theorem FieldsBut.mono {d' : Dev} {l m : List Fld} (h : FieldsBut d d' l) (hl : ∀ f ∈ l, f ∈ m) : FieldsBut d d' m :=
  fun g hg => h g fun f hf => hg f (hl f hf)

theorem FieldsBut.of_regs {d' : Dev} {l : List Fld} (h : d'.regs = d.regs) : FieldsBut d d' l :=
  fun _ _ => Dev.fld_congr (Dev.reg_congr h)

theorem FieldsBut.put {v : Nat} (h : f.fits) : FieldsBut d (d.put f v) [f] :=
  fun _ hg => Dev.fld_put_other h (hg f (by simp))

theorem OnlyRegs.refl : OnlyRegs d d := rfl

theorem OnlyRegs.trans {d' e : Dev} (h : OnlyRegs d d') (h' : OnlyRegs d' e) : OnlyRegs d e := by
  unfold OnlyRegs at *; rw [h', h]

theorem OnlyRegs.put {v : Nat} : OnlyRegs d (d.put f v) := rfl

theorem OnlyRegs.setReg {v : Word} : OnlyRegs d (d.setReg a v) := rfl

theorem OnlyFields.put {v : Nat} (h : f.fits) : OnlyFields d (d.put f v) [f] := ⟨OnlyRegs.put, FieldsBut.put h⟩

theorem OnlyFields.trans {d' e : Dev} {l m : List Fld} (h : OnlyFields d d' l) (h' : OnlyFields d' e m) :
    OnlyFields d e (l ++ m) := ⟨h.1.trans h'.1, h.2.trans h'.2⟩

/-- A field write on top of a frame. -/
theorem OnlyFields.andPut {d' : Dev} {v : Nat} {l : List Fld} (h : OnlyFields d d' l) (hf : f.fits) :
    OnlyFields d (d'.put f v) (l ++ [f]) := h.trans (OnlyFields.put hf)

theorem FieldsBut.andPut {d' : Dev} {v : Nat} {l : List Fld} (h : FieldsBut d d' l) (hf : f.fits) :
    FieldsBut d (d'.put f v) (l ++ [f]) := h.trans (FieldsBut.put hf)

/-! ### Parts of a string, a zone, a port, a requester -/

@[simp] theorem Dev.st_modStr_same {k : Nat} {u : Str → Str} (h : k < 8) : (d.modStr k u).st k = u (d.st k) := by
  simp [Dev.st, h]

theorem Dev.st_modStr_other {k j : Nat} {u : Str → Str} (h : j ≠ k) : (d.modStr k u).st j = d.st j := by
  simp [Dev.st, vat_vmod_other h]

/-- The register store is canonical. -/
def Dev.regsWf (d : Dev) : Prop := Store.wf resetWord d.regs = true

theorem Dev.regsWf_setReg {v : Word} (h : d.regsWf) : (d.setReg a v).regsWf := Store.wf_set h

theorem Dev.regsWf_put {v : Nat} (h : d.regsWf) : (d.put f v).regsWf := Store.wf_set h

end Sys2Proof.Machine
end

