-- ==== Sys2Proof/Laws/Power.lean ====
section
/-! SUPPORT. What the shared operations of the power controller can do: folding an operation over a list, driving STR_EN,
switching a domain off. -/
namespace Sys2Proof.Machine

variable {d : Dev}

/-! ### Folding an operation -/

/-- What every application of an operation keeps, a fold of it keeps. -/
theorem Dev.each_keeps {P : Dev → Prop} {f : Dev → Nat → Dev} (h : ∀ d i, P d → P (f d i)) :
    ∀ (l : List Nat) (d : Dev), P d → P (d.each l f) := by
  intro l
  induction l with
  | nil => intro d hd; exact hd
  | cons a t ih => intro d hd; exact ih _ (h _ _ hd)

/-- A part that no application changes is as before a fold. -/
theorem Dev.each_same {β : Type} (g : Dev → β) {f : Dev → Nat → Dev} (h : ∀ d i, g (f d i) = g d) (l : List Nat) (d : Dev) :
    g (d.each l f) = g d := by
  induction l generalizing d with
  | nil => rfl
  | cons a t ih => exact (ih (f d a)).trans (h d a)

/-! ### STR_EN -/

/-- STR_EN changes its pad and the string's cells (a fall drops what waits for its links), and nothing else; it rises in no
shutdown. -/
theorem Dev.strEn_eq (k : Nat) (b : Bool) :
    ∃ x, d.strEn k b = { d with pwr := { d.pwr with strEn := vset d.pwr.strEn k (b && !d.pwr.shutdown) }, str := x } := by
  have fold : ∀ (l : List Nat) (d : Dev), ∃ x, d.each l (fun d p => d.modCell k p (fun c => { c with poll := none, lane := false })) =
      { d with str := x } := by
    intro l
    induction l with
    | nil => intro d; exact ⟨_, rfl⟩
    | cons a t ih => intro d; obtain ⟨x, hx⟩ := ih (d.modCell k a _); exact ⟨x, hx⟩
  cases b
  · exact fold positions _
  · exact ⟨d.str, rfl⟩

theorem Dev.strEn_pwr (k : Nat) (b : Bool) :
    (d.strEn k b).pwr = { d.pwr with strEn := vset d.pwr.strEn k (b && !d.pwr.shutdown) } := by
  obtain ⟨x, hx⟩ := d.strEn_eq k b; rw [hx]

theorem Dev.strEn_regs (k : Nat) (b : Bool) : (d.strEn k b).regs = d.regs := by
  obtain ⟨x, hx⟩ := d.strEn_eq k b; rw [hx]

theorem Dev.strEn_enHigh {k : Nat} (h : k < 8) (b : Bool) : (d.strEn k b).enHigh k = (b && !d.pwr.shutdown) := by
  simp [Dev.enHigh, Dev.strEn_pwr, h]

theorem Dev.strEn_enHigh_other {k j : Nat} (h : j ≠ k) (b : Bool) : (d.strEn k b).enHigh j = d.enHigh j := by
  simp [Dev.enHigh, Dev.strEn_pwr, vat_vset_other h]

theorem Dev.strEn_dom (k : Nat) (b : Bool) : (d.strEn k b).pwr.dom = d.pwr.dom := by simp [Dev.strEn_pwr]

/-- STR_EN of every string is driven low. -/
theorem Dev.allLow_spec : let e := d.each strings8 (fun d k => d.strEn k false)
    e.regs = d.regs ∧ e.pwr.dom = d.pwr.dom ∧ e.pwr.shutdown = d.pwr.shutdown ∧ ∀ k, k < 8 → e.enHigh k = false := by
  refine ⟨Dev.each_same Dev.regs (fun d i => Dev.strEn_regs i false) _ _,
    Dev.each_same (fun d => d.pwr.dom) (fun d i => Dev.strEn_dom i false) _ _,
    Dev.each_same (fun d => d.pwr.shutdown) (fun d i => by simp [Dev.strEn_pwr]) _ _, ?_⟩
  intro k hk
  show vat (d.each strings8 (fun d k => d.strEn k false)).pwr.strEn k = false
  have : ∀ (l : List Nat) (d : Dev), (d.each l (fun d k => d.strEn k false)).pwr.strEn =
      l.foldl (fun v i => vset v i false) d.pwr.strEn := by
    intro l
    induction l with
    | nil => intro d; rfl
    | cons a t ih =>
      intro d
      show ((d.strEn a false).each t _).pwr.strEn = _
      rw [ih, Dev.strEn_pwr]; simp
  rw [this]
  have step : ∀ (l : List Nat) (v : Vector Bool 8), (k ∈ l ∨ vat v k = false) →
      vat (l.foldl (fun v i => vset v i false) v) k = false := by
    intro l
    induction l with
    | nil => intro v h; simpa using h
    | cons a t ih =>
      intro v h
      refine ih _ ?_
      by_cases ha : k = a
      · subst ha; right; simp [hk]
      · rw [vat_vset_other ha]; simpa [ha] using h
  refine step _ _ (Or.inl ?_)
  simp [strings8]; omega

/-! ### Domains -/

theorem Dev.domSt_setDom_same {i : Nat} {x : DomSt} (h : i < 16) : domSt (d.setDom i x) i = x := by simp [domSt, h]

theorem Dev.domSt_setDom_other {i j : Nat} {x : DomSt} (h : j ≠ i) : domSt (d.setDom i x) j = domSt d j := by
  simp [domSt, vat_vset_other h]

theorem phaseField_fits {k : Nat} (h : k < 8) : (Fd.SYS_STR_STATE_STR k).fits := by
  simp [Fd.SYS_STR_STATE_STR]; omega

theorem Dev.phase_setPhase_same {k ph : Nat} (h : k < 8) (hp : ph < 16) : (d.setPhase k ph).phase k = ph := by
  rw [Dev.phase, Dev.setPhase, Dev.fld_put_same (phaseField_fits h)]
  exact Nat.mod_eq_of_lt hp

/-- R34, R370: a release of every relay holds the pads and changes no register field but those of the relays. -/
theorem Dev.releaseRelays_spec : d.releaseRelays.pwr = { d.pwr with relayHeld := true } ∧
    FieldsBut d d.releaseRelays relayFields := by
  have hf : Fd.LID_RLY_ENERGISED.fits ∧ Fd.LID_EVT_RELAY.fits := by decide
  have key := Dev.each_keeps (P := fun e => e.pwr = d.pwr ∧ FieldsBut d e relayFields)
    (f := fun d r => if d.ebit Fd.LID_RLY_ENERGISED r then (d.putE Fd.LID_RLY_ENERGISED r false).evt Fd.LID_EVT_RELAY else d)
    (by
      rintro e r ⟨hp, hl⟩
      split
      · exact ⟨hp, ((hl.andPut hf.1).andPut hf.2).mono (by simp [relayFields])⟩
      · exact ⟨hp, hl⟩) [0, 1, 2, 3] d ⟨rfl, FieldsBut.refl⟩
  exact ⟨congrArg (fun p : Power => { p with relayHeld := true }) key.1, key.2⟩

/-- R415: a snapshot is lost; of the register fields only BG_EVT.SNAP_LOST may change. -/
theorem Dev.snapLost_spec : d.snapLost.pwr = d.pwr ∧ FieldsBut d d.snapLost [Fd.BG_EVT_SNAP_LOST] := by
  have hf : Fd.BG_EVT_SNAP_LOST.fits := by decide
  unfold Dev.snapLost; split
  · exact ⟨rfl, (FieldsBut.put hf : FieldsBut (d.modBg _) _ _)⟩
  · exact ⟨rfl, FieldsBut.refl⟩

/-- A domain is switched off on purpose (R58): its own state, the pads that AON takes over, and the state of the string
of a CH domain; nothing else of the power controller and no register field but `offFields`. -/
theorem Dev.domOff_off {i : Nat} (h : i < 16) :
    domSt (d.domOff i .off) i = .off ∧ (∀ j, j ≠ i → domSt (d.domOff i .off) j = domSt d j) ∧
    (d.domOff i .off).pwr.shutdown = d.pwr.shutdown ∧
    (8 ≤ i → (d.domOff i .off).phase (i - 8) = phOff ∧ (d.domOff i .off).enHigh (i - 8) = false) ∧
    (∀ k, d.enHigh k = false → (d.domOff i .off).enHigh k = false) ∧
    (d.pwr.relayHeld = true → (d.domOff i .off).pwr.relayHeld = true) ∧
    FieldsBut d (d.domOff i .off) (offFields i) := by
  unfold Dev.domOff
  simp only
  by_cases h8 : 8 ≤ i
  · have hl : (i == domLid) = false := by simp [domLid]; omega
    have hh : (i == domHost) = false := by simp [domHost]; omega
    have h16 : (decide (8 ≤ i) && decide (i < 16)) = true := by simp [h8, h]
    simp only [hl, hh, h16, if_true, Bool.false_eq_true, if_false, reduceCtorEq]
    have hk : i - 8 < 8 := by omega
    refine ⟨?_, fun j hj => ?_, ?_, fun _ => ⟨Dev.phase_setPhase_same hk (by decide), ?_⟩, fun k hk' => ?_, fun hr => ?_, ?_⟩
    · show domSt _ i = _; simp [domSt, Dev.strEn_dom, h]
    · show domSt _ j = _; simp [domSt, Dev.strEn_dom, vat_vset_other hj]
    · simp [Dev.strEn_pwr]
    · show ((d.setDom i .off).strEn (i - 8) false).enHigh (i - 8) = false
      simpa using (Dev.strEn_enHigh hk false : ((d.setDom i .off).strEn (i - 8) false).enHigh (i - 8) = _)
    · show ((d.setDom i .off).strEn (i - 8) false).enHigh k = false
      by_cases e : k = i - 8
      · subst e; simpa using (Dev.strEn_enHigh hk false : ((d.setDom i .off).strEn (i - 8) false).enHigh (i - 8) = _)
      · rw [Dev.strEn_enHigh_other e]; exact hk'
    · simp [Dev.strEn_pwr, hr]
    · rw [offFields, if_pos h8]
      exact (FieldsBut.of_regs (d := d) (by rw [Dev.strEn_regs]; rfl) : FieldsBut d _ []).andPut (phaseField_fits hk)
  · have h16 : (decide (8 ≤ i) && decide (i < 16)) = false := by simp [h8]
    simp only [h16, Bool.false_eq_true, if_false]
    have pads : ∀ e : Dev, e.pwr = (d.setDom i .off).pwr ∨ e.pwr = { (d.setDom i .off).pwr with relayHeld := true } →
        FieldsBut (d.setDom i .off) e (offFields i) →
        domSt e i = .off ∧ (∀ j, j ≠ i → domSt e j = domSt d j) ∧ e.pwr.shutdown = d.pwr.shutdown ∧
        (8 ≤ i → e.phase (i - 8) = phOff ∧ e.enHigh (i - 8) = false) ∧
        (∀ k, d.enHigh k = false → e.enHigh k = false) ∧ (d.pwr.relayHeld = true → e.pwr.relayHeld = true) ∧
        FieldsBut d e (offFields i) := by
      intro e he hf
      have hd : domSt e = domSt (d.setDom i .off) := by
        funext j; rcases he with he | he <;> simp [domSt, he]
      refine ⟨by rw [hd]; exact Dev.domSt_setDom_same h, fun j hj => by rw [hd]; exact Dev.domSt_setDom_other hj, ?_,
        fun h' => absurd h' h8, fun k hk => ?_, fun hr => ?_, fun g hg => hf g hg⟩ <;>
        rcases he with he | he <;> simp_all [Dev.setDom, Dev.enHigh]
    by_cases hl : i = domLid
    · subst hl; simpa [offFields, domLid] using pads _ (.inr Dev.releaseRelays_spec.1)
        (by simpa [offFields, domLid] using (Dev.releaseRelays_spec (d := d.setDom 1 .off)).2)
    by_cases hh : i = domHost
    · subst hh; simpa [offFields, domHost, domLid] using pads _ (.inl Dev.snapLost_spec.1)
        (by simpa [offFields, domHost, domLid] using (Dev.snapLost_spec (d := d.setDom 2 .off)).2)
    simpa [hl, hh] using pads _ (.inl rfl) FieldsBut.refl

end Sys2Proof.Machine
end

