-- ==== Sys2Proof/WellFormed.lean ====
section
/-! DEFINITION. Which commands are well formed: the bounds that the widths of the spec put on what a command carries
from outside (a management frame has an 8-bit address and a 4-bit tag, a host frame 1 to 128 words, and so on). -/
namespace Sys2Proof

/-- R94, R78: an error offset lies within a slot of 2 MiB. -/
def ByteErr.ok (e : ByteErr) : Bool := decide (e.off < 2097152)

/-- R406: a memory number of the table, or 32 for the delay store, and a word that the memory has. -/
def Upset.ok (u : Upset) : Bool :=
  if u.mem < 8 then decide (u.word < 1024)
  else if u.mem < 16 then decide (u.word < 64)
  else if u.mem < 24 then decide (u.word < 1152)
  else if u.mem == 24 then decide (u.word < 12288)
  else if u.mem == 25 then decide (u.word < 8192)
  else u.mem == 32 && decide (u.word < 1048576)

/-- R381: each waiting requester once, a number below 6, and a wait of at most 24 HOST cycles (R382). -/
def waitsOk (w : List (Nat × Nat)) : Bool :=
  w.all (fun x => decide (x.1 < 6) && decide (x.2 ≤ 24)) && decide ((w.map (·.1)).Nodup)

/-- The check on one command. -/
def Instr.wf : Instr → Bool
  | .headerReadDone errs => errs.all ByteErr.ok
  | .validationPassDone errs => errs.all ByteErr.ok
  | .applyPassDone errs => errs.all ByteErr.ok
  | .standbyCheckDone errs => errs.all ByteErr.ok
  | .tick _ _ x => x.upsets.all Upset.ok
  | .telemetryTakeup _ (.bits l) => decide (l.length < 204)
  | .aesFrame _ rx => decide (rx.qtStart ≤ rx.qtEnd)
  | .mgmtRead _ _ tag addr => decide (tag < 16) && decide (addr < 256)
  | .mgmtWriteCcfg _ _ tag addr _ => decide (tag < 16) && decide (addr < 256)
  | .operEnterOperation _ _ tag => decide (tag < 16)
  | .operEnterPinMode _ _ tag => decide (tag < 16)
  | .switchTransitionMeasured _ _ a b => decide (a ≤ b)
  | .hostWriteFrame _ _ data _ => decide (1 ≤ data.length) && decide (data.length ≤ 128)
  | .arbiterGrant w => waitsOk w
  | .mailboxInvalidCode _ code _ _ => decide (code = 0 ∨ 8 < code.toNat)
  | .contactConversion codes => decide (codes.length = 8)
  | .powerOnReset .. => true
  | .brownOut .. => true
  | .resetnAssert .. => true
  | .shutdownDomainOff .. => true
  | .mainOscLock .. => true
  | .lockTimeout .. => true
  | .domainRampStart .. => true
  | .domainReachesRun .. => true
  | .domainRampTimeout .. => true
  | .memoryInitDone .. => true
  | .imageSelectionStart .. => true
  | .keyCheckDone .. => true
  | .signatureVerifyDone .. => true
  | .capabilityCheckDone .. => true
  | .applyFailDomainOff .. => true
  | .releaseTick .. => true
  | .standbyCheckStart .. => true
  | .decisionInstant .. => true
  | .issueTick .. => true
  | .outerLoopBoundary .. => true
  | .mortarHoldTimeout .. => true
  | .transferTakeup .. => true
  | .programSampleBoundary .. => true
  | .delayFadeEnd .. => true
  | .firFadeEnd .. => true
  | .overrideFadeEnd .. => true
  | .rackFrameStart .. => true
  | .relayEnergise .. => true
  | .heartbeatTimeout .. => true
  | .safeDurationExpiry .. => true
  | .enumTimeout .. => true
  | .prechargeTimeout .. => true
  | .armComplete .. => true
  | .startWaitExpiry .. => true
  | .startTestStep .. => true
  | .startTestJudgement .. => true
  | .rackSlotStart .. => true
  | .senseCalRoundClose .. => true
  | .cellCalRoundClose .. => true
  | .snapshotComplete .. => true
  | .telemetryTakeup .. => true
  | .ackBoundExpiry .. => true
  | .confirmTimeout .. => true
  | .stringRetryEntry .. => true
  | .probeJudgement .. => true
  | .faultWindowClose .. => true
  | .diagWindowEnd .. => true
  | .referenceLoss .. => true
  | .referenceReturn .. => true
  | .mainOscFail .. => true
  | .islandClockFail .. => true
  | .hostDomainRestart .. => true
  | .tdmFrameSync .. => true
  | .tdmFrameSyncMissing .. => true
  | .asrcHoldTimeout .. => true
  | .enFall .. => true
  | .enRise .. => true
  | .commandFrame .. => true
  | .idleFrame .. => true
  | .badDownstreamFrame .. => true
  | .deadTimeEnd .. => true
  | .blankingEnd .. => true
  | .telemetryFrameSend .. => true
  | .mgmtResponseSend .. => true
  | .ocTrip .. => true
  | .limitHoldEnd .. => true
  | .desatTrip .. => true
  | .oc2Trip .. => true
  | .zeroBypassHoldoffEnd .. => true
  | .linkLossTimeout .. => true
  | .vbusConversion .. => true
  | .tempMeasurement .. => true
  | .vccUvlo .. => true
  | .bootstrapThreshold .. => true
  | .inPinChange .. => true
  | .hostReadFrame .. => true
  | .registerWrite .. => true
  | .portReset .. => true
  | .linkDown .. => true
  | .csLowTimeout .. => true
  | .lockOpen .. => true
  | .lockCommit .. => true
  | .lockAbort .. => true
  | .lockCommitDecide .. => true
  | .leaseExpiry .. => true
  | .hostifLockstRead .. => true
  | .clkTickLoRead .. => true
  | .firCdataRead .. => true
  | .firCdataWrite .. => true
  | .firCopyGo .. => true
  | .firCopyDone .. => true
  | .firBankRequest .. => true
  | .olBankRequest .. => true
  | .rackSwap .. => true
  | .rackAbort .. => true
  | .injGo .. => true
  | .injAbort .. => true
  | .injectionEnd .. => true
  | .capArm .. => true
  | .capAbort .. => true
  | .captureDone .. => true
  | .capDataRead .. => true
  | .diagCrstWrite .. => true
  | .mailboxPlay .. => true
  | .mailboxCancel .. => true
  | .mailboxReset .. => true
  | .mailboxStop .. => true
  | .mailboxStart .. => true
  | .mailboxRestart .. => true
  | .mailboxAck .. => true
  | .mailboxHeartbeat .. => true
  | .stockpotMapLoad .. => true
  | .stockpotPlayStart .. => true
  | .stockpotRepetitionEnd .. => true
  | .stockpotGapEnd .. => true
  | .stockpotFadeEnd .. => true
  | .nandPageReadDone .. => true
  | .nandEraseDone .. => true
  | .nandProgramDone .. => true
  | .svcClose .. => true
  | .svcTryPass .. => true
  | .svcTryResp .. => true
  | .svcReqChal .. => true
  | .passcodeCheckDone .. => true
  | .responseCheckDone .. => true
  | .svcLockoutEnd .. => true
  | .challengeExpiry .. => true
  | .svcIdleClose .. => true
  | .svcCommit .. => true
  | .norRead .. => true
  | .norErase .. => true
  | .norProgram .. => true
  | .norVerify .. => true
  | .nandRead .. => true
  | .nandErase .. => true
  | .nandProgram .. => true
  | .nandVerify .. => true
  | .flashOpDone .. => true
  | .svcFlDataAccess .. => true
  | .svcPinGo .. => true
  | .svcPinStop .. => true
  | .vccWarn .. => true
  | .oscillatorOrSelfCheckFailure .. => true

/-- A command that carries values its format admits. -/
abbrev Instr.WellFormed (i : Instr) : Prop := i.wf = true

end Sys2Proof
end

