-- ==== Sys2Proof/Tests/Slice0.lean ====
section
/-! SUPPORT. The model's own tests: an ill-formed command for each check of well-formedness, what reset leaves, single steps
whose expected results are worked out from the spec, and for every statement with hypotheses a state and operands that meet
them. -/
namespace Sys2Proof.Tests
open Sys2Proof Sys2Proof.Machine
set_option maxRecDepth 8000

/-! ### Well-formed commands -/

theorem test_wf_error_offset : (Instr.headerReadDone [⟨2097152, 1⟩]).wf = false := by decide
theorem test_wf_validation_offset : (Instr.validationPassDone [⟨2097152, 1⟩]).wf = false := by decide
theorem test_wf_apply_offset : (Instr.applyPassDone [⟨2097152, 1⟩]).wf = false := by decide
theorem test_wf_standby_offset : (Instr.standbyCheckDone [⟨2097152, 1⟩]).wf = false := by decide
theorem test_wf_upset_word : (Instr.tick 0 0 ⟨[⟨15, 64, false⟩], []⟩).wf = false := by decide
theorem test_wf_upset_memory : (Instr.tick 0 0 ⟨[⟨26, 0, false⟩], []⟩).wf = false := by decide
theorem test_wf_bits : (Instr.telemetryTakeup 0 (.bits (List.replicate 204 true))).wf = false := by decide
theorem test_wf_mgmt_tag : (Instr.mgmtRead 0 0 16 0).wf = false := by decide
theorem test_wf_mgmt_addr : (Instr.mgmtWriteCcfg 0 0 0 256 0).wf = false := by decide
theorem test_wf_operation_tag : (Instr.operEnterOperation 0 0 16).wf = false := by decide
theorem test_wf_pin_tag : (Instr.operEnterPinMode 0 0 16).wf = false := by decide
theorem test_wf_transition : (Instr.switchTransitionMeasured 0 .a 5 4).wf = false := by decide
theorem test_wf_frame_empty : (Instr.hostWriteFrame 0 0 [] 0).wf = false := by decide
theorem test_wf_frame_long : (Instr.hostWriteFrame 0 0 (List.replicate 129 0) 0).wf = false := by decide
theorem test_wf_waits : (Instr.arbiterGrant [(1, 0), (1, 2)]).wf = false := by decide
theorem test_wf_wait_long : (Instr.arbiterGrant [(1, 25)]).wf = false := by decide
theorem test_wf_code : (Instr.mailboxInvalidCode 0 8 0 0).wf = false := by decide
theorem test_wf_codes : (Instr.contactConversion []).wf = false := by decide
theorem test_wf_tick : (Instr.tick 5 6 ⟨[⟨15, 63, true⟩], []⟩).wf = true := by decide

/-- No row of the table gives bits, so no word spells a command. -/
theorem test_no_word_spells : ∀ n w, decodeTableWord n w = none := fun _ _ => rfl

/-! ### States for tests -/

/-- Every domain in RUN, the oscillator locked, the relays under the Lid. -/
def wPwr : Power := { Power.reset false with dom := Vector.replicate 16 .run, locked := true, relayHeld := false }

/-- An image of eight strings of seven cells, with a NAND and one message. -/
def wCfg : ImgCfg :=
  { (default : ImgCfg) with strings := 255, nand := true, cells := Vector.replicate 56 1, msgDir := [default] }

/-- The controller in operation. -/
def wDev : Dev :=
  { Dev.reset false Fuses.reset with
    pwr := wPwr
    img := { (default : ImgSt) with cfg := wCfg, applyDone := true, memInit := true, phase := .done } }

/-- A controller at tick `t` after its release. -/
def wAt (d : Dev) (t : Nat) : State :=
  { State.reset with dev := d, env := { Env.reset with tick := t, started := true, lockTicks := 1000000 } }

/-- The controller before its release, with image selection in a phase. -/
def wImg (p : ImgPhase) : State :=
  { State.reset with dev := { wDev with img := { wDev.img with phase := p, applyDone := false } } }

/-- A companion in operation: enabled, trained, its bootstraps charged. -/
def wComp : Comp :=
  { Comp.reset with en := true, mode := .operation, validRun := 16, bootOk := #v[true, true], bootPassed := #v[true, true] }

/-- The machine with every companion in state `x`. -/
def wC (x : Comp) : State := { State.reset with comps := Vector.replicate 56 x }

/-- A controller on which every host may write every block, and SVC is in full service. -/
def wHost : Dev :=
  { wDev.put (Fd.HOSTIF_CFG_WPERM 0) 0xFFFF with svc := { wDev.svc with state := 2 } }

/-- String 0 in a state of SYS_STR_STATE, with its protection state changed by `f`. -/
def wStr (ph : Nat) (f : ProtSt → ProtSt) : Dev := (wDev.setPhase 0 ph).modPr 0 f

/-! ### What reset leaves -/

theorem test_reset_registers : State.reset.dev.reg (Reg.HOSTIF_CFG 3) = 3 ∧ State.reset.dev.reg Reg.SYS_STATE = 0 := by decide
theorem test_reset_domains : (upTo 16).filter State.reset.dev.domRun = [0] := by decide
theorem test_reset_idles : step State.reset = .next State.reset := rfl

/-! ### The hypotheses of each statement are met -/

theorem wit_front_command : ({ State.reset with pending := [.releaseTick] } : State).pending = .releaseTick :: [] := rfl
theorem wit_step_answers : step State.reset = .next State.reset := rfl
theorem wit_flash_canonical : Store.wf erased State.reset.env.nor = true ∧ Store.wf erased State.reset.env.nand = true := by decide
theorem wit_companion_command : ∃ t, exec (.badDownstreamFrame 3 0) State.reset = .next t := ⟨_, rfl⟩
theorem wit_shutdown_begins : State.reset.dev.pwr.shutdown = false ∧ shutOrder.find? State.reset.dev.powered = none ∧
    wDev.pwr.shutdown = false ∧ shutOrder.find? wDev.powered = some 15 := by decide
theorem wit_shutdown_goes_on :
    let s := wAt { wDev with pwr := { wPwr with shutdown := true, shutDue := 1000000 } } 0
    s.dev.pwr.shutdown = true ∧ s.dev.pwr.shutDue ≤ s.env.lockTicks ∧ shutOrder.find? s.dev.powered = some 15 := by decide
theorem wit_oscillator : State.reset.dev.pwr.locked = false ∧ State.reset.dev.fld Fd.SYS_STATE_STATE = 0 ∧
    State.reset.dev.pwr.shutdown = false := by decide
theorem wit_reference : wDev.pwr.locked = true ∧ wDev.bit Fd.CLK_STATUS_HOLDOVER = false ∧
    (wDev.evt Fd.CLK_STATUS_HOLDOVER).bit Fd.CLK_STATUS_HOLDOVER = true := by decide

/-- The oscillator has locked and no domain but AON is up. -/
def wLocked : State :=
  { State.reset with dev := { State.reset.dev with pwr := { (Power.reset false) with locked := true, rampDue := 512 } }
                     env := { Env.reset with lockTicks := 512 } }

/-- NVM ramps, as the first domain, at the last tick in time. -/
def wRamping (late : Nat) : State :=
  { wLocked with
    dev := { wLocked.dev with pwr := { wLocked.dev.pwr with dom := vset wLocked.dev.pwr.dom 7 .ramp, rampStart := 512 } }
    env := { Env.reset with lockTicks := 512 + late } }

theorem wit_ramp_starts : wLocked.dev.pwr.locked = true ∧ wLocked.dev.pwr.shutdown = false ∧ wLocked.dev.ramping = none ∧
    wLocked.dev.pwr.rampDue ≤ wLocked.env.lockTicks ∧ wLocked.dev.nextDomain = some 7 := by decide
theorem wit_ramp_reaches : (wRamping 256).dev.ramping = some 7 ∧
    (wRamping 256).env.lockTicks ≤ (wRamping 256).dev.pwr.rampStart + 256 := by decide
theorem wit_ramp_times_out : (wRamping 257).dev.ramping = some 7 ∧
    (wRamping 257).dev.pwr.rampStart + 257 ≤ (wRamping 257).env.lockTicks := by decide
theorem wit_memory_init :
    let s : State := { State.reset with dev := { wDev with img := { wDev.img with memInit := false } } }
    s.dev.domRun domDstore = true ∧ s.dev.img.memInit = false ∧ s.env.started = false := by decide
theorem wit_main_osc_fails : wDev.pwr.locked = true := by decide
theorem wit_island_fails : (upTo 15).all wDev.clockRuns = true := by decide
theorem wit_start_fail :
    let d : Dev := { wDev with pwr := { wPwr with dom := vset wPwr.dom 15 .faultOff } }
    (wAt d 65536).env.frameStart = true ∧ 0 < (wAt d 65536).env.tick ∧ d.aonRuns = true ∧ d.present 7 = true ∧
      domSt d (domCh 7) = .faultOff ∧ d.phase 7 ≠ phStartFail ∧ (d.setPhase 7 phStartFail).phase 7 = phStartFail := by decide
/-- String k in closed loop (mode 1) or in fallback (mode 2). -/
def wLoop (k mode : Nat) : Dev := (wDev.setPhase k phRun).put (Fd.CHk_CL_STATUS_MODE k) mode

theorem wit_load_models : LiveStr (wAt (wLoop 7 1) 131072) 7 ∧ (wLoop 7 1).sampleBoundary (wAt (wLoop 7 1) 131072).env = true ∧
    (wLoop 7 1).aonRuns = true ∧ 131072 % 64 = 0 ∧ (wAt (wLoop 7 1) 131072).env.frameStart = true ∧
    vat ({ (wLoop 7 1) with pwr := { wPwr with tickCopy := Vector.replicate 15 131072 } } : Dev).pwr.tickCopy (islCh 7) = 131072 := by
  decide
theorem wit_host_restarts :
    let d : Dev := { wDev with pwr := { wPwr with hostDue := some 65536 } }
    d.pwr.hostDue = some 65536 ∧ 65536 ≤ (wAt d 0).env.lockTicks ∧ d.aonRuns = true ∧ d.pwr.shutdown = false := by decide
theorem wit_selection_starts : (wImg .idle).dev.img.phase = .idle ∧ (wImg .idle).env.started = false ∧
    (wImg .idle).dev.domRun domNvm = true ∧ (wImg .idle).dev.pwr.shutdown = false ∧ domSt (wImg .idle).dev domLid = .run := by decide
theorem wit_header_a : (wImg (.header false)).dev.img.phase = .header false := rfl
theorem wit_header_b : (wImg (.header true)).dev.img.phase = .header true := rfl
theorem wit_validate : (wImg (.validate true)).dev.img.phase = .validate true ∧
    (wImg (.validate true)).dev.imgRuns (wImg (.validate true)).env = true := by decide
theorem wit_key : (wImg (.key true)).dev.img.phase = .key true ∧ (wImg (.key true)).dev.imgRuns (wImg (.key true)).env = true := by decide
theorem wit_signature : (wImg (.signature true)).dev.img.phase = .signature true ∧
    (wImg (.signature true)).dev.imgRuns (wImg (.signature true)).env = true := by decide
theorem wit_capability : (wImg (.capability true)).dev.img.phase = .capability true ∧
    (wImg (.capability true)).dev.imgRuns (wImg (.capability true)).env = true ∧
    (wImg (.capability true)).dev.blocked = false := by decide
theorem wit_apply : (wImg (.apply true)).dev.img.phase = .apply true ∧ (wImg (.apply true)).dev.imgRuns (wImg (.apply true)).env = true ∧
    (wImg (.apply true)).dev.chReady = true := by decide
/-- A slot whose one register record loads 9 into FIR_CFG, its last byte at offset 147. -/
def wSlot : List Nat :=
  let le (n : Nat) : List Nat := [n % 256, n / 256 % 256, n / 65536 % 256, n / 16777216]
  List.replicate 16 0 ++ le 292 ++ le 0x40 ++ le 92 ++ le 156 ++ le 8 ++ le 164 ++ List.replicate 24 0 ++
  [1, 0, 8, 0, 0, 255, 1, 0, 0, 0, 0, 0, 2, 0, 56, 0] ++ List.replicate 56 1 ++ [0x10, 0, 8, 0] ++ le Reg.FIR_CFG ++ le 9 ++
  [255, 255, 4, 0, 0, 0, 0, 0, 255, 255, 4, 0, 0, 0, 0, 0]

/-- An apply pass over that slot that has read `n` bytes. -/
def wApply (n : Nat) : State :=
  { wImg (.apply false) with
    dev := { (wImg (.apply false)).dev with img := { (wImg (.apply false)).dev.img with passPos := n } }
    env := { Env.reset with nor := wSlot.zipIdx.map (fun x => (x.2, BitVec.ofNat 8 x.1)) } }

theorem wSlot_words : (slotRecords (wApply 163).env false []).words = [{ addr := Reg.FIR_CFG, word := 9, mask := 15, recIx := 2, off := 144 }] :=
  (readImage_loads ..).1.trans (by decide)
theorem wSlot_bases : (slotRecords (wApply 163).env false []).bases = [] := (readImage_loads ..).2.trans (by decide)
theorem wit_apply_tick : (wApply 163).dev.aonRuns = true ∧ (wApply 163).env.started = false ∧
    (wApply 163).dev.img.phase = .apply false ∧ (wApply 163).dev.imgRuns (wApply 163).env = true ∧ (wApply 163).dev.chReady = true ∧
    144 + 20 = (wApply 163).dev.img.passPos + 1 ∧ Reg.FIR_CFG < 0x100000 ∧ ¬ (0x2400 ≤ Reg.FIR_CFG ∧ Reg.FIR_CFG < 0x2800) := by decide
theorem wit_apply_fail : (wImg .applyFail).dev.img.phase = .applyFail ∧ (wImg .applyFail).dev.img.failDue ≤ 0 ∧
    [15, 14, 13, 12, 11, 10, 9, 8].filter (wImg .applyFail).dev.powered = [15, 14, 13, 12, 11, 10, 9, 8] := by decide
theorem wit_release : wDev.releaseDue { Env.reset with lockTicks := 1 } = true ∧ wDev.present 0 = true ∧
    wDev.domRun (domCh 0) = true ∧ wDev.islandOk (islCh 0) = true := by decide
theorem wit_standby_starts :
    let d := wDev.put Fd.IMG_STATUS_LOADED 1
    d.domRun domNvm = true ∧ d.img.standby = none ∧ d.bit Fd.IMG_STATUS_STANDBY_DONE = false ∧
      d.fld Fd.IMG_STATUS_LOADED ≠ 0 := by decide
theorem wit_standby_done :
    let d : Dev := { wDev with img := { wDev.img with standby := some (true, false) } }
    d.img.standby = some (true, false) ∧ d.domRun domNvm = true := by decide
theorem wit_tick : wDev.aonRuns = true ∧ wDev.islandOk islSieve = true ∧ (wImg .idle).env.started = false ∧
    (wAt wDev 7).env.started = true ∧ wDev.present 7 = true ∧ (wAt wDev 7).env.fuses.is440 = false ∧ 7 ∈ copyIslands ∧
    ({ wDev with pwr := { wPwr with islandBad := vset wPwr.islandBad 0 true } } : Dev).aonRuns = false := by decide
theorem wit_decision : (wAt wDev 32).env.started = true ∧ (wAt wDev 32).env.tick % 2 = 0 ∧ 2 ≤ (wAt wDev 32).env.tick ∧
    wDev.produced islSieve 30 = true ∧ wDev.present 7 = true ∧ wDev.islandOk (islCh 7) = true := by decide
theorem wit_decision_repeats :
    ({ wDev with pwr := { wPwr with islandBad := vset wPwr.islandBad islSieve true } } : Dev).produced islSieve 30 = false := by decide
theorem wit_issue_armed :
    let d := { (wDev.setPhase 3 phArmed) with str := vmod wDev.str 3 (fun x => { x with wh := { x.wh with aq := [5, 2] } }) }
    d.present 3 = true ∧ d.islandOk (islCh 3) = true ∧ d.phase 3 = phArmed ∧ d.failed 3 5 = false ∧
      (sorted7 (d.aq 3))[1]? = some 5 ∧ (11 : Nat) % 512 / 8 = 1 ∧ 11 % 8 = 3 := by decide
theorem wit_boundary : (wAt wDev 448).env.started = true ∧ (wAt wDev 448).env.tick % 64 = 0 ∧ wDev.aonRuns = true ∧
    wDev.islandOk islSieve = true := by decide
theorem wit_frame : (wAt wDev 65536).env.frameStart = true ∧ 0 < (wAt wDev 65536).env.tick ∧ wDev.aonRuns = true ∧
    (wDev.evt Fd.RACK_STATUS_SWAP_PENDING).bit Fd.RACK_STATUS_SWAP_PENDING = true := by decide
theorem wit_slot : (wAt wDev 256).env.started = true ∧ (wAt wDev 256).env.tick % 256 = 0 ∧
    State.reset.dev.slotDomains bgScrub 0 = false := by decide
/-- The clock of AUDIO's island has failed. -/
def wNoAudio : Dev := { wDev with pwr := { wPwr with islandBad := vset wPwr.islandBad islAudio true } }

theorem wit_transfer : rowMade wDev.period 4104 .stringState = [4096] ∧ rowMade wDev.period 4097 .stringState = [] ∧
    wDev.present 0 = true ∧ wDev.islandOk (rowTarget 0 .stringState) = true ∧
    wDev.produced (rowSource 0 .stringState) 4096 = true := by decide
theorem wit_transfer_late : rowMade wNoAudio.period 4624 .zoneFeed ≠ [] ∧ wNoAudio.islandOk (rowTarget 0 .zoneFeed) = true ∧
    rowOfString .zoneFeed = false ∧
    (rowMade wNoAudio.period 4624 .zoneFeed).all (fun m => !(wNoAudio.produced (rowSource 0 .zoneFeed) m)) = true := by decide
theorem wit_delay_fade :
    let d := wDev.modZone 0 (fun z => { z with delayPos := 512 })
    (d.zone1 0).delayPos ≠ 0 ∧ (d.zone1 0).delayPos = d.delayN := by decide
theorem wit_fir_fade :
    let i := 2 ^ wDev.fld Fd.FIR_CFG_FADE_LOG2
    let d := wDev.modZone 0 (fun z => { z with firFade := some (i, 1, 0) })
    (d.zone1 0).firFade = some (i, 1, 0) ∧ i = 2 ^ d.fld Fd.FIR_CFG_FADE_LOG2 ∧ 0 < 512 ∧ 512 % d.period = 0 := by decide
theorem wit_override_fade : (wDev.zone1 0).ovrPos = (if (wDev.zone1 0).ovr then wDev.fadeN else 0) := by decide
/-! ### Audio ports, start-up of the strings, trips -/

/-- Port 3 receives TDM of 256 bit clocks, with `run` clean frames that lasted `tot` quarter ticks. -/
def wTdm (run tot : Nat) : Dev :=
  ((wDev.put (Fd.TDMn_CFG_FRAME_BITS 3) 256).put (Fd.TDMn_CLKMON_TOL 3) 1).modPort 3
    (fun p => { p with lastSync := some 4096, runN := run, runTot := tot })

theorem wit_tdm_frame : (wTdm 62 0).audioRuns (wAt (wTdm 62 0) 600).env = true ∧ (wTdm 62 0).tdmSlave 3 = true ∧
    ((wTdm 62 0).port1 3).lastSync = some 4096 ∧ (wTdm 62 0).fld (Fd.TDMn_CFG_FRAME_BITS 3) = 256 ∧
    (wTdm 62 0).nominalQt 3 = 2048 ∧ ((wTdm 62 0).port1 3).runN < 63 ∧ 63 ≤ ((wTdm 63 129024).port1 3).runN := by decide
/-- Lengths at which the clauses meet: 3072 quarter ticks are 1.5 periods, 2068 are within 1 %, 2069 are not. -/
theorem wit_tdm_lengths : ¬ 3 * 2048 < 2 * 3072 ∧ 3 * 2048 < 2 * 3073 ∧ ((2068 : Int) - 2048).natAbs * 100 ≤ 2048 ∧
    ¬ ((2069 : Int) - 2048).natAbs * 100 ≤ 2048 ∧ 2 * 2069 ≤ 3 * 2048 := by decide
/-- The rates at the 64th clean frame: a run of 64 nominal lengths is within TOL, one that is 20 quarter ticks longer is not. -/
theorem wit_tdm_rates :
    ((129024 + 2048 : Int) - (64 * 2048 : Nat)).natAbs * 1000000 ≤ (wTdm 63 129024).fld (Fd.TDMn_CLKMON_TOL 3) * (64 * 2048) ∧
    ¬ ((129024 + 2068 : Int) - (64 * 2048 : Nat)).natAbs * 1000000 ≤ (wTdm 63 129024).fld (Fd.TDMn_CLKMON_TOL 3) * (64 * 2048) := by
  decide
/-- The same port with its acceptance, and one that waits for its first sync. -/
theorem wit_tdm_missing : ((wTdm 5 0).put (fdAccept 3) 1).accepted 3 = true ∧ (wTdm 5 0).accepted 3 = false ∧
    3 * 2048 < 2 * (7169 - 4096) ∧ ¬ 3 * 2048 < 2 * (7168 - 4096) ∧
    (((wTdm 5 0).modPort 3 (fun p => { p with lastSync := none })).port1 3).lastSync = none := by decide
theorem wit_aes_frame :
    let d (run : Nat) := (wDev.put (Fd.AESn_CFG_ENABLE 1) 1).modPort 5 (fun p => { p with runN := run })
    let rx (v : Nat) : AesRx := { pre := .x, orderOk := true, violations := v, s1 := 0, s2 := 0, qtStart := 0, qtEnd := 2048, nextZ := false }
    (d 62).audioRuns (wAt (d 62) 600).env = true ∧ (d 62).portRx (4 + 1) = true ∧ (d 62).nominalQt 5 = 2048 ∧
      ((d 62).port1 5).runN < 63 ∧ 63 ≤ ((d 63).port1 5).runN ∧ (rx 0).pre ≠ .bad ∧ (rx 0).violations = 0 ∧
      ((2048 : Int) - 2048).natAbs * 100 ≤ 2048 ∧ (rx 1).violations ≠ 0 := by decide
theorem wit_sample_path :
    wDev.sampleBoundary (wAt wDev 512).env = true ∧ wDev.aonRuns = true ∧ wDev.present 7 = true ∧ wDev.islandOk islAudio = true ∧
      wDev.islandOk islMem = true ∧ wDev.islandOk islFir = true ∧ wDev.dsCnt < 131072 ∧ (wDev.zone1 7).delayPos = 0 ∧
      (wDev.zone1 7).delayDefer = none ∧ wDev.eff 512 (Fd.ROUTE_DELAYk_DELAY 7) = (wDev.zone1 7).delaySeen ∧ wDev.ecc = [] ∧
      (wDev.zone1 7).firFade = none ∧ (wDev.zone1 7).firReq = [] ∧ wNoAudio.islandOk islAudio = false := by decide
theorem wit_no_island (i : Fin 15) :
    ({ wDev with pwr := { wPwr with islandBad := vset wPwr.islandBad i.val true } } : Dev).islandOk i.val = false := by
  revert i; decide

/-! ### Loops, decisions and cells -/

theorem wit_loop : LiveStr (wAt (wLoop 7 1) 448) 7 ∧ (wAt (wLoop 7 1) 448).env.started = true ∧ 448 % 64 = 0 ∧
    (wLoop 7 1).aonRuns = true ∧ (wLoop 7 1).islandOk islSieve = true ∧ (wLoop 7 1).inRun 7 = true ∧ (wLoop 7 1).ecc = [] ∧
    ((wLoop 7 1).st 7).wh.left = [] ∧ ((wLoop 7 1).st 7).pr.entry ≠ 448 ∧ ((wLoop 7 1).st 7).ctl.inj = none ∧
    (wLoop 7 1).eff 448 (Fd.CHk_OL_SEL_TARGET 7) = (wLoop 7 1).fld (Fd.CHk_CL_STATUS_ACTIVE 7) ∧ (wLoop 7 1).closed 7 = true ∧
    (wLoop 7 2).inFallback 7 = true ∧ (wLoop 7 1).phase 7 = phRun ∧ (wLoop 7 1).morTracked 7 = false ∧
    ((wLoop 7 1).put (Fd.CHk_MOR_CFG_SRC 7) 1).morTracked 7 = true := by decide

/-- String 0 alone, in closed loop or fallback, with the Sieve's clock failed. -/
def wAlone (mode : Nat) : Dev :=
  { wLoop 0 mode with img := { wDev.img with cfg := { wCfg with strings := 1 } }
                      pwr := { wPwr with islandBad := vset wPwr.islandBad islSieve true } }

/-- A repeated sample is the one too many: feedback is lost at this boundary. -/
theorem wit_loop_loses :
    let d := ((wAlone 1).put (Fd.CHk_FB_STUCK_STUCK_N 0) 1).modFb 0 (fun f => { f with v := { f.v with prev := some 0 } })
    ∃ t, exec .outerLoopBoundary (wAt d 448) = .next t ∧ (t.dev.st 0).fb.lostNow = true := ⟨_, rfl, by decide⟩
/-- The 256th good boundary. -/
theorem wit_fallback_returns :
    let d := ((((wAlone 2).put (Fd.CHk_FB_ACT_TMIN 0) 0).put (Fd.CHk_FB_ACT_EDGE 0) 0).put (Fd.CHk_FB_STATUS_GOOD 0) 255).modStr 0
      (fun x => { x with ones := #v[64, 64] })
    ∃ t, exec .outerLoopBoundary (wAt d 448) = .next t ∧ t.dev.fld (Fd.CHk_FB_STATUS_GOOD 0) = 256 := ⟨_, rfl, by decide⟩

/-- String 7 in closed loop with an error of bin 3 on its way to the Mortar. -/
def wLearn : Dev := ((wLoop 7 1).put (Fd.CHk_MOR_STATUS_STATE 7) morFull).modMor 7 (fun m => { m with learn := some (5, 3, 100) })

theorem wit_learn : LiveStr (wAt wLearn 100) 7 ∧ (wAt wLearn 100).env.started = true ∧ 100 % 2 = 0 ∧
    (wLearn.st 7).mor.learn = some (5, 3, 100) ∧ 3 < 1024 ∧ wLearn.ecc = [] ∧ Undisturbed wLearn 7 100 ∧
    wLearn.morState 7 = morFull ∧ (wLoop 7 1).morState 7 ≠ morRamp ∧ (wLoop 7 1).morState 7 ≠ morFull := by decide
theorem wit_learn_bins (j : Nat) (x : Int × Nat × Nat) (h : (wLearn.st j).mor.learn = some x) : x.2.1 < 1024 := by
  rcases Nat.lt_or_ge j 8 with hj | hj
  · have : ∀ i : Fin 8, (wLearn.st i.val).mor.learn = none ∨ (wLearn.st i.val).mor.learn = some (5, 3, 100) := by decide
    rcases this ⟨j, hj⟩ with e | e <;> simp_all
    subst h; decide
  · have e : wLearn.st j = default := by simp [Dev.st, vat, Vector.getD, Nat.not_lt.mpr hj]
    rw [e] at h; exact nomatch h

/-- String 7 in closed loop with cells 0 and 1 active and a latest decision. -/
def wIssue (w : Want) : Dev :=
  ((wLoop 7 1).modWh 7 (fun x => { x with aq := [0, 1] })).modCtl 7
    (fun c => { c with dec := [{ t := 1005, want := w, err := 9, im := 0, start := 0 }] })

theorem wit_inner_loop :
    let d := (wIssue .none).put (Fd.CHk_PR_OCF_N 7) 3
    LiveStr (wAt d 1008) 7 ∧ 1008 % 2 = 0 ∧ d.produced islSieve 1006 = true ∧ d.inRun 7 = true ∧ d.closed 7 = true ∧
      Undisturbed d 7 1008 ∧ Positions d 7 ∧ (∀ p ∈ d.aq 7, d.failed 7 p = false) ∧ d.ecc = [] ∧ (d.st 7).ctl.inj = none ∧
      d.fld (Fd.CHk_PR_OCF_N 7) ≠ 0 ∧ (d.st 7).pr.ocRun + 1 < d.fld (Fd.CHk_PR_OCF_N 7) := by decide
theorem wit_issue : 7 = 1007 % 8 ∧ LiveStr (wAt (wIssue .up) 1007) 7 ∧ (wIssue .up).inRun 7 = true ∧ (wIssue .up).closed 7 = true ∧
    Undisturbed (wIssue .up) 7 1007 ∧ Positions (wIssue .up) 7 ∧
    (((wIssue .up).st 7).ctl.dec.find? (fun y => decide (y.t + 2 ≤ 1007))).any (fun y => y.want == .up) = true ∧
    (((wIssue .down).st 7).ctl.dec.find? (fun y => decide (y.t + 2 ≤ 1007))).any (fun y => y.want == .down) = true ∧
    (((wIssue .none).st 7).ctl.dec.find? (fun y => decide (y.t + 2 ≤ 1007))).any (fun y => y.want == .none) = true := by decide
/-- Cell 0 or 1 may step; neither has dwelt long enough at tick 1007 where both moved at 1000; neither is left at level 1. -/
theorem wit_issue_candidates :
    let d := wIssue .up
    (∀ p ∈ d.aq 7, d.failed 7 p = false ∧ d.slow 7 p = false ∧ d.lvl 7 p ≠ 1 ∧ 64 ≤ d.dwell 7 p 1007) ∧
      (let g := (d.modCell 7 0 (fun c => { c with dwellFrom := 1000 })).modCell 7 1 (fun c => { c with dwellFrom := 1000 })
       ∀ p ∈ g.aq 7, g.dwell 7 p 1007 < 64) ∧
      (let g := (d.put (Fd.CHk_WH_CELLp_STATE 7 0) stP).put (Fd.CHk_WH_CELLp_STATE 7 1) stP
       ∀ p ∈ g.aq 7, g.lvl 7 p = 1) := by decide
theorem wit_issue_rest :
    let d := (wIssue .none).modWh 7 (fun x => { x with pair := some { h := 0, d := 1, pos := 1, state := 5, q := 1007 }, pq := [4] })
    let g := ((wIssue .none).put (Fd.CHk_WH_MARKS_FAILED 7) 8).put (Fd.CELLc_LINK_STATE (cellIx 7 3)) lkAccepted
    (d.st 7).wh.pair = some { h := 0, d := 1, pos := 1, state := 5, q := 1007 } ∧ d.failed 7 0 = false ∧ d.failed 7 1 = false ∧
      g.cellHere 7 3 = true ∧ g.failed 7 3 = true ∧ g.linkState 7 3 = lkAccepted ∧ (g.cellC 7 3).bypSent = false ∧
      (d.put (Fd.CHk_WH_CELLp_STATE 7 4) stZH).cmdOf 7 4 = stZH ∧ 64 ≤ d.dwell 7 4 1007 ∧ 4 ∈ (d.st 7).wh.pq := by decide
theorem wit_issue_pairs :
    let d := ((wIssue .none).put (Fd.CHk_WH_CELLp_STATE 7 0) stP).put (Fd.CHk_WH_CELLp_STATE 7 1) stN
    (d.findPair 7 0 1007).isSome = true ∧ (wLoop 7 1).findPair 7 0 1007 = none := by decide
theorem wit_fallback :
    let d := (wLoop 7 2).modWh 7 (fun x => { x with act := [2] })
    LiveStr (wAt d 1007) 7 ∧ d.inRun 7 = true ∧ d.inFallback 7 = true ∧ Undisturbed d 7 1007 ∧ (d.st 7).wh.act = [2] ∧
      d.cmdOf 7 2 ≠ stZL ∧ 64 ≤ d.dwell 7 2 1007 := by decide
/-! ### Holds and entries -/

theorem wit_asrc_hold :
    let d := wDev.modConv 5 (fun c => { c with hold := some (wDev.fld Fd.ASRC_CFG_HOLD), lock := true })
    (d.conv1 5).hold = some (d.fld Fd.ASRC_CFG_HOLD) ∧ (d.conv1 5).lock = true := by decide
theorem wit_mortar_hold :
    let d := (wDev.put (Fd.CHk_MOR_STATUS_STATE 7) morHold).modMor 7
      (fun m => { m with wraps := wDev.fld (Fd.CHk_MOR_LIM_HOLD 7) })
    d.morState 7 = morHold ∧ d.fld (Fd.CHk_MOR_LIM_HOLD 7) ≤ (d.st 7).mor.wraps := by decide

/-- String 0 in ENUM past its time with cell 2 still training and cell 4 still in management. -/
def wEnum : Dev :=
  ((wStr phEnum (fun p => { p with frames := 4096 })).put (Fd.CELLc_LINK_STATE 2) lkTraining).put (Fd.CELLc_LINK_STATE 4) lkManage

theorem wit_enum_timeout : (wAt wEnum 65536).env.frameStart = true ∧ wEnum.islandOk (islCh 0) = true ∧ wEnum.phase 0 = phEnum ∧ (wEnum.st 0).pr.pinMode = false ∧
    wEnum.fld Fd.SYS_START0_ENUM_TO ≤ (wEnum.st 0).pr.frames ∧ wEnum.cellHere 0 2 = true ∧ wEnum.linkState 0 2 = lkTraining ∧
    wEnum.linkState 0 4 = lkManage ∧ wEnum.severe 0 srcRetry 65536 = false := by decide
theorem wit_enum_timeout_goes_on :
    ∃ t, exec (.enumTimeout 0) (wAt wEnum 65536) = .next t ∧ t.dev.enoughCells 0 = true := ⟨_, rfl, by decide⟩
theorem wit_enum_timeout_waits :
    ∃ t, exec (.enumTimeout 0) (wAt (wEnum.put (Fd.CHk_WH_CFG_NACT 0) 6) 65536) = .next t ∧ t.dev.enoughCells 0 = false :=
  ⟨_, rfl, by decide⟩

/-- String 0 in PRECHARGE past its time with cell 6 outside its window. -/
def wPre : Dev := wStr phPrecharge (fun p => { p with frames := 4096 })

theorem wit_precharge : (wAt wPre 65536).env.frameStart = true ∧ wPre.islandOk (islCh 0) = true ∧ wPre.phase 0 = phPrecharge ∧
    wPre.fld Fd.SYS_START0_PRECHARGE_TO ≤ (wPre.st 0).pr.frames ∧ wPre.cellHere 0 6 = true ∧ wPre.inWindow 0 6 = false := by decide

/-- String 0 in its start test, which began at the release tick. -/
def wTest (f : TestSt → TestSt) : Dev := (wDev.setPhase 0 phTest).modTest 0 f

theorem wit_test_steps : (wTest id).phase 0 = phTest ∧ ((wTest id).tst 0).abort = none ∧ ((wTest id).tst 0).restart = false ∧
    (wAt (wTest id) 65536).env.frameStart = true ∧ (wTest id).islandOk (islCh 0) = true := by decide
theorem wit_test_judged :
    let t := 65536 * (4 * (wTest id).logS 0 + 3 * (wTest id).logM 0)
    (wAt (wTest id) t).env.frameStart = true ∧ 4 * (wTest id).logS 0 + 3 * (wTest id).logM 0 ≤ (t - ((wTest id).tst 0).f0) / 65536 := by
  decide
theorem wit_test_aborted :
    let d := wTest (fun t => { t with abort := some 65535 })
    (wAt d 65536).env.frameStart = true ∧ d.islandOk (islCh 0) = true ∧ (d.tst 0).abort = some 65535 ∧ 65535 < 65536 ∧ d.phase 0 = phTest ∧ (d.tst 0).restart = false := by decide
theorem wit_arm :
    let d := wStr phArmed (fun p => { p with frames := 4096 })
    (wAt d 65536).env.frameStart = true ∧ d.islandOk (islCh 0) = true ∧ d.phase 0 = phArmed ∧ d.fld Fd.SYS_START0_ARM_FRAMES ≤ (d.st 0).pr.frames ∧
      inFrameBefore 65536 (d.st 0).fb.lostAt = false ∧ (d.st 0).pr.stop = false ∧
      d.fld (Fd.CHk_WH_CFG_NMIN 0) ≤ (d.formRoles 0).nact 0 ∧
      ((wStr phArmed (fun p => { p with stop := true })).st 0).pr.stop = true ∧
      inFrameBefore 65536 ((d.modFb 0 (fun f => { f with lostAt := some 65535 })).st 0).fb.lostAt = true ∧
      ((d.put (Fd.CHk_WH_CFG_NMIN 0) 7).formRoles 0).nact 0 < (d.put (Fd.CHk_WH_CFG_NMIN 0) 7).fld (Fd.CHk_WH_CFG_NMIN 0) := by decide
theorem wit_start_wait :
    let d := wStr phStartWait (fun p => { p with since := 1 })
    d.phase 0 = phStartWait ∧ d.islandOk (islCh 0) = true ∧ d.pwr.shutdown = false ∧ (wAt d (65536 * 1501)).env.frameStart = true ∧
      (d.st 0).pr.since + 98304000 ≤ 65536 * 1501 ∧ d.cellHere 0 6 = true := by decide
theorem wit_confirm :
    let d := wStr phSafe (fun p => { p with handling := true, d := 5 })
    d.phase 0 = phSafe ∧ (d.st 0).pr.handling = true ∧
      (d.st 0).pr.d + d.fld (Fd.CHk_PR_CFG_CONFIRM 0) ≤ 5 + d.fld (Fd.CHk_PR_CFG_CONFIRM 0) := by decide
theorem wit_retry :
    let d := wStr phSafe (fun p => { p with kind := kindProbe })
    let e := wStr phSafe (fun p => { p with kind := kindPlain })
    let g := e.put (Fd.CHk_WH_CFG_NMIN 0) 7
    (wAt d (65536 * 1600)).env.frameStart = true ∧ d.islandOk (islCh 0) = true ∧ d.mayReturn 0 (65536 * 1600) = true ∧ e.mayReturn 0 (65536 * 1600) = true ∧
      d.fld (Fd.CHk_WH_CFG_NMIN 0) ≤ (d.formRoles 0).nact 0 ∧ g.mayReturn 0 (65536 * 1600) = true ∧
      (g.formRoles 0).nact 0 < g.fld (Fd.CHk_WH_CFG_NMIN 0) := by decide
theorem wit_probe :
    let p : Probe := { start := 65536, phi := 0, sv := 1, si := 0 }
    let d := (wStr phRun (fun x => { x with probe := some p })).put (Fd.CHk_PR_PROBE0_LEN 0) 4
    d.inRun 0 = true ∧ (d.st 0).pr.probe = some p ∧ 65808 = p.start + d.fld (Fd.CHk_PR_PROBE0_LEN 0) * 64 + 16 ∧
      (d.fld (Fd.CHk_PR_SHORT0_ZTH 0) : Int) * p.si ≤ p.sv * 2 ^ 15 := by decide
theorem wit_probe_trips :
    let p : Probe := { start := 65536, phi := 0, sv := -1, si := 0 }
    let d := (wStr phRun (fun x => { x with probe := some p })).put (Fd.CHk_PR_PROBE0_LEN 0) 4
    (d.st 0).pr.probe = some p ∧ 65808 = p.start + d.fld (Fd.CHk_PR_PROBE0_LEN 0) * 64 + 16 ∧
      p.sv * 2 ^ 15 < (d.fld (Fd.CHk_PR_SHORT0_ZTH 0) : Int) * p.si := by decide
theorem wit_window :
    let d := wStr phRun (fun p => { p with win := vset p.win (winIx .link) (some ⟨7, 3⟩) })
    vat (d.st 0).pr.win (winIx .link) = some ⟨7, 3⟩ ∧ 7 + (d.winCfg 0 (winIx .link)).2 ≤ 7 + (d.winCfg 0 (winIx .link)).2 := by decide
theorem wit_late_ack :
    let x : Pend := { seq := 3, q := 0, exceeded := false }
    let d := wDev.modCell 7 6 (fun c => { c with pend := [x] })
    (d.cellC 7 6).pend.find? (fun y => !y.exceeded && decide (y.q + d.fld (Fd.CHk_WH_SLOW_BOUND 7) < 4096)) = some x := by decide
theorem wit_telemetry :
    let d := ((wDev.put (Fd.CELLc_LINK_STATE 55) lkAccepted).modCell 7 6 (fun c => { c with poll := some (12, false) })).setPhase 7 phRun
    let d : Dev := { d with pwr := { d.pwr with strEn := Vector.replicate 8 true } }
    d.enHigh 7 = true ∧ 44 % 32 = (7 + 5) % 32 ∧ d.cellHere 7 6 = true ∧ d.linkState 7 6 = lkAccepted ∧
      (d.cellC 7 6).poll = some (33 - 21, false) ∧ 21 ≤ 44 := by decide

/-- A frame as a companion sends it is telemetry; a silent lane brings nothing. -/
theorem wit_telemetry_frame :
    (match rxBits .asSent (encFrame false false (wComp.telemetry ++ hiLo (crc16 wComp.telemetry))).1 with
      | some l => (match judgeFrame false l with
        | .telemetry _ => true
        | _ => false)
      | none => false) = true ∧ rxBits .nothing (encFrame false false wComp.telemetry).1 = none := by decide

/-! ### The Lid, the Stockpot and the background -/

theorem wit_mailbox : wDev.lidRuns (wAt wDev 64).env = true ∧
    (Instr.mailboxStop 4 7 65535, 4) ∈ [(Instr.mailboxPlay 4 7 65535, 1), (Instr.mailboxStop 4 7 65535, 4)] ∧
    wDev.mbJudge 4 7 = 1 ∧ wDev.mbJudge 4 8 = 4 := by decide
theorem wit_contacts :
    let d := (wDev.put (Fd.LID_CINMODE_MODE 7) 2).put Fd.LID_CINTH1_DEB 1
    d.lidRuns (wAt d 4096).env = true ∧ 4096 % 4096 = 0 ∧ d.cinClass 7 0 = some cinActive ∧
      d.fld Fd.LID_CINTH1_DEB ≤ 1 ∧ d.cinClass 0 0 = none := by decide
theorem wit_relay :
    let d := (wDev.put Fd.LID_COND_COND 0).modLid (fun l => { l with rly := vset l.rly 3 (wDev.fld Fd.LID_CFG1_RLY_HOLD) })
    d.lidRuns (wAt d 65536).env = true ∧ (wAt d 65536).env.frameStart = true ∧ d.relayClear 3 = true ∧
      d.fld Fd.LID_CFG1_RLY_HOLD ≤ vat d.lid.rly 3 ∧ d.ebit Fd.LID_RLY_ENERGISED 3 = false ∧ d.pwr.relayHeld = false := by decide
theorem wit_heartbeat :
    let d := (wDev.put Fd.LID_CFG0_HB_MASK 31).modLid (fun l => { l with hb := vset l.hb 4 (wDev.fld Fd.LID_CFG0_HB_T) })
    tbit (d.fld Fd.LID_CFG0_HB_MASK) 4 = true ∧ d.fld Fd.LID_CFG0_HB_T ≤ vat d.lid.hb 4 := by decide
theorem wit_safe_duration :
    let d := wDev.modLid (fun l => { l with safeN := vset l.safeN 7 (wDev.fld Fd.LID_CFG1_SAFE_T) })
    d.present 7 = true ∧ d.fld Fd.LID_CFG1_SAFE_T ≤ vat d.lid.safeN 7 := by decide
theorem wit_map_load :
    let d := wDev.modPot (fun p => { p with mapLoading := true })
    d.lidRuns (wAt d 64).env = true ∧ d.pot.mapLoading = true := by decide
/-- A map of one block, generation 1, in the first page of map block 0; its CRC is the one R92 gives its first 2 044 bytes. -/
def wMapPage : List Byte := [0x46, 0x4A, 0x4D, 0x50, 1, 0, 0, 0, 1, 0, 0, 0, 5] ++ List.replicate 2031 0 ++ [0x1B, 0xF6, 0xE9, 0xDA]
set_option maxRecDepth 60000 in
theorem wit_map_found :
    let d := (wDev.put Fd.STOCKPOT_GEOM_MSG_BLOCKS 1).modPot (fun p => { p with mapLoading := true })
    d.findMap { Env.reset with nand := wMapPage.zipIdx.map (fun x => (x.2, x.1)) } = some (1, 0, 0, [5]) := by decide +kernel
theorem wit_playback :
    let d := (wDev.put Fd.STOCKPOT_STATUS_STATE potFill).modPot (fun p => { p with store := true })
    let g := wDev.put Fd.STOCKPOT_STATUS_STATE potGap
    d.sampleBoundary (wAt d 1179648).env = true ∧ d.potState = potFill ∧ d.pot.store = true ∧ d.pot.fillAt + 1179648 ≤ 1179648 ∧
      g.potState = potGap ∧ g.pot.gapLeft = 0 := by decide
theorem wit_repetition_ends :
    let d := (wDev.put Fd.STOCKPOT_STATUS_STATE potPlay).modPot (fun p => { p with n := 1 })
    d.potState = potPlay ∧ 0 < d.pot.n ∧ d.repLen d.pot.dir ≤ d.pot.n := by decide
theorem wit_fade_ends :
    let d := (wDev.put Fd.STOCKPOT_STATUS_STATE potFade).modPot (fun p => { p with fadePos := wDev.fadeN, after := some (0, 64) })
    d.potState = potFade ∧ d.pot.fadePos = d.fadeN ∧ d.pot.after = some (0, 64) := by decide
theorem wit_nand_operations :
    let r : Reloc := { logical := 0, target := 3, step := 0, page := 0, data := [] }
    let d := wDev.modPot (fun p => { p with op := some (.eraseTarget 3), reloc := some r })
    let c := wDev.modPot (fun p => { p with op := some (.copyProgram 63), reloc := some r })
    let q := wDev.modPot (fun p => { p with op := some (.play 0 0) })
    d.pot.op = some (.eraseTarget 3) ∧ d.pot.reloc = some r ∧ c.pot.op = some (.copyProgram 63) ∧ c.pot.reloc = some r ∧
      q.pot.op = some (.play 0 0) ∧ q.lidRuns (wAt q 64).env = true := by decide
theorem wit_patrol :
    let d := wDev.modPot (fun p => { p with op := some (.patrol 0 0) })
    d.lidRuns (wAt d 64).env = true ∧ d.pot.op = some (.patrol 0 0) ∧ d.pot.patDir = 0 ∧ d.pot.patPage = 0 ∧
      (d.message 0).pages ≤ 0 + 1 ∧ d.img.cfg.msgDir.length ≤ 0 + 1 := by decide
/-- A directory of two messages, the first of two pages. -/
theorem wit_patrol_goes_on :
    let d : Dev := { wDev with img := { wDev.img with cfg := { wCfg with msgDir := [{ (default : MsgEnt) with samples := 1344 }, default] } } }
    0 + 1 < (d.message 0).pages ∧ 0 + 1 < d.img.cfg.msgDir.length := by decide
theorem wit_relocation :
    let r : Reloc := { logical := 0, target := 3, step := 0, page := 0, data := [] }
    let d (o : NandOp) := wDev.modPot (fun p => { p with op := some o, reloc := some r })
    (d (.copyRead 63)).lidRuns (wAt (d (.copyRead 63)) 64).env = true ∧ (d (.copyRead 63)).pot.op = some (.copyRead 63) ∧
      (d (.mapErase 510)).pot.op = some (.mapErase 510) ∧ (d (.mapProgram 511 63)).pot.op = some (.mapProgram 511 63) ∧
      (d (.release 0)).pot.op = some (.release 0) ∧ (d (.release 0)).pot.reloc = some r := by decide
theorem wit_sense_round :
    let x : ScalSt := { sum := -5, slots := wDev.fld Fd.BG_SCAL_CFG_SLOTS, run := true }
    let d := (wDev.modScal 19 (fun _ => x)).modBg (fun b => { b with slot := { code := bgSense, param := 19, start := 512, live := true } })
    d.roundEnds 768 bgSense 19 (vat d.bg.scal 19).slots (d.fld Fd.BG_SCAL_CFG_SLOTS) = true := by decide
theorem wit_cell_round :
    let x : CcalSt := { a := 4095, b := 60, n := 1, slots := wDev.fld Fd.BG_CCAL_CFG_SLOTS }
    let d := (wDev.modCcal 55 (fun _ => x)).modBg (fun b => { b with slot := { code := bgCell, param := 55, start := 512, live := true } })
    d.roundEnds 768 bgCell 55 (vat d.bg.ccal 55).slots (d.fld Fd.BG_CCAL_CFG_SLOTS) = true ∧ (vat d.bg.ccal 55).n ≠ 0 := by decide
theorem wit_snapshot :
    let x : SnapSt := { set := 15, tick := 256, vals := List.replicate 16 5, errs := List.replicate 16 false }
    let d := (wDev.put (Fd.BG_SNAP_SETs_COUNT 15) 16).modBg (fun b => { b with snap := some x })
    d.hostRuns = true ∧ d.bg.snap = some x ∧ x.set < 16 ∧ x.vals.length = d.fld (Fd.BG_SNAP_SETs_COUNT x.set) ∧
      x.vals.length ≤ 16 := by decide
theorem wit_diag_window :
    let w : DiagWin := { (default : DiagWin) with n := 1 }
    let d := (wDev.put (Fd.CHk_DT_CFG_CLASS 7) 1).modDiag 7 (fun x => { x with win := w })
    d.windowTicks % d.windowTicks = 0 ∧ d.domRun domSieve = true ∧ d.present 7 = true ∧ d.bit (Fd.CHk_DT_CFG_CLASS 7) = true ∧
      w.start = d.windowTicks - d.windowTicks ∧ (vat d.diag 7).win = w ∧ w.n ≠ 0 := by decide

/-! ### Host accesses and service -/

theorem wit_access_error : wHost.hostRuns = true ∧ regInfoAt 0x2C = none ∧
    State.reset.dev.addrRuns Reg.FIR_CFG = false := by decide
theorem wit_write_rejected : wDev.addrRuns Reg.FIR_CFG = true ∧ wDev.mayWrite 0 Reg.FIR_CFG = false ∧
    (regInfoAt Reg.FIR_CFG).isSome = true := by decide
/-- A write to the shadow of the lock that its requester holds. -/
theorem wit_write_shadow :
    let d : Dev := { wHost with lock := { wHost.lock with owner := some 0 } }
    let a := Reg.ROUTE_MUTE
    MayWrite (wAt d 64) 0 a 255 ∧ shMask a ≠ 0 ∧ d.lock.committing = none ∧ d.lock.shadow.length < 256 ∧ d.shadowOf 0 a = none ∧
      (regInfoAt a).any (fun i => i.sh != 0 && d.formOk i a (mergeWord i (overlay i.sh (d.reg a).toNat (d.reg a).toNat) 255)
        (fun x => (d.reg x).toNat)) = true := by decide
theorem wit_write_other_lock :
    let d : Dev := { wHost with lock := { wHost.lock with owner := some 3 } }
    MayWrite (wAt d 64) 0 Reg.ROUTE_MUTE 255 ∧ shMask Reg.ROUTE_MUTE ≠ 0 ∧ d.lock.owner = some 3 := by decide
theorem wit_write_live :
    MayWrite (wAt wHost 64) 0 Reg.ROUTE_MUTE 255 ∧ wHost.lock.owner = none ∧ (vat wHost.req 0).lost = false ∧
      pendPort Reg.ROUTE_MUTE = none ∧ wHost.liveOk Reg.ROUTE_MUTE 255 = true ∧
      pendPort 0x3C04 = some 3 := by decide
theorem wit_write_plain :
    let a := Reg.RACK_IENh 0
    MayWrite (wAt wHost 64) 0 a 3 ∧ (regInfoAt a).any (fun i => i.sh == 0 && (i.rw ||| i.w1c ||| i.wo) != 0 &&
      writeValid i a (mergeWord i (wHost.reg a).toNat 3)) = true ∧
      (wHost.takeGrant 0).woAction (wAt wHost 64).env 0 a 3 = some (wHost.takeGrant 0) := by decide
theorem wit_write_read_only : MayReach (wAt wHost 64) 0 Reg.RACK_STATUS ∧ MayReach (wAt wHost 64) 0 (Reg.LID_PRIe_ACT 0) ∧
    (regInfoAt Reg.RACK_STATUS).any (fun i => (i.rw ||| i.sh ||| i.w1c ||| i.wo) == 0 && i.lid == 0) = true ∧
    (regInfoAt (Reg.LID_PRIe_ACT 0)).any (fun i => (i.rw ||| i.sh ||| i.w1c ||| i.wo) == 0 && i.lid != 0) = true := by decide
theorem wit_write_absent :
    let d : Dev := { wHost with img := { wHost.img with cfg := { wCfg with strings := 1, cells := vset wCfg.cells 6 0 } } }
    (d.put Fd.IMG_STATUS_LOADED 1).absentString (wAt d 64).env (Reg.FIR_REQk 7) = true ∧ d.absentCell (Reg.CELLc_ACK 6) = true ∧
      (regInfoAt (Reg.CELLc_ACK 6)).isSome = true ∧ d.addrRuns (Reg.CELLc_ACK 6) = true := by decide
/-- A limit entry of the image narrows a mute of every zone to none. -/
theorem wit_write_clamped :
    let e : LimitEnt := { addr := Reg.ROUTE_MUTE, signed := false, mask := 255, min := 0, max := 15 }
    let d : Dev := { wHost with img := { wHost.img with cfg := { wCfg with limits := [e] } } }
    MayReach (wAt d 64) 0 Reg.ROUTE_MUTE ∧ d.clampWord Reg.ROUTE_MUTE 255 = 15 := by decide
theorem wit_write_no_room :
    let d : Dev := { wHost with lock := { wHost.lock with owner := some 0, shadow := List.replicate 256 (Reg.FIR_REQk 0, 0) } }
    ¬ (d.lock.shadow.length < 256 ∨ ∃ x ∈ d.lock.shadow, x.1 = Reg.ROUTE_MUTE) := by decide
theorem wit_write_invalid :
    MayReach (wAt wHost 64) 0 (Reg.TDMn_TXSRCj 3 0) ∧
    (regInfoAt (Reg.TDMn_TXSRCj 3 0)).any (fun i => i.sh != 0 && !(writeValid i (Reg.TDMn_TXSRCj 3 0)
      (mergeWord i (wHost.reg (Reg.TDMn_TXSRCj 3 0)).toNat 0xFFFFFFFF))) = true ∧
    (wHost.modZone 0 (fun z => { z with ovr := true })).liveOk Reg.ROUTE_MUTE 255 = false ∧
    ((wHost.modReq 0 (fun r => { r with lost := true })).req[0]).lost = true := by decide
theorem wit_write_page : MayReach (wAt wHost 64) 0 (Reg.HOSTIF_EVT 0) ∧ pageOf (Reg.HOSTIF_EVT 0) = some (0, Reg.HOSTIF_EVT 0 % 256) ∧
    Reg.HOSTIF_EVT 0 % 256 ≠ 8 ∧
    (regInfoAt (Reg.HOSTIF_EVT 0)).any (fun i => i.sh == 0 && (i.rw ||| i.w1c ||| i.wo) != 0) = true := by decide
theorem wit_write_refused : MayReach (wAt wHost 64) 0 Reg.FIR_COPY ∧
    (wHost.takeGrant 0).woAction (wAt wHost 64).env 0 Reg.FIR_COPY 0x80000018 = none ∧
    MayReach (wAt wHost 64) 0 Reg.FIR_CADDR ∧
    (regInfoAt Reg.FIR_CADDR).any (fun i => writeValid i Reg.FIR_CADDR (mergeWord i (wHost.reg Reg.FIR_CADDR).toNat 0x71000)) = true ∧
    MayReach (wAt wHost 64) 4 (Reg.SVC_PASSw 7) ∧
    (regInfoAt (Reg.SVC_PASSw 7)).any (fun i => i.sh == 0 && (i.rw ||| i.w1c ||| i.wo) != 0) = true := by decide
theorem wit_frames :
    let w : Word := 0x80026000
    cmdWords w.toNat = 1 ∧ bits w.toNat 20 3 = 0 ∧ cmdWrite w.toNat = true ∧ bits w.toNat 0 20 ≤ 0xFFFFC ∧
      cmdWrite (0x00026000 : Word).toNat = false ∧ wDev.hostRuns = true := by decide
/-- Whatever each word of a frame does, a run over its words exists. -/
theorem wit_frame_words {α : Type} (a : α) (f : Nat → α → α) : ∃ g : Nat → α, g 0 = a ∧ ∀ i, g (i + 1) = f i (g i) :=
  ⟨fun n => Nat.rec a (fun i x => f i x) n, rfl, fun _ => rfl⟩
theorem wit_frame_crc :
    let w : Word := 0x80026000
    (BitVec.ofNat 16 (frameCrc w.toNat [7])).toNat = frameCrc w.toNat [7] ∧ (0 : BitVec 16).toNat ≠ frameCrc w.toNat [7] ∧
      bits (0x00126000 : Word).toNat 20 3 ≠ 0 ∧ cmdWords w.toNat ≤ [(7 : Word)].length ∧
      0xFFFFC < bits (0x800FFFFC : Word).toNat 0 20 + 4 := by decide
/-- A write frame of one word to HOSTIF_LOCK of port 0 that opens and commits at once. -/
theorem wit_frame_lock :
    let w : Word := BitVec.ofNat 32 (0x80000000 + Reg.HOSTIF_LOCK 0)
    cmdWrite w.toNat = true ∧ cmdWords w.toNat = 1 ∧ bits w.toNat 20 3 = 0 ∧ bits w.toNat 0 20 = Reg.HOSTIF_LOCK 0 ∧
      (BitVec.ofNat 16 (frameCrc w.toNat [3])).toNat = frameCrc w.toNat [3] := by decide
theorem wit_tlm_reads :
    let x : SnapSt := { set := 15, tick := 256, vals := [], errs := [] }
    let d := (wDev.put (Fd.BG_SNAP_SETs_COUNT 15) 16).modBg (fun b => { b with snap := some x })
    d.bg.snap = some x ∧ x.vals.length < d.fld (Fd.BG_SNAP_SETs_COUNT x.set) := by decide
theorem wit_arbiter : ∃ x ∈ [(4, 0), (5, 3)], x.1 < 6 := by decide
theorem wit_link_down_owner :
    let d : Dev := { wHost with lock := { wHost.lock with owner := some 4 }, svc := { wHost.svc with state := svcRead } }
    d.lock.owner = some 4 ∧ d.lock.committing = none ∧ d.svc.state = svcRead := by decide
theorem wit_lock_open :
    let d := wDev.put (Fd.HOSTIF_CFG_LOCK_EN 0) 1
    MayWrite (wAt d 64) 0 (Reg.HOSTIF_LOCK 0) 1 ∧ d.mayOpen 0 = true ∧
      MayWrite (wAt d 64) 1 (Reg.HOSTIF_LOCK 1) 1 ∧ (d.put (Fd.HOSTIF_CFG_LOCK_EN 1) 0).mayOpen 1 = false := by decide
theorem wit_lock_commit :
    let d : Dev := { wDev with lock := { wDev.lock with owner := some 0 } }
    MayWrite (wAt d 64) 0 (Reg.HOSTIF_LOCK 0) 2 ∧ d.lock.owner = some 0 ∧ d.lock.committing = none ∧
      MayWrite (wAt d 64) 0 (Reg.HOSTIF_LOCK 0) 4 ∧ tbit (4 : Word).toNat 2 = true ∧ tbit (4 : Word).toNat 0 = false := by decide
theorem wit_lock_turned_away : MayWrite (wAt wDev 64) 0 (Reg.HOSTIF_LOCK 0) 3 ∧ tbit 3 0 = true ∧ tbit 3 1 = true ∧
    wDev.lock.owner ≠ some 0 := by decide
/-- A commit of one word at the boundary after its write. -/
theorem wit_commit_decides :
    let d : Dev := { wHost with lock := { owner := some 0, committing := some 63, shadow := [(Reg.ROUTE_MUTE, 255)], lease := 5 } }
    d.lock.committing = some 63 ∧ 64 % 64 = 0 ∧ boundaryAfter 63 ≤ 64 ∧
      (∀ x ∈ d.lock.shadow, d.liveOk x.1 (d.commitWord x) = true ∧ shMask x.1 ≠ 0) ∧ (d.lock.shadow.map (·.1)).Nodup ∧
      d.addrRuns Reg.ROUTE_MUTE = true := by decide
theorem wit_commit_refused :
    let x := (Reg.ROUTE_MUTE, (255 : Word))
    let d : Dev := { (wHost.modZone 0 (fun z => { z with ovr := true })) with
      lock := { owner := some 0, committing := some 63, shadow := [x], lease := 5 } }
    d.lock.shadow.find? (fun x => !(d.liveOk x.1 (d.commitWord x))) = some x := by decide
theorem wit_lease :
    let d : Dev := { wDev with lock := { wDev.lock with owner := some 4, lease := 0 } }
    d.lock.owner = some 4 ∧ d.lock.lease = 0 ∧ d.lock.committing = none := by decide
theorem wit_reads : MayRead (wAt wDev 64) 3 (Reg.HOSTIF_LOCKST 3) ∧ MayRead (wAt wDev 64) 3 Reg.CLK_TICK_LO ∧
    MayRead (wAt wHost 64) 4 Reg.FIR_CDATA ∧ MayRead (wAt wHost 64) 0 (Reg.CHk_CAP_DATA 7) ∧
    MayRead (wAt wHost 64) 4 Reg.SVC_FL_DATA := by decide
theorem wit_rack_control : MayWrite (wAt wHost 64) 0 Reg.RACK_CTRL 3 ∧ tbit 3 1 = true := by decide

/-- A requester whose coefficient address names a tap of bank 1 of string 7. -/
def wFir (tap : BitVec 32) : Dev := wHost.modReq 0 (fun r => { r with firCaddr := 0x71000 + tap })

theorem wit_coefficients : MayWrite (wAt (wFir 383) 64) 0 Reg.FIR_CDATA 7 ∧ (wFir 383).caddrBad 0 = false ∧
    (wFir 383).firBankOpen ((wFir 383).caddr 0).1 ((wFir 383).caddr 0).2.1 = true ∧ (wFir 384).caddrBad 0 = true ∧
    ((wFir 383).put (Fd.FIR_BANKk_ACTIVE 7) 1).firBankOpen 7 1 = false := by decide
theorem wit_fir_copy :
    let v : Word := 0x71017
    MayWrite (wAt wHost 64) 0 Reg.FIR_COPY (putBit v.toNat 31 true) ∧ wHost.firCopy = none ∧ bits v.toNat 0 5 < 24 ∧
      wHost.present (bits v.toNat 16 3) = true ∧ wHost.img.cfg.rate ≠ 2 ∧
      wHost.firBankOpen (bits v.toNat 16 3) (bits v.toNat 12 1) = true ∧ 24 ≤ bits (0x71018 : Word).toNat 0 5 := by decide
theorem wit_fir_copy_done :
    let d : Dev := { wDev with firCopy := some (7, 1, 23, 64) }
    d.firCopy = some (7, 1, 23, 64) ∧ d.islandOk islFir = true := by decide
theorem wit_bank_requests : MayWrite (wAt wHost 64) 0 (Reg.FIR_REQk 7) 1 ∧ MayWrite (wAt wHost 64) 0 (Reg.CHk_OL_SEL 7) 1 ∧
    MayWrite (wAt wHost 64) 0 Reg.DIAG_CRST 255 ∧ wHost.lock.owner = none ∧ (vat wHost.req 0).lost = false := by decide
theorem wit_inject :
    let d := (wHost.setPhase 7 phRun).put (Fd.CHk_CL_STATUS_MODE 7) 1
    let v : Word := 0x101
    MayWrite (wAt d 64) 4 (Reg.CHk_INJ_CTL 7) (putBit v.toNat 31 true) ∧ d.svcWrites = true ∧ tbit v.toNat 30 = false ∧
      d.mayInject 7 (bits v.toNat 0 2) = true ∧ wHost.mayInject 7 (bits v.toNat 0 2) = false ∧
      MayWrite (wAt d 64) 4 (Reg.CHk_INJ_CTL 7) (putBit (d.reg (Reg.CHk_INJ_CTL 7)).toNat 30 true) := by decide
theorem wit_injection_ends :
    let x : Inj := { (default : Inj) with len := 3, j := 3 }
    let d := wDev.modCtl 7 (fun c => { c with inj := some x })
    (d.st 7).ctl.inj = some x ∧ x.len ≤ x.j := by decide
theorem wit_capture_arms :
    let v : Word := 0x10
    MayWrite (wAt wHost 64) 4 (Reg.CHk_CAP_CTL 7) (putBit v.toNat 31 true) ∧ tbit v.toNat 30 = false ∧
      (regInfoAt (Reg.CHk_CAP_CTL 7)).all (fun r => writeValid r (Reg.CHk_CAP_CTL 7)
        (mergeWord r (wHost.reg (Reg.CHk_CAP_CTL 7)).toNat (putBit v.toNat 31 true))) = true ∧
      capSelOk (tbit v.toNat 11) (bits v.toNat 0 4) = true ∧ capSelOk (tbit v.toNat 11) (bits v.toNat 4 4) = true ∧
      capSelOk false 11 = false := by decide
theorem wit_capture_ends :
    let d := wHost.modCtl 7 (fun c => { c with cap := { c.cap with busy := true, left := some 0 } })
    let w := putBit (d.reg (Reg.CHk_CAP_CTL 7)).toNat 30 true
    (d.st 7).ctl.cap.busy = true ∧ (d.st 7).ctl.cap.left = some 0 ∧ MayWrite (wAt d 64) 4 (Reg.CHk_CAP_CTL 7) w ∧
      (regInfoAt (Reg.CHk_CAP_CTL 7)).all (fun r => writeValid r (Reg.CHk_CAP_CTL 7)
        (mergeWord r (d.reg (Reg.CHk_CAP_CTL 7)).toNat w)) = true := by decide
theorem wit_capture_other_port : MayWrite (wAt wHost 64) 0 (Reg.CHk_CAP_CTL 7) (putBit (0 : Word).toNat 31 true) ∧
    MayWrite (wAt wHost 64) 0 (Reg.CHk_INJ_CTL 7) (putBit (0 : Word).toNat 31 true) := by decide
theorem wit_capture_read_state :
    let d := wHost.modSvc (fun v => { v with state := svcRead })
    d.hostRuns = true ∧ d.addrRuns (Reg.CHk_CAP_CTL 7) = true ∧ d.svcWrites = false := by decide
theorem wit_capture_busy :
    (wHost.put (Fd.CHk_CAP_STATUS_BUSY 7) 1).bit (Fd.CHk_CAP_STATUS_BUSY 7) = true ∧
      wHost.bit (Fd.CHk_CAP_STATUS_BUSY 7) = false := by decide
theorem wit_service_requests :
    let d := wDev.modSvc (fun v => { v with chal := some 999999 })
    MayWrite (wAt d 64) 4 Reg.SVC_CTL 1 ∧ MayWrite (wAt d 64) 4 Reg.SVC_CTL 2 ∧ MayWrite (wAt d 64) 4 Reg.SVC_CTL 4 ∧
      MayWrite (wAt d 64) 4 Reg.SVC_CTL 8 ∧ d.svc.lockout = 0 ∧ d.svc.chal ≠ none ∧
      (d.modSvc (fun v => { v with lockout := 1 })).svc.lockout ≠ 0 := by decide
theorem wit_service_idle :
    let d := wDev.modSvc (fun v => { v with state := svcRead, idle := wDev.fld Fd.SVC_CFG_IDLE * 375, norDirty := some true })
    d.hostRuns = true ∧ d.fld Fd.SVC_CFG_IDLE * 375 ≤ d.svc.idle ∧ d.svc.state = svcRead ∧ d.svc.norDirty = some true := by decide
theorem wit_pin_mode :
    let v : Word := 0x7007F
    let d := wHost.setPhase 7 phLatched
    MayWrite (wAt d 64) 4 Reg.SVC_PIN (putBit v.toNat 31 true) ∧ tbit v.toNat 30 = false ∧ d.svc.state = svcFull ∧
      d.phase (bits v.toNat 16 3) = phLatched ∧
      MayWrite (wAt d 64) 4 Reg.SVC_PIN (putBit (d.reg Reg.SVC_PIN).toNat 30 true) := by decide
theorem wit_checks :
    let d := wDev.modSvc (fun v => { v with passBusy := [false, true], respBusy := [true], fails := 4 })
    d.hostRuns = true ∧ d.svc.passBusy = [false, true] ∧ d.svc.respBusy = [true] ∧ 5 ≤ min 255 (d.svc.fails + 1) := by decide
theorem wit_lockout_ends : (wDev.modSvc (fun v => { v with lockout := 1, chal := some 0 })).svc.lockout = 1 ∧
    (wDev.modSvc (fun v => { v with lockout := 1, chal := some 0 })).svc.chal = some 0 ∧ 0 + 1474560000 ≤ 1474560000 := by decide
theorem wit_commissioning :
    let d := ((wDev.put (Fd.SVC_KEYw_KEY 7) 1).put Fd.SYS_STATE_STATE 9).modSvc (fun v => { v with state := svcCommission })
    MayWrite (wAt d 64) 4 Reg.SVC_COMMIT (0xC0DE : Word).toNat ∧ d.svc.state = svcCommission ∧ d.fld Fd.SYS_STATE_STATE = 9 ∧
      (∃ x ∈ d.regBytes (Reg.SVC_KEYw 0) 8, x ≠ 0) ∧ (wAt d 64).env.fuses.ownerKey = none := by decide
theorem wit_flash :
    MayWrite (wAt wHost 64) 4 Reg.SVC_FL_CTL (flGoWord true 2 false) ∧ wHost.svcWrites = true ∧
      MayWrite (wAt wHost 64) 4 Reg.SVC_FL_CTL (flGoWord false 3 true) ∧
      wHost.bit Fd.SVC_FL_STATUS_BUSY = false ∧ wHost.flashRefused (wAt wHost 64).env true 1 = false ∧
      (wHost.put Fd.SVC_FL_ADDR_ADDR 255).flashRefused (wAt wHost 64).env false 2 = true ∧
      (wHost.put Fd.SVC_FL_STATUS_BUSY 1).bit Fd.SVC_FL_STATUS_BUSY = true ∧
      MayWrite (wAt wHost 64) 4 Reg.SVC_FL_DATA 5 := by decide
theorem wit_flash_factory :
    let d := wHost.modSvc (fun v => { v with state := 4 })
    MayWrite (wAt d 64) 4 Reg.SVC_FL_CTL (flGoWord true 0 false) ∧ ¬ (d.svc.state = svcFull ∨ d.svc.state = svcCommission) ∧
      wHost.svc.state = svcFull := by decide
theorem wit_flash_done :
    let f : FlashOp := { nand := false, op := 2, slotB := true, addr := 256 }
    let d := wHost.modSvc (fun v => { v with flash := some f })
    d.svc.flash = some f ∧ d.domRun domNvm = true ∧ d.hostRuns = true ∧ f.addr % 256 = 0 := by decide

/-! ### The cell companion -/

theorem wit_command : let x := (wC wComp).comp 55
    x.en = true ∧ x.mode ≠ .pin ∧ x.fault = none ∧ x.bypCmd = false ∧ bits (0x7F : Byte).toNat 3 3 = 7 ∧
      tbit (0x7F : Byte).toNat 6 = true ∧ tbit (0x3F : Byte).toNat 6 = false ∧ x.vccOk = true ∧ Charged x ∧ Settled x := by decide
theorem wit_link_sends :
    let x := (wC { wComp with poll := true, resp := some (3, 17, 255, 255) }).comp 55
    x.en = true ∧ x.poll = true ∧ x.resp = some (3, 17, 255, 255) := by decide
theorem wit_management :
    let x := (wC { wComp with mode := .manage, validRun := 15 }).comp 55
    x.en = true ∧ x.mode = .manage ∧ 15 ≤ x.validRun ∧ x.fault = none ∧ (x.mgmtReg 0x10).isSome = true ∧ x.mgmtReg 0xFF = none ∧
      ccfgOk x.classH 3 (vat x.ccfg 3) = true := by decide
theorem wit_en : ((wC wComp).comp 0).en = true ∧ (299 : Nat) < 300 ∧ 500 ≤ 500 ∧ ((wC wComp).comp 0).vccOk = true := by decide
theorem wit_en_low : ((wC Comp.reset).comp 0).en = false ∧ (0 : Nat) < 300 ∧ 500 ≤ 500 ∧ 500 ≤ 1500 ∧ 2000 ≤ 2000 := by decide
theorem wit_vcc : ((wC { Comp.reset with vccOk := false }).comp 0).vccOk = false ∧
    ((wC { Comp.reset with vccOk := false }).comp 0).en = false := by decide
theorem wit_bootstrap :
    let x := (wC { wComp with on := ⟨true, false, false, false⟩ }).comp 0
    vat x.bootPassed (legIx .a) = true ∧ x.on.get (2 * legIx .a) = true ∧ x.fault = none ∧ x.on.get (2 * legIx .b) = false := by decide
theorem wit_dead_time :
    let x := (wC { wComp with inc := #v[some 300, some 306, none, none] }).comp 0
    x.gatesOk = true ∧ Charged x ∧ x.nextDue = none ∧ vat x.inc 0 = some 300 ∧ 300 ≤ 300 + 5 + x.tDT / 20 := by decide
theorem wit_blanking :
    let x := (wC { wComp with blank := #v[none, none, none, some 500] }).comp 0
    vat x.blank (switchIx .bl) = some 500 ∧ 500 ≤ 500 + x.tBL / 10 := by decide
theorem wit_transition :
    let x := (wC { wComp with legOut := #v[none, some 3] }).comp 0
    x.classH = false ∧ vat x.legOut (legIx .b) = some 3 ∧ 3 < 4 ∧ vat x.legIn (legIx .b) = none ∧
      x.legOver (legIx .b) ((0 + 4 * 63) / 4) = false ∧ x.legOver (legIx .b) ((8000 + 4 * 63) / 4) = true := by decide
theorem wit_over_current :
    let x := (wC { wComp with on := .ofState 3, cmd := 3 }).comp 0
    (x.on.state = 2 ∨ x.on.state = 3) ∧ x.blanking 9000 = [] ∧ x.fault = none ∧ x.gatesOk = true ∧ Charged x ∧ Settled x := by decide
theorem wit_over_current_level :
    let x := (wC wComp).comp 0
    95 * (4 * bits (x.cc 0) 0 7) < 100 * (1000 + 3) ∧ 100 * (0 + 3) ≤ 95 * (4 * bits (x.cc 0) 0 7) ∧
      95 * (8 * bits (x.cc 0) 0 7) < 100 * (2000 + 5) ∧ 100 * (0 + 5) ≤ 95 * (8 * bits (x.cc 0) 0 7) := by decide
theorem wit_limit_hold :
    let x := (wC { wComp with limit := some 9000 }).comp 0
    x.limit = some 9000 ∧ x.mode ≠ .pin ∧ x.gatesOk = true ∧ Charged x ∧ (∀ i, i < 4 → vat x.inc i = none) := by decide
theorem wit_pins :
    let x := (wC { wComp with mode := .pin, ilock := [1, 2] }).comp 0
    x.mode = .pin ∧ x.gatesOk = true ∧ x.fault = none ∧ Charged x ∧ (x.pins.ah && x.pins.al) = false ∧
      2 ≤ (x.ilock.filter (fun e => decide (10000000 < e + 10000000))).length := by decide
theorem wit_desat :
    let x := (wC { wComp with on := .ofState 2, blankOver := #v[some 800, none, none, none] }).comp 0
    x.on.get (switchIx .ah) = true ∧ x.inBlank (switchIx .ah) 1000 = false ∧ x.blankedTo (switchIx .ah) = some 800 ∧
      1000 ≤ 800 + 200 ∧ x.blankedTo (switchIx .bl) = none := by decide
/-- Outside its blanking a trip is unattributed; one of the other leg 200 ns before makes it the code of both legs. -/
theorem wit_desat_legs :
    let x := (wC { wComp with on := .ofState 2, tripAt := #v[none, some 800] }).comp 0
    let y := { x with fault := some 0x11, latchAt := 800 }
    6500 < 6501 ∧ x.on.get (switchIx .ah) = true ∧ x.inBlank (switchIx .ah) 1000 = false ∧ x.blankedTo (switchIx .ah) = none ∧
      vat x.tripAt (1 - switchIx .ah / 2) = some 800 ∧ 1000 ≤ 800 + 200 ∧ 800 + 200 < 1001 ∧
      vat y.tripAt (1 - switchIx .ah / 2) = some y.latchAt ∧ y.fault = some 0x11 := by decide
theorem wit_desat_soft :
    let x := (wC { wComp with softAt := #v[some 700, none, none, none] }).comp 0
    vat x.softAt (switchIx .ah) = some 700 ∧ 1000 ≤ 700 + 300 ∧ ¬ (6500 : Nat) < 6500 := by decide
theorem wit_oc2 :
    let x := (wC { wComp with blank := #v[none, some 2000, none, none] }).comp 0
    x.blanking 1000 = [1] ∧ (wComp.blanking 1000).length ≠ 1 := by decide
theorem wit_loss_and_runs :
    let x := (wC { wComp with ovRun := 7, uvRun := 63, uvArmed := true }).comp 0
    x.lastValid + 1200 ≤ 1200 ∧ 7 ≤ x.ovRun ∧ 63 ≤ x.uvRun ∧ x.uvArmed = true ∧ 16 * bits (x.cc 2) 8 8 ≤ (4095 : BitVec 12).toNat ∧
      (0 : BitVec 12).toNat < 16 * bits (x.cc 2) 8 8 ∧ bits (x.cc 3) 8 8 ≤ (255 : BitVec 8).toNat := by decide
theorem wit_zero_form :
    let x := (wC { wComp with fault := some 0x18, holdoff := some 1000 }).comp 0
    x.holdoff = some 1000 ∧ 1000 ≤ 950 + 50 ∧ x.fault = some 0x18 ∧ x.gatesOk = true ∧ (∀ l, l < 2 → vat x.bootOk l = true) := by decide
theorem wit_in_range :
    let x := (wC wComp).comp 0
    (0 : BitVec 8).toNat < bits (x.cc 3) 8 8 ∧ (16 * bits (x.cc 2) 8 8 - 1 : Nat) < 16 * bits (x.cc 2) 8 8 ∧
      16 * bits (x.cc 2) 0 8 < 16 * bits (x.cc 2) 8 8 - 1 := by decide

/-! ### Single steps -/

/-- The machine with one command waiting. -/
def wRun (s : State) (i : Instr) : State := { s with pending := [i] }

/-- R250's two examples, and the check of the ASCII digits 1 to 9 that names each longer CRC of R255 and R92. -/
theorem test_crc : crc8 [0x55] = 0x5F ∧ crc8 [0xD5] = 0xD6 ∧ crc16 [49, 50, 51, 52, 53, 54, 55, 56, 57] = 0x29B1 ∧
    crc32 [49, 50, 51, 52, 53, 54, 55, 56, 57] = 0xCBF43926 := by decide
/-- The symbols of the command frame of spec file 10's worked example. -/
theorem test_command_symbols : (encFrame false false [0xD5, 0xD6]).1 = [0b0011111010, 0b1010100110, 0b0110100110] := by decide
/-- SHA-256 of the empty message, by FIPS 180-4 (R91). -/
theorem test_sha256_empty : (sha256 []).take 4 = [0xE3, 0xB0, 0xC4, 0x42] := by decide
/-- The two reset words of spec file 17's worked example. -/
theorem test_reset_words : State.reset.dev.reg 0x07130 = 0x00091400 ∧ State.reset.dev.reg 0x0D538 = 0x0BB80078 := by decide
/-- R3, R165: the tick number advances by one, and the bit of the later edge is the newest. -/
theorem test_tick : ∃ t, step (wRun (wAt wDev 7) (.tick 0 1 ⟨[], []⟩)) = .next t ∧ t.env.tick = 8 ∧ (vat t.dev.sieve 0).bits.head? = some true :=
  ⟨_, rfl, by decide⟩
/-- Spec file 02's worked example: frame 1 000 begins at tick 65 536 000, slot 200 at tick 65 587 200. -/
theorem test_rack_frame : ∃ t, step (wRun (wAt wDev 65536000) .rackFrameStart) = .next t ∧ t.dev.fld Fd.RACK_FRAME_FRAME = 1000 :=
  ⟨_, rfl, by decide⟩
theorem test_rack_slot : ∃ t, step (wRun (wAt wDev 65587200) .rackSlotStart) = .next t ∧ t.dev.fld Fd.RACK_STATUS_CUR_SLOT = 200 :=
  ⟨_, rfl, by decide⟩
/-- R73: a lock lets NVM ramp after 512T, and not before. -/
theorem test_lock_then_ramp : ∃ t, step (wRun State.reset .mainOscLock) = .next t ∧ t.dev.bit Fd.CLK_STATUS_LOCK = true ∧
    t.dev.pwr.rampDue = 512 := ⟨_, rfl, by decide⟩
theorem test_ramp_waits : ∃ t, step (wRun { wLocked with env := { Env.reset with lockTicks := 511 } } .domainRampStart) = .next t ∧
    t.dev.ramping = none := ⟨_, rfl, by decide⟩
/-- R45: holdover begins with the loss of the reference. -/
theorem test_reference : ∃ t, step (wRun (wAt wDev 0) .referenceLoss) = .next t ∧ t.dev.bit Fd.CLK_STATUS_HOLDOVER = true :=
  ⟨_, rfl, by decide⟩
/-- R49: a failed LID clock releases all relays. -/
theorem test_lid_clock : ∃ t, step (wRun (wAt wDev 64) (.islandClockFail 1)) = .next t ∧ t.dev.pwr.relayHeld = true ∧
    t.dev.pwr.dom[9] = .run := ⟨_, rfl, by decide⟩
/-- R16, R384: a host sets a register of a block that its WPERM permits, and is turned away elsewhere. -/
theorem test_write_permitted : ∃ t, step (wRun (wAt wHost 64) (.registerWrite 0 0x2030 3)) = .next t ∧ t.dev.reg 0x2030 = 3 :=
  ⟨_, rfl, by decide⟩
theorem test_write_rejected : ∃ t, step (wRun (wAt (wHost.put (Fd.HOSTIF_CFG_WPERM 1) 0) 64) (.registerWrite 1 0x5100 255)) = .next t ∧
    t.dev.reg 0x5100 = wHost.reg 0x5100 ∧ t.dev.fld (Fd.HOSTIF_ERRS_REJECTS 1) = 1 := ⟨_, rfl, by decide⟩
/-- R59: the capture of CLK_TICK_HI belongs to the requester that read CLK_TICK_LO. -/
theorem test_tick_capture : ∃ t, step (wRun (wAt wDev 0x500000007) (.clkTickLoRead 2)) = .next t ∧ (vat t.dev.req 2).tickHi = 5 ∧
    (vat t.dev.req 1).tickHi = 0 := ⟨_, rfl, by decide⟩
/-- R376, R379: a frame that fails its CRC is answered 0xA5 and counted. -/
theorem test_bad_crc : ∃ t, step (wRun (wAt wDev 64) (.hostReadFrame 3 0 0)) = .next t ∧ (vat t.dev.req 3).out.start = 0xA5 ∧
    t.dev.fld (Fd.HOSTIF_ERRS_CRC 3) = 1 := ⟨_, rfl, by decide⟩
/-- R368: STOP of string 7 from a host that LID_PERM permits, and from one that it does not. -/
theorem test_mailbox_stop : ∃ t, step (wRun (wAt (wDev.put (Fd.LID_PERMp_CODES 0) 8) 64) (.mailboxStop 0 7 9)) = .next t ∧
    t.dev.ebit Fd.LID_STOP_STOP 7 = true ∧ t.dev.fld (Fd.LID_MBp_STAT_RESULT 0) = 1 := ⟨_, rfl, by decide⟩
theorem test_mailbox_perm : ∃ t, step (wRun (wAt (wDev.put (Fd.LID_PERMp_CODES 0) 0) 64) (.mailboxStop 0 7 9)) = .next t ∧
    t.dev.ebit Fd.LID_STOP_STOP 7 = false ∧ t.dev.fld (Fd.LID_MBp_STAT_RESULT 0) = 2 := ⟨_, rfl, by decide⟩
/-- R399: the fifth failure in a row locks the port out. -/
theorem test_fifth_failure :
    ∃ t, step (wRun (wAt (wDev.modSvc (fun v => { v with passBusy := [false], fails := 4 })) 64) .passcodeCheckDone) = .next t ∧
      t.dev.svc.fails = 5 ∧ t.dev.svc.lockout ≠ 0 := ⟨_, rfl, by decide⟩
/-- Spec file 11's worked example: P is commanded from ZL, AH waits for AL; OC2 inside AH's blanking suspects AL (0x19). -/
theorem test_turn_on : ∃ t, step (wRun (wC { wComp with on := .ofState 0 }) (.commandFrame 37 140 0xD5)) = .next t ∧
    (t.comp 37).on.al = false ∧ (t.comp 37).on.ah = false ∧ ((t.comp 37).inc[0]).isSome = true ∧ (t.comp 37).on.bl = true :=
  ⟨_, rfl, by decide⟩
theorem test_shorted_switch :
    ∃ t, step (wRun (wC { wComp with on := .ofState 2, blank := #v[some 560, none, none, none] }) (.oc2Trip 37 ⟨290, 2000⟩)) = .next t ∧
      (t.comp 37).fault = some 0x19 ∧ (t.comp 36).fault = none := ⟨_, rfl, by decide⟩
/-- R270, R271: EN low for 2.0 µs clears a latched code; EN low turns every switch off. -/
theorem test_en_clears : ∃ t, step (wRun (wC { wComp with en := false, fault := some 0x11 }) (.enRise 0 5000 2000 false)) = .next t ∧
    (t.comp 0).fault = none := ⟨_, rfl, by decide⟩
theorem test_en_falls : ∃ t, step (wRun (wC { wComp with on := .ofState 3 }) (.enFall 0 ⟨5000, 500⟩)) = .next t ∧
    (t.comp 0).on = ⟨false, false, false, false⟩ := ⟨_, rfl, by decide⟩
/-- R271: a low pulse below 0.3 µs is ignored. -/
theorem test_en_pulse : ∃ t, step (wRun (wC { wComp with on := .ofState 3 }) (.enFall 0 ⟨5000, 299⟩)) = .next t ∧
    (t.comp 0).on = .ofState 3 := ⟨_, rfl, by decide⟩
/-- R116: a frame of the right bits that lasts longer than 1.5 nominal periods is a missing sync. -/
theorem test_tdm_late : ∃ t, step (wRun (wAt (wTdm 5 0) 4096) (.tdmFrameSync 3 (List.replicate 256 true) (4096 + 3073))) = .next t ∧
    t.dev.fld (Fd.TDMn_ERR_CNT_MISSING 3) = 1 := ⟨_, rfl, by decide⟩

end Sys2Proof.Tests
end

section
/-! Answers of the commands, and what they leave of the tick number: every command is an update of the controller, of the
controller with what stands outside power-on reset, or of one companion. -/
namespace Sys2Proof.Machine

/-! ### Answers -/

/-- The outcome is a next state with the queue of `s`. -/
def Answers (s : State) (o : Host.Outcome State Fault Refusal) : Prop := ∃ t, o = .next t ∧ t.pending = s.pending

theorem onDev_answers (s : State) (f : Env → Dev → Dev) : Answers s (onDev s f) := ⟨_, rfl, rfl⟩

theorem onRead_answers (s : State) (p a : Nat) : Answers s (onRead s p a) := ⟨_, rfl, rfl⟩

theorem onWrite_answers (s : State) (p a v : Nat) : Answers s (onWrite s p a v) := ⟨_, rfl, rfl⟩

/-- Every command but two is one of `onDev`, `onEnvDev` and `onComp` as it stands; those two choose between such. -/
theorem exec_answers (i : Instr) (s : State) : Answers s (exec i s) := by
  cases i with
  | mailboxInvalidCode p code arg tag =>
    show Answers s (execMailboxInvalidCode p code arg tag s)
    unfold execMailboxInvalidCode
    split
    · exact onDev_answers s _
    · exact ⟨s, rfl, rfl⟩
  | svcFlDataAccess p wr =>
    cases wr with
    | none => exact onRead_answers s p.val Reg.SVC_FL_DATA
    | some v => exact onWrite_answers s p.val Reg.SVC_FL_DATA v.toNat
  | _ => exact ⟨_, rfl, rfl⟩

/-- Settles O2, by cases on the command. -/
theorem everyCommandCompletes : Obligations.EveryCommandCompletes := exec_answers

/-- Settles O5: the reset state is a value, and no register is listed in it. -/
theorem resetLeavesOnlyAonRunning : Obligations.ResetLeavesOnlyAonRunning :=
  ⟨rfl, rfl, rfl, rfl, fun _ => rfl, by decide⟩

/-! ### What a write changes outside the controller -/

/-- Nothing that stands outside power-on reset but fuses has changed (R401). -/
def OnlyFuses (e e' : Env) : Prop := e' = { e with fuses := e'.fuses }

theorem OnlyFuses.refl (e : Env) : OnlyFuses e e := rfl

theorem commissionWrite_onlyFuses {e e' : Env} {d d' : Dev} {v : Nat} (h : commissionWrite e d v = some (e', d')) :
    OnlyFuses e e' := by
  unfold commissionWrite at h
  dsimp only at h
  split at h
  · cases h; rfl
  · cases h

theorem writeSvc_onlyFuses (e : Env) (d : Dev) (p a v : Nat) (i : RegInfo) : OnlyFuses e (writeSvc e d p a v i).env := by
  unfold writeSvc
  dsimp only
  split
  · split <;> rfl
  split
  · split
    next h => exact commissionWrite_onlyFuses h
    next => rfl
  split
  · split <;> rfl
  split
  · rfl
  split
  · split <;> rfl
  split <;> rfl

theorem writeSh_env (e : Env) (d : Dev) (p a v : Nat) (i : RegInfo) (c : Bool) : (writeSh e d p a v i c).env = e := by
  unfold writeSh
  dsimp only
  split
  · split
    · rfl
    · split
      · rfl
      · split <;> rfl
  · split <;> rfl

theorem writeCdata_env (e : Env) (d : Dev) (p v : Nat) : (writeCdata e d p v).env = e := by
  unfold writeCdata
  dsimp only
  split
  · rfl
  · split <;> rfl

theorem writeReg_onlyFuses (e : Env) (d : Dev) (p a v : Nat) (i : RegInfo) : OnlyFuses e (writeReg e d p a v i).env := by
  unfold writeReg
  dsimp only
  split
  · rw [writeSh_env]; rfl
  split
  · rw [writeCdata_env]; rfl
  split
  · exact writeSvc_onlyFuses ..
  split
  · split
    · split <;> rfl
    · rfl
  · split
    · split <;> rfl
    · rfl

/-- A write of the register window changes nothing outside the controller but fuses. -/
theorem hostWrite_onlyFuses (e : Env) (d : Dev) (p a v : Nat) : OnlyFuses e (hostWrite e d p a v).env := by
  unfold hostWrite
  dsimp only
  split
  · split
    · rfl
    · split
      · rfl
      · split
        · rfl
        · exact writeReg_onlyFuses ..
  · rfl

theorem accessWrite_onlyFuses (e : Env) (d : Dev) (p a v : Nat) : OnlyFuses e (accessWrite e d p a v).env :=
  hostWrite_onlyFuses ..

/-! ### The time base -/

/-- R3: the tick number and whether it has started are in `e'` as in `e`. -/
def SameTick (e e' : Env) : Prop := e'.started = e.started ∧ e'.tick = e.tick

theorem SameTick.refl (e : Env) : SameTick e e := ⟨rfl, rfl⟩

theorem SameTick.trans {e e' e'' : Env} (h : SameTick e e') (h' : SameTick e' e'') : SameTick e e'' :=
  ⟨h'.1.trans h.1, h'.2.trans h.2⟩

theorem OnlyFuses.sameTick {e e' : Env} (h : OnlyFuses e e') : SameTick e e' := by
  rw [h]; exact ⟨rfl, rfl⟩

theorem frameWord_sameTick (f : FrameSt) (p c : Nat) (data : List Word) (i : Nat) :
    SameTick f.env (f.word p c data i).env := by
  unfold FrameSt.word
  dsimp only
  split
  · exact SameTick.refl _
  · split
    · exact (accessWrite_onlyFuses ..).sameTick
    · exact SameTick.refl _

theorem hostFrame_sameTick (e : Env) (d : Dev) (p c : Nat) (data : List Word) (crc : Nat) :
    SameTick e (hostFrame e d p c data crc).1 := by
  have words : ∀ (l : List Nat) (f : FrameSt), SameTick f.env (l.foldl (fun f i => f.word p c data i) f).env := by
    intro l
    induction l with
    | nil => intro f; exact SameTick.refl _
    | cons i t ih => intro f; exact (frameWord_sameTick f p c data i).trans (ih _)
  unfold hostFrame
  dsimp only
  split
  · exact SameTick.refl _
  · split
    · exact SameTick.refl _
    · exact words _ _

theorem flashDone_sameTick (e : Env) (d : Dev) (f : FlashOp) : SameTick e (flashDone e d f).1 := by
  unfold flashDone
  split
  · split
    · exact SameTick.refl _
    · split <;> exact ⟨rfl, rfl⟩
  · split
    · exact SameTick.refl _
    · split
      · exact ⟨rfl, rfl⟩
      · split <;> exact ⟨rfl, rfl⟩

/-- A command of the controller whose environment keeps the tick keeps it. -/
theorem onEnvDev_sameTick {s t : State} {f : Env → Dev → Env × Dev} (hf : SameTick s.env (f s.env s.dev).1)
    (h : onEnvDev s f = .next t) : SameTick s.env t.env := by
  cases h; exact hf

theorem onWrite_sameTick {s t : State} {p a v : Nat} (h : onWrite s p a v = .next t) : SameTick s.env t.env := by
  refine onEnvDev_sameTick ?_ h
  split
  · exact (accessWrite_onlyFuses ..).sameTick
  · exact SameTick.refl _

theorem hostWriteFrame_sameTick {s t : State} {p : Fin 5} {cmd : Word} {data : List Word} {crc : BitVec 16}
    (h : execHostWriteFrame p cmd data crc s = .next t) : SameTick s.env t.env := by
  refine onEnvDev_sameTick ?_ h
  split
  · exact hostFrame_sameTick ..
  · exact SameTick.refl _

theorem hostReadFrame_sameTick {s t : State} {p : Fin 5} {cmd : Word} {crc : BitVec 16}
    (h : execHostReadFrame p cmd crc s = .next t) : SameTick s.env t.env := by
  refine onEnvDev_sameTick ?_ h
  split
  · exact hostFrame_sameTick ..
  · exact SameTick.refl _

theorem mainOscLock_sameTick {s t : State} (h : execMainOscLock s = .next t) : SameTick s.env t.env := by
  refine onEnvDev_sameTick ?_ h
  split <;> exact ⟨rfl, rfl⟩

theorem flashOpDone_sameTick {s t : State} {ok : Bool} (h : execFlashOpDone ok s = .next t) : SameTick s.env t.env := by
  refine onEnvDev_sameTick ?_ h
  split
  · split
    · cases ok
      · simp only [Bool.false_eq_true, if_false]; split <;> exact SameTick.refl _
      · simp only [if_true]; split <;> exact flashDone_sameTick ..
    · exact SameTick.refl _
  · exact SameTick.refl _

theorem nandEraseDone_sameTick {s t : State} {ok : Bool} (h : execNandEraseDone ok s = .next t) : SameTick s.env t.env := by
  refine onEnvDev_sameTick ?_ h
  cases ok <;> repeat' (split)
  all_goals exact ⟨rfl, rfl⟩
theorem nandProgramDone_sameTick {s t : State} {ok : Bool} (h : execNandProgramDone ok s = .next t) : SameTick s.env t.env := by
  refine onEnvDev_sameTick ?_ h
  cases ok <;> repeat' (split)
  all_goals exact ⟨rfl, rfl⟩

/-- R3: every command but a tick, the release tick and power-on reset leaves the tick number alone. -/
theorem exec_sameTick {i : Instr} {s t : State} (hr : ∀ a b x, i ≠ .tick a b x) (hl : i ≠ .releaseTick)
    (hp : ∀ c, i ≠ .powerOnReset c) (h : exec i s = .next t) : SameTick s.env t.env := by
  cases i with
  | tick a b x => exact absurd rfl (hr a b x)
  | releaseTick => exact absurd rfl hl
  | powerOnReset c => exact absurd rfl (hp c)
  | mainOscLock => exact mainOscLock_sameTick h
  | nandEraseDone ok => exact nandEraseDone_sameTick h
  | nandProgramDone ok => exact nandProgramDone_sameTick h
  | flashOpDone ok => exact flashOpDone_sameTick h
  | hostWriteFrame p cmd data crc => exact hostWriteFrame_sameTick h
  | hostReadFrame p cmd crc => exact hostReadFrame_sameTick h
  | registerWrite | lockOpen | lockCommit | lockAbort | firCdataWrite | firCopyGo | firBankRequest | olBankRequest | rackSwap
  | rackAbort | injGo | injAbort | capArm | capAbort | diagCrstWrite | svcClose | svcTryPass | svcTryResp | svcReqChal
  | svcCommit | norRead | norErase | norProgram | norVerify | nandRead | nandErase | nandProgram | nandVerify | svcPinGo
  | svcPinStop => exact onWrite_sameTick h
  | svcFlDataAccess p wr =>
    cases wr with
    | none => cases h; exact SameTick.refl _
    | some v => exact onWrite_sameTick h
  | mailboxInvalidCode p code arg tag =>
    change execMailboxInvalidCode p code arg tag s = .next t at h
    unfold execMailboxInvalidCode at h
    split at h <;> (cases h; exact SameTick.refl _)
  | _ => cases h; exact SameTick.refl _

/-- Settles O7: the three commands that name the tick number compute it; every other one keeps it. -/
theorem tickNumberCountsTicks : Obligations.TickNumberCountsTicks := by
  intro i s t h
  cases i with
  | tick a b x =>
    cases h
    simp only []
    cases s.dev.aonRuns <;> simp [Env.advance]
  | releaseTick => 
    cases h
    by_cases hd : s.dev.releaseDue s.env = true <;> simp [hd]
  | powerOnReset c => cases h; exact ⟨rfl, rfl⟩
  | _ => exact exec_sameTick (by simp) (by simp) (by simp) h

end Sys2Proof.Machine
end

section
/-! The release tick (R3, R75, R99): what each step of it leaves of the states of the strings and of their STR_EN pads. -/
namespace Sys2Proof.Machine

variable {d : Dev}

/-! ### What the release tick asks of a string and of its island -/

/-- The image, the domains, the failed islands, shutdown, the STR_EN pads and the states of the strings: what decides whether a
string enters ENUM at the release tick (R75, R99), and what its entry changes of it. -/
structure Stance where
  cfg : ImgCfg
  dom : Vector DomSt 16
  bad : Vector Bool 15
  shutdown : Bool
  strEn : Vector Bool 8
  states : Word

def Dev.stance (d : Dev) : Stance :=
  ⟨d.img.cfg, d.pwr.dom, d.pwr.islandBad, d.pwr.shutdown, d.pwr.strEn, d.reg Reg.SYS_STR_STATE⟩

/-- A register of an array that begins above `c` is not the register at `c`. -/
theorem addr_ne {a b c : Nat} (h : c < a) : a + b ≠ c := by omega

theorem Dev.stance_put {f : Fld} {v : Nat} (h : f.addr ≠ Reg.SYS_STR_STATE) : (d.put f v).stance = d.stance := by
  simp [Dev.stance, Dev.reg_put_other h.symm]

theorem Dev.stance_putB {f : Fld} {v : Bool} (h : f.addr ≠ Reg.SYS_STR_STATE) : (d.putB f v).stance = d.stance :=
  Dev.stance_put h

theorem Dev.stance_evt {f : Fld} (h : f.addr ≠ Reg.SYS_STR_STATE) : (d.evt f).stance = d.stance := Dev.stance_put h

theorem Dev.stance_evtIf {f : Fld} {c : Bool} (h : f.addr ≠ Reg.SYS_STR_STATE) : (d.evtIf c f).stance = d.stance := by
  unfold Dev.evtIf; split
  · exact Dev.stance_evt h
  · rfl

theorem Dev.stance_setReg {a : Nat} {v : Word} (h : a ≠ Reg.SYS_STR_STATE) : (d.setReg a v).stance = d.stance := by
  simp [Dev.stance, Dev.reg_setReg_other h.symm]

theorem Dev.stance_modCtl {k : Nat} {f : Ctl → Ctl} : (d.modCtl k f).stance = d.stance := (rfl)
theorem Dev.stance_modMor {k : Nat} {f : MortarSt → MortarSt} : (d.modMor k f).stance = d.stance := (rfl)
theorem Dev.stance_modWh {k : Nat} {f : WhiskSt → WhiskSt} : (d.modWh k f).stance = d.stance := (rfl)
theorem Dev.stance_modPr {k : Nat} {f : ProtSt → ProtSt} : (d.modPr k f).stance = d.stance := (rfl)
theorem Dev.stance_modCell {k p : Nat} {f : CellC → CellC} : (d.modCell k p f).stance = d.stance := (rfl)
theorem Dev.stance_modZone {k : Nat} {f : ZoneSt → ZoneSt} : (d.modZone k f).stance = d.stance := (rfl)
theorem Dev.stance_modLoad {k : Nat} {f : LoadSt → LoadSt} : (d.modLoad k f).stance = d.stance := (rfl)
theorem Dev.stance_modPot {f : PotSt → PotSt} : (d.modPot f).stance = d.stance := (rfl)

/-- String k takes the state `ph`. -/
def Stance.setPhase (x : Stance) (k ph : Nat) : Stance :=
  { x with states := BitVec.ofNat 32 (putBits x.states.toNat (4 * k) 4 ph) }

/-- STR_EN of string k is driven to `b`; in a shutdown it stays low. -/
def Stance.driveEn (x : Stance) (k : Nat) (b : Bool) : Stance :=
  { x with strEn := vset x.strEn k (b && !x.shutdown) }

theorem Dev.stance_setPhase {k ph : Nat} : (d.setPhase k ph).stance = d.stance.setPhase k ph := by
  simp only [Dev.stance, Stance.setPhase, Dev.setPhase, Dev.put_img, Dev.put_pwr]
  congr 1
  exact Dev.reg_put_same

theorem Dev.stance_strEn {k : Nat} {b : Bool} : (d.strEn k b).stance = d.stance.driveEn k b := by
  obtain ⟨x, hx⟩ := d.strEn_eq k b
  rw [hx]; rfl

/-! ### Steps of the release -/

theorem Dev.stance_releaseZone {k : Nat} : (d.releaseZone k).stance = d.stance := by
  unfold Dev.releaseZone
  simp (disch := with_unfolding_all exact id (addr_ne (of_decide_eq_true rfl))) only [Dev.stance_put, Dev.stance_modZone]

theorem Dev.stance_supModes {k : Nat} : (d.supModes k).stance = d.stance := by
  unfold Dev.supModes
  simp (disch := with_unfolding_all exact id (addr_ne (of_decide_eq_true rfl))) only [Dev.stance_putB]

theorem Dev.stance_enumLink {k p : Nat} : (d.enumLink k p).stance = d.stance := by
  unfold Dev.enumLink
  dsimp only
  split <;> simp (disch := with_unfolding_all exact id (addr_ne (of_decide_eq_true rfl))) only
    [Dev.stance_put, Dev.stance_putB, Dev.stance_modCell]

theorem Dev.stance_enterEnum {k f : Nat} :
    (d.enterEnum k f).stance = (d.stance.setPhase k phEnum).driveEn k true := by
  have links (d : Dev) : (d.each positions (fun d p => d.enumLink k p)).stance = d.stance :=
    Dev.each_same Dev.stance (fun _ _ => Dev.stance_enumLink) _ _
  unfold Dev.enterEnum
  simp (disch := with_unfolding_all exact id (addr_ne (of_decide_eq_true rfl))) only
    [Dev.stance_put, Dev.stance_setReg, Dev.stance_modPr, links, Dev.stance_strEn, Dev.stance_setPhase]

theorem Dev.stance_capEnd {k : Nat} : (d.capEnd k).stance = d.stance := by
  unfold Dev.capEnd
  split
  · simp (disch := with_unfolding_all exact id (addr_ne (of_decide_eq_true rfl))) only
      [Dev.stance_putB, Dev.stance_evt, Dev.stance_modCtl]
  · rfl

theorem Dev.stance_leaveRun {k : Nat} : (d.leaveRun k).stance = d.stance := by
  have good : (if d.inFallback k then d.put (Fd.CHk_FB_STATUS_GOOD k) 0 else d).stance = d.stance := by
    split
    · exact Dev.stance_put (addr_ne (of_decide_eq_true rfl))
    · rfl
  unfold Dev.leaveRun Dev.injStop Dev.morSet
  simp (disch := with_unfolding_all exact id (addr_ne (of_decide_eq_true rfl))) only
    [Dev.stance_put, Dev.stance_putB, Dev.stance_modCtl, Dev.stance_modWh, Dev.stance_modPr, Dev.stance_modMor,
      Dev.stance_capEnd, good]

theorem Dev.stance_startFail {k : Nat} :
    (d.startFail k).stance = (d.stance.driveEn k false).setPhase k phStartFail := by
  have leave : (if d.inRun k then d.leaveRun k else d).stance = d.stance := by
    split
    · exact Dev.stance_leaveRun
    · rfl
  have evt (d : Dev) : (d.evt Fd.SYS_EVT_START_FAIL).stance = d.stance := Dev.stance_evt (by decide)
  unfold Dev.startFail Dev.strHalt
  simp (disch := with_unfolding_all exact id (addr_ne (of_decide_eq_true rfl))) only
    [evt, Dev.stance_setPhase, Dev.stance_put, Dev.stance_modPr, Dev.stance_strEn, leave]

/-- The island of string k works, as the stance shows it. -/
theorem Dev.islandOk_congr {e : Dev} {i : Nat} (h : e.stance = d.stance) : e.islandOk i = d.islandOk i := by
  have hd : e.pwr.dom = d.pwr.dom := congrArg Stance.dom h
  have hb : e.pwr.islandBad = d.pwr.islandBad := congrArg Stance.bad h
  simp only [Dev.islandOk, Dev.domRun, hd, hb]

/-- A string's settings do not touch its stance; the release then enters ENUM, or START_FAIL if the domain is lost. -/
theorem Dev.releaseStr_eq (d : Dev) (k : Nat) : ∃ e : Dev, e.stance = d.stance ∧ d.releaseStr k =
    if e.islandOk (islCh k) then e.enterEnum k 0 else if e.lostDomain k then e.startFail k else e := by
  have dwell (d : Dev) : (d.each positions (fun d p => d.modCell k p (fun c => { c with dwellFrom := -65535 }))).stance =
      d.stance := Dev.each_same Dev.stance (fun _ _ => Dev.stance_modCell) _ _
  refine ⟨_, ?_, rfl⟩
  simp (disch := with_unfolding_all exact id (addr_ne (of_decide_eq_true rfl))) only
    [dwell, Dev.stance_supModes, Dev.stance_put, Dev.stance_modLoad, Dev.stance_releaseZone]

/-! ### The strings at the release -/

/-- String k of `d` stands ready for the release tick: no shutdown, and its island works. -/
def Dev.ready (d : Dev) (k : Nat) : Prop := d.pwr.shutdown = false ∧ d.islandOk (islCh k) = true

/-- String k has entered ENUM, with STR_EN high. -/
def Dev.enumerating (d : Dev) (k : Nat) : Prop := d.phase k = phEnum ∧ d.enHigh k = true

theorem Dev.ready_congr {e : Dev} {k : Nat} (h : e.stance = d.stance) (hr : d.ready k) : e.ready k :=
  ⟨(congrArg Stance.shutdown h).trans hr.1, (Dev.islandOk_congr h).trans hr.2⟩

theorem Dev.phase_congr {e : Dev} {k : Nat} (h : e.stance = d.stance) : e.phase k = d.phase k :=
  Dev.fld_congr (congrArg Stance.states h)

theorem Dev.enumerating_congr {e : Dev} {k : Nat} (h : e.stance = d.stance) (hr : d.enumerating k) : e.enumerating k :=
  ⟨(Dev.phase_congr h).trans hr.1, (congrArg (fun x : Stance => vat x.strEn k) h).trans hr.2⟩

theorem Dev.phase_setPhase_other {j k ph : Nat} (hj : j < 8) (h : k ≠ j) : (d.setPhase j ph).phase k = d.phase k := by
  refine Dev.fld_put_other (phaseField_fits hj) ?_
  simp [Fld.apart, Fd.SYS_STR_STATE_STR]
  omega

/-- A change of state and of STR_EN of another string keeps string k ready. -/
theorem Dev.ready_step {j k ph : Nat} {b : Bool} (h : d.ready k) : ((d.setPhase j ph).strEn j b).ready k := by
  obtain ⟨hs, hi⟩ := h
  refine ⟨by simpa [Dev.strEn_pwr] using hs, ?_⟩
  simpa [Dev.islandOk, Dev.domRun, Dev.strEn_pwr] using hi

theorem Dev.enumerating_step {j k ph : Nat} {b : Bool} (hj : j < 8) (hk : k ≠ j) (h : d.enumerating k) :
    ((d.setPhase j ph).strEn j b).enumerating k := by
  obtain ⟨hp, he⟩ := h
  refine ⟨?_, ?_⟩
  · rw [Dev.phase, Dev.fld_congr (Dev.reg_congr (Dev.strEn_regs j b))]
    exact (Dev.phase_setPhase_other hj hk).trans hp
  · rw [Dev.strEn_enHigh_other hk]; exact he

theorem Dev.enumerating_enter {k : Nat} (hk : k < 8) (h : d.ready k) : ((d.setPhase k phEnum).strEn k true).enumerating k := by
  refine ⟨?_, ?_⟩
  · rw [Dev.phase, Dev.fld_congr (Dev.reg_congr (Dev.strEn_regs k true))]
    exact Dev.phase_setPhase_same hk (by decide)
  · rw [Dev.strEn_enHigh hk]
    simpa using h.1

/-- The release of one string is, as far as stances go, at most one change of its own state and of its own STR_EN. -/
theorem Dev.releaseStr_stance (d : Dev) (j : Nat) : (d.releaseStr j).stance = d.stance ∧ d.islandOk (islCh j) = false ∨
    ∃ (e : Dev) (ph : Nat) (b : Bool), e.stance = d.stance ∧ (d.releaseStr j).stance = ((e.setPhase j ph).strEn j b).stance ∧
      (d.islandOk (islCh j) = true → ph = phEnum ∧ b = true) := by
  obtain ⟨e, he, heq⟩ := d.releaseStr_eq j
  rw [heq, ← Dev.islandOk_congr he]
  split
  next hi =>
    exact .inr ⟨e, phEnum, true, he, by rw [Dev.stance_enterEnum, Dev.stance_strEn, Dev.stance_setPhase], fun _ => ⟨rfl, rfl⟩⟩
  next hi =>
    split
    · exact .inr ⟨e, phStartFail, false, he, by rw [Dev.stance_startFail, Dev.stance_strEn, Dev.stance_setPhase]; rfl,
        fun h => absurd h hi⟩
    · exact .inl ⟨he, by simpa using hi⟩

/-- The release of any string keeps string k ready. -/
theorem Dev.ready_releaseStr {j k : Nat} (h : d.ready k) : (d.releaseStr j).ready k := by
  rcases d.releaseStr_stance j with ⟨hs, -⟩ | ⟨e, ph, b, he, hs, -⟩
  · exact Dev.ready_congr hs h
  · exact Dev.ready_congr hs (Dev.ready_step (Dev.ready_congr he h))

/-- The release of a ready string enters ENUM. -/
theorem Dev.enumerating_releaseStr {k : Nat} (hk : k < 8) (h : d.ready k) : (d.releaseStr k).enumerating k := by
  rcases d.releaseStr_stance k with ⟨-, hi⟩ | ⟨e, ph, b, he, hs, hen⟩
  · exact absurd (h.2.symm.trans hi) (by simp)
  · obtain ⟨rfl, rfl⟩ := hen h.2
    exact Dev.enumerating_congr hs (Dev.enumerating_enter hk (Dev.ready_congr he h))

/-- The release of another string leaves a string in ENUM. -/
theorem Dev.enumerating_releaseStr_other {j k : Nat} (hj : j < 8) (hk : k ≠ j) (h : d.enumerating k) :
    (d.releaseStr j).enumerating k := by
  rcases d.releaseStr_stance j with ⟨hs, -⟩ | ⟨e, ph, b, he, hs, -⟩
  · exact Dev.enumerating_congr hs h
  · exact Dev.enumerating_congr hs (Dev.enumerating_step hj hk (Dev.enumerating_congr he h))

/-- Once every string of a list is released, a ready one among them is in ENUM; one that was there stays. -/
theorem Dev.enumerating_releaseStrs {k : Nat} (hk : k < 8) : ∀ (l : List Nat) (d : Dev), (∀ j ∈ l, j < 8) → d.ready k →
    k ∈ l ∨ d.enumerating k → (d.each l Dev.releaseStr).enumerating k
  | [], d, _, _, h => h.resolve_left (by simp)
  | j :: t, d, hl, hr, h => by
    refine Dev.enumerating_releaseStrs hk t (d.releaseStr j) (fun i hi => hl i (by simp [hi])) (Dev.ready_releaseStr hr) ?_
    by_cases hj : k = j
    · subst hj; exact .inr (Dev.enumerating_releaseStr hk hr)
    · refine h.imp (fun h => ?_) (Dev.enumerating_releaseStr_other (hl j (by simp)) hj)
      simpa [hj] using h

/-! ### Before the strings: counters, ports and the Sieve -/

/-- The image, the domains, the failed islands and shutdown: what decides whether a string is ready. -/
def Dev.footing (d : Dev) : ImgCfg × Vector DomSt 16 × Vector Bool 15 × Bool :=
  (d.img.cfg, d.pwr.dom, d.pwr.islandBad, d.pwr.shutdown)

theorem Dev.ready_of_footing {e : Dev} {k : Nat} (h : e.footing = d.footing) (hr : d.ready k) : e.ready k := by
  simp only [Dev.footing, Prod.mk.injEq] at h
  obtain ⟨-, hd, hb, hs⟩ := h
  exact ⟨hs.trans hr.1, by simpa only [Dev.islandOk, Dev.domRun, hd, hb] using hr.2⟩

theorem Dev.strs_of_footing {e : Dev} (h : e.footing = d.footing) : e.strs = d.strs := by
  have hc : e.img.cfg = d.img.cfg := congrArg Prod.fst h
  have hp : e.present = d.present := by funext k; simp only [Dev.present, hc]
  simp only [Dev.strs, hp]

theorem Dev.footing_setReg {a : Nat} {v : Word} : (d.setReg a v).footing = d.footing := (rfl)
theorem Dev.footing_put {f : Fld} {v : Nat} : (d.put f v).footing = d.footing := (rfl)
theorem Dev.footing_putB {f : Fld} {v : Bool} : (d.putB f v).footing = d.footing := (rfl)
theorem Dev.footing_evt {f : Fld} : (d.evt f).footing = d.footing := (rfl)
theorem Dev.footing_modCtl {k : Nat} {f : Ctl → Ctl} : (d.modCtl k f).footing = d.footing := (rfl)
theorem Dev.footing_modSvc {f : SvcSt → SvcSt} : (d.modSvc f).footing = d.footing := (rfl)

theorem Dev.footing_lock {l : LockSt} : ({ d with lock := l } : Dev).footing = d.footing := (rfl)
theorem Dev.footing_tickCopy {c : Vector Nat 15} : ({ d with pwr := { d.pwr with tickCopy := c } } : Dev).footing = d.footing :=
  (rfl)

theorem Dev.footing_startMapLoad : d.startMapLoad.footing = d.footing := by
  unfold Dev.startMapLoad; split <;> rfl

theorem Dev.footing_svcClosing : d.svcClosing.footing = d.footing := by
  have inj (d : Dev) : (d.each strings8 (fun d k => if (d.st k).ctl.inj.isSome then d.injStop k else d)).footing = d.footing := by
    refine Dev.each_same Dev.footing (fun d k => ?_) _ _
    split
    · unfold Dev.injStop; rw [Dev.footing_putB, Dev.footing_modCtl]
    · rfl
  have session (d : Dev) : (if d.bit Fd.SVC_FL_STATUS_SESSION then (d.putB Fd.SVC_FL_STATUS_SESSION false).startMapLoad
      else d).footing = d.footing := by
    split
    · rw [Dev.footing_startMapLoad, Dev.footing_putB]
    · rfl
  unfold Dev.svcClosing
  dsimp only
  split
  · rw [Dev.footing_evt, Dev.footing_modSvc]
    split
    · exact (session _).trans (inj d)
    · exact (session _).trans (inj d)
  · rfl

theorem Dev.footing_releaseCounts : d.releaseCounts.footing = d.footing := by
  have page (d : Dev) (p : Nat) : (d.releasePage p).footing = d.footing :=
    Dev.each_same Dev.footing (fun _ _ => Dev.footing_setReg) _ _
  unfold Dev.releaseCounts
  rw [Dev.footing_setReg, Dev.each_same Dev.footing page, Dev.each_same Dev.footing (fun _ _ => Dev.footing_setReg),
    Dev.footing_modSvc, Dev.footing_lock, Dev.footing_svcClosing]

theorem Dev.footing_takeSet {n : Nat} : (d.takeSet n).footing = d.footing := by
  unfold Dev.takeSet
  rw [Dev.footing_put]
  exact (Dev.each_same Dev.footing (fun _ _ => Dev.footing_setReg) (upTo 32) _)

theorem Dev.footing_releasePort {n : Nat} : (d.releasePort n).footing = d.footing := by
  have set : (if decide (n < 4) && d.portUsed n then d.takeSet n else d).footing = d.footing := by
    split
    · exact Dev.footing_takeSet
    · rfl
  have accept (d : Dev) : (if d.txMaster n then d.putB (fdAccept n) true else d).footing = d.footing := by
    split
    · exact Dev.footing_putB
    · rfl
  unfold Dev.releasePort
  rw [Dev.footing_putB, accept, set]

/-! ### After the strings: the Rack table, SYS_STATE and the conditions -/

theorem Dev.stance_startMapLoad : d.startMapLoad.stance = d.stance := by
  unfold Dev.startMapLoad; split
  · exact Dev.stance_modPot
  · rfl

theorem Dev.stance_swapWord {w : Nat} : (d.swapWord w).stance = d.stance := by
  unfold Dev.swapWord
  simp (disch := with_unfolding_all exact id (addr_ne (of_decide_eq_true rfl))) only [Dev.stance_setReg]

theorem Dev.stance_rackFrame {f : Nat} : (d.rackFrame f).stance = d.stance := by
  have swaps (d : Dev) : ((upTo 128).foldl Dev.swapWord d).stance = d.stance :=
    Dev.each_same Dev.stance (f := Dev.swapWord) (fun _ _ => Dev.stance_swapWord) (upTo 128) d
  have settle : d.rackSettle.stance = d.stance := by
    unfold Dev.rackSettle
    dsimp only
    split
    · split <;> simp (disch := decide) only [Dev.stance_evt, Dev.stance_putB, swaps]
    · rfl
  unfold Dev.rackFrame
  rw [Dev.stance_put (by decide), settle]

theorem Dev.stance_sysRunCheck {t : Nat} : (d.sysRunCheck t).stance = d.stance := by
  unfold Dev.sysRunCheck
  dsimp only
  split
  · simp (disch := decide) only [Dev.stance_evt, Dev.stance_put]
  · rfl

theorem Dev.stance_formConditions : d.formConditions.stance = d.stance := by
  unfold Dev.formConditions
  simp (disch := decide) only [Dev.stance_evtIf, Dev.stance_put]

/-- R75: Rack frame 0 begins with the release: neither SYS_STATE nor the conditions of the Lid touch the frame number. -/
theorem Dev.rackFrame_of_release : d.release.fld Fd.RACK_FRAME_FRAME = 0 := by
  have frame (d : Dev) : (d.rackFrame 0).fld Fd.RACK_FRAME_FRAME = 0 := Dev.fld_put_same (by decide)
  have run (d : Dev) : (d.sysRunCheck 0).fld Fd.RACK_FRAME_FRAME = d.fld Fd.RACK_FRAME_FRAME := by
    unfold Dev.sysRunCheck
    dsimp only
    split
    · rw [Dev.fld_evt_other (by decide) (by decide), Dev.fld_put_other (by decide) (by decide)]
    · rfl
  have cond (d : Dev) : d.formConditions.fld Fd.RACK_FRAME_FRAME = d.fld Fd.RACK_FRAME_FRAME := by
    refine Dev.fld_congr ?_
    unfold Dev.formConditions
    rw [Dev.reg_evtIf_other (by decide), Dev.reg_put_other (by decide), Dev.reg_put_other (by decide)]
  unfold Dev.release
  dsimp only
  split
  · rw [cond, run, frame]
  · rw [run, frame]

/-- R75, R99: at the release every present string that is ready enters ENUM with STR_EN high. -/
theorem Dev.enumerating_release {k : Nat} (hk : k < 8) (hp : d.present k = true) (hr : d.ready k) :
    d.release.enumerating k := by
  have before : ∃ e : Dev, e.footing = d.footing ∧ d.release =
      let x := (((e.each e.strs Dev.releaseStr).startMapLoad.put Fd.SYS_STATE_STATE 1).rackFrame 0).sysRunCheck 0
      if x.islandOk islLid then x.formConditions else x := by
    refine ⟨_, ?_, rfl⟩
    unfold Dev.groupDelay
    rw [Dev.footing_put, Dev.footing_put, Dev.each_same Dev.footing (fun _ _ => Dev.footing_releasePort),
      Dev.footing_tickCopy, Dev.footing_releaseCounts]
  obtain ⟨e, he, heq⟩ := before
  have inStrs : k ∈ e.strs := by
    rw [Dev.strs_of_footing he]
    simp only [Dev.strs, List.mem_filter, hp, and_true]
    simp [strings8]; omega
  have small : ∀ j ∈ e.strs, j < 8 := by
    intro j hj
    have := (List.mem_filter.1 hj).1
    simp [strings8] at this; omega
  have strings := Dev.enumerating_releaseStrs hk e.strs e small (Dev.ready_of_footing he hr) (.inl inStrs)
  have after : d.release.stance = (e.each e.strs Dev.releaseStr).stance := by
    rw [heq]
    dsimp only
    split <;> simp (disch := decide) only [Dev.stance_formConditions, Dev.stance_sysRunCheck, Dev.stance_rackFrame,
      Dev.stance_put, Dev.stance_startMapLoad]
  exact Dev.enumerating_congr after strings

/-- Settles O19: a present string with a working island is ready at the release, and a ready string enters ENUM. -/
theorem releaseStartsTheClock : Obligations.ReleaseStartsTheClock := by
  intro s hdue
  have hsh : s.dev.pwr.shutdown = false := by
    simp only [Dev.releaseDue, Bool.and_eq_true, Bool.not_eq_true'] at hdue
    exact hdue.1.2
  refine ⟨{ s with env := { s.env with tick := 0, started := true }, dev := s.dev.release }, ?_, rfl, rfl, rfl,
    Dev.rackFrame_of_release, fun k hk hp _ hi => Dev.enumerating_release hk hp ⟨hsh, hi⟩⟩
  show execReleaseTick s = _
  simp [execReleaseTick, onEnvDev, hdue]

end Sys2Proof.Machine
end

section
/-! A tick (R3, R48, R165): what it captures, and what the copies of the tick number become. -/
namespace Sys2Proof.Machine

variable {d : Dev}

/-! ### Upsets, captures and the copies of the tick number -/

/-- Upsets change check bits and nothing else (R406). -/
theorem Dev.upsets_eq (ups : List Upset) : ∀ d : Dev, ∃ x, ups.foldl Dev.eccUpset d = { d with ecc := x } := by
  induction ups with
  | nil => intro d; exact ⟨_, rfl⟩
  | cons u t ih => intro d; obtain ⟨x, hx⟩ := ih (d.eccUpset u); exact ⟨x, hx⟩

/-- What captures and the background slot of a tick have in common: the inputs of the Sieve and the power controller. -/
def Dev.sensing (d : Dev) : Vector SieveIn 20 × Power := (d.sieve, d.pwr)

theorem Dev.sensing_put {f : Fld} {v : Nat} : (d.put f v).sensing = d.sensing := (rfl)
theorem Dev.sensing_bump {f : Fld} : (d.bump f).sensing = d.sensing := (rfl)
theorem Dev.sensing_evt {f : Fld} : (d.evt f).sensing = d.sensing := (rfl)
theorem Dev.sensing_modBg {f : BgSt → BgSt} : (d.modBg f).sensing = d.sensing := (rfl)
theorem Dev.sensing_setScrub {m : Nat} {x : ScrubSt} : (d.setScrub m x).sensing = d.sensing := (rfl)
theorem Dev.sensing_ecc {x : List (Nat × Nat)} : ({ d with ecc := x } : Dev).sensing = d.sensing := (rfl)

theorem Dev.sensing_evtIf {c : Bool} {f : Fld} : (d.evtIf c f).sensing = d.sensing := by
  unfold Dev.evtIf; split
  · exact Dev.sensing_evt
  · rfl

theorem Dev.sensing_scrubAdvance {m : Nat} : (d.scrubAdvance m).sensing = d.sensing := by
  unfold Dev.scrubAdvance
  dsimp only
  split
  · rw [Dev.sensing_evtIf, Dev.sensing_bump, Dev.sensing_setScrub]
  · exact Dev.sensing_setScrub

theorem Dev.sensing_scrubCycle {m : Nat} {last : Bool} : (d.scrubCycle m last).sensing = d.sensing := by
  unfold Dev.scrubCycle
  dsimp only
  split
  · rw [Dev.sensing_scrubAdvance]
    split
    · exact Dev.sensing_bump
    · rw [Dev.sensing_evt, Dev.sensing_bump, Dev.sensing_ecc]
  split
  · split
    · exact Dev.sensing_bump
    · exact Dev.sensing_setScrub
  split
  · rw [Dev.sensing_scrubAdvance, Dev.sensing_evt, Dev.sensing_put, Dev.sensing_put, Dev.sensing_bump]
  · exact Dev.sensing_scrubAdvance

theorem Dev.sensing_cutRound {t slots want : Nat} : (d.cutRound t slots want).sensing = d.sensing := by
  unfold Dev.cutRound; split
  · exact Dev.sensing_bump
  · rfl

theorem Dev.sensing_senseTick : d.senseTick.sensing = d.sensing := by
  unfold Dev.senseTick; dsimp only; split
  · exact Dev.sensing_modBg
  · rfl

theorem Dev.sensing_cellTick {t : Nat} : (d.cellTick t).sensing = d.sensing := by
  unfold Dev.cellTick; dsimp only; split
  · exact Dev.sensing_modBg
  · rfl

theorem Dev.sensing_scrubTick {t : Nat} : (d.scrubTick t).sensing = d.sensing := by
  unfold Dev.scrubTick; split
  · rfl
  · split
    · exact Dev.sensing_scrubCycle
    · rfl

/-- The background slot's share of a tick leaves captures and the power controller alone. -/
theorem Dev.sensing_slotTick {t : Nat} : (d.slotTick t).sensing = d.sensing := by
  unfold Dev.slotTick
  dsimp only
  split
  · rfl
  split
  · rw [Dev.sensing_cutRound, Dev.sensing_senseTick]
  split
  · rw [Dev.sensing_cutRound, Dev.sensing_cellTick]
  · exact Dev.sensing_scrubTick

/-! ### Captured bits (R165) -/

/-- An update that keeps a part of what it changes keeps that part of every entry of the vector. -/
theorem vat_vmod_part {α β : Type} [Inhabited α] {n : Nat} {v : Vector α n} {i j : Nat} {f : α → α} (g : α → β)
    (h : ∀ x, g (f x) = g x) : g (vat (vmod v i f) j) = g (vat v j) := by
  by_cases hj : j = i
  · subst hj
    by_cases hn : j < n
    · rw [vat_vmod_same hn, h]
    · simp only [vat, vmod, Vector.getD, Vector.toArray_setIfInBounds, Array.getD_eq_getD_getElem?]
      rw [Array.setIfInBounds_eq_of_size_le (by simpa using hn)]
  · rw [vat_vmod_other hj]

/-- Entry n after each of the first m entries was changed. -/
theorem Dev.sieve_each_modSieve (f : Nat → SieveIn → SieveIn) {n : Nat} (hn : n < 20) : ∀ m : Nat,
    vat (d.each (upTo m) (fun d i => d.modSieve i (f i))).sieve n = if n < m then f n (vat d.sieve n) else vat d.sieve n
  | 0 => rfl
  | m + 1 => by
    have ih := Dev.sieve_each_modSieve f hn m
    simp only [Dev.each, upTo, List.foldl_append, List.foldl_cons, List.foldl_nil] at ih ⊢
    rw [Dev.modSieve_sieve]
    by_cases h : n = m
    · subst h
      rw [vat_vmod_same hn, ih]
      simp
    · rw [vat_vmod_other h, ih]
      have : n < m + 1 ↔ n < m := by omega
      simp [this]

/-- R165: input n takes in the bits of the two edges, the later one newest. -/
theorem Dev.bits_capture {a b : BitVec 20} {n : Nat} (hn : n < 20) (hi : d.islandOk islSieve = true) :
    (vat (d.capture a b).sieve n).bits = (b.getLsbD n :: a.getLsbD n :: (vat d.sieve n).bits).take 320 := by
  unfold Dev.capture
  rw [if_pos hi, inputs20, Dev.sieve_each_modSieve (fun n x => { x with bits := (b.getLsbD n :: a.getLsbD n :: x.bits).take 320 }) hn,
    if_pos hn]

theorem Dev.pwr_capture {a b : BitVec 20} : (d.capture a b).pwr = d.pwr := by
  unfold Dev.capture; split
  · exact Dev.each_same Dev.pwr (fun _ _ => Dev.modSieve_pwr _ _ _) _ _
  · rfl

theorem Dev.sieve_countSat {f : Fld} {x y : Int} : (d.countSat f x y).sieve = d.sieve := by
  unfold Dev.countSat; split
  · rfl
  · rw [Dev.evt_sieve, Dev.bump_sieve]

theorem Dev.pwr_countSat {f : Fld} {x y : Int} : (d.countSat f x y).pwr = d.pwr := by
  unfold Dev.countSat; split
  · rfl
  · rw [Dev.evt_pwr, Dev.bump_pwr]

/-- Stage 1 leaves the captured bits alone. -/
theorem Dev.bits_stage1 {t n : Nat} : (vat (d.stage1 t).sieve n).bits = (vat d.sieve n).bits := by
  unfold Dev.stage1
  dsimp only
  split
  · refine Dev.each_same (fun d => (vat d.sieve n).bits) (fun d i => ?_) _ _
    rw [Dev.sieve_countSat, Dev.modSieve_sieve]
    exact vat_vmod_part SieveIn.bits (fun _ => rfl)
  · rfl

theorem Dev.pwr_stage1 {t : Nat} : (d.stage1 t).pwr = d.pwr := by
  unfold Dev.stage1
  dsimp only
  split
  · refine Dev.each_same Dev.pwr (fun d i => ?_) _ _
    rw [Dev.pwr_countSat, Dev.modSieve_pwr]
  · rfl

theorem Dev.sieve_copyTick {slips : List Slip} : (d.copyTick slips).sieve = d.sieve := (rfl)

/-- R48: with no slip, the copy of an island whose clock works advances by one. -/
theorem Dev.tickCopy_copyTick {i : Nat} (hi : i < 15) :
    vat (d.copyTick []).pwr.tickCopy i = vat d.pwr.tickCopy i + if d.islandOk i then 1 else 0 := by
  simp [Dev.copyTick, vat, Vector.getD, hi, copyStep]

/-! ### The inputs that the part senses (R40, R42) -/

/-- The mask of the inputs: monitors and strings 0 to 3 always, a string of the upper four where `m` has its bit. -/
theorem sensedMask_bit : ∀ m < 16, ∀ n < 20, (BitVec.ofNat 20 (0xF0F0F + m * 0x1010)).getLsbD n =
    (decide (n % 8 < 4) || decide (16 ≤ n) || tbit m (n % 8 - 4)) := by
  decide

theorem tbit_eq_testBit (n i : Nat) : tbit n i = n.testBit i := by
  rw [Nat.testBit_eq_decide_div_mod_eq]; rfl

theorem tbit_bits {x lo w i : Nat} (h : i < w) : tbit (bits x lo w) i = tbit x (lo + i) := by
  simp only [tbit_eq_testBit, bits, Nat.testBit_mod_two_pow, Nat.testBit_div_two_pow, h, decide_true, Bool.true_and]
  rw [Nat.add_comm]

/-- Whether input n is sensed: a monitor, a string of the lower four, or on an FJC-840 one that the image declares present. -/
def Dev.senses (d : Dev) (e : Env) (n : Nat) : Bool :=
  decide (n % 8 < 4) || decide (16 ≤ n) || (!e.fuses.is440 && d.present (n % 8))

theorem Dev.sensed_bit {e : Env} {sd : BitVec 20} {n : Nat} (hn : n < 20) :
    (d.sensed e sd).getLsbD n = (sd.getLsbD n && d.senses e n) := by
  have hm : (if e.fuses.is440 then 0 else bits d.img.cfg.strings 4 4 * 0x1010) =
      (if e.fuses.is440 then 0 else bits d.img.cfg.strings 4 4) * 0x1010 := by split <;> simp
  have lt : (if e.fuses.is440 then 0 else bits d.img.cfg.strings 4 4) < 16 := by
    split
    · decide
    · exact Nat.mod_lt _ (by decide)
  rw [Dev.sensed, BitVec.getLsbD_and, hm, sensedMask_bit _ lt n hn, Dev.senses]
  by_cases h4 : n % 8 < 4
  · simp [h4]
  · cases e.fuses.is440
    · have h : 4 + (n % 8 - 4) = n % 8 := by omega
      rw [if_neg (by decide), tbit_bits (by omega), h]; rfl
    · simp [tbit]

/-! ### A tick -/

/-- R165: what a tick of the foreground leaves of the bits of input n. -/
theorem Dev.bits_tickEnd {e : Env} {a b : BitVec 20} {ups : List Upset} {slips : List Slip} {n : Nat} (hn : n < 20)
    (hs : e.started = true) (hi : d.islandOk islSieve = true) :
    (vat (d.tickEnd e a b ups slips).sieve n).bits =
      ((b.getLsbD n && d.senses e n) :: (a.getLsbD n && d.senses e n) :: (vat d.sieve n).bits).take 320 := by
  obtain ⟨x, hx⟩ := Dev.upsets_eq ups d
  have slot (d : Dev) (t : Nat) : (d.slotTick t).sieve = d.sieve := congrArg Prod.fst Dev.sensing_slotTick
  unfold Dev.tickEnd
  dsimp only
  rw [hx, if_pos hs, slot, Dev.sieve_copyTick, Dev.bits_stage1, Dev.bits_capture hn (by exact hi),
    Dev.sensed_bit hn, Dev.sensed_bit hn]
  rfl

/-- R48: what a tick of the foreground without slips leaves of the copy of island i. -/
theorem Dev.tickCopy_tickEnd {e : Env} {a b : BitVec 20} {ups : List Upset} {i : Nat} (hi : i < 15) (hs : e.started = true) :
    vat (d.tickEnd e a b ups []).pwr.tickCopy i = vat d.pwr.tickCopy i + if d.islandOk i then 1 else 0 := by
  obtain ⟨x, hx⟩ := Dev.upsets_eq ups d
  have slot (d : Dev) (t : Nat) : (d.slotTick t).pwr = d.pwr := congrArg Prod.snd Dev.sensing_slotTick
  have ok {d e : Dev} (h : d.pwr = e.pwr) : d.islandOk i = e.islandOk i := by simp only [Dev.islandOk, Dev.domRun, h]
  have hp (d : Dev) (a b : BitVec 20) (t : Nat) : ((d.capture a b).stage1 t).pwr = d.pwr := by
    rw [Dev.pwr_stage1, Dev.pwr_capture]
  unfold Dev.tickEnd
  dsimp only
  rw [hx, if_pos hs, slot, Dev.tickCopy_copyTick hi, ok (hp _ _ _ _), hp]
  rfl

theorem Dev.applyTick_idle {e : Env} (h : ∀ c, d.img.phase ≠ .apply c) : d.applyTick e = d := by
  unfold Dev.applyTick
  split
  next c hc => exact absurd hc (h c)
  next => rfl

/-- Before the release tick and outside an apply pass, a tick brings upsets alone. -/
theorem Dev.tickEnd_idle {e : Env} {a b : BitVec 20} {ups : List Upset} {slips : List Slip} (hs : e.started = false)
    (hp : ∀ c, d.img.phase ≠ .apply c) : d.tickEnd e a b ups slips = ups.foldl Dev.eccUpset d := by
  have himg : (ups.foldl Dev.eccUpset d).img = d.img := by
    obtain ⟨x, hx⟩ := Dev.upsets_eq ups d
    rw [hx]
  unfold Dev.tickEnd
  dsimp only
  rw [hs, if_neg (by decide)]
  exact Dev.applyTick_idle (by rwa [himg])

/-- Settles O21: a tick that elapses is `Env.advance` with `Dev.tickEnd`, and its captures are the sensed bits. -/
theorem tickAdvancesAndCaptures : Obligations.TickAdvancesAndCaptures := by
  intro a b ups slips s
  refine ⟨fun hr => ⟨{ s with env := s.env.advance s.dev.pwr.locked
                              dev := s.dev.tickEnd (s.env.advance s.dev.pwr.locked) a b ups slips },
    ?_, rfl, rfl, rfl, fun hs hp => Dev.tickEnd_idle hs hp, fun hs hi n hn => ?_, ?_⟩, fun hr => ?_⟩
  · show execTick a b ⟨ups, slips⟩ s = _
    simp [execTick, onEnvDev, hr]
  · have bits := Dev.bits_tickEnd (e := s.env.advance s.dev.pwr.locked) (a := a) (b := b) (ups := ups) (slips := slips) hn hs hi
    have senses : s.dev.senses (s.env.advance s.dev.pwr.locked) n = true ↔
        n % 8 < 4 ∨ 16 ≤ n ∨ s.env.fuses.is440 = false ∧ s.dev.present (n % 8) = true := by
      simp [Dev.senses, Env.advance, or_assoc]
    refine ⟨fun here => ?_, fun gone => ?_⟩
    · simpa [senses.2 here] using bits
    · simpa [Bool.eq_false_iff.2 (fun h => gone (senses.1 h))] using bits
  · rintro hs rfl i hi
    have lt : ∀ i ∈ copyIslands, i < 15 := by decide
    exact Dev.tickCopy_tickEnd (lt i hi) hs
  · show execTick a b ⟨ups, slips⟩ s = _
    simp [execTick, onEnvDev, hr]

end Sys2Proof.Machine
end

section
/-! Issue ticks (R5, R104, R231): whatever a string takes up, commands and sends at its tick is its own, and in ARMED the cell
whose turn it is gets its zero form. -/
namespace Sys2Proof.Machine
variable {d : Dev} {j k : Nat}

/-! ### Updates of string k and another string -/

theorem Dev.st_put {f : Fld} {v : Nat} : (d.put f v).st j = d.st j := (rfl)
theorem Dev.st_putB {f : Fld} {v : Bool} : (d.putB f v).st j = d.st j := (rfl)
theorem Dev.st_bump {f : Fld} : (d.bump f).st j = d.st j := (rfl)
theorem Dev.st_evt {f : Fld} : (d.evt f).st j = d.st j := (rfl)
theorem Dev.st_setPhase {ph : Nat} : (d.setPhase k ph).st j = d.st j := (rfl)
theorem Dev.st_modTest {f : TestSt → TestSt} : (d.modTest k f).st j = d.st j := (rfl)
theorem Dev.st_winShow {i n : Nat} : (d.winShow k i n).st j = d.st j := by
  unfold Dev.winShow
  split_ifs <;> simp only [Dev.st_put]
theorem Dev.st_eccWriteRange {m lo hi : Nat} : (d.eccWriteRange m lo hi).st j = d.st j := by
  unfold Dev.eccWriteRange
  dsimp only
  split <;> rfl

theorem Dev.st_morClear : (d.morClear k).st j = d.st j := by
  unfold Dev.morClear
  rw [Dev.st_bump, Dev.st_eccWriteRange]
  rfl

theorem Dev.st_resetZf : (d.resetZf k).st j = d.st j :=
  Dev.each_same (fun d => d.st j) (fun _ _ => Dev.st_putB) _ _

theorem Dev.st_tripCount : (d.tripCount k).st j = d.st j := by
  unfold Dev.tripCount; rw [Dev.st_evt, Dev.st_bump]

theorem Dev.st_merge {cause t : Nat} : (d.merge k cause t).st j = d.st j := by
  unfold Dev.merge; rw [Dev.st_evt, Dev.st_put, Dev.st_put, Dev.st_bump]

theorem Dev.st_markBypassed {p : Nat} : (d.markBypassed k p).st j = d.st j := Dev.st_put

theorem Dev.st_testCommand {q : Nat} : (d.testCommand k q).1.st j = d.st j := by
  unfold Dev.testCommand
  dsimp only
  split
  · exact Dev.st_modTest
  split
  · exact Dev.st_modTest
  split
  · split_ifs <;> simp only [Dev.st_modTest]
  · rfl

/-! ### What falls due at a tick -/

/-- R296: the boundary trips that are due leave the list. -/
def Dev.dropDue (d : Dev) (k t : Nat) : Dev := d.modPr k (fun p => { p with due := p.due.filter (fun x => t < x.2) })

/-- R215: a modulation index that is due. -/
def Dev.takeMi (d : Dev) (k t : Nat) : Dev := match (d.st k).ctl.miNext with
  | some (m, w) => if w ≤ t then d.modCtl k (fun c => { c with mi := m, miNext := none }) else d
  | none => d

/-- R181: a current reference that is due. -/
def Dev.takeIref (d : Dev) (k t : Nat) : Dev := match (d.st k).ctl.irefNext with
  | some (i, w) => if w ≤ t then d.modCtl k (fun c => { c with iref := i, irefNext := none }) else d
  | none => d

/-- R214, R217: a change of mode that is due. -/
def Dev.takeMode (d : Dev) (k t : Nat) : Dev := match (d.st k).ctl.modeNext with
  | some (m, w) => if w ≤ t then (if m == 2 then d.enterFallback k w else d.leaveFallback k) else d
  | none => d

theorem Dev.takeDue_eq {t : Nat} : d.takeDue k t =
    ((d.st k).pr.due.filter (fun x => x.2 ≤ t)).foldl (fun d x => d.trip k x.1 x.2)
      ((((d.dropDue k t).takeMi k t).takeIref k t).takeMode k t) := by
  unfold Dev.takeDue Dev.takeMode Dev.takeIref Dev.takeMi Dev.dropDue
  rfl

section
variable (h : j ≠ k)
include h

theorem Dev.st_modCtl_other {f : Ctl → Ctl} : (d.modCtl k f).st j = d.st j := Dev.st_modStr_other h
theorem Dev.st_modMor_other {f : MortarSt → MortarSt} : (d.modMor k f).st j = d.st j := Dev.st_modStr_other h
theorem Dev.st_modFb_other {f : FbSt → FbSt} : (d.modFb k f).st j = d.st j := Dev.st_modStr_other h
theorem Dev.st_modWh_other {f : WhiskSt → WhiskSt} : (d.modWh k f).st j = d.st j := Dev.st_modStr_other h
theorem Dev.st_modPr_other {f : ProtSt → ProtSt} : (d.modPr k f).st j = d.st j := Dev.st_modStr_other h
theorem Dev.st_modCell_other {p : Nat} {f : CellC → CellC} : (d.modCell k p f).st j = d.st j := Dev.st_modStr_other h

theorem Dev.st_injStop_other : (d.injStop k).st j = d.st j := by
  unfold Dev.injStop; rw [Dev.st_putB, Dev.st_modCtl_other h]

theorem Dev.st_capEnd_other : (d.capEnd k).st j = d.st j := by
  unfold Dev.capEnd; split
  · rw [Dev.st_evt, Dev.st_putB, Dev.st_putB, Dev.st_modCtl_other h]
  · rfl

theorem Dev.st_morSet_other {st step g : Nat} : (d.morSet k st step g).st j = d.st j := by
  unfold Dev.morSet; rw [Dev.st_put, Dev.st_put, Dev.st_put, Dev.st_modMor_other h]

theorem Dev.st_morSuspendNow_other : (d.morSuspendNow k).st j = d.st j := by
  unfold Dev.morSuspendNow; split
  · rfl
  · exact Dev.st_morSet_other h

theorem Dev.st_morResume_other : (d.morResume k).st j = d.st j := by
  unfold Dev.morResume
  split
  · split
    · exact Dev.st_morSet_other h
    · rw [Dev.st_morSet_other h, Dev.st_morClear]
  · rfl

theorem Dev.st_winEvent_other {i t : Nat} : (d.winEvent k i t).1.st j = d.st j := by
  unfold Dev.winEvent Dev.winPut
  rw [Dev.st_winShow, Dev.st_modPr_other h]

theorem Dev.st_leaveRun_other : (d.leaveRun k).st j = d.st j := by
  have good : (if d.inFallback k then d.put (Fd.CHk_FB_STATUS_GOOD k) 0 else d).st j = d.st j := by
    split
    · exact Dev.st_put
    · rfl
  unfold Dev.leaveRun
  simp only [Dev.st_modPr_other h, Dev.st_modWh_other h, Dev.st_modCtl_other h, Dev.st_put, Dev.st_putB,
    Dev.st_morSet_other h, Dev.st_capEnd_other h, Dev.st_injStop_other h, good]

theorem Dev.st_enterFallback_other {t : Nat} : (d.enterFallback k t).st j = d.st j := by
  unfold Dev.enterFallback
  dsimp only
  split <;> simp only [Dev.st_evt, Dev.st_putB, Dev.st_winEvent_other h, Dev.st_morSuspendNow_other h, Dev.st_injStop_other h,
    Dev.st_modWh_other h, Dev.st_modCtl_other h, Dev.st_bump, Dev.st_put]

theorem Dev.st_leaveFallback_other : (d.leaveFallback k).st j = d.st j := by
  unfold Dev.leaveFallback
  simp only [Dev.st_morResume_other h, Dev.st_resetZf, Dev.st_modCtl_other h, Dev.st_evt, Dev.st_bump, Dev.st_put]

/-! ### Trips -/

theorem Dev.st_latchStr_other : (d.latchStr k).st j = d.st j := by
  unfold Dev.latchStr
  rw [Dev.st_evt, Dev.st_modPr_other h, Dev.st_put, Dev.st_setPhase]

theorem Dev.st_startForcing_other : (d.startForcing k).st j = d.st j := by
  unfold Dev.startForcing
  rw [Dev.st_put, Dev.st_modPr_other h]

theorem Dev.st_tripSet_other {cause t : Nat} : (d.tripSet k cause t).st j = d.st j := by
  unfold Dev.tripSet
  simp only [Dev.st_modPr_other h, Dev.st_putB, Dev.st_put]

theorem Dev.st_tripInSafe_other {cause t before : Nat} : (d.tripInSafe k cause t before).st j = d.st j := by
  unfold Dev.tripInSafe
  dsimp only
  split
  · rw [Dev.st_startForcing_other h, Dev.st_modPr_other h, Dev.st_tripSet_other h]
  · split
    · rw [Dev.st_latchStr_other h, Dev.st_modPr_other h, Dev.st_tripSet_other h]
    · rw [Dev.st_put, Dev.st_modPr_other h, Dev.st_tripSet_other h]

theorem Dev.st_trip_other {cause t : Nat} : (d.trip k cause t).st j = d.st j := by
  unfold Dev.trip
  dsimp only
  split
  · rw [Dev.st_modPr_other h, Dev.st_startForcing_other h, Dev.st_tripCount, Dev.st_tripSet_other h, Dev.st_setPhase,
      Dev.st_leaveRun_other h]
  split
  · split
    · split
      · rw [Dev.st_merge, Dev.st_tripSet_other h]
      · exact Dev.st_merge
    split
    · rfl
    split
    · split
      · rw [Dev.st_merge, Dev.st_tripInSafe_other h]
      · exact Dev.st_merge
    · rw [Dev.st_tripInSafe_other h, Dev.st_tripCount]
  · rfl

theorem Dev.st_takeMi_other {t : Nat} : (d.takeMi k t).st j = d.st j := by
  unfold Dev.takeMi
  split
  · split
    · exact Dev.st_modCtl_other h
    · rfl
  · rfl

theorem Dev.st_takeIref_other {t : Nat} : (d.takeIref k t).st j = d.st j := by
  unfold Dev.takeIref
  split
  · split
    · exact Dev.st_modCtl_other h
    · rfl
  · rfl

theorem Dev.st_takeMode_other {t : Nat} : (d.takeMode k t).st j = d.st j := by
  unfold Dev.takeMode
  split
  · split
    · split
      · exact Dev.st_enterFallback_other h
      · exact Dev.st_leaveFallback_other h
    · rfl
  · rfl

theorem Dev.st_takeDue_other {t : Nat} : (d.takeDue k t).st j = d.st j := by
  have trips (l : List (Nat × Nat)) : ∀ d : Dev, (l.foldl (fun d x => d.trip k x.1 x.2) d).st j = d.st j := by
    induction l with
    | nil => intro d; rfl
    | cons x l ih => intro d; exact (ih _).trans (Dev.st_trip_other h)
  rw [Dev.takeDue_eq, trips, Dev.st_takeMode_other h, Dev.st_takeIref_other h, Dev.st_takeMi_other h]
  exact Dev.st_modPr_other h

/-! ### Commands -/

theorem Dev.st_command_other {p st q : Nat} : (d.command k p st q).st j = d.st j := by
  unfold Dev.command
  dsimp only
  split
  · rw [Dev.st_markBypassed, Dev.st_modCell_other h, Dev.st_put, Dev.st_put]
  · rw [Dev.st_modCell_other h, Dev.st_put, Dev.st_put]

theorem Dev.st_commandZero_other {p q : Nat} : (d.commandZero k p q).st j = d.st j := by
  unfold Dev.commandZero; rw [Dev.st_putB, Dev.st_command_other h]

theorem Dev.st_commandTo_other {p q : Nat} {l : Int} : (d.commandTo k p l q).st j = d.st j := by
  unfold Dev.commandTo
  split_ifs
  · exact Dev.st_command_other h
  · exact Dev.st_command_other h
  · exact Dev.st_commandZero_other h

theorem Dev.st_levelStep_other {up : Bool} {im : Int} {q : Nat} : (d.levelStep k up im q).1.st j = d.st j := by
  unfold Dev.levelStep
  dsimp only
  generalize (if up then (1 : Int) else -1) = dir
  split
  · rfl
  · split
    · rfl
    · exact Dev.st_commandTo_other h

theorem Dev.st_startPair_other {q : Nat} {pl : PairPlan} {first : Bool} : (d.startPair k q pl first).st j = d.st j := by
  unfold Dev.startPair
  rw [Dev.st_modWh_other h, Dev.st_bump, Dev.st_commandTo_other h]

theorem Dev.st_closePair_other {q : Nat} {pr : Pair} : (d.closePair k q pr).st j = d.st j := by
  unfold Dev.closePair
  dsimp only
  split
  · rw [Dev.st_commandZero_other h, Dev.st_modWh_other h]
  · rw [Dev.st_command_other h, Dev.st_modWh_other h]

theorem Dev.st_forceCells_other {q : Nat} : (d.forceCells k q).1.st j = d.st j := by
  unfold Dev.forceCells
  rw [Dev.st_modPr_other h]
  refine Dev.each_same (fun d => d.st j) (fun d p => ?_) _ _
  split
  · exact Dev.st_command_other h
  · exact Dev.st_commandZero_other h

theorem Dev.st_armedCommand_other {q : Nat} : (d.armedCommand k q).1.st j = d.st j := by
  unfold Dev.armedCommand
  dsimp only
  split
  · split
    · rfl
    · exact Dev.st_command_other h
  · split
    · rw [Dev.st_modCell_other h, Dev.st_command_other h]
    · rfl

theorem Dev.st_fallbackCommand_other {q : Nat} : (d.fallbackCommand k q).1.st j = d.st j := by
  unfold Dev.fallbackCommand
  split
  · exact Dev.st_command_other h
  · split
    · exact Dev.st_command_other h
    · rfl

theorem Dev.st_whiskCommand_other {q : Nat} : (d.whiskCommand k q).1.st j = d.st j := by
  have step (up : Bool) (im : Int) : ((d.modWh k (fun w => { w with pair := none })).levelStep k up im q).1.st j = d.st j := by
    rw [Dev.st_levelStep_other h, Dev.st_modWh_other h]
  unfold Dev.whiskCommand
  dsimp only
  generalize (d.st k).ctl.dec.find? (fun y => decide (y.t + 2 ≤ q)) = dec
  -- with a decision read or with none: a wanted step, or else a pair, a bypass, a rest or a new pair
  cases dec
  all_goals
    dsimp only
    split
    · split
      · rw [Dev.st_modCtl_other h, step]
      · rw [Dev.st_bump, step]
      · rw [Dev.st_modCtl_other h]
        split
        · rw [Dev.st_put, step]
        · rw [Dev.st_put, Dev.st_put, step]
    split
    · exact Dev.st_closePair_other h
    split
    · rw [Dev.st_command_other h, Dev.st_modWh_other h]
    split
    · rw [Dev.st_command_other h, Dev.st_modWh_other h]
    split
    · rw [Dev.st_startPair_other h, Dev.st_modWh_other h]
    · exact Dev.st_modWh_other h

theorem Dev.st_issueCommand_other {q : Nat} : (d.issueCommand k q).1.st j = d.st j := by
  unfold Dev.issueCommand
  dsimp only
  split
  · split
    · exact Dev.st_forceCells_other h
    · rfl
  split
  · exact Dev.st_armedCommand_other h
  split
  · have test := Dev.st_testCommand (d := d) (j := j) (k := k) (q := q)
    split
    next e p st heq => rw [heq] at test; rw [Dev.st_command_other h]; exact test
    next e heq => rw [heq] at test; exact test
  split
  · split
    · exact Dev.st_whiskCommand_other h
    · split
      · exact Dev.st_fallbackCommand_other h
      · rfl
  · rfl

/-! ### Frames -/

theorem Dev.st_sendFrame_other {p q : Nat} {cmd : Bool} : (d.sendFrame k p q cmd).st j = d.st j := by
  have send (d : Dev) (m : Bool) (l : List Nat) : (d.sendBytes k p m l).st j = d.st j := Dev.st_modCell_other h
  unfold Dev.sendFrame
  dsimp only
  split
  · rw [Dev.st_modCell_other h, send]
  split
  · split
    · rw [Dev.st_modCell_other h, send]
    · exact send _ _ _
  · exact Dev.st_modCell_other h

theorem Dev.st_sendFrames_other {q : Nat} {cmds : List Nat} : (d.sendFrames k q cmds).st j = d.st j := by
  unfold Dev.sendFrames
  split
  · exact Dev.each_same (fun d => d.st j) (fun _ _ => Dev.st_sendFrame_other h) _ _
  · rfl

theorem Dev.st_noteV_other {t : Nat} : (d.noteV k t).st j = d.st j := by
  unfold Dev.noteV
  dsimp only
  split
  · exact Dev.st_modFb_other h
  · rfl

end

/-- R5, R231: an issue tick leaves every string but the one whose phase it is. -/
theorem Dev.st_issue_other {q : Nat} (h : j ≠ q % 8) : (d.issue q).st j = d.st j := by
  unfold Dev.issue
  dsimp only
  split
  · rw [Dev.st_noteV_other h, Dev.st_sendFrames_other h, Dev.st_issueCommand_other h, Dev.st_takeDue_other h]
  · rfl

/-! ### ARMED: what falls due changes neither roles nor marks, and the cell whose turn it is gets its zero form (R104) -/

/-- The registers that say whether string k commands a cell in ARMED: the states of the strings, the string's marks, and the
acknowledgements of the cells. -/
def Spared (k a : Nat) : Prop := a = Reg.SYS_STR_STATE ∨ a = Reg.CHk_WH_MARKS k ∨ ∃ c, a = Reg.CELLc_ACK c

/-- Any other register of the string's block is none of them. -/
theorem chReg_ne {k a c : Nat} (hk : k < 8) (ha : Spared k a) (hc : 0x8000 ≤ c ∧ c < 0x9000 ∧ c ≠ 0x831C) :
    c + 0x1000 * k ≠ a := by
  rcases ha with rfl | rfl | ⟨n, rfl⟩ <;> simp only [Reg.SYS_STR_STATE, Reg.CHk_WH_MARKS, Reg.CELLc_ACK] <;> omega

/-- A register of the block with the active queue of string k. -/
def Dev.roster (d : Dev) (k a : Nat) : Word × List Nat := (d.reg a, d.aq k)

theorem Dev.fld_of_roster {e : Dev} {f : Fld} (h : e.roster k f.addr = d.roster k f.addr) : e.fld f = d.fld f :=
  Dev.fld_congr (congrArg Prod.fst h)

section
variable {a : Nat}

theorem Dev.roster_put {f : Fld} {v : Nat} (h : f.addr ≠ a) : (d.put f v).roster k a = d.roster k a :=
  Prod.ext (Dev.reg_put_other h.symm) rfl
theorem Dev.roster_putB {f : Fld} {v : Bool} (h : f.addr ≠ a) : (d.putB f v).roster k a = d.roster k a := Dev.roster_put h
theorem Dev.roster_bump {f : Fld} (h : f.addr ≠ a) : (d.bump f).roster k a = d.roster k a := Dev.roster_put h
theorem Dev.roster_evt {f : Fld} (h : f.addr ≠ a) : (d.evt f).roster k a = d.roster k a := Dev.roster_put h

/-- A change of a string that keeps its active queue keeps the roster. -/
theorem Dev.roster_modStr {f : Str → Str} (h : ∀ x, (f x).wh.aq = x.wh.aq) : (d.modStr k f).roster k a = d.roster k a :=
  Prod.ext rfl (vat_vmod_part (fun x : Str => x.wh.aq) h)

theorem Dev.roster_modCtl {f : Ctl → Ctl} : (d.modCtl k f).roster k a = d.roster k a := Dev.roster_modStr fun _ => rfl
theorem Dev.roster_modMor {f : MortarSt → MortarSt} : (d.modMor k f).roster k a = d.roster k a := Dev.roster_modStr fun _ => rfl
theorem Dev.roster_modPr {f : ProtSt → ProtSt} : (d.modPr k f).roster k a = d.roster k a := Dev.roster_modStr fun _ => rfl
theorem Dev.roster_endPair : (d.modWh k (fun w => { w with pair := none })).roster k a = d.roster k a :=
  Dev.roster_modStr fun _ => rfl

theorem Dev.roster_eccWriteRange {m lo hi : Nat} : (d.eccWriteRange m lo hi).roster k a = d.roster k a := by
  unfold Dev.eccWriteRange
  dsimp only
  split <;> rfl

section
variable (hk : k < 8) (ha : Spared k a)
include hk ha

theorem Dev.roster_winShow {i n : Nat} : (d.winShow k i n).roster k a = d.roster k a := by
  unfold Dev.winShow
  split_ifs <;>
    simp (disch := with_unfolding_all exact id (chReg_ne hk ha (of_decide_eq_true rfl))) only [Dev.roster_put]

theorem Dev.roster_winEvent {i t : Nat} : (d.winEvent k i t).1.roster k a = d.roster k a := by
  unfold Dev.winEvent Dev.winPut
  rw [Dev.roster_winShow hk ha, Dev.roster_modPr]

theorem Dev.roster_morSet {st step g : Nat} : (d.morSet k st step g).roster k a = d.roster k a := by
  unfold Dev.morSet
  simp (disch := with_unfolding_all exact id (chReg_ne hk ha (of_decide_eq_true rfl))) only [Dev.roster_put, Dev.roster_modMor]

theorem Dev.roster_morSuspendNow : (d.morSuspendNow k).roster k a = d.roster k a := by
  unfold Dev.morSuspendNow; split
  · rfl
  · exact Dev.roster_morSet hk ha

theorem Dev.roster_morClear : (d.morClear k).roster k a = d.roster k a := by
  unfold Dev.morClear
  rw [Dev.roster_bump (chReg_ne hk ha (of_decide_eq_true rfl)), Dev.roster_eccWriteRange]
  rfl

theorem Dev.roster_morResume : (d.morResume k).roster k a = d.roster k a := by
  unfold Dev.morResume
  split
  · split
    · exact Dev.roster_morSet hk ha
    · rw [Dev.roster_morSet hk ha, Dev.roster_morClear hk ha]
  · rfl

omit hk in
theorem Dev.roster_resetZf : (d.resetZf k).roster k a = d.roster k a := by
  have zf : ∀ p ∈ positions, (Fd.CHk_WH_CELLp_ZF k p).addr ≠ a := by
    intro p hp
    have : p < 7 := by simp [positions] at hp; omega
    rcases ha with rfl | rfl | ⟨n, rfl⟩ <;>
      simp only [Fd.CHk_WH_CELLp_ZF, Reg.CHk_WH_CELLp, Reg.SYS_STR_STATE, Reg.CHk_WH_MARKS, Reg.CELLc_ACK] <;> omega
  have fold : ∀ (l : List Nat), (∀ p ∈ l, (Fd.CHk_WH_CELLp_ZF k p).addr ≠ a) → ∀ (d : Dev) (g : Dev → Nat → Bool),
      (d.each l (fun d p => d.putB (Fd.CHk_WH_CELLp_ZF k p) (g d p))).roster k a = d.roster k a := by
    intro l
    induction l with
    | nil => intro _ d g; rfl
    | cons p t ih =>
      intro hl d g
      exact (ih (fun i hi => hl i (by simp [hi])) _ g).trans (Dev.roster_putB (hl p (by simp)))
  exact fold positions zf d _

theorem Dev.roster_injStop : (d.injStop k).roster k a = d.roster k a := by
  unfold Dev.injStop
  rw [Dev.roster_putB (chReg_ne hk ha (of_decide_eq_true rfl)), Dev.roster_modCtl]

theorem Dev.roster_enterFallback {t : Nat} : (d.enterFallback k t).roster k a = d.roster k a := by
  unfold Dev.enterFallback
  dsimp only
  split <;> simp (disch := with_unfolding_all exact id (chReg_ne hk ha (of_decide_eq_true rfl))) only
    [Dev.roster_evt, Dev.roster_putB, Dev.roster_winEvent hk ha, Dev.roster_morSuspendNow hk ha, Dev.roster_injStop hk ha,
      Dev.roster_endPair, Dev.roster_modCtl, Dev.roster_bump, Dev.roster_put]

theorem Dev.roster_leaveFallback : (d.leaveFallback k).roster k a = d.roster k a := by
  unfold Dev.leaveFallback
  simp (disch := with_unfolding_all exact id (chReg_ne hk ha (of_decide_eq_true rfl))) only
    [Dev.roster_morResume hk ha, Dev.roster_resetZf ha, Dev.roster_modCtl, Dev.roster_evt, Dev.roster_bump, Dev.roster_put]

theorem Dev.roster_takeMode {t : Nat} : (d.takeMode k t).roster k a = d.roster k a := by
  unfold Dev.takeMode
  split
  · split
    · split
      · exact Dev.roster_enterFallback hk ha
      · exact Dev.roster_leaveFallback hk ha
    · rfl
  · rfl

end

theorem Dev.roster_takeMi {t : Nat} : (d.takeMi k t).roster k a = d.roster k a := by
  unfold Dev.takeMi
  split
  · split
    · exact Dev.roster_modCtl
    · rfl
  · rfl

theorem Dev.roster_takeIref {t : Nat} : (d.takeIref k t).roster k a = d.roster k a := by
  unfold Dev.takeIref
  split
  · split
    · exact Dev.roster_modCtl
    · rfl
  · rfl

/-- A trip of a string in ARMED is no trip (R296). -/
theorem Dev.trip_armed {cause t : Nat} (h : d.phase k = phArmed) : d.trip k cause t = d := by
  unfold Dev.trip
  simp [Dev.inRun, h, phArmed, phRun, phSafe]

/-- What falls due for a string in ARMED leaves its roster alone. -/
theorem Dev.roster_takeDue {t : Nat} (hk : k < 8) (ha : Spared k a) (h : d.phase k = phArmed) :
    (d.takeDue k t).roster k a = d.roster k a := by
  have due (a : Nat) (ha : Spared k a) :
      ((((d.dropDue k t).takeMi k t).takeIref k t).takeMode k t).roster k a = d.roster k a := by
    rw [Dev.roster_takeMode hk ha, Dev.roster_takeIref, Dev.roster_takeMi]
    exact Dev.roster_modPr
  have armed : ((((d.dropDue k t).takeMi k t).takeIref k t).takeMode k t).phase k = phArmed :=
    (Dev.fld_of_roster (due _ (.inl rfl))).trans h
  have trips (l : List (Nat × Nat)) : ∀ d : Dev, d.phase k = phArmed → l.foldl (fun d x => d.trip k x.1 x.2) d = d := by
    induction l with
    | nil => intro d _; rfl
    | cons x l ih => intro d hd; rw [List.foldl_cons, Dev.trip_armed hd]; exact ih d hd
  rw [Dev.takeDue_eq, trips _ _ armed]
  exact due a ha

end

/-! ### A command and the frames after it -/

theorem Dev.regs_sendFrames {q : Nat} {cmds : List Nat} : (d.sendFrames k q cmds).regs = d.regs := by
  have frame (d : Dev) (p : Nat) (c : Bool) : (d.sendFrame k p q c).regs = d.regs := by
    unfold Dev.sendFrame
    dsimp only
    split_ifs <;> rfl
  unfold Dev.sendFrames
  split
  · exact Dev.each_same Dev.regs (fun d p => frame d p _) _ _
  · rfl

theorem Dev.regs_noteV {t : Nat} : (d.noteV k t).regs = d.regs := by
  unfold Dev.noteV; dsimp only; split <;> rfl

/-- A change of cells that keeps the dwell of each keeps the dwell of every cell. -/
theorem Dev.dwellFrom_modCell {p r : Nat} {f : CellC → CellC} (h : ∀ x, (f x).dwellFrom = x.dwellFrom) :
    ((d.modCell k r f).cellC k p).dwellFrom = (d.cellC k p).dwellFrom :=
  vat_vmod_part (fun x : Str => (vat x.cell p).dwellFrom) (fun _ => vat_vmod_part CellC.dwellFrom h)

theorem Dev.dwellFrom_sendBytes {p r : Nat} {m : Bool} {l : List Nat} :
    ((d.sendBytes k r m l).cellC k p).dwellFrom = (d.cellC k p).dwellFrom := Dev.dwellFrom_modCell fun _ => rfl

theorem Dev.dwellFrom_sendFrame {q p r : Nat} {cmd : Bool} :
    ((d.sendFrame k r q cmd).cellC k p).dwellFrom = (d.cellC k p).dwellFrom := by
  unfold Dev.sendFrame
  dsimp only
  split
  · rw [Dev.dwellFrom_modCell, Dev.dwellFrom_sendBytes]
    exact fun _ => rfl
  split
  · split
    · rw [Dev.dwellFrom_modCell, Dev.dwellFrom_sendBytes]
      exact fun _ => rfl
    · exact Dev.dwellFrom_sendBytes
  · rw [Dev.dwellFrom_modCell]
    exact fun _ => rfl

theorem Dev.dwellFrom_sendFrames {q p : Nat} {cmds : List Nat} :
    ((d.sendFrames k q cmds).cellC k p).dwellFrom = (d.cellC k p).dwellFrom := by
  unfold Dev.sendFrames
  split
  · exact Dev.each_same (fun d => (d.cellC k p).dwellFrom) (fun _ _ => Dev.dwellFrom_sendFrame) _ _
  · rfl

theorem Dev.dwellFrom_noteV {t p : Nat} : ((d.noteV k t).cellC k p).dwellFrom = (d.cellC k p).dwellFrom := by
  unfold Dev.noteV
  dsimp only
  split
  · exact vat_vmod_part (fun x : Str => (vat x.cell p).dwellFrom) (fun _ => rfl)
  · rfl

/-- R222, R225: what a command to a state other than BYP leaves: the state, the next SEQ and the start of the dwell. -/
theorem Dev.command_spec {p st q : Nat} (hk : k < 8) (hp : p < 7) (hs : st < 8) (hb : st ≠ stBYP) :
    (d.command k p st q).cmdOf k p = st ∧
    (d.command k p st q).fld (Fd.CELLc_ACK_SEQ (cellIx k p)) = (d.fld (Fd.CELLc_ACK_SEQ (cellIx k p)) + 1) % 8 ∧
    ((d.command k p st q).cellC k p).dwellFrom = q := by
  have apart : (Fd.CELLc_ACK_SEQ (cellIx k p)).apart (Fd.CHk_WH_CELLp_STATE k p) := by
    simp only [Fld.apart, Fd.CELLc_ACK_SEQ, Fd.CHk_WH_CELLp_STATE, Reg.CELLc_ACK, Reg.CHk_WH_CELLp]
    omega
  have fits : (Fd.CELLc_ACK_SEQ (cellIx k p)).fits ∧ (Fd.CHk_WH_CELLp_STATE k p).fits := 
    ⟨(by decide : 0 + 3 ≤ 32), (by decide : 0 + 3 ≤ 32)⟩
  have hb' : (st == stBYP) = false := by simpa using hb
  unfold Dev.command
  simp only [hb', Bool.false_eq_true, if_false]
  refine ⟨?_, ?_, ?_⟩
  · show (((d.put _ st).put _ _).fld (Fd.CHk_WH_CELLp_STATE k p)) = st
    rw [Dev.fld_put_other fits.1 apart, Dev.fld_put_same fits.2]
    exact Nat.mod_eq_of_lt hs
  · show (((d.put _ st).put _ _).fld (Fd.CELLc_ACK_SEQ (cellIx k p))) = _
    rw [Dev.fld_put_same fits.1]
    exact Nat.mod_mod _ 8
  · simp [Dev.cellC, Dev.modCell, Dev.st, hk, hp]

/-- R104: the cell whose turn it is in ARMED gets ZL in even and ZH in odd rounds. -/
theorem Dev.issue_armed {q p : Nat} (hpres : d.present (q % 8) = true) (hok : d.islandOk (islCh (q % 8)) = true)
    (hph : d.phase (q % 8) = phArmed) (hf : d.failed (q % 8) p = false)
    (hp : (sorted7 (d.aq (q % 8)))[q % 512 / 8]? = some p) :
    (d.issue q).cmdOf (q % 8) p = (if q / 512 % 2 = 0 then stZL else stZH) ∧
    (d.issue q).fld (Fd.CELLc_ACK_SEQ (cellIx (q % 8) p)) = (d.fld (Fd.CELLc_ACK_SEQ (cellIx (q % 8) p)) + 1) % 8 ∧
    ((d.issue q).cellC (q % 8) p).dwellFrom = q := by
  have hk : q % 8 < 8 := Nat.mod_lt _ (by decide)
  have hp7 : p < 7 := by
    have := (List.mem_filter.1 (List.mem_of_getElem? hp)).1
    simp [positions] at this; omega
  generalize hkq : q % 8 = k at *
  have keeps (a : Nat) (ha : Spared k a) := Dev.roster_takeDue (d := d) (t := q) hk ha hph
  have phase : (d.takeDue k q).phase k = phArmed :=
    (Dev.fld_of_roster (keeps _ (.inl rfl))).trans hph
  have failed : (d.takeDue k q).failed k p = false := by
    rw [Dev.failed, Dev.fld_of_roster (keeps _ (.inr (.inl rfl)))]; exact hf
  have aq : (d.takeDue k q).aq k = d.aq k := congrArg Prod.snd (keeps _ (.inl rfl))
  have seq : (d.takeDue k q).fld (Fd.CELLc_ACK_SEQ (cellIx k p)) = d.fld (Fd.CELLc_ACK_SEQ (cellIx k p)) :=
    Dev.fld_of_roster (keeps _ (.inr (.inr ⟨_, rfl⟩)))
  have cmd : (d.takeDue k q).issueCommand k q = ((d.takeDue k q).command k p (if q / 512 % 2 == 0 then stZL else stZH) q, [p]) := by
    have h1 : (phArmed == phSafe) = false := by decide
    unfold Dev.issueCommand Dev.armedCommand
    simp only [phase, h1, beq_self_eq_true, Bool.false_eq_true, if_false, if_true, aq, hp, failed]
  have spec := Dev.command_spec (d := d.takeDue k q) (p := p) (st := if q / 512 % 2 == 0 then stZL else stZH) (q := q) hk hp7
    (by split <;> decide) (by split <;> decide)
  have issue : d.issue q =
      (((d.takeDue k q).command k p (if q / 512 % 2 == 0 then stZL else stZH) q).sendFrames k q [p]).noteV k q := by
    unfold Dev.issue
    simp only [hkq, hpres, hok, Bool.and_self, if_true, cmd]
  obtain ⟨hst, hseq, hdw⟩ := spec
  have regs (a : Nat) : (d.issue q).reg a = ((d.takeDue k q).command k p (if q / 512 % 2 == 0 then stZL else stZH) q).reg a := by
    rw [issue, Dev.reg_congr Dev.regs_noteV, Dev.reg_congr Dev.regs_sendFrames]
  refine ⟨?_, ?_, ?_⟩
  · rw [Dev.cmdOf, Dev.fld_congr (regs _)]; simpa [Dev.cmdOf] using hst
  · rw [Dev.fld_congr (regs _), hseq, seq]
  · rw [issue, Dev.dwellFrom_noteV, Dev.dwellFrom_sendFrames, hdw]

/-- Settles O23: the take-up, the command and the frames of an issue tick are all of string q mod 8. -/
theorem issueTickServesOneString : Obligations.IssueTickServesOneString := by
  intro s hs
  refine ⟨{ s with dev := s.dev.issue s.env.tick }, ?_, ⟨rfl, rfl, rfl⟩, fun j hj => Dev.st_issue_other hj, fun h => ?_,
    fun p hpres hok hph hf hp => Dev.issue_armed hpres hok hph hf hp⟩
  · show execIssueTick s = _
    simp [execIssueTick, onDev, hs]
  · show s.dev.issue s.env.tick = s.dev
    unfold Dev.issue
    rcases h with h | h <;> simp [h]

end Sys2Proof.Machine
end

section
/-! The write of a register (R13 to R16, R20, R384 to R388, R393): what a grant leaves as it was, what the accounts of an
access change, and what each kind of register makes of a write. -/
namespace Sys2Proof.Machine

variable {d : Dev} {p a : Nat}

/-! ### A grant touches its count or its credit alone (R384) -/

theorem Dev.takeGrant_lock : (d.takeGrant p).lock = d.lock := by unfold Dev.takeGrant; split <;> rfl
theorem Dev.takeGrant_img : (d.takeGrant p).img = d.img := by unfold Dev.takeGrant; split <;> rfl
theorem Dev.takeGrant_pwr : (d.takeGrant p).pwr = d.pwr := by unfold Dev.takeGrant; split <;> rfl
theorem Dev.takeGrant_svc : (d.takeGrant p).svc = d.svc := by unfold Dev.takeGrant; split <;> rfl
theorem Dev.takeGrant_zone : (d.takeGrant p).zone = d.zone := by unfold Dev.takeGrant; split <;> rfl

theorem Dev.takeGrant_reg (h : a ≠ Reg.HOSTIF_GRANTS p) : (d.takeGrant p).reg a = d.reg a := by
  unfold Dev.takeGrant
  split
  · rfl
  · exact Dev.reg_bump_other h

theorem Dev.fieldsBut_takeGrant : FieldsBut d (d.takeGrant p) [Fd.HOSTIF_GRANTS_GRANTS p] := by
  unfold Dev.takeGrant
  split
  · exact FieldsBut.refl
  · exact FieldsBut.put (of_decide_eq_true rfl)

theorem Dev.takeGrant_req_other {q : Nat} (h : q ≠ p) : vat (d.takeGrant p).req q = vat d.req q := by
  unfold Dev.takeGrant
  split
  · exact vat_vmod_other h
  · rfl

theorem Dev.takeGrant_lost : (vat (d.takeGrant p).req p).lost = (vat d.req p).lost := by
  unfold Dev.takeGrant
  split
  · exact vat_vmod_part ReqSt.lost fun _ => rfl
  · rfl

theorem Dev.takeGrant_firCaddr : (vat (d.takeGrant p).req p).firCaddr = (vat d.req p).firCaddr := by
  unfold Dev.takeGrant
  split
  · exact vat_vmod_part ReqSt.firCaddr fun _ => rfl
  · rfl

/-- A register that is not on a HOSTIF page is as before a grant. -/
theorem Dev.takeGrant_reg_off (h : a < 0x22000 ∨ 0x23000 ≤ a) (hp : p < 6) : (d.takeGrant p).reg a = d.reg a :=
  Dev.takeGrant_reg (by unfold Reg.HOSTIF_GRANTS; omega)

/-! ### The checks of a write see no grant -/

theorem Dev.domRun_takeGrant {i : Nat} : (d.takeGrant p).domRun i = d.domRun i := by
  simp only [Dev.domRun, Dev.takeGrant_pwr]

theorem Dev.present_takeGrant {k : Nat} : (d.takeGrant p).present k = d.present k := by
  simp only [Dev.present, Dev.takeGrant_img]

theorem Dev.mayWrite_takeGrant : (d.takeGrant p).mayWrite p a = d.mayWrite p a := by
  have hw : (d.takeGrant p).fld (Fd.HOSTIF_CFG_WPERM p) = d.fld (Fd.HOSTIF_CFG_WPERM p) :=
    Dev.fld_congr (Dev.takeGrant_reg (by simp [Fd.HOSTIF_CFG_WPERM, Reg.HOSTIF_CFG, Reg.HOSTIF_GRANTS]))
  simp only [Dev.mayWrite, Dev.mayPage, Dev.maySvc, Dev.svcWrites, Dev.takeGrant_svc, hw]

theorem Dev.absentString_takeGrant {e : Env} (hp : p < 6) : (d.takeGrant p).absentString e a = d.absentString e a := by
  have hl : (d.takeGrant p).fld Fd.IMG_STATUS_LOADED = d.fld Fd.IMG_STATUS_LOADED :=
    Dev.fld_congr (Dev.takeGrant_reg_off (.inr (by decide)) hp)
  simp only [Dev.absentString, Dev.present_takeGrant, hl]

theorem Dev.absentCell_takeGrant : (d.takeGrant p).absentCell a = d.absentCell a := by
  simp only [Dev.absentCell, Dev.present_takeGrant, Dev.takeGrant_img]

theorem Dev.clampWord_takeGrant {v : Nat} : (d.takeGrant p).clampWord a v = d.clampWord a v := by
  simp only [Dev.clampWord, Dev.takeGrant_img]

theorem Dev.shadowOf_takeGrant {q x : Nat} : (d.takeGrant p).shadowOf q x = d.shadowOf q x := by
  simp only [Dev.shadowOf, Dev.takeGrant_lock]

/-- Only the four ports have a pending set. -/
theorem pendPort_lt {n : Nat} (h : pendPort a = some n) : n < 4 := by
  simp only [pendPort, Bool.and_eq_true, decide_eq_true_eq] at h
  split at h
  · split at h
    · injection h; omega
    · simp at h
  · simp at h

/-- The checks on values alone read live registers below the HOSTIF pages only. -/
theorem Dev.formOk_congr {e : Dev} {i : RegInfo} {w : Nat} {get get' : Nat → Nat} (hr : ∀ x < 0x22000, e.reg x = d.reg x)
    (hg : ∀ x < 0x22000, get x = get' x) : e.formOk i a w get = d.formOk i a w get' := by
  unfold Dev.formOk
  congr 1
  cases h : pendPort a with
  | none => rfl
  | some n =>
    have hn := pendPort_lt h
    simp only [Dev.pendingOk, hr (Reg.TDMn_CFG n) (by unfold Reg.TDMn_CFG; omega),
      hg (Reg.TDMn_FMT n) (by unfold Reg.TDMn_FMT; omega), hg (Reg.TDMn_MASK n) (by unfold Reg.TDMn_MASK; omega)]

theorem Dev.overridden_congr {e : Dev} {k : Nat} (hz : e.zone = d.zone) (hr : ∀ x < 0x22000, e.reg x = d.reg x) (hk : k < 16) :
    e.overridden k = d.overridden k := by
  simp only [Dev.overridden, Dev.zone1, hz, Dev.bit_congr (hr (Fd.ROUTE_OVRk_FADING k).addr
    (by simp only [Fd.ROUTE_OVRk_FADING, Reg.ROUTE_OVRk]; omega))]

theorem sharedString_lt {k : Nat} (ha : a < 0x5800) (h : sharedString a = some k) : k < 16 := by
  have hlow : ¬ 0x6100 ≤ a := by omega
  simp only [sharedString, Bool.and_eq_true, decide_eq_true_eq] at h
  grind

/-- The checks against live state read the register itself, the zones and registers below the HOSTIF pages. -/
theorem Dev.liveOk_congr {e : Dev} {w : Nat} (hz : e.zone = d.zone) (hr : ∀ x < 0x22000, e.reg x = d.reg x)
    (ha : e.reg a = d.reg a) : e.liveOk a w = d.liveOk a w := by
  have ho {k : Nat} (hk : k < 16) := Dev.overridden_congr (d := d) (e := e) hz hr hk
  have hbars : e.overrideBars a (d.reg a).toNat w = d.overrideBars a (d.reg a).toNat w := by
    unfold Dev.overrideBars
    split
    · rw [Bool.eq_iff_iff, List.any_eq_true, List.any_eq_true]
      refine exists_congr fun k => and_congr_right fun hk => ?_
      rw [ho ((by decide : ∀ k ∈ strings8, k < 16) k hk)]
    split
    · next hrange =>
      cases h : sharedString a with
      | none => rfl
      | some k =>
        simp at hrange
        exact ho (sharedString_lt (by omega) h)
    · by_cases hlt : a < 0x10000
      · rw [ho (by omega)]
      · simp [hlt]
  have hbank : e.bankBars a = d.bankBars a := by
    unfold Dev.bankBars
    split
    · next hrange =>
      simp at hrange
      simp only [Dev.fld_congr (hr (Fd.CHk_CL_STATUS_ACTIVE ((a - 0x8000) / 0x1000)).addr
          (by simp only [Fd.CHk_CL_STATUS_ACTIVE, Reg.CHk_CL_STATUS]; omega)),
        Dev.fld_congr (hr (Fd.CHk_OL_SEL_TARGET ((a - 0x8000) / 0x1000)).addr
          (by simp only [Fd.CHk_OL_SEL_TARGET, Reg.CHk_OL_SEL]; omega))]
    · rfl
  rw [Dev.liveOk, ha, hbars, hbank, Dev.liveOk]

/-- Before its checks a write of requester p meets the same live registers below the HOSTIF pages as without the grant. -/
theorem Dev.takeGrant_reg_lt (hp : p < 6) : ∀ x < 0x22000, (d.takeGrant p).reg x = d.reg x :=
  fun _ hx => Dev.takeGrant_reg_off (.inl hx) hp

/-! ### The accounts of an access (R384, R385, R390) -/

theorem Dev.noteLast_req {kind : Nat} : (d.noteLast p a kind).req = d.req := by simp only [Dev.noteLast, Dev.put_req]
theorem Dev.noteLast_lock {kind : Nat} : (d.noteLast p a kind).lock = d.lock := by simp only [Dev.noteLast, Dev.put_lock]

theorem Dev.noteAccess_req {err rej clamp : Bool} : (d.noteAccess p a err rej clamp).req = d.req := by
  cases err <;> cases rej <;> cases clamp <;> simp [Dev.noteAccess, Dev.noteLast_req]

theorem Dev.noteAccess_lock {err rej clamp : Bool} : (d.noteAccess p a err rej clamp).lock = d.lock := by
  cases err <;> cases rej <;> cases clamp <;> simp [Dev.noteAccess, Dev.noteLast_lock]

theorem Dev.reloadLease_regs : (d.reloadLease p).regs = d.regs := by unfold Dev.reloadLease; split <;> rfl
theorem Dev.reloadLease_req : (d.reloadLease p).req = d.req := by unfold Dev.reloadLease; split <;> rfl
theorem Dev.reloadLease_owner : (d.reloadLease p).lock.owner = d.lock.owner := by unfold Dev.reloadLease; split <;> rfl
theorem Dev.reloadLease_shadow : (d.reloadLease p).lock.shadow = d.lock.shadow := by unfold Dev.reloadLease; split <;> rfl

/-- The machine after a write that was performed: a clamp is counted and the lease reloaded. -/
def Dev.performed (d : Dev) (p a : Nat) (clamp : Bool) : Dev := (d.noteAccess p a false false clamp).reloadLease p

theorem Dev.performed_req {c : Bool} : (d.performed p a c).req = d.req := by
  rw [Dev.performed, Dev.reloadLease_req, Dev.noteAccess_req]

theorem Dev.performed_owner {c : Bool} : (d.performed p a c).lock.owner = d.lock.owner := by
  rw [Dev.performed, Dev.reloadLease_owner, Dev.noteAccess_lock]

theorem Dev.performed_shadowOf {c : Bool} {q x : Nat} : (d.performed p a c).shadowOf q x = d.shadowOf q x := by
  have hs : (d.performed p a c).lock.shadow = d.lock.shadow := by
    rw [Dev.performed, Dev.reloadLease_shadow, Dev.noteAccess_lock]
  simp only [Dev.shadowOf, hs, Dev.performed_owner]

/-- Without a clamp no register changes. -/
theorem Dev.performed_regs : (d.performed p a false).regs = d.regs := Dev.reloadLease_regs

/-- The registers change in the requester's error counts and in its last address at most. -/
theorem Dev.performed_reg {c : Bool} {x : Nat} (h : c = true → x ≠ Reg.HOSTIF_ERRS p ∧ x ≠ Reg.HOSTIF_LAST p) :
    (d.performed p a c).reg x = d.reg x := by
  rw [Dev.performed, Dev.reg_congr Dev.reloadLease_regs]
  cases c with
  | false => rfl
  | true =>
    obtain ⟨he, hl⟩ := h rfl
    exact (Dev.reg_put_other hl).trans ((Dev.reg_put_other hl).trans (Dev.reg_bump_other he))

/-- Counting in field f of HOSTIF_ERRS and naming the access in HOSTIF_LAST leaves every other field as it was. -/
theorem Dev.noteLast_fields {f : Fld} {kind : Nat} (hf : f.fits) : FieldsBut d ((d.bump f).noteLast p a kind)
    [f, Fd.HOSTIF_LAST_KIND p, Fd.HOSTIF_LAST_ADDR p] :=
  ((FieldsBut.put hf).andPut (of_decide_eq_true rfl)).andPut (of_decide_eq_true rfl)

theorem Dev.noteLast_kind {kind : Nat} (hk : kind < 16) : (d.noteLast p a kind).fld (Fd.HOSTIF_LAST_KIND p) = kind := by
  rw [Dev.noteLast, Dev.fld_put_other (of_decide_eq_true rfl) (.inr (.inl (of_decide_eq_true rfl))),
    Dev.fld_put_same (of_decide_eq_true rfl)]
  exact Nat.mod_eq_of_lt hk

theorem Dev.noteLast_addr {kind : Nat} (ha : a < 2 ^ 20) : (d.noteLast p a kind).fld (Fd.HOSTIF_LAST_ADDR p) = a := by
  rw [Dev.noteLast, Dev.fld_put_same (of_decide_eq_true rfl)]
  exact Nat.mod_eq_of_lt ha

theorem Dev.noteLast_count {f : Fld} {kind : Nat} (hf : f.fits) (ha : f.addr = Reg.HOSTIF_ERRS p) :
    ((d.bump f).noteLast p a kind).fld f = addSat f.w (d.fld f) 1 := by
  have hne : Reg.HOSTIF_LAST p ≠ f.addr := by rw [ha]; simp [Reg.HOSTIF_LAST, Reg.HOSTIF_ERRS]
  rw [Dev.noteLast, Dev.fld_put_other (of_decide_eq_true rfl) (.inl hne), Dev.fld_put_other (of_decide_eq_true rfl) (.inl hne),
    Dev.fld_bump_same hf]

/-- R19: one more event in a counter of eight bits. -/
theorem addSat_byte {w n : Nat} (hw : w = 8) : addSat w n 1 = min 255 (n + 1) := hw ▸ rfl

/-- What a refused access leaves: the grant, one more in field f of HOSTIF_ERRS, and the access named in HOSTIF_LAST. -/
theorem Dev.refused_accounts {f : Fld} {kind : Nat} (hf : f.fits) (hw : f.w = 8) (hfa : f.addr = Reg.HOSTIF_ERRS p)
    (hk : kind < 16) (ha : a < 2 ^ 20) :
    let e := ((d.takeGrant p).bump f).noteLast p a kind
    e.fld f = min 255 (d.fld f + 1) ∧ e.fld (Fd.HOSTIF_LAST_KIND p) = kind ∧ e.fld (Fd.HOSTIF_LAST_ADDR p) = a ∧
    e.lock = d.lock ∧
    FieldsBut d e [Fd.HOSTIF_GRANTS_GRANTS p, f, Fd.HOSTIF_LAST_KIND p, Fd.HOSTIF_LAST_ADDR p] := by
  have hg : (d.takeGrant p).fld f = d.fld f :=
    Dev.fld_congr (Dev.takeGrant_reg (by rw [hfa]; simp [Reg.HOSTIF_ERRS, Reg.HOSTIF_GRANTS]))
  refine ⟨?_, Dev.noteLast_kind hk, Dev.noteLast_addr ha, ?_, Dev.fieldsBut_takeGrant.trans (Dev.noteLast_fields hf)⟩
  · exact (Dev.noteLast_count hf hfa).trans ((congrArg (addSat f.w · 1) hg).trans (addSat_byte hw))
  · rw [Dev.noteLast_lock, Dev.bump_lock, Dev.takeGrant_lock]

theorem Dev.performed_clamps (ha : a < 2 ^ 20) :
    (d.performed p a true).fld (Fd.HOSTIF_ERRS_CLAMPS p) = min 255 (d.fld (Fd.HOSTIF_ERRS_CLAMPS p) + 1) ∧
    (d.performed p a true).fld (Fd.HOSTIF_LAST_KIND p) = 3 ∧ (d.performed p a true).fld (Fd.HOSTIF_LAST_ADDR p) = a := by
  have hl {g : Fld} : (d.performed p a true).fld g = ((d.bump (Fd.HOSTIF_ERRS_CLAMPS p)).noteLast p a 3).fld g :=
    Dev.fld_congr (Dev.reg_congr Dev.reloadLease_regs)
  rw [hl, hl, hl]
  exact ⟨Dev.noteLast_count (of_decide_eq_true rfl) rfl, Dev.noteLast_kind (by decide), Dev.noteLast_addr ha⟩

/-! ### What a write of a requester comes to -/

/-- The state after a write of requester p while HOST runs. -/
def writeEnd (s : State) (p a v : Nat) : State :=
  { s with env := (accessWrite s.env s.dev p a v).env, dev := (accessWrite s.env s.dev p a v).dev }

theorem exec_registerWrite {s : State} {p : Fin 5} {addr : BitVec 20} {v : Word} (hr : s.dev.hostRuns = true) :
    exec (.registerWrite p addr v) s = .next (writeEnd s p.val addr.toNat v.toNat) := by
  change onWrite s _ _ _ = _
  simp only [onWrite, onEnvDev, hr, if_true, writeEnd]

section outcome
variable {s : State} {v : Nat}

theorem rejected_of_hostWrite {locked : Bool} (ha : a < 2 ^ 20)
    (h : hostWrite s.env (s.dev.takeGrant p) p a v = { env := s.env, dev := s.dev.takeGrant p, rej := true, locked }) :
    Rejected s (writeEnd s p a v) p a := by
  have hd : (writeEnd s p a v).dev = ((s.dev.takeGrant p).bump (Fd.HOSTIF_ERRS_REJECTS p)).noteLast p a 2 := by
    simp [writeEnd, accessWrite, h, Dev.noteAccess]
  have he : (writeEnd s p a v).env = s.env := by simp [writeEnd, accessWrite, h]
  rw [Rejected, hd]
  exact ⟨⟨rfl, he, rfl⟩, Dev.refused_accounts (of_decide_eq_true rfl) rfl rfl (by decide) ha⟩

theorem accessError_of_hostWrite (ha : a < 2 ^ 20)
    (h : hostWrite s.env (s.dev.takeGrant p) p a v = { env := s.env, dev := s.dev.takeGrant p, err := true }) :
    AccessError s (writeEnd s p a v) p a := by
  have hd : (writeEnd s p a v).dev = ((s.dev.takeGrant p).bump (Fd.HOSTIF_ERRS_ACCERR p)).noteLast p a 1 := by
    simp [writeEnd, accessWrite, h, Dev.noteAccess]
  have he : (writeEnd s p a v).env = s.env := by simp [writeEnd, accessWrite, h]
  rw [AccessError, hd]
  exact ⟨⟨rfl, he, rfl⟩, Dev.refused_accounts (of_decide_eq_true rfl) rfl rfl (by decide) ha⟩

theorem performed_of_hostWrite {e : Dev} {clamp shadow : Bool}
    (h : hostWrite s.env (s.dev.takeGrant p) p a v = { env := s.env, dev := e, clamp, shadow }) :
    OnlyDev s (writeEnd s p a v) ∧ (writeEnd s p a v).dev = e.performed p a clamp := by
  have he : (writeEnd s p a v).env = s.env := by simp [writeEnd, accessWrite, h]
  exact ⟨⟨rfl, he, rfl⟩, by simp [writeEnd, accessWrite, h, Dev.performed]⟩

end outcome

/-! ### Where a write goes (R39, R383, R396, R422) -/

section route
variable {e : Env} {v : Nat} {i : RegInfo}

theorem Dev.addrRuns_takeGrant : (d.takeGrant p).addrRuns a = d.addrRuns a := by
  simp only [Dev.addrRuns, Dev.domRun_takeGrant]

theorem hostWrite_outside (h : regInfoAt a = none ∨ d.addrRuns a = false) :
    hostWrite e d p a v = { env := e, dev := d, err := true } := by
  unfold hostWrite
  unfold Dev.addrRuns at h
  cases hb : blockAt a with
  | none => rfl
  | some b =>
    cases hi : regInfoAt a with
    | none => rfl
    | some i => simp_all

theorem hostWrite_barred (hi : regInfoAt a = some i) (hr : d.addrRuns a = true)
    (h : d.mayWrite p a = false ∨ d.absentString e a = true ∨ d.absentCell a = true) :
    hostWrite e d p a v = { env := e, dev := d, rej := true } := by
  unfold hostWrite
  unfold Dev.addrRuns at hr
  cases hb : blockAt a with
  | none => simp [hb] at hr
  | some b =>
    rw [hb] at hr
    have hbar : (!(d.mayWrite p a) || d.absentString e a || d.absentCell a) = true := by
      rcases h with h | h | h <;> simp [h]
    simp [hi, hr, hbar]

/-- A write that nothing bars meets the register's masks. -/
theorem hostWrite_allowed (hi : regInfoAt a = some i) (hr : d.addrRuns a = true) (hw : d.mayWrite p a = true)
    (hs : d.absentString e a = false) (hc : d.absentCell a = false) :
    hostWrite e d p a v = if i.rw ||| i.sh ||| i.w1c ||| i.wo == 0 then { env := e, dev := d, rej := i.lid != 0 }
      else writeReg e d p a v i := by
  unfold hostWrite
  unfold Dev.addrRuns at hr
  cases hb : blockAt a with
  | none => simp [hb] at hr
  | some b =>
    rw [hb] at hr
    simp [hi, hr, hw, hs, hc]

/-- The limits of the image narrow a value written to the register. -/
def Dev.narrows (d : Dev) (i : RegInfo) (a v : Nat) : Bool := d.clampWord a v &&& (i.rw ||| i.sh) != v &&& (i.rw ||| i.sh)

/-- `Dev.narrows` as a proposition. -/
def Dev.Narrows (d : Dev) (i : RegInfo) (a v : Nat) : Prop := d.clampWord a v &&& (i.rw ||| i.sh) ≠ v &&& (i.rw ||| i.sh)

theorem Dev.narrows_iff : d.narrows i a v = true ↔ d.Narrows i a v := bne_iff_ne

theorem Dev.narrows_eq_false_iff : d.narrows i a v = false ↔ ¬ d.Narrows i a v := by rw [← Dev.narrows_iff, Bool.not_eq_true]

theorem Dev.narrows_takeGrant : (d.takeGrant p).narrows i a v = d.narrows i a v := by
  simp only [Dev.narrows, Dev.clampWord_takeGrant]

theorem writeReg_sh (h : i.sh ≠ 0) : writeReg e d p a v i = writeSh e d p a (d.clampWord a v) i (d.narrows i a v) := by
  simp [writeReg, h, Dev.narrows]

theorem writeReg_svc (h : i.sh = 0) (hlo : 0x23000 ≤ a) (hhi : a < 0x24000) :
    writeReg e d p a v i = writeSvc e d p a (d.clampWord a v) i := by
  have hf : a ≠ Reg.FIR_CDATA := by unfold Reg.FIR_CDATA; omega
  simp [writeReg, h, hf, hlo, hhi]

theorem pageOf_range {x : Nat × Nat} (h : pageOf a = some x) : 0x22000 ≤ a ∧ a < 0x22600 := by
  simp only [pageOf, Bool.and_eq_true, decide_eq_true_eq] at h
  split at h
  · assumption
  · simp at h

/-- The register takes the word and nothing else happens but the account of a clamp. -/
def storedOut (e : Env) (d : Dev) (p a v : Nat) (i : RegInfo) : WrOut :=
  { env := e, dev := d.storeWord p a (d.clampWord a v) i, clamp := d.narrows i a v }

/-- On a HOSTIF page a register but HOSTIF_LOCK stores its word. -/
theorem writeReg_page {q o : Nat} (h : i.sh = 0) (hp : pageOf a = some (q, o)) (ho : o ≠ 8) :
    writeReg e d p a v i = storedOut e d p a v i := by
  obtain ⟨hlo, hhi⟩ := pageOf_range hp
  have hf : a ≠ Reg.FIR_CDATA := by unfold Reg.FIR_CDATA; omega
  have hs : ¬ (0x23000 ≤ a) := by omega
  simp [writeReg, h, hf, hs, hp, ho, Dev.narrows, storedOut]

theorem pageOf_outside (ha : a < 0x22000 ∨ 0x24000 ≤ a) : pageOf a = none := by
  cases hp : pageOf a with
  | none => rfl
  | some x => obtain ⟨hlo, hhi⟩ := pageOf_range hp; omega

/-- Outside HOSTIF and SVC an invalid value, or one that the register's action refuses, is rejected. -/
theorem writeReg_refused (h : i.sh = 0) (ha : a < 0x22000 ∨ 0x24000 ≤ a) (hf : a ≠ Reg.FIR_CDATA)
    (hbad : writeValid i a (mergeWord i (d.reg a).toNat (d.clampWord a v)) = false ∨
      d.woAction e p a (d.clampWord a v) = none) :
    writeReg e d p a v i = { env := e, dev := d, rej := true } := by
  have hs : ¬ (0x23000 ≤ a ∧ a < 0x24000) := by omega
  rcases hbad with hbad | hbad <;> simp [writeReg, h, hf, hs, pageOf_outside ha, hbad]

/-- Outside HOSTIF and SVC a valid value is stored in a register that has nothing else to do. -/
theorem writeReg_taken (h : i.sh = 0) (ha : a < 0x22000 ∨ 0x24000 ≤ a) (hf : a ≠ Reg.FIR_CDATA)
    (hv : writeValid i a (mergeWord i (d.reg a).toNat (d.clampWord a v)) = true)
    (hw : d.woAction e p a (d.clampWord a v) = some d) : writeReg e d p a v i = storedOut e d p a v i := by
  have hs : ¬ (0x23000 ≤ a ∧ a < 0x24000) := by omega
  simp [writeReg, h, hf, hs, pageOf_outside ha, hv, hw, Dev.narrows, storedOut]

/-- In the service block a register without an action of its own stores its word. -/
theorem writeSvc_plain (hn : a ∉ [Reg.SVC_CTL, Reg.SVC_COMMIT, Reg.SVC_FL_CTL, Reg.SVC_FL_DATA, Reg.SVC_PIN])
    (hlo : 0x23000 ≤ a) : writeSvc e d p a v i = { env := e, dev := d.setReg a (BitVec.ofNat 32
      (if i.wo = 0xFFFFFFFF then v else mergeWord i (d.reg a).toNat v)) } := by
  have hc : a ≠ Reg.FIR_CADDR := by unfold Reg.FIR_CADDR; omega
  simp only [List.mem_cons, List.not_mem_nil, or_false, not_or] at hn
  obtain ⟨h1, h2, h3, h4, h5⟩ := hn
  by_cases hwo : i.wo = 0xFFFFFFFF <;> simp [writeSvc, Dev.storeWord, h1, h2, h3, h4, h5, hc, hwo]

/-! ### Writes to SH fields (R387, R388, R393) -/

theorem writeSh_locked {q : Nat} {c : Bool} (ho : d.lock.owner = some q) (h : q ≠ p ∨ d.lock.committing ≠ none) :
    ∃ l, writeSh e d p a v i c = { env := e, dev := d, rej := true, locked := l } := by
  by_cases hq : q = p
  · have hc : d.lock.committing.isSome = true := Option.isSome_iff_ne_none.mpr (h.resolve_left (not_not_intro hq))
    exact ⟨false, by simp [writeSh, ho, hq, hc]⟩
  · exact ⟨true, by simp [writeSh, ho, hq]⟩

/-- R387: the words that requester p sees while it holds the lock: its shadow, else the live ones. -/
def Dev.seen (d : Dev) (p x : Nat) : Nat := match d.shadowOf p x with
  | some w => w.toNat
  | none => (d.reg x).toNat

/-- The word that a write puts into the shadow. -/
def Dev.shadowWord (d : Dev) (p a v : Nat) (i : RegInfo) : Nat := mergeWord i (overlay i.sh (d.reg a).toNat (d.seen p a)) v

/-- R387: the shadow has room for a word of the register. -/
def Dev.shadowRoom (d : Dev) (a : Nat) : Prop := d.lock.shadow.length < 256 ∨ ∃ x ∈ d.lock.shadow, x.1 = a

theorem Dev.shadowRoom_iff :
    d.shadowRoom a ↔ (decide (256 ≤ d.lock.shadow.length) && !(d.lock.shadow.any (fun x => x.1 == a))) = false := by
  rw [Dev.shadowRoom, Bool.and_eq_false_iff, decide_eq_false_iff_not, not_le, Bool.not_eq_false', List.any_eq_true]
  simp only [beq_iff_eq]

/-- The owner's write goes into the shadow while there is room and its form is right, else it is rejected. -/
theorem writeSh_owner {c : Bool} (ho : d.lock.owner = some p) (hc : d.lock.committing = none) : writeSh e d p a v i c =
    if (decide (256 ≤ d.lock.shadow.length) && !(d.lock.shadow.any (fun x => x.1 == a))) ||
        !(d.formOk i a (d.shadowWord p a v i) (d.seen p)) then { env := e, dev := d, rej := true }
      else { env := e, dev := d.shadowPut a (d.shadowWord p a v i), clamp := c, shadow := true } := by
  unfold writeSh
  rw [ho]
  dsimp only
  rw [hc, if_neg (by simp), if_neg (by simp)]
  rfl

theorem writeSh_shadowed {c : Bool} (ho : d.lock.owner = some p) (hc : d.lock.committing = none) (hr : d.shadowRoom a)
    (hf : d.formOk i a (d.shadowWord p a v i) (d.seen p) = true) :
    writeSh e d p a v i c = { env := e, dev := d.shadowPut a (d.shadowWord p a v i), clamp := c, shadow := true } := by
  rw [writeSh_owner ho hc, Dev.shadowRoom_iff.mp hr, hf, if_neg (by simp)]

theorem writeSh_unshadowed {c : Bool} (ho : d.lock.owner = some p) (hc : d.lock.committing = none)
    (h : ¬ d.shadowRoom a ∨ d.formOk i a (d.shadowWord p a v i) (d.seen p) = false) :
    writeSh e d p a v i c = { env := e, dev := d, rej := true } := by
  rw [writeSh_owner ho hc]
  rcases h with h | h
  · rw [Dev.shadowRoom_iff, Bool.not_eq_false] at h
    rw [h, Bool.true_or, if_pos rfl]
  · rw [h, Bool.not_false, Bool.or_true, if_pos rfl]

theorem writeSh_live {c : Bool} (ho : d.lock.owner = none) (hl : (vat d.req p).lost = false)
    (hf : d.formOk i a (mergeWord i (d.reg a).toNat v) (fun x => (d.reg x).toNat) = true)
    (hv : d.liveOk a (mergeWord i (d.reg a).toNat v) = true) :
    writeSh e d p a v i c = { env := e, dev := d.applySh e e.tick e.tick a (mergeWord i (d.reg a).toNat v), clamp := c } := by
  simp [writeSh, ho, hl, hf, hv]

theorem writeSh_lost {c : Bool} (ho : d.lock.owner = none)
    (h : (vat d.req p).lost = true ∨ d.formOk i a (mergeWord i (d.reg a).toNat v) (fun x => (d.reg x).toNat) = false ∨
      d.liveOk a (mergeWord i (d.reg a).toNat v) = false) :
    writeSh e d p a v i c = { env := e, dev := d, rej := true } := by
  rcases h with h | h | h <;> simp [writeSh, ho, h]

end route

/-! ### What the stored word leaves -/

theorem Dev.shadowPut_regs {w : Nat} : (d.shadowPut a w).regs = d.regs := (rfl)

/-- Replacing the words that stand for a register leaves the new one to be found. -/
theorem find?_replaced {l : List (Nat × Word)} {w : Word} (h : ∃ x ∈ l, x.1 = a) :
    (l.map (fun x => if x.1 == a then (a, w) else x)).find? (fun x => x.1 == a) = some (a, w) := by
  induction l with
  | nil => simp at h
  | cons y l ih =>
    by_cases hy : y.1 = a
    · simp [hy]
    · have hl : ∃ x ∈ l, x.1 = a := by simpa [hy] using h
      simpa [hy] using ih hl

/-- The owner reads back from the shadow the word that was put there. -/
theorem Dev.shadowOf_shadowPut {w : Nat} (ho : d.lock.owner = some p) :
    (d.shadowPut a w).shadowOf p a = some (BitVec.ofNat 32 w) := by
  have ho' : (d.shadowPut a w).lock.owner = some p := ho
  have hf : (d.shadowPut a w).lock.shadow.find? (fun x => x.1 == a) = some (a, BitVec.ofNat 32 w) := by
    simp only [Dev.shadowPut]
    by_cases h : ∃ x ∈ d.lock.shadow, x.1 = a
    · rw [if_pos (by simpa using h)]
      exact find?_replaced h
    · have hn : d.lock.shadow.find? (fun x => x.1 == a) = none := by
        simp only [List.find?_eq_none, beq_iff_eq]
        exact fun x hx hxa => h ⟨x, hx, hxa⟩
      rw [if_neg (by simpa using h), List.find?_append, hn]
      simp
  simp [Dev.shadowOf, ho', hf]

theorem Dev.applySh_regs {e : Env} {t b w : Nat} (h : pendPort a = none) :
    (d.applySh e t b a w).regs = (d.setReg a (BitVec.ofNat 32 w)).regs := by
  unfold Dev.applySh
  rw [h]
  dsimp only
  split <;> split <;> simp only [Dev.modZone_regs, Dev.hold_regs]

theorem Dev.pendSet_regs {n t : Nat} : (d.pendSet n t).regs = (d.putB (Fd.TDMn_STATUS_UPDATE_PENDING n) true).regs := by
  simp only [Dev.pendSet, Dev.putB, Dev.put, Dev.setReg, Dev.reg, Dev.modPort_regs]

theorem Dev.applySh_regs_port {e : Env} {t b w n : Nat} (h : pendPort a = some n) : (d.applySh e t b a w).regs =
    ((d.setReg a (BitVec.ofNat 32 w)).putB (Fd.TDMn_STATUS_UPDATE_PENDING n) true).regs := by
  unfold Dev.applySh
  rw [h]
  dsimp only
  split <;> simp only [Dev.modZone_regs, Dev.pendSet_regs]

/-- A word of a port's pending set is not the port's status. -/
theorem pendPort_ne_status {n : Nat} (h : pendPort a = some n) : a ≠ Reg.TDMn_STATUS n := by
  rintro rfl
  simp only [pendPort, Reg.TDMn_STATUS] at h
  grind

theorem Dev.applySh_reg_same {e : Env} {t b w : Nat} : (d.applySh e t b a w).reg a = BitVec.ofNat 32 w := by
  cases h : pendPort a with
  | none => rw [Dev.reg_congr (Dev.applySh_regs h), Dev.reg_setReg_same]
  | some n => rw [Dev.reg_congr (Dev.applySh_regs_port h), Dev.reg_putB_other (pendPort_ne_status h), Dev.reg_setReg_same]

theorem Dev.applySh_reg_other {e : Env} {t b w x : Nat} (hx : x ≠ a)
    (hn : ∀ n, pendPort a = some n → x ≠ Reg.TDMn_STATUS n) : (d.applySh e t b a w).reg x = d.reg x := by
  cases h : pendPort a with
  | none => rw [Dev.reg_congr (Dev.applySh_regs h), Dev.reg_setReg_other hx]
  | some n => rw [Dev.reg_congr (Dev.applySh_regs_port h), Dev.reg_putB_other (hn n h), Dev.reg_setReg_other hx]

/-- R122: the pending set of a port was written. -/
theorem Dev.applySh_pending {e : Env} {t b w n : Nat} (h : pendPort a = some n) :
    (d.applySh e t b a w).bit (Fd.TDMn_STATUS_UPDATE_PENDING n) = true := by
  rw [Dev.bit_congr (Dev.reg_congr (Dev.applySh_regs_port h))]
  exact Dev.bit_putB_same (of_decide_eq_true rfl) rfl

/-! ### Frames of a write -/

theorem Dev.regsBut_takeGrant : RegsBut d (d.takeGrant p) [Reg.HOSTIF_GRANTS p] :=
  fun _ hx => Dev.takeGrant_reg (by simpa using hx)

theorem RegsBut.setReg {e : Dev} {l : List Nat} {w : Word} (h : RegsBut d e l) : RegsBut d (e.setReg a w) (a :: l) := by
  intro x hx
  rw [List.mem_cons, not_or] at hx
  rw [Dev.reg_setReg_other hx.1, h x hx.2]

/-- The accounts of a write add its error counts and its last address to what it changes, and only if it was clamped. -/
theorem RegsBut.performed {e : Dev} {l : List Nat} {c : Bool} (h : RegsBut d e l)
    (hl : c = true → Reg.HOSTIF_ERRS p ∈ l ∧ Reg.HOSTIF_LAST p ∈ l) : RegsBut d (e.performed p a c) l := by
  intro x hx
  rw [Dev.performed_reg fun hc => ⟨(ne_of_mem_of_not_mem (hl hc).1 hx).symm, (ne_of_mem_of_not_mem (hl hc).2 hx).symm⟩, h x hx]

theorem RegsBut.mono {e : Dev} {l m : List Nat} (h : RegsBut d e l) (hl : ∀ x ∈ l, x ∈ m) : RegsBut d e m :=
  fun x hx => h x fun hm => hx (hl x hm)

/-- A register with SH fields is none of a requester's accounts. -/
theorem sh_ne_accounts {i : RegInfo} (hp : p < 5) (hi : regInfoAt a = some i) (hs : i.sh ≠ 0) :
    a ≠ Reg.HOSTIF_GRANTS p ∧ a ≠ Reg.HOSTIF_ERRS p ∧ a ≠ Reg.HOSTIF_LAST p := by
  have hno : ∀ q < 5, ∀ x ∈ [Reg.HOSTIF_GRANTS q, Reg.HOSTIF_ERRS q, Reg.HOSTIF_LAST q],
      (regInfoAt x).all (fun i => i.sh == 0) = true := by decide
  have hne {x : Nat} (hx : x ∈ [Reg.HOSTIF_GRANTS p, Reg.HOSTIF_ERRS p, Reg.HOSTIF_LAST p]) : a ≠ x := by
    rintro rfl
    have h0 := hno p hp _ hx
    simp [hi, hs] at h0
  exact ⟨hne (by simp), hne (by simp), hne (by simp)⟩

/-! ### The clauses of a register write -/

section clauses
variable {s : State} {v : Nat} {i : RegInfo}

theorem hostWrite_reached (hp : p < 5) (hi : regInfoAt a = some i) (hm : MayReach s p a) :
    hostWrite s.env (s.dev.takeGrant p) p a v =
      if i.rw ||| i.sh ||| i.w1c ||| i.wo == 0 then { env := s.env, dev := s.dev.takeGrant p, rej := i.lid != 0 }
      else writeReg s.env (s.dev.takeGrant p) p a v i := by
  obtain ⟨-, hr, hw, hs, hc⟩ := hm
  exact hostWrite_allowed hi (Dev.addrRuns_takeGrant.trans hr) (Dev.mayWrite_takeGrant.trans hw)
    ((Dev.absentString_takeGrant (by omega)).trans hs) (Dev.absentCell_takeGrant.trans hc)

theorem hostWrite_writable (hp : p < 5) (hi : regInfoAt a = some i) (hm : MayReach s p a)
    (hw : i.rw ||| i.sh ||| i.w1c ||| i.wo ≠ 0) :
    hostWrite s.env (s.dev.takeGrant p) p a v = writeReg s.env (s.dev.takeGrant p) p a v i := by
  rw [hostWrite_reached hp hi hm, if_neg (by simpa using hw)]

theorem writable_of_sh (h : i.sh ≠ 0) : i.rw ||| i.sh ||| i.w1c ||| i.wo ≠ 0 := by
  simp [Nat.or_eq_zero_iff, h]

theorem writable_of_not_sh (h : i.sh = 0) (hw : i.rw ||| i.w1c ||| i.wo ≠ 0) : i.rw ||| i.sh ||| i.w1c ||| i.wo ≠ 0 := by
  simpa [h] using hw

theorem write_outside (ha : a < 2 ^ 20) (h : regInfoAt a = none ∨ s.dev.addrRuns a = false) :
    AccessError s (writeEnd s p a v) p a :=
  accessError_of_hostWrite ha (hostWrite_outside (by rwa [Dev.addrRuns_takeGrant]))

theorem write_barred (hp : p < 5) (ha : a < 2 ^ 20) (hi : regInfoAt a = some i) (hr : s.dev.addrRuns a = true)
    (h : s.dev.mayWrite p a = false ∨ s.dev.absentString s.env a = true ∨ s.dev.absentCell a = true) :
    Rejected s (writeEnd s p a v) p a := by
  refine rejected_of_hostWrite ha (hostWrite_barred hi (Dev.addrRuns_takeGrant.trans hr) ?_)
  rwa [Dev.mayWrite_takeGrant, Dev.absentString_takeGrant (by omega), Dev.absentCell_takeGrant]

theorem write_readOnlyLid (hp : p < 5) (ha : a < 2 ^ 20) (hi : regInfoAt a = some i) (hm : MayReach s p a)
    (h0 : i.rw ||| i.sh ||| i.w1c ||| i.wo = 0) (hl : i.lid ≠ 0) : Rejected s (writeEnd s p a v) p a := by
  refine rejected_of_hostWrite (locked := false) ha ?_
  rw [hostWrite_reached hp hi hm, if_pos (by simpa using h0), bne_iff_ne.mpr hl]

theorem write_readOnly (hp : p < 5) (hi : regInfoAt a = some i) (hm : MayReach s p a)
    (h0 : i.rw ||| i.sh ||| i.w1c ||| i.wo = 0) (hl : i.lid = 0) :
    OnlyDev s (writeEnd s p a v) ∧ FieldsBut s.dev (writeEnd s p a v).dev [Fd.HOSTIF_GRANTS_GRANTS p] := by
  have hw : hostWrite s.env (s.dev.takeGrant p) p a v =
      { env := s.env, dev := s.dev.takeGrant p, clamp := false, shadow := false } := by
    rw [hostWrite_reached hp hi hm, if_pos (by simpa using h0), hl]
    rfl
  obtain ⟨ho, hd⟩ := performed_of_hostWrite hw
  refine ⟨ho, hd ▸ ?_⟩
  exact Dev.fieldsBut_takeGrant.trans (m := []) (FieldsBut.of_regs Dev.performed_regs)

/-- A performed write that the limits narrowed is counted as a clamp. -/
theorem clamped_of_performed {t : State} {e : Dev} (ha : a < 2 ^ 20) (ht : t.dev = e.performed p a true)
    (he : e.reg (Reg.HOSTIF_ERRS p) = s.dev.reg (Reg.HOSTIF_ERRS p)) : Clamped s t p a := by
  rw [Clamped, ht, ← Dev.fld_congr (f := Fd.HOSTIF_ERRS_CLAMPS p) he]
  exact Dev.performed_clamps ha

theorem errs_ne_grants : Reg.HOSTIF_ERRS p ≠ Reg.HOSTIF_GRANTS p := by simp [Reg.HOSTIF_ERRS, Reg.HOSTIF_GRANTS]

theorem write_shLocked {q : Nat} (hp : p < 5) (ha : a < 2 ^ 20) (hi : regInfoAt a = some i) (hm : MayReach s p a) (hs : i.sh ≠ 0)
    (ho : s.dev.lock.owner = some q) (h : q ≠ p ∨ s.dev.lock.committing ≠ none) : Rejected s (writeEnd s p a v) p a := by
  rw [← Dev.takeGrant_lock (p := p)] at ho h
  obtain ⟨l, hl⟩ := writeSh_locked (e := s.env) (a := a) (v := (s.dev.takeGrant p).clampWord a v) (i := i)
    (c := (s.dev.takeGrant p).narrows i a v) ho h
  exact rejected_of_hostWrite ha ((hostWrite_writable hp hi hm (writable_of_sh hs)).trans ((writeReg_sh hs).trans hl))

theorem Dev.seen_takeGrant {x : Nat} (h : x ≠ Reg.HOSTIF_GRANTS p) : (d.takeGrant p).seen p x = d.seen p x := by
  simp only [Dev.seen, Dev.shadowOf_takeGrant, Dev.takeGrant_reg h]

theorem Dev.shadowWord_takeGrant (h : a ≠ Reg.HOSTIF_GRANTS p) : (d.takeGrant p).shadowWord p a v i = d.shadowWord p a v i := by
  simp only [Dev.shadowWord, Dev.seen_takeGrant h, Dev.takeGrant_reg h]

theorem Dev.formOk_seen_takeGrant {w : Nat} (hp : p < 6) :
    (d.takeGrant p).formOk i a w ((d.takeGrant p).seen p) = d.formOk i a w (d.seen p) :=
  Dev.formOk_congr (Dev.takeGrant_reg_lt hp) fun _ hx => Dev.seen_takeGrant (by unfold Reg.HOSTIF_GRANTS; omega)

theorem Dev.shadowRoom_takeGrant : (d.takeGrant p).shadowRoom a ↔ d.shadowRoom a := by
  simp only [Dev.shadowRoom, Dev.takeGrant_lock]

/-- R387: a write to SH fields in the requester's own lock. -/
theorem write_shadowed (hp : p < 5) (ha : a < 2 ^ 20) (hi : regInfoAt a = some i) (hm : MayReach s p a) (hs : i.sh ≠ 0)
    (ho : s.dev.lock.owner = some p) (hc : s.dev.lock.committing = none) (hr : s.dev.shadowRoom a)
    (hf : s.dev.formOk i a (s.dev.shadowWord p a (s.dev.clampWord a v) i) (s.dev.seen p) = true) :
    OnlyDev s (writeEnd s p a v) ∧
    (writeEnd s p a v).dev.shadowOf p a = some (BitVec.ofNat 32 (s.dev.shadowWord p a (s.dev.clampWord a v) i)) ∧
    (writeEnd s p a v).dev.lock.owner = some p ∧
    (¬ s.dev.Narrows i a v → FieldsBut s.dev (writeEnd s p a v).dev [Fd.HOSTIF_GRANTS_GRANTS p]) ∧
    (s.dev.Narrows i a v → Clamped s (writeEnd s p a v) p a ∧
      RegsBut s.dev (writeEnd s p a v).dev [Reg.HOSTIF_GRANTS p, Reg.HOSTIF_ERRS p, Reg.HOSTIF_LAST p]) := by
  obtain ⟨hg, -, -⟩ := sh_ne_accounts hp hi hs
  have ho' : (s.dev.takeGrant p).lock.owner = some p := by rwa [Dev.takeGrant_lock]
  have hw := (hostWrite_writable (v := v) hp hi hm (writable_of_sh hs)).trans ((writeReg_sh hs).trans
    (writeSh_shadowed ho' (by rwa [Dev.takeGrant_lock]) (Dev.shadowRoom_takeGrant.mpr hr)
      (by rwa [Dev.clampWord_takeGrant, Dev.shadowWord_takeGrant hg, Dev.formOk_seen_takeGrant (by omega)])))
  rw [Dev.clampWord_takeGrant, Dev.shadowWord_takeGrant hg, Dev.narrows_takeGrant] at hw
  obtain ⟨hdev, ht⟩ := performed_of_hostWrite hw
  have hregs {w : Nat} : RegsBut s.dev ((s.dev.takeGrant p).shadowPut a w) [Reg.HOSTIF_GRANTS p] :=
    fun x hx => (Dev.reg_congr Dev.shadowPut_regs).trans (Dev.regsBut_takeGrant x hx)
  refine ⟨hdev, ?_, ?_, fun hn => ?_, fun hn => ⟨?_, ?_⟩⟩
  · rw [ht, Dev.performed_shadowOf, Dev.shadowOf_shadowPut ho']
  · rw [ht, Dev.performed_owner]
    exact ho'
  · rw [ht, Dev.narrows_eq_false_iff.mpr hn]
    exact Dev.fieldsBut_takeGrant.trans (m := []) (FieldsBut.of_regs (Dev.performed_regs.trans Dev.shadowPut_regs))
  · exact clamped_of_performed ha (Dev.narrows_iff.mpr hn ▸ ht) (hregs _ (by simpa using errs_ne_grants))
  · rw [ht]
    exact (hregs.mono (by simp)).performed (by simp)

theorem write_unshadowed (hp : p < 5) (ha : a < 2 ^ 20) (hi : regInfoAt a = some i) (hm : MayReach s p a) (hs : i.sh ≠ 0)
    (ho : s.dev.lock.owner = some p) (hc : s.dev.lock.committing = none)
    (h : ¬ s.dev.shadowRoom a ∨ s.dev.formOk i a (s.dev.shadowWord p a (s.dev.clampWord a v) i) (s.dev.seen p) = false) :
    Rejected s (writeEnd s p a v) p a := by
  obtain ⟨hg, -, -⟩ := sh_ne_accounts hp hi hs
  refine rejected_of_hostWrite ha ((hostWrite_writable hp hi hm (writable_of_sh hs)).trans ((writeReg_sh hs).trans
    (writeSh_unshadowed (by rwa [Dev.takeGrant_lock]) (by rwa [Dev.takeGrant_lock]) ?_)))
  rwa [Dev.shadowRoom_takeGrant, Dev.clampWord_takeGrant, Dev.shadowWord_takeGrant hg, Dev.formOk_seen_takeGrant (by omega)]

/-- The register's live word with the clamped value merged in. -/
def Dev.liveWord (d : Dev) (a v : Nat) (i : RegInfo) : Nat := mergeWord i (d.reg a).toNat (d.clampWord a v)

/-- The word passes the checks of an SH register that no lock holds. -/
def Dev.liveValid (d : Dev) (i : RegInfo) (a w : Nat) : Prop :=
  d.formOk i a w (fun x => (d.reg x).toNat) = true ∧ d.liveOk a w = true

theorem Dev.liveWord_takeGrant (h : a ≠ Reg.HOSTIF_GRANTS p) : (d.takeGrant p).liveWord a v i = d.liveWord a v i := by
  simp only [Dev.liveWord, Dev.takeGrant_reg h, Dev.clampWord_takeGrant]

theorem Dev.liveValid_takeGrant {w : Nat} (hp : p < 6) (h : a ≠ Reg.HOSTIF_GRANTS p) :
    (d.takeGrant p).liveValid i a w ↔ d.liveValid i a w := by
  have hr := Dev.takeGrant_reg_lt (d := d) hp
  rw [Dev.liveValid, Dev.liveValid, Dev.liveOk_congr Dev.takeGrant_zone hr (Dev.takeGrant_reg h),
    Dev.formOk_congr hr fun x hx => by rw [hr x hx]]

/-- What a write to SH fields without a lock changes besides the register and the accounts: the status of a port whose
pending set it belongs to. -/
theorem Dev.applySh_regsBut {e : Env} {t b w : Nat} {l : List Nat} (hl : RegsBut s.dev d l) :
    (pendPort a = none → RegsBut s.dev (d.applySh e t b a w) (a :: l)) ∧
    (∀ n, pendPort a = some n → RegsBut s.dev (d.applySh e t b a w) (a :: Reg.TDMn_STATUS n :: l)) := by
  refine ⟨fun h x hx => ?_, fun n h x hx => ?_⟩
  · obtain ⟨hxa, hxl⟩ := not_or.mp (List.mem_cons.not.mp hx)
    rw [Dev.applySh_reg_other hxa (by simp [h]), hl x hxl]
  · simp only [List.mem_cons, not_or] at hx
    obtain ⟨hxa, hxs, hxl⟩ := hx
    rw [Dev.applySh_reg_other hxa fun m hm => (Option.some.inj (h.symm.trans hm)) ▸ hxs, hl x hxl]

/-- A port's status is none of a requester's accounts. -/
theorem tdmStatus_lt {n : Nat} (h : pendPort a = some n) : Reg.TDMn_STATUS n < 0x22000 := by
  have hn := pendPort_lt h
  unfold Reg.TDMn_STATUS
  omega

/-- R388, R393: a write to SH fields with no lock open; `l` holds the accounts that it changes. -/
theorem write_live {l : List Nat} (hp : p < 5) (ha : a < 2 ^ 20) (hi : regInfoAt a = some i) (hm : MayReach s p a)
    (hs : i.sh ≠ 0) (ho : s.dev.lock.owner = none) (hl : (vat s.dev.req p).lost = false)
    (hv : s.dev.liveValid i a (s.dev.liveWord a v i)) (hlg : Reg.HOSTIF_GRANTS p ∈ l)
    (hlc : s.dev.narrows i a v = true → Reg.HOSTIF_ERRS p ∈ l ∧ Reg.HOSTIF_LAST p ∈ l) :
    OnlyDev s (writeEnd s p a v) ∧ (writeEnd s p a v).dev.reg a = BitVec.ofNat 32 (s.dev.liveWord a v i) ∧
    (s.dev.Narrows i a v → Clamped s (writeEnd s p a v) p a) ∧
    (pendPort a = none → RegsBut s.dev (writeEnd s p a v).dev (a :: l)) ∧
    (∀ n, pendPort a = some n → (writeEnd s p a v).dev.bit (Fd.TDMn_STATUS_UPDATE_PENDING n) = true ∧
      RegsBut s.dev (writeEnd s p a v).dev (a :: Reg.TDMn_STATUS n :: l)) := by
  obtain ⟨hg, he, hla⟩ := sh_ne_accounts hp hi hs
  obtain ⟨hform, hlive⟩ := (Dev.liveValid_takeGrant (p := p) (by omega) hg).mpr hv
  rw [← Dev.liveWord_takeGrant hg] at hform hlive
  have hw := (hostWrite_writable (v := v) hp hi hm (writable_of_sh hs)).trans ((writeReg_sh hs).trans
    (writeSh_live (by rwa [Dev.takeGrant_lock]) (Dev.takeGrant_lost.trans hl) hform hlive))
  rw [← Dev.liveWord, Dev.liveWord_takeGrant hg, Dev.narrows_takeGrant] at hw
  obtain ⟨hdev, ht⟩ := performed_of_hostWrite hw
  obtain ⟨hnone, hport⟩ := Dev.applySh_regsBut (e := s.env) (t := s.env.tick) (b := s.env.tick) (a := a)
    (w := s.dev.liveWord a v i) (Dev.regsBut_takeGrant.mono (m := l) (by simpa using hlg))
  refine ⟨hdev, ?_, fun hn => clamped_of_performed ha (Dev.narrows_iff.mpr hn ▸ ht) ?_, fun h => ?_, fun n h => ⟨?_, ?_⟩⟩
  · rw [ht, Dev.performed_reg fun _ => ⟨he, hla⟩, Dev.applySh_reg_same]
  · rw [Dev.applySh_reg_other he.symm fun n h => (by have := tdmStatus_lt h; unfold Reg.HOSTIF_ERRS; omega),
      Dev.takeGrant_reg errs_ne_grants]
  · rw [ht]
    exact (hnone h).performed fun hc => ⟨.tail _ (hlc hc).1, .tail _ (hlc hc).2⟩
  · have hlt := tdmStatus_lt h
    have hne : Reg.TDMn_STATUS n ≠ Reg.HOSTIF_ERRS p ∧ Reg.TDMn_STATUS n ≠ Reg.HOSTIF_LAST p := by
      unfold Reg.HOSTIF_ERRS Reg.HOSTIF_LAST
      omega
    rw [ht, Dev.bit_congr (Dev.performed_reg fun _ => hne), Dev.applySh_pending h]
  · rw [ht]
    exact (hport n h).performed fun hc => ⟨.tail _ (.tail _ (hlc hc).1), .tail _ (.tail _ (hlc hc).2)⟩

theorem write_liveRefused (hp : p < 5) (ha : a < 2 ^ 20) (hi : regInfoAt a = some i) (hm : MayReach s p a) (hs : i.sh ≠ 0)
    (ho : s.dev.lock.owner = none)
    (h : (vat s.dev.req p).lost = true ∨ ¬ s.dev.liveValid i a (s.dev.liveWord a v i)) :
    Rejected s (writeEnd s p a v) p a := by
  obtain ⟨hg, -, -⟩ := sh_ne_accounts hp hi hs
  refine rejected_of_hostWrite ha ((hostWrite_writable hp hi hm (writable_of_sh hs)).trans ((writeReg_sh hs).trans
    (writeSh_lost (by rwa [Dev.takeGrant_lock]) ?_)))
  rw [← Dev.liveWord, Dev.liveWord_takeGrant hg, Dev.takeGrant_lost]
  rw [← Dev.liveValid_takeGrant (p := p) (by omega) hg, Dev.liveValid, not_and_or, Bool.not_eq_true, Bool.not_eq_true] at h
  exact h

/-- What a performed write leaves that stores its word in a register without SH fields. -/
theorem write_stored (ha : a < 2 ^ 20) (hc : a ≠ Reg.FIR_CADDR)
    (hw : hostWrite s.env (s.dev.takeGrant p) p a v = storedOut s.env (s.dev.takeGrant p) p a v i) :
    let w := mergeWord i ((s.dev.takeGrant p).reg a).toNat (s.dev.clampWord a v)
    OnlyDev s (writeEnd s p a v) ∧
    (¬ s.dev.Narrows i a v → (writeEnd s p a v).dev.reg a = BitVec.ofNat 32 w ∧
      RegsBut s.dev (writeEnd s p a v).dev [a, Reg.HOSTIF_GRANTS p]) ∧
    (s.dev.Narrows i a v → a ≠ Reg.HOSTIF_ERRS p → a ≠ Reg.HOSTIF_LAST p →
      (writeEnd s p a v).dev.reg a = BitVec.ofNat 32 w ∧
      Clamped s (writeEnd s p a v) p a ∧
      RegsBut s.dev (writeEnd s p a v).dev [a, Reg.HOSTIF_GRANTS p, Reg.HOSTIF_ERRS p, Reg.HOSTIF_LAST p]) := by
  intro w
  have hstore : (s.dev.takeGrant p).storeWord p a ((s.dev.takeGrant p).clampWord a v) i =
      (s.dev.takeGrant p).setReg a (BitVec.ofNat 32 w) := by
    simp [w, Dev.storeWord, hc, Dev.clampWord_takeGrant]
  rw [storedOut, hstore, Dev.narrows_takeGrant] at hw
  obtain ⟨hdev, ht⟩ := performed_of_hostWrite hw
  have hregs {w : Word} : RegsBut s.dev ((s.dev.takeGrant p).setReg a w) [a, Reg.HOSTIF_GRANTS p] :=
    Dev.regsBut_takeGrant.setReg
  refine ⟨hdev, fun hn => ?_, fun hn he hl => ⟨?_, clamped_of_performed ha (Dev.narrows_iff.mpr hn ▸ ht) ?_, ?_⟩⟩
  · rw [ht, Dev.narrows_eq_false_iff.mpr hn]
    exact ⟨(Dev.reg_congr Dev.performed_regs).trans Dev.reg_setReg_same, hregs.performed (by simp)⟩
  · rw [ht, Dev.performed_reg fun _ => ⟨he, hl⟩, Dev.reg_setReg_same]
  · exact hregs _ (by simpa [he.symm] using errs_ne_grants)
  · rw [ht]
    exact (hregs.mono (by simp)).performed (by simp)

theorem write_page {q o : Nat} (hp : p < 5) (hi : regInfoAt a = some i) (hm : MayReach s p a) (hs : i.sh = 0)
    (hrw : i.rw ||| i.w1c ||| i.wo ≠ 0) (hpage : pageOf a = some (q, o)) (ho : o ≠ 8) :
    hostWrite s.env (s.dev.takeGrant p) p a v = storedOut s.env (s.dev.takeGrant p) p a v i :=
  (hostWrite_writable hp hi hm (writable_of_not_sh hs hrw)).trans (writeReg_page hs hpage ho)

/-- The word that a write outside HOSTIF would store is the one that it would store without the grant. -/
theorem Dev.liveWord_off (hp : p < 5) (ha : a < 0x22000 ∨ 0x23000 ≤ a) :
    (d.takeGrant p).liveWord a v i = d.liveWord a v i :=
  Dev.liveWord_takeGrant (by unfold Reg.HOSTIF_GRANTS; omega)

theorem write_taken (hp : p < 5) (hi : regInfoAt a = some i) (hm : MayReach s p a) (hs : i.sh = 0)
    (hrw : i.rw ||| i.w1c ||| i.wo ≠ 0) (ha : a < 0x22000 ∨ 0x24000 ≤ a) (hf : a ≠ Reg.FIR_CDATA)
    (hv : writeValid i a (s.dev.liveWord a v i) = true)
    (hw : (s.dev.takeGrant p).woAction s.env p a (s.dev.clampWord a v) = some (s.dev.takeGrant p)) :
    hostWrite s.env (s.dev.takeGrant p) p a v = storedOut s.env (s.dev.takeGrant p) p a v i := by
  rw [← Dev.liveWord_off hp (by omega)] at hv
  exact (hostWrite_writable hp hi hm (writable_of_not_sh hs hrw)).trans
    (writeReg_taken hs ha hf hv (by rwa [Dev.clampWord_takeGrant]))

/-- A value that a field declares invalid, or that the register's action refuses, is rejected (log entries 21 and 60). -/
theorem write_refused (hp : p < 5) (ha20 : a < 2 ^ 20) (hi : regInfoAt a = some i) (hm : MayReach s p a) (hs : i.sh = 0)
    (hrw : i.rw ||| i.w1c ||| i.wo ≠ 0) (ha : a < 0x22000 ∨ 0x24000 ≤ a) (hf : a ≠ Reg.FIR_CDATA)
    (h : writeValid i a (s.dev.liveWord a v i) = false ∨
      (s.dev.takeGrant p).woAction s.env p a (s.dev.clampWord a v) = none) : Rejected s (writeEnd s p a v) p a := by
  rw [← Dev.liveWord_off (p := p) hp (by omega), ← Dev.clampWord_takeGrant (p := p)] at h
  exact rejected_of_hostWrite ha20 ((hostWrite_writable hp hi hm (writable_of_not_sh hs hrw)).trans (writeReg_refused hs ha hf h))

theorem firCaddr_masks (hi : regInfoAt Reg.FIR_CADDR = some i) : i.sh = 0 ∧ i.rw ||| i.w1c ||| i.wo ≠ 0 := by
  have h : (regInfoAt Reg.FIR_CADDR).all (fun i => i.sh == 0 && i.rw ||| i.w1c ||| i.wo != 0) = true := by decide
  simpa [hi] using h

/-- R157: a write of FIR_CADDR sets the requester's own coefficient address. -/
theorem write_firCaddr (hp : p < 5) (hc : a = Reg.FIR_CADDR) (hi : regInfoAt a = some i) (hm : MayReach s p a)
    (hv : writeValid i a (s.dev.liveWord a v i) = true) :
    OnlyDev s (writeEnd s p a v) ∧
    (vat (writeEnd s p a v).dev.req p).firCaddr =
      BitVec.ofNat 32 (mergeWord i (vat s.dev.req p).firCaddr.toNat (s.dev.clampWord a v)) ∧
    (∀ q, q ≠ p → vat (writeEnd s p a v).dev.req q = vat s.dev.req q) ∧
    RegsBut s.dev (writeEnd s p a v).dev [Reg.HOSTIF_GRANTS p, Reg.HOSTIF_ERRS p, Reg.HOSTIF_LAST p] := by
  subst hc
  obtain ⟨hs, hrw⟩ := firCaddr_masks hi
  obtain ⟨hdev, ht⟩ := performed_of_hostWrite
    (write_taken hp hi hm hs hrw (.inl (by decide)) (by decide) hv (by rfl))
  rw [Dev.clampWord_takeGrant, Dev.storeWord, if_pos (by decide)] at ht
  refine ⟨hdev, ?_, fun q hq => ?_, ?_⟩
  · rw [ht, Dev.performed_req, Dev.modReq, vat_vmod_same (by omega), Dev.takeGrant_firCaddr]
  · rw [ht, Dev.performed_req, Dev.modReq, vat_vmod_other hq, Dev.takeGrant_req_other hq]
  · have hregs {f : ReqSt → ReqSt} : RegsBut s.dev ((s.dev.takeGrant p).modReq p f) [Reg.HOSTIF_GRANTS p] :=
      fun x hx => (Dev.reg_congr (Dev.modReq_regs _ _ _)).trans (Dev.regsBut_takeGrant x hx)
    rw [ht]
    exact (hregs.mono (by simp)).performed (by simp)

/-- A register of the service block that has no action of its own. -/
theorem write_service (hp : p < 5) (hi : regInfoAt a = some i) (hm : MayReach s p a) (hlo : 0x23000 ≤ a) (hhi : a < 0x24000)
    (hs : i.sh = 0) (hrw : i.rw ||| i.w1c ||| i.wo ≠ 0)
    (hn : a ∉ [Reg.SVC_CTL, Reg.SVC_COMMIT, Reg.SVC_FL_CTL, Reg.SVC_FL_DATA, Reg.SVC_PIN]) :
    OnlyDev s (writeEnd s p a v) ∧ (writeEnd s p a v).dev.reg a =
      BitVec.ofNat 32 (if i.wo = 0xFFFFFFFF then s.dev.clampWord a v else s.dev.liveWord a v i) ∧
    RegsBut s.dev (writeEnd s p a v).dev [a, Reg.HOSTIF_GRANTS p] := by
  have hw := (hostWrite_writable (v := v) hp hi hm (writable_of_not_sh hs hrw)).trans
    ((writeReg_svc hs hlo hhi).trans (writeSvc_plain hn hlo))
  rw [← Dev.liveWord, Dev.liveWord_off hp (.inr hlo), Dev.clampWord_takeGrant] at hw
  obtain ⟨hdev, ht⟩ := performed_of_hostWrite hw
  refine ⟨hdev, ?_, ?_⟩
  · rw [ht, Dev.reg_congr Dev.performed_regs, Dev.reg_setReg_same]
  · rw [ht]
    exact (Dev.regsBut_takeGrant.setReg).performed (by simp)

end clauses

/-- Settles O45, one lemma per clause: the checks of a write see nothing that its grant changed, and its accounts touch no
register that the clause speaks of. -/
theorem registerWritesFollowTheirRules : Obligations.RegisterWritesFollowTheirRules := by
  intro p addr v s hr a wr u outside
  have hp := p.isLt
  have ha : a < 2 ^ 20 := addr.isLt
  have hx : exec wr s = .next (writeEnd s p.val a v.toNat) := exec_registerWrite hr
  refine ⟨fun h => ⟨_, hx, write_outside ha h⟩,
    fun i hi hrun h => ⟨_, hx, write_barred hp ha hi hrun h⟩, fun i hi hm => ?_⟩
  intro clamped accounts
  refine ⟨fun h0 => ⟨fun hl => ⟨_, hx, write_readOnlyLid hp ha hi hm h0 hl⟩,
      fun hl => ⟨_, hx, write_readOnly hp hi hm h0 hl⟩⟩,
    fun q hs ho h => ⟨_, hx, write_shLocked hp ha hi hm hs ho h⟩, fun hs ho hc => ?_, fun hs ho => ?_, ?_,
    fun hs hrw hf hout h => ⟨_, hx, write_refused hp ha hi hm hs hrw hout hf h⟩, ?_, ?_⟩
  · exact ⟨fun hroom hform => ⟨_, hx, write_shadowed hp ha hi hm hs ho hc hroom hform⟩,
      fun h => ⟨_, hx, write_unshadowed hp ha hi hm hs ho hc h⟩⟩
  · refine ⟨fun hl hv => ⟨_, hx, ?_⟩, fun h => ⟨_, hx, write_liveRefused hp ha hi hm hs ho h⟩⟩
    refine write_live hp ha hi hm hs ho hl hv ?_ fun hn => ?_
    · split <;> exact List.mem_cons_self
    · rw [if_neg (Dev.narrows_iff.mp hn)]
      exact ⟨.tail _ (.head _), .tail _ (.tail _ (.head _))⟩
  · intro plain hs hrw hf hplain
    have hc : a ≠ Reg.FIR_CADDR := by
      rcases hplain with ⟨-, hc, -, -⟩ | ⟨q, o, hpage, -⟩
      · exact hc
      · obtain ⟨hlo, -⟩ := pageOf_range hpage
        unfold Reg.FIR_CADDR
        omega
    have hw : hostWrite s.env (s.dev.takeGrant p.val) p.val a v.toNat =
        storedOut s.env (s.dev.takeGrant p.val) p.val a v.toNat i := by
      rcases hplain with ⟨hout, -, hv, hwo⟩ | ⟨q, o, hpage, ho⟩
      · exact write_taken hp hi hm hs hrw hout hf hv hwo
      · exact write_page hp hi hm hs hrw hpage ho
    obtain ⟨hdev, hplainly, hnarrowed⟩ := write_stored ha hc hw
    exact ⟨_, hx, hdev, fun hn => hplainly hn, fun hn => hnarrowed hn⟩
  · exact fun hc hv => ⟨_, hx, write_firCaddr hp hc hi hm hv⟩
  · exact fun hlo hhi hs hrw hn => ⟨_, hx, write_service hp hi hm hlo hhi hs hrw hn⟩

end Sys2Proof.Machine
end

section
/-! Fuses (R401, R448): a write of the register window changes them by commissioning at most, and no other command does. -/
namespace Sys2Proof.Machine

/-! ### Commissioning -/

/-- R448, R401: the fused identity is in `f'` as in `f`, and so is every fuse once an owner's key is programmed. -/
def Fuses.Keep (f f' : Fuses) : Prop :=
  f' = { f with ownerKey := f'.ownerKey, serviceKey := f'.serviceKey } ∧ (f.ownerKey.isSome → f' = f)

theorem Fuses.Keep.refl (f : Fuses) : f.Keep f := ⟨rfl, fun _ => rfl⟩

theorem Fuses.Keep.of_eq {f f' : Fuses} (h : f' = f) : f.Keep f' := h ▸ Fuses.Keep.refl f

theorem Fuses.Keep.trans {f f' f'' : Fuses} (h : f.Keep f') (h' : f'.Keep f'') : f.Keep f'' := by
  obtain ⟨hid, hkey⟩ := h
  obtain ⟨hid', hkey'⟩ := h'
  refine ⟨by rw [hid', hid], fun hs => ?_⟩
  have hf := hkey hs
  exact (hkey' (hf ▸ hs)).trans hf

/-- R401: what a write can make of what stands outside the controller: nothing, or a commissioning. -/
def Commissioned (e e' : Env) : Prop := e' = e ∨ ∃ d v d', commissionWrite e d v = some (e', d')

theorem Commissioned.of_eq {e e' : Env} (h : e' = e) : Commissioned e e' := .inl h

/-- R401: commissioning programs blank keys, and nothing else. -/
theorem commissionWrite_keep {e e' : Env} {d d' : Dev} {v : Nat} (h : commissionWrite e d v = some (e', d')) :
    e.fuses.Keep e'.fuses := by
  unfold commissionWrite at h
  dsimp only at h
  split at h
  next hc =>
    have hblank : e.fuses.ownerKey = none := by
      rw [Bool.and_eq_true] at hc
      exact Option.isNone_iff_eq_none.mp hc.2
    cases h
    exact ⟨rfl, fun hs => by simp [hblank] at hs⟩
  next => cases h

theorem Commissioned.keep {e e' : Env} (h : Commissioned e e') : e.fuses.Keep e'.fuses := by
  rcases h with h | ⟨_, _, _, h⟩
  · exact .of_eq (by rw [h])
  · exact commissionWrite_keep h

/-! ### Writes and frames -/

/-- Of the registers of service access SVC_COMMIT alone reaches outside the controller. -/
theorem writeSvc_commissioned (e : Env) (d : Dev) (p a v : Nat) (i : RegInfo) : Commissioned e (writeSvc e d p a v i).env := by
  unfold writeSvc
  dsimp only
  split
  · refine .of_eq ?_; split <;> rfl
  split
  · split
    next h => exact .inr ⟨_, _, _, h⟩
    next => exact .of_eq rfl
  · refine .of_eq ?_
    repeat' split
    all_goals rfl

theorem writeReg_commissioned (e : Env) (d : Dev) (p a v : Nat) (i : RegInfo) : Commissioned e (writeReg e d p a v i).env := by
  unfold writeReg
  dsimp only
  split
  · exact .of_eq (writeSh_env ..)
  split
  · exact .of_eq (writeCdata_env ..)
  split
  · exact writeSvc_commissioned ..
  · refine .of_eq ?_
    repeat' split
    all_goals rfl

theorem hostWrite_commissioned (e : Env) (d : Dev) (p a v : Nat) : Commissioned e (hostWrite e d p a v).env := by
  unfold hostWrite
  dsimp only
  split
  · split
    · exact .of_eq rfl
    split
    · exact .of_eq rfl
    split
    · exact .of_eq rfl
    · exact writeReg_commissioned ..
  · exact .of_eq rfl

theorem accessWrite_keep (e : Env) (d : Dev) (p a v : Nat) : e.fuses.Keep (accessWrite e d p a v).env.fuses :=
  (hostWrite_commissioned e (d.takeGrant p) p a v).keep

/-- A frame is a sequence of accesses: what every write keeps of what stands outside the controller, a frame keeps. -/
theorem hostFrame_keeps {P : Env → Prop} {p : Nat} (hw : ∀ e d a v, P e → P (accessWrite e d p a v).env)
    {e : Env} {d : Dev} {c : Nat} {data : List Word} {crc : Nat} (he : P e) : P (hostFrame e d p c data crc).1 := by
  have word : ∀ (f : FrameSt) (i : Nat), P f.env → P (f.word p c data i).env := by
    intro f i hf
    unfold FrameSt.word
    dsimp only
    split
    · exact hf
    split
    · exact hw _ _ _ _ hf
    · exact hf
  have words : ∀ (l : List Nat) (f : FrameSt), P f.env → P (l.foldl (fun f i => f.word p c data i) f).env := by
    intro l
    induction l with
    | nil => exact fun _ hf => hf
    | cons i t ih => exact fun f hf => ih _ (word f i hf)
  unfold hostFrame
  dsimp only
  split
  · exact he
  split
  · exact he
  · exact words _ _ he

theorem hostFrame_keep (e : Env) (d : Dev) (p c : Nat) (data : List Word) (crc : Nat) :
    e.fuses.Keep (hostFrame e d p c data crc).1.fuses :=
  hostFrame_keeps (P := fun e' => e.fuses.Keep e'.fuses) (fun _ _ _ _ h => h.trans (accessWrite_keep ..)) (.refl _)

/-! ### Flash devices -/

theorem flashDone_fuses (e : Env) (d : Dev) (f : FlashOp) : (flashDone e d f).1.fuses = e.fuses := by
  unfold flashDone
  repeat' split
  all_goals rfl

/-! ### Commands -/

variable {s t : State}

/-- A command of the controller keeps the fuses that its update of what stands outside keeps. -/
theorem onEnvDev_keep {f : Env → Dev → Env × Dev} (hf : s.env.fuses.Keep (f s.env s.dev).1.fuses)
    (h : onEnvDev s f = .next t) : s.env.fuses.Keep t.env.fuses := by
  cases h; exact hf

theorem onWrite_keep {p a v : Nat} (h : onWrite s p a v = .next t) : s.env.fuses.Keep t.env.fuses := by
  refine onEnvDev_keep ?_ h
  split
  · exact accessWrite_keep ..
  · exact .refl _

theorem flashOpDone_keep {ok : Bool} (h : execFlashOpDone ok s = .next t) : s.env.fuses.Keep t.env.fuses := by
  refine onEnvDev_keep (.of_eq ?_) h
  split
  · split
    · cases ok
      · simp only [Bool.false_eq_true, if_false]; split <;> rfl
      · simp only [if_true]; split <;> exact flashDone_fuses ..
    · rfl
  · rfl

theorem nandEraseDone_keep {ok : Bool} (h : execNandEraseDone ok s = .next t) : s.env.fuses.Keep t.env.fuses := by
  refine onEnvDev_keep (.of_eq ?_) h
  cases ok <;> repeat' split
  all_goals rfl

theorem nandProgramDone_keep {ok : Bool} (h : execNandProgramDone ok s = .next t) : s.env.fuses.Keep t.env.fuses := by
  refine onEnvDev_keep (.of_eq ?_) h
  cases ok <;> repeat' split
  all_goals rfl

/-- R448, R401: the commands that reach outside the controller keep the fuses; every other one changes the controller or one
companion. -/
theorem exec_keep {i : Instr} (h : exec i s = .next t) : s.env.fuses.Keep t.env.fuses := by
  cases i with
  | tick | releaseTick | mainOscLock =>
    cases h
    dsimp only
    split <;> exact .refl _
  | hostWriteFrame | hostReadFrame =>
    cases h
    dsimp only
    split
    · exact hostFrame_keep ..
    · exact .refl _
  | nandEraseDone ok => exact nandEraseDone_keep h
  | nandProgramDone ok => exact nandProgramDone_keep h
  | flashOpDone ok => exact flashOpDone_keep h
  | registerWrite | lockOpen | lockCommit | lockAbort | firCdataWrite | firCopyGo | firBankRequest | olBankRequest | rackSwap
  | rackAbort | injGo | injAbort | capArm | capAbort | diagCrstWrite | svcClose | svcTryPass | svcTryResp | svcReqChal
  | svcCommit | norRead | norErase | norProgram | norVerify | nandRead | nandErase | nandProgram | nandVerify | svcPinGo
  | svcPinStop => exact onWrite_keep h
  | svcFlDataAccess p wr =>
    cases wr with
    | none => cases h; exact .refl _
    | some v => exact onWrite_keep h
  | mailboxInvalidCode p code arg tag =>
    change execMailboxInvalidCode p code arg tag s = .next t at h
    unfold execMailboxInvalidCode at h
    split at h <;> (cases h; exact .refl _)
  | _ => cases h; exact .refl _

theorem step_keep (h : step s = .next t) : s.env.fuses.Keep t.env.fuses := by
  unfold step at h
  split at h
  next => cases h; exact .refl _
  next rest _ => exact exec_keep (s := { s with pending := rest }) h

/-- Settles O3: only commissioning changes fuses, and it programs keys that are blank. -/
theorem fusesAreWrittenOnce : Obligations.FusesAreWrittenOnce := by
  intro s t h
  obtain ⟨hid, hkey⟩ := step_keep h
  refine ⟨by rw [hid], by rw [hid], by rw [hid], by rw [hid], by rw [hid], fun k hk => ?_⟩
  have hsame := hkey (by rw [hk]; rfl)
  exact ⟨by rw [hsame, hk], by rw [hsame]⟩

end Sys2Proof.Machine
end

section
/-! Image selection (R41, R93 to R97): the result that a slot is given, how selection goes on after a candidate that failed a
check, and what follows a candidate that passed them all. -/
namespace Sys2Proof.Machine

variable {d d₀ d' : Dev} {c : Bool} {r : Nat} {e : Env}

/-! ### The result of a slot (R94) -/

theorem resultField_fits (c : Bool) : (resultField c).fits := by cases c <;> decide

/-- A result that fits its field is read back whole. -/
theorem Dev.fld_put_result (h : r < 16) : (d.put (resultField c) r).fld (resultField c) = r := by
  have hw : (resultField c).w = 4 := by cases c <;> rfl
  rw [Dev.fld_put_same (resultField_fits c), hw]
  exact Nat.mod_eq_of_lt h

theorem Dev.slotResult_img : (d.slotResult c r).img = d.img := by
  unfold Dev.slotResult Dev.evtIf
  split <;> rfl

theorem Dev.slotResult_reg {a : Nat} (hs : a ≠ (resultField c).addr) (he : a ≠ Reg.IMG_EVT) :
    (d.slotResult c r).reg a = d.reg a :=
  (Dev.reg_evtIf_other he).trans (Dev.reg_put_other hs)

/-- R94: a failed check sets IMG_EVT.REFUSED. -/
theorem Dev.slotResult_refused (h : 2 < r) :
    d.slotResult c r = (d.put (resultField c) r).evt Fd.IMG_EVT_REFUSED :=
  if_pos (decide_eq_true h)

theorem Dev.slotResult_accepted : d.slotResult c resAccepted = d.put (resultField c) 1 := rfl

/-- R94: which record failed is told in IMG_ERR and IMG_ERR_OFF, and nowhere else. -/
theorem Dev.slotError_keeps {b : ImgBuild} :
    (d.slotError c b).img = d.img ∧ (d.slotError c b).reg Reg.SYS_STATE = d.reg Reg.SYS_STATE := by
  unfold Dev.slotError
  split
  · refine ⟨rfl, ?_⟩
    rw [Dev.reg_put_other (by decide), Dev.reg_put_other (by decide), Dev.reg_putB_other (by decide),
      Dev.reg_put_other (by decide)]
  · exact ⟨rfl, rfl⟩

/-! ### The next candidate (R95, R97) -/

theorem Dev.nextCandidate_cons {x : Bool} {rest : List Bool} (h : d.img.cands = x :: rest) :
    d.nextCandidate = { d with img := { d.img with cands := rest, phase := .validate x } } := by
  simp [Dev.nextCandidate, h]

theorem Dev.nextCandidate_nil (h : d.img.cands = []) : d.nextCandidate = d.noImage := by
  simp [Dev.nextCandidate, h]

theorem Dev.noImage_phase : d.noImage.img.phase = .done := by
  unfold Dev.noImage Dev.when
  split <;> rfl

theorem Dev.noImage_sysState :
    d.noImage.fld Fd.SYS_STATE_STATE = if d.fld Fd.SYS_STATE_STATE = 0 then 8 else d.fld Fd.SYS_STATE_STATE := by
  by_cases h : d.fld Fd.SYS_STATE_STATE = 0
  · rw [Dev.noImage, Dev.when, if_pos (by simpa using h), if_pos h]
    exact Dev.fld_put_same (by decide)
  · rw [Dev.noImage, Dev.when, if_neg (by simpa using h), if_neg h]
    rfl

/-- Going on touches no register but SYS_STATE. -/
theorem Dev.nextCandidate_reg {a : Nat} (h : a ≠ Reg.SYS_STATE) : d.nextCandidate.reg a = d.reg a := by
  cases hc : d.img.cands with
  | cons x rest => rw [Dev.nextCandidate_cons hc]; rfl
  | nil =>
    rw [Dev.nextCandidate_nil hc]
    unfold Dev.noImage Dev.when
    split
    · exact Dev.reg_put_other h
    · rfl

/-! ### A candidate that failed a check -/

/-- A refusal speaks of the candidates left and of SYS_STATE alone. -/
theorem CandidateRefused.congr (hi : d₀.img = d.img) (hs : d₀.reg Reg.SYS_STATE = d.reg Reg.SYS_STATE)
    (h : CandidateRefused d₀ d' c r) : CandidateRefused d d' c r := by
  have hf : d₀.fld Fd.SYS_STATE_STATE = d.fld Fd.SYS_STATE_STATE := Dev.fld_congr hs
  rwa [CandidateRefused, hi, hf] at h

/-- Selection goes on after a candidate whose slot shows the result. -/
theorem CandidateRefused.of_shown (hr : d.fld (resultField c) = r) (he : d.bit Fd.IMG_EVT_REFUSED = true) :
    CandidateRefused d d.nextCandidate c r := by
  refine ⟨?_, ?_, fun x rest hc => ?_, fun hc => ?_⟩
  · rwa [Dev.fld_congr (Dev.nextCandidate_reg (by cases c <;> decide))]
  · rwa [Dev.bit_congr (Dev.nextCandidate_reg (by decide))]
  · rw [Dev.nextCandidate_cons hc]
    exact ⟨rfl, rfl, rfl⟩
  · rw [Dev.nextCandidate_nil hc]
    exact ⟨Dev.noImage_phase, Dev.noImage_sysState⟩

theorem Dev.rejectCandidate_refused (hlo : 2 < r) (hhi : r < 16) : CandidateRefused d (d.rejectCandidate c r) c r := by
  refine (CandidateRefused.of_shown (c := c) (r := r) ?_ ?_).congr Dev.slotResult_img
    (Dev.slotResult_reg (by cases c <;> decide) (by decide))
  · rw [Dev.slotResult_refused hlo, Dev.fld_evt_other (by decide) (by cases c <;> decide), Dev.fld_put_result hhi]
  · rw [Dev.slotResult_refused hlo, Dev.bit_evt_same (by decide) rfl]

/-! ### A candidate that passed every check (R41, R95, R96) -/

/-- R95, R453: the apply pass of slot c begins with the strings of its image, and its CH domains may ramp (R56). -/
def Dev.applyStart (d : Dev) (e : Env) (c : Bool) : Dev :=
  { d with img := { d.img with phase := .apply c, passPos := 0, cfg := { d.img.cfg with strings := d.img.seen.strings } }
           pwr := { d.pwr with rampDue := max d.pwr.rampDue (e.lockTicks + 512) } }

/-- R95: a candidate other than the first is a fallback. -/
def Dev.showFallback (d : Dev) : Dev := (d.putB Fd.IMG_STATUS_FALLBACK true).evt Fd.IMG_EVT_FALLBACK

/-- R96: without an owner nothing is applied, whether or not a blocking domain has failed (log entry 72). -/
theorem Dev.acceptCandidate_unowned (h : e.fuses.ownerKey = none) :
    d.acceptCandidate e c = ((d.put (resultField c) 1).imgPhase .done).put Fd.SYS_STATE_STATE 9 := by
  simp [Dev.acceptCandidate, Dev.slotResult_accepted, h]

theorem Dev.acceptCandidate_owned (h : e.fuses.ownerKey ≠ none) :
    d.acceptCandidate e c = if d.blocked then (d.put (resultField c) 1).imgPhase .done
      else ((d.put (resultField c) 1).applyStart e c).when (d.img.first != some c) Dev.showFallback := by
  unfold Dev.acceptCandidate
  exact if_neg (by simpa using h)

theorem Dev.when_showFallback_img {q : Bool} : (d.when q Dev.showFallback).img = d.img := by
  unfold Dev.when
  split <;> rfl

theorem Dev.when_showFallback_result {q : Bool} : (d.when q Dev.showFallback).fld (resultField c) = d.fld (resultField c) := by
  unfold Dev.when
  split
  · exact (Dev.fld_evt_other (by decide) (by cases c <;> decide)).trans (Dev.fld_putB_other (by decide) (by cases c <;> decide))
  · rfl

/-- R94: an accepted candidate shows ACCEPTED, whatever follows. -/
theorem Dev.acceptCandidate_result : (d.acceptCandidate e c).fld (resultField c) = 1 := by
  have hshown : (d.put (resultField c) 1).fld (resultField c) = 1 := Dev.fld_put_result (by decide)
  by_cases h : e.fuses.ownerKey = none
  · rw [Dev.acceptCandidate_unowned h, Dev.fld_put_other (by decide) (by cases c <;> decide)]
    exact hshown
  · rw [Dev.acceptCandidate_owned h]
    split
    · exact hshown
    · exact Dev.when_showFallback_result.trans hshown

/-- R96: selection ends on an unowned part, and ACCEPTED and UNOWNED are all that its registers show. -/
theorem Dev.acceptCandidate_unowned_shows (h : e.fuses.ownerKey = none) :
    (d.acceptCandidate e c).fld Fd.SYS_STATE_STATE = 9 ∧ (d.acceptCandidate e c).img.phase = .done ∧
    OnlyFields { d with img := (d.acceptCandidate e c).img } (d.acceptCandidate e c) [resultField c, Fd.SYS_STATE_STATE] := by
  rw [Dev.acceptCandidate_unowned h]
  exact ⟨Dev.fld_put_same (by decide), rfl, (OnlyFields.put (d := d.imgPhase .done) (resultField_fits c)).andPut (by decide)⟩

theorem Dev.acceptCandidate_applies (h : e.fuses.ownerKey ≠ none) (hb : d.blocked = false) :
    (d.acceptCandidate e c).img.phase = .apply c ∧ (d.acceptCandidate e c).img.cfg.strings = d.img.seen.strings := by
  rw [Dev.acceptCandidate_owned h, hb, if_neg Bool.false_ne_true, Dev.when_showFallback_img]
  exact ⟨rfl, rfl⟩

theorem Dev.acceptCandidate_fallback (h : e.fuses.ownerKey ≠ none) (hb : d.blocked = false) (hf : d.img.first ≠ some c) :
    (d.acceptCandidate e c).bit Fd.IMG_STATUS_FALLBACK = true ∧ (d.acceptCandidate e c).bit Fd.IMG_EVT_FALLBACK = true := by
  rw [Dev.acceptCandidate_owned h, hb, if_neg Bool.false_ne_true, Dev.when, if_pos (by simpa using hf)]
  exact ⟨(Dev.bit_evt_other (by decide) rfl (by decide)).trans (Dev.bit_putB_same (by decide) rfl),
    Dev.bit_evt_same (by decide) rfl⟩

/-! ### The checks in turn (R93 to R96) -/

section checks
variable {s : State}

/-- R94: checks 4 and 5 pass, or give SECTION or RECORD. -/
theorem ImgPass.records_refusal {p : ImgPass} (h : p.records ≠ 1) : 2 < p.records ∧ p.records < 16 := by
  unfold ImgPass.records at *
  split
  · decide
  · split
    · decide
    · simp_all [resAccepted]

/-- What the checks after the passes need of an image, as the passes saw it. -/
def ImgPass.seen (p : ImgPass) : ImgSeen :=
  { keyXY := p.key.map (fun n => BitVec.ofNat 8 n), r := p.r, s := p.s, digest := p.digest.map (fun n => BitVec.ofNat 8 n)
    strings := p.build.strings, cells := p.build.cells, genCrc := p.genCrc, safeCrc := p.safeCrc }

theorem exec_validationPassDone {errs : List ByteErr} (hp : s.dev.img.phase = .validate c) (hr : s.dev.imgRuns s.env = true) :
    let p := imagePass s.env c errs
    ∃ t, exec (.validationPassDone errs) s = .next t ∧ OnlyDev s t ∧
      t.dev = if p.records = 1 then { s.dev with img := { s.dev.img with phase := .key c, seen := p.seen } }
        else (s.dev.when (p.records == resRecord) (fun d => d.slotError c p.build)).rejectCandidate c p.records := by
  refine ⟨_, rfl, ⟨rfl, rfl, rfl⟩, ?_⟩
  by_cases h : (imagePass s.env c errs).records = 1 <;> simp [hp, hr, h, resAccepted, ImgPass.seen]

theorem exec_keyCheckDone (hp : s.dev.img.phase = .key c) (hr : s.dev.imgRuns s.env = true) :
    ∃ t, exec .keyCheckDone s = .next t ∧ OnlyDev s t ∧
      t.dev = if keyOk s.env.fuses (s.dev.img.seen.keyXY.map (·.toNat)) then s.dev.imgPhase (.signature c)
        else s.dev.rejectCandidate c 7 := by
  refine ⟨_, rfl, ⟨rfl, rfl, rfl⟩, ?_⟩
  simp [hp, hr, resKey]

theorem exec_signatureVerifyDone (hp : s.dev.img.phase = .signature c) (hr : s.dev.imgRuns s.env = true) :
    let g := s.dev.img.seen
    ∃ t, exec .signatureVerifyDone s = .next t ∧ OnlyDev s t ∧
      t.dev = if sigOk (g.keyXY.map (·.toNat)) (g.digest.map (·.toNat)) g.r g.s then s.dev.imgPhase (.capability c)
        else s.dev.rejectCandidate c 8 := by
  refine ⟨_, rfl, ⟨rfl, rfl, rfl⟩, ?_⟩
  simp [hp, hr, resSignature]

theorem exec_capabilityCheckDone (hp : s.dev.img.phase = .capability c) (hr : s.dev.imgRuns s.env = true) :
    ∃ t, exec .capabilityCheckDone s = .next t ∧ OnlyDev s t ∧
      t.dev = if capable s.env.fuses s.dev.img.seen.strings s.dev.img.seen.cells then s.dev.acceptCandidate s.env c
        else s.dev.rejectCandidate c 0xA := by
  refine ⟨_, rfl, ⟨rfl, rfl, rfl⟩, ?_⟩
  simp [hp, hr, resCapability]

/-- R94: an image with a failed pass is refused, whether or not IMG_ERR names a record. -/
theorem Dev.pass_refused {b : ImgBuild} {q : Bool} (hlo : 2 < r) (hhi : r < 16) :
    CandidateRefused d ((d.when q (fun d => d.slotError c b)).rejectCandidate c r) c r := by
  obtain ⟨himg, hsys⟩ : (d.when q (fun d => d.slotError c b)).img = d.img ∧
      (d.when q (fun d => d.slotError c b)).reg Reg.SYS_STATE = d.reg Reg.SYS_STATE := by
    unfold Dev.when
    split
    · exact Dev.slotError_keeps
    · exact ⟨rfl, rfl⟩
  exact (Dev.rejectCandidate_refused hlo hhi).congr himg hsys

end checks

/-- Settles O17, a clause per check: each passes the candidate on or refuses it with its own result. -/
theorem candidatesAreChecked : Obligations.CandidatesAreChecked := by
  refine ⟨⟨fun errs c s hp hr => ?_, fun c s hp hr => ?_, fun c s hp hr => ?_⟩, fun c s hp hr => ?_⟩
  · obtain ⟨t, hx, hd, ht⟩ := exec_validationPassDone (errs := errs) hp hr
    refine ⟨t, hx, hd, fun h => ?_, fun h => ?_⟩
    · rw [ht, if_pos h]
      exact ⟨rfl, rfl⟩
    · obtain ⟨hlo, hhi⟩ := ImgPass.records_refusal h
      rw [ht, if_neg h]
      exact Dev.pass_refused hlo hhi
  · obtain ⟨t, hx, hd, ht⟩ := exec_keyCheckDone hp hr
    refine ⟨t, hx, hd, fun h => ht.trans (if_pos h), fun h => ?_⟩
    rw [ht, if_neg (Bool.eq_false_iff.mp h)]
    exact Dev.rejectCandidate_refused (by decide) (by decide)
  · obtain ⟨t, hx, hd, ht⟩ := exec_signatureVerifyDone hp hr
    refine ⟨t, hx, hd, fun h => ht.trans (if_pos h), fun h => ?_⟩
    rw [ht, if_neg (Bool.eq_false_iff.mp h)]
    exact Dev.rejectCandidate_refused (by decide) (by decide)
  · obtain ⟨t, hx, hd, ht⟩ := exec_capabilityCheckDone hp hr
    refine ⟨t, hx, hd, fun h => ?_, fun h => ?_, fun h ho => ?_, fun h ho hb => ?_⟩
    · rw [ht, if_neg (Bool.eq_false_iff.mp h)]
      exact Dev.rejectCandidate_refused (by decide) (by decide)
    all_goals rw [ht, if_pos h]
    · exact Dev.acceptCandidate_result
    · exact Dev.acceptCandidate_unowned_shows ho
    · obtain ⟨hphase, hstrings⟩ := Dev.acceptCandidate_applies ho hb
      exact ⟨hphase, hstrings, Dev.acceptCandidate_fallback ho hb⟩

end Sys2Proof.Machine
end

section
/-! Power domains and clocks (R45 to R47, R56 to R58, R73, R74): oscillator, reference, power-up sequence and shutdown. -/
namespace Sys2Proof.Machine

variable {d : Dev}

/-! ### Oscillator and reference -/

/-- Two field writes into the fields of a list change nothing else. -/
theorem OnlyFields.put_put {f g : Fld} {v w : Nat} (hf : f.fits) (hg : g.fits) : OnlyFields d ((d.put f v).put g w) [f, g] :=
  (OnlyFields.put hf).andPut hg

/-- Settles O10: each command writes the one or two fields of its event. -/
theorem oscillatorAndReference : Obligations.OscillatorAndReference := by
  refine ⟨fun s hl h0 => ⟨fun hs => ?_, ?_⟩, fun s hl hh => ?_, fun s hh => ?_⟩
  · refine ⟨{ s with
      env := { s.env with lockTicks := 0 }
      dev := ({ s.dev with pwr := { s.dev.pwr with locked := true, rampDue := 512 } } : Dev).putB Fd.CLK_STATUS_LOCK true },
      ?_, rfl, rfl, rfl, rfl, Dev.bit_putB_same (by decide) rfl, FieldsBut.put (by decide), rfl⟩
    show execMainOscLock s = _
    simp [execMainOscLock, onEnvDev, hl, hs, h0]
  · refine ⟨{ s with dev := s.dev.put Fd.SYS_STATE_STATE 0xA }, ?_, ⟨rfl, rfl, rfl⟩, Dev.fld_put_same (by decide),
      OnlyFields.put (by decide)⟩
    show execLockTimeout s = _
    simp [execLockTimeout, onDev, hl, h0]
  · refine ⟨{ s with dev := (s.dev.putB Fd.CLK_STATUS_HOLDOVER true).evt Fd.CLK_EVT_REF_LOSS }, ?_, ⟨rfl, rfl, rfl⟩,
      (Dev.bit_evt_other (by decide) rfl (by decide)).trans (Dev.bit_putB_same (by decide) rfl),
      Dev.bit_evt_same (by decide) rfl, OnlyFields.put_put (by decide) (by decide)⟩
    show execReferenceLoss s = _
    simp [execReferenceLoss, onDev, hl, hh]
  · refine ⟨{ s with dev := (s.dev.putB Fd.CLK_STATUS_HOLDOVER false).evt Fd.CLK_EVT_REF_BACK }, ?_, ⟨rfl, rfl, rfl⟩,
      (Dev.bit_evt_other (by decide) rfl (by decide)).trans (Dev.bit_putB_same (by decide) rfl),
      Dev.bit_evt_same (by decide) rfl, OnlyFields.put_put (by decide) (by decide)⟩
    show execReferenceReturn s = _
    simp [execReferenceReturn, onDev, hh]

/-! ### Shutdown (R58) -/

/-- Whether a domain is powered depends on the domains' states alone. -/
theorem Dev.powered_congr {e : Dev} (h : e.pwr.dom = d.pwr.dom) : e.powered = d.powered := by
  have hst : domSt e = domSt d := by funext i; simp only [domSt, h]
  unfold Dev.powered
  rw [hst]

theorem shutOrder_lt {p : Nat → Bool} {x : Nat} (h : shutOrder.find? p = some x) : x < 16 :=
  (by decide : ∀ x ∈ shutOrder, x < 16) x (List.mem_of_find?_eq_some h)

/-- A step of the shutdown switches the last powered domain off and sets the time of the next step. -/
theorem Dev.shutStep_some {now x : Nat} (h : shutOrder.find? d.powered = some x) :
    d.shutStep now = { d.domOff x .off with pwr := { (d.domOff x .off).pwr with shutDue := now + 256 } } := by
  unfold Dev.shutStep
  rw [h]

/-- With no domain powered a step only sets the time of the next one. -/
theorem Dev.shutStep_none {now : Nat} (h : shutOrder.find? d.powered = none) :
    d.shutStep now = { d with pwr := { d.pwr with shutDue := now + 256 } } := by
  unfold Dev.shutStep
  rw [h]

theorem Dev.shutStep_due {now : Nat} : (d.shutStep now).pwr.shutDue = now + 256 := (rfl)

/-- R58: what one step of the shutdown does to the domains, and what it keeps. -/
theorem Dev.shutStep_spec (d : Dev) (now : Nat) :
    (d.shutStep now).pwr.shutdown = d.pwr.shutdown ∧
    (∀ k, d.enHigh k = false → (d.shutStep now).enHigh k = false) ∧
    (d.pwr.relayHeld = true → (d.shutStep now).pwr.relayHeld = true) ∧
    (∀ x, shutOrder.find? d.powered = some x → domSt (d.shutStep now) x = .off ∧
      (∀ j, j ≠ x → domSt (d.shutStep now) j = domSt d j) ∧
      (8 ≤ x → (d.shutStep now).phase (x - 8) = phOff ∧ (d.shutStep now).enHigh (x - 8) = false) ∧
      FieldsBut d (d.shutStep now) (offFields x)) ∧
    (shutOrder.find? d.powered = none → (∀ j, domSt (d.shutStep now) j = domSt d j) ∧ (d.shutStep now).regs = d.regs) := by
  cases hx : shutOrder.find? d.powered with
  | none =>
    rw [Dev.shutStep_none hx]
    exact ⟨rfl, fun _ hk => hk, fun hr => hr, nofun, fun _ => ⟨fun _ => rfl, rfl⟩⟩
  | some x =>
    obtain ⟨hoff, hother, hsh, hstr, hen, hrel, hfld⟩ := Dev.domOff_off (d := d) (shutOrder_lt hx)
    rw [Dev.shutStep_some hx]
    refine ⟨hsh, hen, hrel, fun y hy => ?_, nofun⟩
    obtain rfl : x = y := Option.some.inj hy
    exact ⟨hoff, hother, hstr, hfld⟩

/-- R58: the strings stop and the relays release before the first domain goes off. -/
def Dev.haltAll (d : Dev) : Dev := (d.each strings8 (fun d k => d.strEn k false)).releaseRelays

theorem Dev.haltAll_spec : d.haltAll.pwr.dom = d.pwr.dom ∧ d.haltAll.pwr.shutdown = d.pwr.shutdown ∧
    d.haltAll.pwr.relayHeld = true ∧ (∀ k, k < 8 → d.haltAll.enHigh k = false) ∧ FieldsBut d d.haltAll relayFields := by
  obtain ⟨hregs, hdom, hsh, hlow⟩ := d.allLow_spec
  obtain ⟨hpwr, hfld⟩ := Dev.releaseRelays_spec (d := d.each strings8 (fun d k => d.strEn k false))
  unfold Dev.haltAll
  simp only [hpwr, Dev.enHigh]
  exact ⟨hdom, hsh, trivial, hlow, (FieldsBut.of_regs hregs : FieldsBut d _ []).trans hfld⟩

theorem Dev.shutdown_begins {now : Nat} (h : d.pwr.shutdown = false) : d.shutdown now =
    ({ d.haltAll with pwr := { d.haltAll.pwr with shutdown := true } } : Dev).shutStep now := by
  unfold Dev.shutdown
  rw [if_neg (by simp [h])]
  rfl

/-- R58: what stands at once when a shutdown begins. -/
theorem Dev.shutdown_spec {now : Nat} (h : d.pwr.shutdown = false) :
    (d.shutdown now).pwr.shutdown = true ∧ (d.shutdown now).pwr.relayHeld = true ∧
    (d.shutdown now).pwr.shutDue = now + 256 ∧ (∀ k, k < 8 → (d.shutdown now).enHigh k = false) ∧
    (∀ x, shutOrder.find? d.powered = some x → domSt (d.shutdown now) x = .off ∧
      (∀ j, j ≠ x → domSt (d.shutdown now) j = domSt d j) ∧ (8 ≤ x → (d.shutdown now).phase (x - 8) = phOff) ∧
      FieldsBut d (d.shutdown now) (relayFields ++ offFields x)) ∧
    (shutOrder.find? d.powered = none → (∀ j, domSt (d.shutdown now) j = domSt d j) ∧
      FieldsBut d (d.shutdown now) relayFields) := by
  obtain ⟨hdom, -, hheld, hlow, hfld⟩ := d.haltAll_spec
  rw [Dev.shutdown_begins h]
  generalize he : ({ d.haltAll with pwr := { d.haltAll.pwr with shutdown := true } } : Dev) = e
  have hed : e.pwr.dom = d.pwr.dom := by rw [← he]; exact hdom
  have hst (j : Nat) : domSt e j = domSt d j := by simp only [domSt, hed]
  have hef : FieldsBut d e relayFields := by rw [← he]; exact hfld
  obtain ⟨hsh, hen, hrel, hsome, hnone⟩ := e.shutStep_spec now
  rw [Dev.powered_congr hed] at hsome hnone
  refine ⟨by rw [hsh, ← he], hrel (by rw [← he]; exact hheld), Dev.shutStep_due,
    fun k hk => hen k (by rw [← he]; exact hlow k hk), fun x hx => ?_, fun hx => ?_⟩
  · obtain ⟨hoff, hother, hstr, hf⟩ := hsome x hx
    exact ⟨hoff, fun j hj => (hother j hj).trans (hst j), fun h8 => (hstr h8).1, hef.trans hf⟩
  · obtain ⟨hsame, hregs⟩ := hnone hx
    exact ⟨fun j => (hsame j).trans (hst j), by simpa using hef.trans (FieldsBut.of_regs hregs : FieldsBut e _ [])⟩

/-- Settles O9: BROWN_OUT, which a low rail marks besides, and RESETN_ASSERT begin the shutdown; each later step is one
`Dev.shutStep`. -/
theorem shutdownSwitchesDomainsOff : Obligations.ShutdownSwitchesDomainsOff := by
  refine ⟨fun i s hi hs => ?_, fun s hs hdue => ?_⟩
  · have spec := Dev.shutdown_spec (d := s.dev) (now := s.env.lockTicks) hs
    rcases hi with rfl | rfl
    · exact ⟨{ s with dev := (s.dev.shutdown s.env.lockTicks).railFall }, rfl, ⟨rfl, rfl, rfl⟩, spec⟩
    · exact ⟨{ s with dev := s.dev.shutdown s.env.lockTicks }, rfl, ⟨rfl, rfl, rfl⟩, spec⟩
  · obtain ⟨hsh, -, -, hsome, hnone⟩ := s.dev.shutStep_spec s.env.lockTicks
    refine ⟨{ s with dev := s.dev.shutStep s.env.lockTicks }, ?_, ⟨rfl, rfl, rfl⟩, hsh.trans hs, Dev.shutStep_due,
      hsome, hnone⟩
    show execShutdownDomainOff s = _
    simp [execShutdownDomainOff, onDev, hs, hdue]

/-! ### The domain sequence and the memories (R56, R74) -/

theorem Dev.nextDomain_lt {x : Nat} (h : d.nextDomain = some x) : x < 16 := by
  have order : ∀ x ∈ powerOrder, x < 16 := by decide
  have chans : ∀ x ∈ strings8.map (8 + ·), x < 16 := by decide
  unfold Dev.nextDomain at h
  dsimp only at h
  split at h
  next i hi =>
    obtain rfl : i = x := Option.some.inj h
    exact order i (List.mem_of_find?_eq_some hi)
  next =>
    split at h
    · exact chans x (List.mem_of_find?_eq_some h)
    · cases h

theorem Dev.ramping_lt {x : Nat} (h : d.ramping = some x) : x < 16 := by
  have := List.mem_of_find?_eq_some h
  simp [upTo] at this
  omega

/-- R56: domain x has reached RUN; outside a shutdown LID in RUN frees the relay pads. -/
def Dev.reachRun (d : Dev) (now x : Nat) : Dev :=
  let d := d.setDom x .run
  let d := { d with pwr := { d.pwr with rampDue := now + 512 } }
  if x == domLid && !d.pwr.shutdown then d.holdRelays false else d

/-- Settles O11: each step sets the state of the one domain; memory initialisation empties the stores of written words. -/
theorem domainsAndMemoriesComeUp : Obligations.DomainsAndMemoriesComeUp := by
  refine ⟨⟨fun s x hl hsh hr hdue hx => ?_, fun s x hx hdue => ?_⟩, fun s hrun hinit hst => ?_⟩
  · refine ⟨{ s with dev := { s.dev.setDom x .ramp with
      pwr := { (s.dev.setDom x .ramp).pwr with rampStart := s.env.lockTicks } } }, ?_, ⟨rfl, rfl, rfl⟩,
      Dev.domSt_setDom_same (Dev.nextDomain_lt hx), rfl, fun j hj => Dev.domSt_setDom_other hj, rfl⟩
    show execDomainRampStart s = _
    simp [execDomainRampStart, onDev, hl, hsh, hr, hdue, hx]
  · refine ⟨{ s with dev := s.dev.reachRun s.env.lockTicks x }, ?_, ⟨rfl, rfl, rfl⟩, ?_⟩
    · show execDomainReachesRun s = _
      simp only [execDomainReachesRun, onDev, hx, hdue, if_true]
      rfl
    · unfold Dev.reachRun
      dsimp only
      split
      all_goals
        exact ⟨Dev.domSt_setDom_same (Dev.ramping_lt hx), rfl, fun j hj => Dev.domSt_setDom_other hj, rfl⟩
  · refine ⟨{ s with dev := { s.dev with
      dstore := [], mortar := [], ecc := []
      firMem := if s.dev.img.applyDone || s.dev.img.passPos != 0 then s.dev.firMem else []
      img := { s.dev.img with memInit := true, readyAt := max s.dev.img.readyAt s.env.lockTicks } } }, ?_, ⟨rfl, rfl, rfl⟩,
      rfl, fun a => rfl, fun a => rfl, fun m w => rfl, rfl, fun ha hp a => ?_⟩
    · show execMemoryInitDone s = _
      simp [execMemoryInitDone, onDev, hrun, hinit, hst]
    · simp [ha, hp, Store.get]

end Sys2Proof.Machine
end

section
/-! Reads of the tick number (R59) and writes of RACK_CTRL (R69). -/
namespace Sys2Proof.Machine

variable {d : Dev} {e : Env} {p q a v : Nat}

/-! ### CLK_TICK_LO and CLK_TICK_HI -/

/-- What requester q reads from CLK_TICK_HI is its own capture. -/
theorem Dev.view_tickHi : d.view e q Reg.CLK_TICK_HI = some (vat d.req q).tickHi.toNat := (rfl)

theorem Dev.hwWord_tickLo : d.hwWord e p Reg.CLK_TICK_LO = e.tick % 2 ^ 32 := (rfl)

/-- A read of CLK_TICK_LO captures the upper half for its requester and does nothing else. -/
theorem Dev.readEffect_tickLo : d.readEffect e p Reg.CLK_TICK_LO =
    d.modReq p (fun r => { r with tickHi := BitVec.ofNat 32 (e.tick / 2 ^ 32) }) := (rfl)

/-- A read of CLK_TICK_LO is barred, and an access error, or it captures the upper half. -/
theorem Dev.hostRead_tickLo (d : Dev) (e : Env) (p : Nat) : (d.hostRead e p Reg.CLK_TICK_LO).dev = d ∨
    (d.hostRead e p Reg.CLK_TICK_LO).dev = d.readEffect e p Reg.CLK_TICK_LO := by
  have hb : blockAt Reg.CLK_TICK_LO = some (clkRows, 0x20, domAon) := by decide
  have hs : d.absentString e Reg.CLK_TICK_LO = false := (rfl)
  cases hi : regInfoAt Reg.CLK_TICK_LO with
  | none => exact .inl (by simp [Dev.hostRead, hb, hi])
  | some i =>
    unfold Dev.hostRead
    simp only [hb, hi, hs]
    split
    · exact .inl rfl
    · exact .inr rfl

/-- Without SH fields the owner of a lock reads the live word. -/
theorem overlay_zero {live w : Nat} (h : live < 2 ^ 32) : overlay 0 live w = live := by
  have mask : live &&& (2 ^ 32 - 1) = live := by rw [Nat.and_two_pow_sub_one_eq_mod, Nat.mod_eq_of_lt h]
  simpa [overlay] using mask

/-- A read of CLK_TICK_LO that nothing bars returns the lower half of the tick number. -/
theorem Dev.hostRead_tickLo_allowed (hr : d.addrRuns Reg.CLK_TICK_LO = true) (hm : d.mayRead p Reg.CLK_TICK_LO = true) :
    d.hostRead e p Reg.CLK_TICK_LO = ⟨d.readEffect e p Reg.CLK_TICK_LO, e.tick % 2 ^ 32, false⟩ := by
  have hb : blockAt Reg.CLK_TICK_LO = some (clkRows, 0x20, domAon) := by decide
  have hi : regInfoAt Reg.CLK_TICK_LO = some ⟨"CLK_TICK_LO", 0, 0, 0, 0, 0, 0, 0, 0⟩ := by decide
  have hs : d.absentString e Reg.CLK_TICK_LO = false := (rfl)
  have hlt : e.tick % 2 ^ 32 < 2 ^ 32 := Nat.mod_lt _ (by decide)
  have hword (x : Option Word) : (match x with
      | some s => overlay 0 (d.hwWord e p Reg.CLK_TICK_LO) s.toNat
      | none => d.hwWord e p Reg.CLK_TICK_LO) &&& 0xFFFFFFFF = e.tick % 2 ^ 32 := by
    rw [Dev.hwWord_tickLo]
    cases x <;> simp only [overlay_zero hlt]
    all_goals exact (Nat.and_two_pow_sub_one_eq_mod _ 32).trans (Nat.mod_eq_of_lt hlt)
  unfold Dev.addrRuns at hr
  rw [hb] at hr
  unfold Dev.hostRead
  simp only [hb, hi, hs, hr, hm, Bool.not_true, Bool.or_self, Bool.false_eq_true, if_false]
  exact congrArg (fun w => (⟨d.readEffect e p Reg.CLK_TICK_LO, w, false⟩ : RdOut)) (hword _)

theorem Dev.mayRead_takeGrant : (d.takeGrant p).mayRead p a = d.mayRead p a := by
  simp only [Dev.mayRead, Dev.svcReads, Dev.takeGrant_svc]

/-- An access of one requester leaves the capture of every other (R59). -/
theorem Dev.view_tickHi_accessRead (h : q ≠ p) :
    (d.accessRead e p Reg.CLK_TICK_LO).dev.view e q Reg.CLK_TICK_HI = d.view e q Reg.CLK_TICK_HI := by
  have read : vat ((d.takeGrant p).hostRead e p Reg.CLK_TICK_LO).dev.req q = vat d.req q := by
    rcases (d.takeGrant p).hostRead_tickLo e p with hr | hr
    · rw [hr, Dev.takeGrant_req_other h]
    · rw [hr, Dev.readEffect_tickLo, Dev.modReq, vat_vmod_other h, Dev.takeGrant_req_other h]
  rw [Dev.view_tickHi, Dev.view_tickHi]
  unfold Dev.accessRead
  dsimp only
  split <;> simp only [Dev.reloadLease_req, Dev.noteAccess_req, read]

/-- A read that nothing bars: the grant, the read and the reload of the lease. -/
theorem Dev.accessRead_tickLo (hr : d.addrRuns Reg.CLK_TICK_LO = true) (hm : d.mayRead p Reg.CLK_TICK_LO = true) :
    d.accessRead e p Reg.CLK_TICK_LO =
      ⟨((d.takeGrant p).readEffect e p Reg.CLK_TICK_LO).reloadLease p, e.tick % 2 ^ 32, false⟩ := by
  unfold Dev.accessRead
  rw [Dev.hostRead_tickLo_allowed (Dev.addrRuns_takeGrant.trans hr) (Dev.mayRead_takeGrant.trans hm)]
  rfl

/-- Settles O49: the capture stands in the requester's own part of the state. -/
theorem tickCapturesAreSeparate : Obligations.TickCapturesAreSeparate := by
  rintro p s ⟨hh, hr, hm, -⟩
  have hp : p.val < 6 := by omega
  let r := s.dev.accessRead s.env p.val Reg.CLK_TICK_LO
  have hx : exec (.clkTickLoRead p) s = .next { s with
      dev := r.dev.modReq p.val (fun q => { q with out := { q.out with data := [BitVec.ofNat 32 r.val] } }) } := by
    show onRead s p.val Reg.CLK_TICK_LO = _
    simp only [onRead, onDev, hh, if_true, r]
  have hacc : r = _ := Dev.accessRead_tickLo hr hm
  refine ⟨_, hx, ⟨rfl, rfl, rfl⟩, ?_, ?_, fun q hq => ?_, ?_, fun t q _ hq => Dev.view_tickHi_accessRead hq⟩
  · rw [Dev.modReq, vat_vmod_same hp, hacc]
    simp [← BitVec.toNat_inj]
  · rw [Dev.view_tickHi, Dev.modReq, vat_vmod_same hp, hacc, Dev.reloadLease_req, Dev.readEffect_tickLo, Dev.modReq,
      vat_vmod_same hp, BitVec.toNat_ofNat]
  · rw [← Dev.view_tickHi_accessRead (d := s.dev) (e := s.env) hq, Dev.view_tickHi, Dev.modReq, vat_vmod_other hq,
      Dev.view_tickHi]
  · refine (Dev.fieldsBut_takeGrant (d := s.dev) (p := p.val)).trans (m := []) (FieldsBut.of_regs ?_)
    rw [Dev.modReq_regs, hacc, Dev.reloadLease_regs, Dev.readEffect_tickLo, Dev.modReq_regs]

/-! ### RACK_CTRL -/

theorem regInfoAt_rackCtrl : regInfoAt Reg.RACK_CTRL = some ⟨"RACK_CTRL", 0, 0, 0, 0, 3, 0, 0, 0⟩ := by decide

/-- A register with WO fields alone keeps its word under a write. -/
theorem mergeWord_wo {i : RegInfo} {old : Nat} (h : i.rw = 0 ∧ i.sh = 0 ∧ i.w1c = 0) (ho : old < 2 ^ 32) :
    mergeWord i old v = old := by
  obtain ⟨hrw, hsh, hw1c⟩ := h
  have mask : old &&& (2 ^ 32 - 1) = old := by rw [Nat.and_two_pow_sub_one_eq_mod, Nat.mod_eq_of_lt ho]
  simpa [mergeWord, hrw, hsh, hw1c] using mask

/-- Storing the word that a register holds changes no register. -/
theorem Dev.reg_setReg_self {x : Nat} : (d.setReg a (BitVec.ofNat 32 (d.reg a).toNat)).reg x = d.reg x := by
  by_cases h : x = a
  · subst h; simp
  · exact Dev.reg_setReg_other h

/-- Outside HOSTIF and SVC a valid value acts, and its other fields are stored. -/
theorem writeReg_acted {i : RegInfo} {x : Dev} (h : i.sh = 0) (ha : a < 0x22000 ∨ 0x24000 ≤ a) (hf : a ≠ Reg.FIR_CDATA)
    (hv : writeValid i a (mergeWord i (d.reg a).toNat (d.clampWord a v)) = true)
    (hw : d.woAction e p a (d.clampWord a v) = some x) : writeReg e d p a v i =
      { env := e, dev := x.storeWord p a (d.clampWord a v) i, clamp := d.narrows i a v } := by
  have hs : ¬ (0x23000 ≤ a ∧ a < 0x24000) := by omega
  simp [writeReg, h, hf, hs, pageOf_outside ha, hv, hw, Dev.narrows]

/-- R69: an accepted write of RACK_CTRL acts, stores the register's own word and is no clamp. -/
theorem hostWrite_rackCtrl {s : State} (hp : p < 5) (hm : MayReach s p Reg.RACK_CTRL)
    (hc : s.dev.clampWord Reg.RACK_CTRL v = v) :
    let x := (s.dev.takeGrant p).rackWrite v
    hostWrite s.env (s.dev.takeGrant p) p Reg.RACK_CTRL v = {
      env := s.env, clamp := false, shadow := false
      dev := x.setReg Reg.RACK_CTRL (BitVec.ofNat 32 (x.reg Reg.RACK_CTRL).toNat) } := by
  intro x
  have valid (i : RegInfo) (w : Nat) : writeValid i Reg.RACK_CTRL w = true := by
    have fields : imgFieldsOf Reg.RACK_CTRL = [] := by decide
    rw [writeValid, fields, List.all_nil]
  have store : x.storeWord p Reg.RACK_CTRL v ⟨"RACK_CTRL", 0, 0, 0, 0, 3, 0, 0, 0⟩ =
      x.setReg Reg.RACK_CTRL (BitVec.ofNat 32 (x.reg Reg.RACK_CTRL).toNat) := by
    rw [Dev.storeWord, if_neg (by decide), mergeWord_wo ⟨rfl, rfl, rfl⟩ (BitVec.isLt _)]
  have narrow : (s.dev.takeGrant p).narrows ⟨"RACK_CTRL", 0, 0, 0, 0, 3, 0, 0, 0⟩ Reg.RACK_CTRL v = false := by
    simp [Dev.narrows]
  rw [hostWrite_writable hp regInfoAt_rackCtrl hm (by decide),
    writeReg_acted rfl (.inl (by decide)) (by decide) (valid _ _) rfl, Dev.clampWord_takeGrant, hc, store, narrow]

/-- R69: of the fields only SWAP_PENDING may change. -/
theorem Dev.rackWrite_spec : (d.rackWrite v).bit Fd.RACK_STATUS_SWAP_PENDING =
      (if tbit v 1 then false else if tbit v 0 then true else d.bit Fd.RACK_STATUS_SWAP_PENDING) ∧
    FieldsBut d (d.rackWrite v) [Fd.RACK_STATUS_SWAP_PENDING] := by
  unfold Dev.rackWrite
  split
  · exact ⟨Dev.bit_putB_same (by decide) rfl, FieldsBut.put (by decide)⟩
  · split
    · exact ⟨Dev.bit_putB_same (by decide) rfl, FieldsBut.put (by decide)⟩
    · exact ⟨rfl, FieldsBut.refl⟩

/-- R69: what a write of RACK_CTRL leaves. -/
theorem write_rackCtrl {s : State} (hp : p < 5) (hm : MayWrite s p Reg.RACK_CTRL v) :
    OnlyDev s (writeEnd s p Reg.RACK_CTRL v) ∧
    (writeEnd s p Reg.RACK_CTRL v).dev.bit Fd.RACK_STATUS_SWAP_PENDING =
      (if tbit v 1 then false else if tbit v 0 then true else s.dev.bit Fd.RACK_STATUS_SWAP_PENDING) ∧
    FieldsBut s.dev (writeEnd s p Reg.RACK_CTRL v).dev [Fd.RACK_STATUS_SWAP_PENDING, Fd.HOSTIF_GRANTS_GRANTS p] := by
  obtain ⟨hh, hr, hw, hs, hcell, hc⟩ := hm
  obtain ⟨hdev, ht⟩ := performed_of_hostWrite (hostWrite_rackCtrl hp ⟨hh, hr, hw, hs, hcell⟩ hc)
  have regs (x : Nat) : (writeEnd s p Reg.RACK_CTRL v).dev.reg x = ((s.dev.takeGrant p).rackWrite v).reg x := by
    rw [ht, Dev.reg_congr Dev.performed_regs, Dev.reg_setReg_self]
  obtain ⟨hbit, hfld⟩ := Dev.rackWrite_spec (d := s.dev.takeGrant p) (v := v)
  have pending : (s.dev.takeGrant p).bit Fd.RACK_STATUS_SWAP_PENDING = s.dev.bit Fd.RACK_STATUS_SWAP_PENDING :=
    Dev.bit_congr (Dev.takeGrant_reg_off (.inl (by decide)) (by omega))
  refine ⟨hdev, ?_, fun g hg => (Dev.fld_congr (regs g.addr)).trans ?_⟩
  · rw [Dev.bit_congr (regs _), hbit, pending]
  · exact (Dev.fieldsBut_takeGrant.trans hfld) g (by simpa [or_comm] using hg)

/-- Settles O50: SWAP and ABORT are writes of RACK_CTRL with their bit. -/
theorem swapIsRequestedAndAborted : Obligations.SwapIsRequestedAndAborted := by
  intro p v i s hi hm
  have hx : exec i s = .next (writeEnd s p.val Reg.RACK_CTRL v.toNat) := by
    rcases hi with rfl | ⟨rfl, rfl⟩ | ⟨rfl, rfl⟩
    · exact exec_registerWrite hm.1
    · exact exec_registerWrite (addr := BitVec.ofNat 20 Reg.RACK_CTRL) (v := 1) hm.1
    · exact exec_registerWrite (addr := BitVec.ofNat 20 Reg.RACK_CTRL) (v := 2) hm.1
  exact ⟨_, hx, write_rackCtrl p.isLt hm⟩

end Sys2Proof.Machine
end

section
/-! The restart of HOST (R450). -/
namespace Sys2Proof.Machine

variable {d : Dev}

/-- What a store reads once the entries of some addresses are dropped. -/
theorem Store.get_filter {α : Type} {dflt : Nat → α} (drop : Nat → Bool) (l : List (Nat × α)) (a : Nat) :
    Store.get dflt (l.filter (fun x => !(drop x.1))) a = if drop a then dflt a else Store.get dflt l a := by
  induction l with
  | nil => simp [Store.get]
  | cons x t ih =>
    obtain ⟨b, v⟩ := x
    by_cases hb : drop b
    · rw [List.filter_cons_of_neg (by simp [hb]), ih, Store.get]
      by_cases h : a = b
      · simp [h, hb]
      · simp [h]
    · rw [List.filter_cons_of_pos (by simp [hb]), Store.get, Store.get, ih]
      by_cases h : a = b
      · simp [h, hb]
      · simp [h]

/-- The same change of the first m requesters, as requester p sees it. -/
theorem Dev.req_each_modReq (f : ReqSt → ReqSt) {p : Nat} (hp : p < 6) : ∀ m : Nat,
    vat (d.each (upTo m) (fun d i => d.modReq i f)).req p = if p < m then f (vat d.req p) else vat d.req p
  | 0 => rfl
  | m + 1 => by
    have ih := Dev.req_each_modReq f hp m
    simp only [Dev.each, upTo, List.foldl_append, List.foldl_cons, List.foldl_nil, Dev.modReq] at ih ⊢
    by_cases h : p = m
    · subst h
      rw [vat_vmod_same hp, ih]
      simp
    · rw [vat_vmod_other h, ih]
      have : p < m + 1 ↔ p < m := by omega
      simp [this]

/-- Changes of requesters change nothing else. -/
theorem Dev.each_modReq_eq (f : ReqSt → ReqSt) (l : List Nat) :
    ∀ d : Dev, d.each l (fun d i => d.modReq i f) = { d with req := (d.each l (fun d i => d.modReq i f)).req } := by
  induction l with
  | nil => exact fun _ => rfl
  | cons i t ih => exact fun d => ih (d.modReq i f)

/-- R450: the requester's own registers at their reset values, its LOST mark kept. -/
def ReqSt.restart (r : ReqSt) : ReqSt := { r with firCaddr := 0, tickHi := 0, credit := 0, out := default }

/-- R450: HOST is powered, and its registers that no image loads have lost their words. -/
def Dev.hostPowered (d : Dev) : Dev :=
  { d with pwr := { d.pwr with dom := vset d.pwr.dom domHost .run, hostDue := none }
           regs := d.regs.filter (fun x => !(hostReset x.1)) }

/-- R450: the controller as HOST runs again, before the requesters' own registers. -/
def Dev.hostWakes (d : Dev) : Dev :=
  (d.hostPowered.putB Fd.SVC_FL_STATUS_BUSY d.svc.flash.isSome).modSvc (fun v => { v with buf := [], chal := none, idle := 0 })

theorem Dev.hostRestart_eq : d.hostRestart = d.hostWakes.each (upTo 6) (fun d p => d.modReq p ReqSt.restart) := by
  have requesters : [0, 1, 2, 3, 4, 5] = upTo 6 := by decide
  unfold Dev.hostRestart
  dsimp only
  rw [requesters]
  rfl

/-- R450: the service's buffers, and registers, change besides HOST's power. -/
theorem Dev.hostWakes_eq : d.hostWakes = { d with
    regs := (d.hostPowered.putB Fd.SVC_FL_STATUS_BUSY d.svc.flash.isSome).regs
    pwr := d.hostPowered.pwr, svc := { d.svc with buf := [], chal := none, idle := 0 } } := by
  have busy : OnlyRegs d.hostPowered (d.hostPowered.putB Fd.SVC_FL_STATUS_BUSY d.svc.flash.isSome) := OnlyRegs.put
  have svc (r : List (Nat × Word)) (f : SvcSt → SvcSt) :
      ({ d.hostPowered with regs := r } : Dev).modSvc f = { d with regs := r, pwr := d.hostPowered.pwr, svc := f d.svc } := rfl
  exact (congrArg (fun x : Dev => x.modSvc _) busy).trans (svc _ _)

/-- R450: what the restart changes: HOST's power, the service's buffers, the requesters' own registers and registers. -/
theorem Dev.hostRestart_frame : ∃ x, d.hostRestart = { d with
    regs := (d.hostPowered.putB Fd.SVC_FL_STATUS_BUSY d.svc.flash.isSome).regs
    pwr := d.hostPowered.pwr, svc := { d.svc with buf := [], chal := none, idle := 0 }, req := x } := by
  have req (y : Dev) (h : y = d.hostWakes) (x : Vector ReqSt 6) : ({ y with req := x } : Dev) = { d with
      regs := (d.hostPowered.putB Fd.SVC_FL_STATUS_BUSY d.svc.flash.isSome).regs
      pwr := d.hostPowered.pwr, svc := { d.svc with buf := [], chal := none, idle := 0 }, req := x } := by
    rw [h, Dev.hostWakes_eq]
  rw [Dev.hostRestart_eq, Dev.each_modReq_eq]
  exact ⟨_, req _ rfl _⟩

theorem Dev.hostRestart_regs : d.hostRestart.regs = (d.hostPowered.putB Fd.SVC_FL_STATUS_BUSY d.svc.flash.isSome).regs := by
  obtain ⟨x, hx⟩ := d.hostRestart_frame
  rw [hx]

/-- R450: the registers that no image loads read their reset words, but for BUSY. -/
theorem Dev.reg_hostRestart {a : Nat} (h : a ≠ Reg.SVC_FL_STATUS) :
    d.hostRestart.reg a = if hostReset a then resetWord a else d.reg a := by
  rw [Dev.reg_congr Dev.hostRestart_regs, Dev.reg_putB_other h]
  unfold Dev.reg Dev.hostPowered
  exact Store.get_filter hostReset d.regs a

/-- Settles O15: the requesters' own registers are no part of what the reset of HOST changes. -/
theorem hostComesBack : Obligations.HostComesBack := by
  intro w s hdue hw haon hsh
  obtain ⟨x, hx⟩ := Dev.hostRestart_frame (d := s.dev)
  refine ⟨{ s with dev := s.dev.hostRestart }, ?_, ⟨rfl, rfl, rfl⟩, ?_, ?_, fun a ha hr => ?_, ?_, fun a ha hr => ?_,
    fun p hp => ?_, ?_, ?_⟩
  · show execHostDomainRestart s = _
    simp [execHostDomainRestart, onDev, hdue, hw, haon, hsh]
  · rw [domSt, hx]
    exact vat_vset_same (by decide)
  · rw [hx]; rfl
  · rw [Dev.reg_hostRestart ha, if_pos hr]
  · rw [Dev.bit_congr (Dev.reg_congr Dev.hostRestart_regs)]
    exact Dev.bit_putB_same (by decide) rfl
  · rw [Dev.reg_hostRestart ha, if_neg (by simp [hr])]
  · rw [Dev.hostRestart_eq, Dev.req_each_modReq _ hp, if_pos hp, Dev.hostWakes_eq]
    rfl
  · rw [hx]
  · rw [hx]

end Sys2Proof.Machine
end

section
/-! What the operations of a string leave alone: the registers of the blocks below the strings' own (0x8000), the power
controller, the image, the held writes, the Sieve, and the fast samples that the strings have taken up. -/
namespace Sys2Proof.Machine
variable {d : Dev} {k p t lo : Nat} {f : Fld}

/-- The fast samples of a string (R50). -/
def Str.fast (s : Str) : Int × Int × Bool := (s.fv, s.fi, s.fastRep)

/-- What lies below the strings; of the registers, those from `lo` on. -/
structure Floor where
  reg : Nat → Word
  pwr : Power
  img : ImgSt
  held : List HeldWrite
  sieve : Vector SieveIn 20
  fast : Nat → Int × Int × Bool

def Dev.floor (d : Dev) (lo : Nat) : Floor :=
  ⟨fun a => if lo ≤ a ∧ a < 0x8000 then d.reg a else 0, d.pwr, d.img, d.held, d.sieve, fun k => (d.st k).fast⟩

theorem Dev.reg_of_floor {e : Dev} {a : Nat} (h : e.floor lo = d.floor lo) (hl : lo ≤ a) (ha : a < 0x8000) :
    e.reg a = d.reg a := by
  have := congrFun (congrArg Floor.reg h) a
  simpa [Dev.floor, hl, ha] using this

theorem Dev.pwr_of_floor {e : Dev} (h : e.floor lo = d.floor lo) : e.pwr = d.pwr := congrArg Floor.pwr h
theorem Dev.img_of_floor {e : Dev} (h : e.floor lo = d.floor lo) : e.img = d.img := congrArg Floor.img h
theorem Dev.held_of_floor {e : Dev} (h : e.floor lo = d.floor lo) : e.held = d.held := congrArg Floor.held h
theorem Dev.sieve_of_floor {e : Dev} (h : e.floor lo = d.floor lo) : e.sieve = d.sieve := congrArg Floor.sieve h
theorem Dev.fast_of_floor {e : Dev} (h : e.floor lo = d.floor lo) : (e.st k).fast = (d.st k).fast :=
  congrFun (congrArg Floor.fast h) k

/-! ### Registers -/

/-- A register of an array that begins at 0x8000 or above lies there. -/
theorem high_reg {a b : Nat} (h : 0x8000 ≤ a) : 0x8000 ≤ a + b := by omega

theorem Dev.floor_setReg {a : Nat} {v : Word} (h : a < lo ∨ 0x8000 ≤ a) : (d.setReg a v).floor lo = d.floor lo := by
  have regs : (fun b => if lo ≤ b ∧ b < 0x8000 then (d.setReg a v).reg b else 0) =
      fun b => if lo ≤ b ∧ b < 0x8000 then d.reg b else 0 := by
    funext b
    split
    · exact Dev.reg_setReg_other (by omega)
    · rfl
  simp only [Dev.floor, regs]
  rfl

theorem Dev.floor_put {v : Nat} (h : 0x8000 ≤ f.addr) : (d.put f v).floor lo = d.floor lo := Dev.floor_setReg (.inr h)
theorem Dev.floor_putB {v : Bool} (h : 0x8000 ≤ f.addr) : (d.putB f v).floor lo = d.floor lo := Dev.floor_put h
theorem Dev.floor_putI {v : Int} (h : 0x8000 ≤ f.addr) : (d.putI f v).floor lo = d.floor lo := Dev.floor_put h
theorem Dev.floor_putE {i : Nat} {v : Bool} (h : 0x8000 ≤ f.addr) : (d.putE f i v).floor lo = d.floor lo := Dev.floor_put h
theorem Dev.floor_bump (h : 0x8000 ≤ f.addr) : (d.bump f).floor lo = d.floor lo := Dev.floor_put h
theorem Dev.floor_evt (h : 0x8000 ≤ f.addr) : (d.evt f).floor lo = d.floor lo := Dev.floor_put h
theorem Dev.floor_evtIf {c : Bool} (h : 0x8000 ≤ f.addr) : (d.evtIf c f).floor lo = d.floor lo := by
  unfold Dev.evtIf; split
  · exact Dev.floor_evt h
  · rfl

/-- The states of the strings lie in a register of SYS. -/
@[simp] theorem Dev.floor_setPhase {ph : Nat} (h : 0x1000 ≤ lo) : (d.setPhase k ph).floor lo = d.floor lo :=
  Dev.floor_setReg (.inl (Nat.lt_of_lt_of_le (of_decide_eq_true rfl) h))

/-! ### Parts of the state that strings, the Lid and the background keep -/

theorem Dev.floor_modStr {u : Str → Str} (h : ∀ s, (u s).fast = s.fast) : (d.modStr k u).floor lo = d.floor lo := by
  have fast : (fun j => ((d.modStr k u).st j).fast) = fun j => (d.st j).fast := funext fun j => vat_vmod_part Str.fast h
  simp only [Dev.floor, fast]
  rfl

@[simp] theorem Dev.floor_modCtl {f : Ctl → Ctl} : (d.modCtl k f).floor lo = d.floor lo := Dev.floor_modStr fun _ => rfl
@[simp] theorem Dev.floor_modMor {f : MortarSt → MortarSt} : (d.modMor k f).floor lo = d.floor lo :=
  Dev.floor_modStr fun _ => rfl
@[simp] theorem Dev.floor_modFb {f : FbSt → FbSt} : (d.modFb k f).floor lo = d.floor lo := Dev.floor_modStr fun _ => rfl
@[simp] theorem Dev.floor_modWh {f : WhiskSt → WhiskSt} : (d.modWh k f).floor lo = d.floor lo := Dev.floor_modStr fun _ => rfl
@[simp] theorem Dev.floor_modPr {f : ProtSt → ProtSt} : (d.modPr k f).floor lo = d.floor lo := Dev.floor_modStr fun _ => rfl
@[simp] theorem Dev.floor_modCell {f : CellC → CellC} : (d.modCell k p f).floor lo = d.floor lo :=
  Dev.floor_modStr fun _ => rfl
@[simp] theorem Dev.floor_modTest {f : TestSt → TestSt} : (d.modTest k f).floor lo = d.floor lo := (rfl)
@[simp] theorem Dev.floor_modLoad {f : LoadSt → LoadSt} : (d.modLoad k f).floor lo = d.floor lo := (rfl)
@[simp] theorem Dev.floor_modDiag {f : DiagSt → DiagSt} : (d.modDiag k f).floor lo = d.floor lo := (rfl)
@[simp] theorem Dev.floor_modLid {f : LidSt → LidSt} : (d.modLid f).floor lo = d.floor lo := (rfl)
@[simp] theorem Dev.floor_modPot {f : PotSt → PotSt} : (d.modPot f).floor lo = d.floor lo := (rfl)
@[simp] theorem Dev.floor_modSvc {f : SvcSt → SvcSt} : (d.modSvc f).floor lo = d.floor lo := (rfl)
@[simp] theorem Dev.floor_modBg {f : BgSt → BgSt} : (d.modBg f).floor lo = d.floor lo := (rfl)
theorem Dev.floor_mortar {m : List (Nat × Int)} : ({ d with mortar := m } : Dev).floor lo = d.floor lo := (rfl)

@[simp] theorem Dev.floor_eccWriteRange {m i j : Nat} : (d.eccWriteRange m i j).floor lo = d.floor lo := by
  unfold Dev.eccWriteRange; dsimp only; split <;> rfl

@[simp] theorem Dev.floor_eccWrite {m i : Nat} : (d.eccWrite m i).floor lo = d.floor lo := by
  unfold Dev.eccWrite; dsimp only; split <;> rfl

/-- What a fold of operations that keep the floor keeps. -/
theorem Dev.floor_each {g : Dev → Nat → Dev} (h : ∀ d i, (g d i).floor lo = d.floor lo) (l : List Nat) :
    (d.each l g).floor lo = d.floor lo := Dev.each_same (Dev.floor · lo) h l d

/-! ### Leaving RUN, windows and trips (R306, R315 to R320) -/

@[simp] theorem Dev.floor_injStop : (d.injStop k).floor lo = d.floor lo := by
  unfold Dev.injStop
  rw [Dev.floor_putB (high_reg (of_decide_eq_true rfl)), Dev.floor_modCtl]

@[simp] theorem Dev.floor_capEnd : (d.capEnd k).floor lo = d.floor lo := by
  unfold Dev.capEnd
  split
  · simp (disch := with_unfolding_all exact id (high_reg (of_decide_eq_true rfl))) only
      [Dev.floor_evt, Dev.floor_putB, Dev.floor_modCtl]
  · rfl

@[simp] theorem Dev.floor_morSet {st step g : Nat} : (d.morSet k st step g).floor lo = d.floor lo := by
  unfold Dev.morSet
  simp (disch := with_unfolding_all exact id (high_reg (of_decide_eq_true rfl))) only [Dev.floor_put, Dev.floor_modMor]

@[simp] theorem Dev.floor_leaveRun : (d.leaveRun k).floor lo = d.floor lo := by
  have good : (if d.inFallback k then d.put (Fd.CHk_FB_STATUS_GOOD k) 0 else d).floor lo = d.floor lo := by
    split
    · exact Dev.floor_put (high_reg (of_decide_eq_true rfl))
    · rfl
  unfold Dev.leaveRun
  simp (disch := with_unfolding_all exact id (high_reg (of_decide_eq_true rfl))) only
    [Dev.floor_modPr, Dev.floor_modWh, Dev.floor_modCtl, Dev.floor_put, Dev.floor_putB, Dev.floor_morSet, Dev.floor_capEnd,
      Dev.floor_injStop, good]

@[simp] theorem Dev.floor_winShow {i n : Nat} : (d.winShow k i n).floor lo = d.floor lo := by
  unfold Dev.winShow
  split_ifs <;> simp (disch := with_unfolding_all exact id (high_reg (of_decide_eq_true rfl))) only [Dev.floor_put]

@[simp] theorem Dev.floor_winPut {i : Nat} {w : Option Win} : (d.winPut k i w).floor lo = d.floor lo := by
  simp [Dev.winPut]

@[simp] theorem Dev.floor_winEvent {i : Nat} : (d.winEvent k i t).1.floor lo = d.floor lo := Dev.floor_winPut

theorem Dev.floor_winClear : (d.winClear k).floor lo = d.floor lo := Dev.floor_each (fun _ _ => Dev.floor_winPut) _

@[simp] theorem Dev.floor_merge {c : Nat} : (d.merge k c t).floor lo = d.floor lo := by
  unfold Dev.merge
  simp (disch := with_unfolding_all exact id (high_reg (of_decide_eq_true rfl))) only [Dev.floor_evt, Dev.floor_put, Dev.floor_bump]

@[simp] theorem Dev.floor_tripSet {c : Nat} : (d.tripSet k c t).floor lo = d.floor lo := by
  unfold Dev.tripSet
  simp (disch := with_unfolding_all exact id (high_reg (of_decide_eq_true rfl))) only
    [Dev.floor_modPr, Dev.floor_putB, Dev.floor_put]

@[simp] theorem Dev.floor_tripCount : (d.tripCount k).floor lo = d.floor lo := by
  unfold Dev.tripCount
  simp (disch := with_unfolding_all exact id (high_reg (of_decide_eq_true rfl))) only [Dev.floor_evt, Dev.floor_bump]

@[simp] theorem Dev.floor_prPhase {v : Nat} : (d.put (Fd.CHk_PR_STATUS_PHASE k) v).floor lo = d.floor lo :=
  Dev.floor_put (high_reg (of_decide_eq_true rfl))

@[simp] theorem Dev.floor_startForcing : (d.startForcing k).floor lo = d.floor lo := by simp [Dev.startForcing]

section
variable (h : 0x1000 ≤ lo)
include h

@[simp] theorem Dev.floor_latchStr : (d.latchStr k).floor lo = d.floor lo := by
  unfold Dev.latchStr
  rw [Dev.floor_evt (high_reg (of_decide_eq_true rfl)), Dev.floor_modPr, Dev.floor_prPhase, Dev.floor_setPhase h]

@[simp] theorem Dev.floor_tripInSafe {c b : Nat} : (d.tripInSafe k c t b).floor lo = d.floor lo := by
  unfold Dev.tripInSafe
  dsimp only
  split_ifs <;> simp [h]

@[simp] theorem Dev.floor_trip {c : Nat} : (d.trip k c t).floor lo = d.floor lo := by
  unfold Dev.trip
  dsimp only
  split_ifs <;> simp [h]

@[simp] theorem Dev.floor_count {i : Nat} : (d.count k i t).floor lo = d.floor lo := by
  unfold Dev.count
  dsimp only
  split_ifs <;> simp [h]

end

end Sys2Proof.Machine
end

section
/-! Domains that enter FAULT-OFF (R47, R49, R57). -/
namespace Sys2Proof.Machine
variable {d : Dev} {k i a t now : Nat}

/-! ### What ends when a string is taken out of service (R49, R103) -/

/-- RUN ends, if the string is in RUN. -/
theorem Dev.floor_ifRun {lo : Nat} : (if d.inRun k then d.leaveRun k else d).floor lo = d.floor lo := by
  split
  · exact Dev.floor_leaveRun
  · rfl

/-- Up to its own protection state and registers, a string that is taken out of service leaves RUN and drops STR_EN. -/
theorem Dev.strHalt_floor {lo : Nat} :
    (d.strHalt k).floor lo = ((if d.inRun k then d.leaveRun k else d).strEn k false).floor lo := by
  unfold Dev.strHalt
  dsimp only
  rw [Dev.floor_prPhase, Dev.floor_modPr]

theorem Dev.strHalt_pwr : (d.strHalt k).pwr = { d.pwr with strEn := vset d.pwr.strEn k false } := by
  rw [Dev.pwr_of_floor (Dev.strHalt_floor (lo := 0)), Dev.strEn_pwr, Dev.pwr_of_floor (Dev.floor_ifRun (lo := 0))]
  rfl

theorem Dev.reg_strHalt (ha : a < 0x8000) : (d.strHalt k).reg a = d.reg a := by
  rw [Dev.reg_of_floor Dev.strHalt_floor (Nat.zero_le a) ha, Dev.reg_congr (Dev.strEn_regs ..),
    Dev.reg_of_floor Dev.floor_ifRun (Nat.zero_le a) ha]

/-! ### A domain enters FAULT-OFF -/

/-- R34, R370: the relays' registers are the Lid's own. -/
theorem Dev.reg_releaseRelays (ha : a < 0x8000) : d.releaseRelays.reg a = d.reg a := by
  have relays : (d.each [0, 1, 2, 3] (fun d r => if d.ebit Fd.LID_RLY_ENERGISED r then
      (d.putE Fd.LID_RLY_ENERGISED r false).evt Fd.LID_EVT_RELAY else d)).floor 0 = d.floor 0 := by
    refine Dev.floor_each (fun d r => ?_) _
    split
    · rw [Dev.floor_evt (by decide), Dev.floor_putE (by decide)]
    · rfl
  exact (Dev.reg_of_floor relays (Nat.zero_le a) ha :)

theorem Dev.reg_snapLost (ha : a < 0x8000) : d.snapLost.reg a = d.reg a := by
  unfold Dev.snapLost; split
  · exact Dev.reg_of_floor (lo := 0) (by rw [Dev.floor_evt (by decide), Dev.floor_modBg]) (Nat.zero_le a) ha
  · rfl

/-- R415: no snapshot is being taken any more. -/
theorem Dev.snap_snapLost : d.snapLost.bg.snap = none := by
  unfold Dev.snapLost; split
  next => rfl
  next h => simpa using h

/-- The power controller once domain i has entered FAULT-OFF (R34, R49). -/
def Power.faulted (p : Power) (i : Nat) : Power :=
  { p with dom := vset p.dom i .faultOff, relayHeld := p.relayHeld || i == domLid
           strEn := if 8 ≤ i then vset p.strEn (i - 8) false else p.strEn }

theorem Dev.domOff_faultOff (hi : i < 16) : (d.domOff i .faultOff).pwr = d.pwr.faulted i ∧
    (∀ a, a < 0x8000 → (d.domOff i .faultOff).reg a = d.reg a) ∧
    (i = domHost → (d.domOff i .faultOff).bg.snap = none) := by
  unfold Dev.domOff Power.faulted
  dsimp only
  by_cases h8 : 8 ≤ i
  · have hl : (i == domLid) = false := by simp [domLid]; omega
    have hh : (i == domHost) = false := by simp [domHost]; omega
    simp only [hl, hh, h8, hi, decide_true, Bool.and_self, if_true, Bool.false_eq_true, if_false, Bool.or_false]
    refine ⟨Dev.strHalt_pwr, fun a ha => ?_, by simp [domHost]; omega⟩
    rw [Dev.reg_strHalt ha]
    rfl
  · simp only [h8, decide_false, Bool.false_and, Bool.false_eq_true, if_false]
    by_cases hl : i = domLid
    · subst hl
      simp only [beq_self_eq_true, if_true, Bool.or_true]
      refine ⟨Dev.releaseRelays_spec.1, fun a ha => ?_, by simp [domLid, domHost]⟩
      rw [Dev.reg_releaseRelays ha]
      rfl
    · by_cases hh : i = domHost
      · subst hh
        simp only [show (domHost == domLid) = false from rfl, beq_self_eq_true, Bool.false_eq_true, if_false, if_true, Bool.or_false]
        refine ⟨Dev.snapLost_spec.1, fun a ha => ?_, fun _ => Dev.snap_snapLost⟩
        rw [Dev.reg_snapLost ha]
        rfl
      · simp only [beq_eq_false_iff_ne.2 hl, beq_eq_false_iff_ne.2 hh, Bool.false_eq_true, if_false, Bool.or_false]
        exact ⟨rfl, fun _ _ => rfl, fun h => absurd h hh⟩

/-- R49, R57: the power controller, the registers below the strings, and the snapshot, when a domain is at fault. -/
theorem Dev.domFault_spec (hi : i < 16) : (d.domFault i).pwr = d.pwr.faulted i ∧
    (d.domFault i).bit Fd.CLK_EVT_PD_FAULT = true ∧
    (d.domFault i).bit Fd.CLK_EVT_ISLAND_FAIL = d.bit Fd.CLK_EVT_ISLAND_FAIL ∧
    (∀ a, a < 0x8000 → a ≠ Reg.CLK_EVT → (d.domFault i).reg a = d.reg a) ∧
    (i = domHost → (d.domFault i).bg.snap = none) := by
  obtain ⟨hpwr, hreg, hsnap⟩ := Dev.domOff_faultOff (d := d) hi
  refine ⟨hpwr, Dev.bit_evt_same (by decide) rfl, ?_, fun a ha hne => ?_, hsnap⟩
  · rw [Dev.domFault, Dev.bit_evt_other (by decide) rfl (by decide)]
    exact Dev.bit_congr (hreg _ (by decide))
  · rw [Dev.domFault, Dev.reg_evt_other hne, hreg a ha]

section
variable {p : Power} {j : Nat}

theorem Power.faulted_dom_same (hi : i < 16) : vat (p.faulted i).dom i = .faultOff := vat_vset_same hi
theorem Power.faulted_dom_other (h : j ≠ i) : vat (p.faulted i).dom j = vat p.dom j := vat_vset_other h

theorem Power.faulted_low (h : vat p.strEn k = false) : vat (p.faulted i).strEn k = false := by
  unfold Power.faulted
  dsimp only
  split
  · by_cases hk : k = i - 8
    · subst hk
      by_cases h8 : i - 8 < 8
      · exact vat_vset_same h8
      · simp only [vat, vset, Vector.getD, Vector.toArray_setIfInBounds, Array.getD_eq_getD_getElem?] at h ⊢
        rw [Array.setIfInBounds_eq_of_size_le (by simpa using h8)]
        exact h
    · rw [vat_vset_other hk, h]
  · exact h

theorem Power.faulted_str (h8 : 8 ≤ i) (hi : i < 16) : vat (p.faulted i).strEn (i - 8) = false := by
  simp only [Power.faulted, h8, if_true]
  exact vat_vset_same (by omega)

end

end Sys2Proof.Machine
end

section
/-! Failures of the main oscillator, of a domain and of an island's clock (R47, R49, R57). -/
namespace Sys2Proof.Machine
variable {d : Dev} {k i t now : Nat}

/-! ### The main oscillator (R47) -/

/-- Once a list of domains has entered FAULT-OFF: those are in it, no other has changed, and what was low or held stays so. -/
theorem Dev.domFaults_spec (l : List Nat) (hl : ∀ i ∈ l, i < 16) (d : Dev) : let e := l.foldl (fun d i => d.domFault i) d
    e.pwr.islandBad = d.pwr.islandBad ∧ (d.pwr.relayHeld = true → e.pwr.relayHeld = true) ∧
    (∀ k, d.enHigh k = false → e.enHigh k = false) ∧
    (∀ j, domSt e j = if j ∈ l then .faultOff else domSt d j) ∧
    (d.bit Fd.CLK_EVT_ISLAND_FAIL = true → e.bit Fd.CLK_EVT_ISLAND_FAIL = true) ∧
    (d.bit Fd.CLK_EVT_PD_FAULT = true → e.bit Fd.CLK_EVT_PD_FAULT = true) := by
  induction l generalizing d with
  | nil => exact ⟨rfl, id, fun _ => id, fun j => by simp, id, id⟩
  | cons i l ih =>
    obtain ⟨hpwr, hpd, hisl, -, -⟩ := Dev.domFault_spec (d := d) (hl i (by simp))
    obtain ⟨hbad, hheld, hlow, hdom, hi, hp⟩ := ih (fun j hj => hl j (by simp [hj])) (d.domFault i)
    refine ⟨hbad.trans (by rw [hpwr]; rfl), fun h => hheld ?_, fun k hk => hlow k ?_, fun j => (hdom j).trans ?_,
      fun h => hi (hisl.trans h), fun _ => hp hpd⟩
    · rw [hpwr]; simp [Power.faulted, h]
    · unfold Dev.enHigh; rw [hpwr]; exact Power.faulted_low hk
    · by_cases hji : j = i
      · subst hji
        simp [domSt, hpwr, Power.faulted_dom_same (hl j (by simp))]
      · simp [domSt, hpwr, Power.faulted_dom_other hji, hji]

/-- R49: the record of a failed island. -/
theorem Dev.islandFail_pwr : (d.islandFail t i).pwr =
    { d.pwr with islandBad := vset d.pwr.islandBad i true, badAt := vset d.pwr.badAt i t } := (rfl)

theorem Dev.islandFail_evt : (d.islandFail t i).bit Fd.CLK_EVT_ISLAND_FAIL = true := Dev.bit_evt_same (by decide) rfl

theorem Dev.islandFail_bad (hi : i < 15) : vat (d.islandFail t i).pwr.islandBad i = true := vat_vset_same hi

/-- R47: the strings stop and the relays release before the domains are switched off. -/
theorem Dev.oscFail_eq : d.oscFail t = ((upTo 16).filter (fun i => i != domAon && (d.haltAll.islandFail t islAon).powered i)).foldl
    (fun d i => d.domFault i) ((d.haltAll.islandFail t islAon).evt Fd.CLK_EVT_PD_FAULT) := (rfl)

theorem mem_upTo {i n : Nat} : i ∈ upTo n ↔ i < n := by
  induction n with
  | zero => simp [upTo]
  | succ n ih => simp only [upTo, List.mem_append, ih, List.mem_singleton]; omega

theorem Dev.oscFail_spec : let e := d.oscFail t
    vat e.pwr.islandBad islAon = true ∧ e.pwr.relayHeld = true ∧ (∀ k, k < 8 → e.enHigh k = false) ∧
    (∀ i, i < 16 → domSt e i = if i ≠ domAon ∧ d.powered i = true then .faultOff else domSt d i) ∧
    e.bit Fd.CLK_EVT_ISLAND_FAIL = true ∧ e.bit Fd.CLK_EVT_PD_FAULT = true := by
  obtain ⟨hhdom, -, hheld, hlow, -⟩ := d.haltAll_spec
  rw [Dev.oscFail_eq]
  generalize d.haltAll = h at *
  have hpow : (h.islandFail t islAon).powered = d.powered := Dev.powered_congr hhdom
  have hst (j : Nat) : domSt ((h.islandFail t islAon).evt Fd.CLK_EVT_PD_FAULT) j = domSt d j :=
    congrArg (vat · j) hhdom
  obtain ⟨kbad, kheld, klow, kdom, kisl, kpd⟩ := Dev.domFaults_spec
    ((upTo 16).filter (fun i => i != domAon && (h.islandFail t islAon).powered i))
    (fun i hi => mem_upTo.1 (List.mem_of_mem_filter hi)) ((h.islandFail t islAon).evt Fd.CLK_EVT_PD_FAULT)
  have held : ((h.islandFail t islAon).evt Fd.CLK_EVT_PD_FAULT).pwr.relayHeld = true := by
    rw [Dev.evt_pwr, Dev.islandFail_pwr, hheld]
  have low (k : Nat) (hk : k < 8) : ((h.islandFail t islAon).evt Fd.CLK_EVT_PD_FAULT).enHigh k = false := by
    rw [Dev.enHigh, Dev.evt_pwr, Dev.islandFail_pwr]
    exact hlow k hk
  refine ⟨?_, kheld held, fun k hk => klow k (low k hk), fun i hi => ?_, kisl ?_, kpd (Dev.bit_evt_same (by decide) rfl)⟩
  · rw [kbad, Dev.evt_pwr]; exact Dev.islandFail_bad (by decide)
  · rw [kdom, hst, hpow]
    simp [mem_upTo, hi]
  · rw [Dev.bit_evt_other (by decide) rfl (by decide)]
    exact Dev.islandFail_evt

/-- Settles O13: the islands' record alone decides that AON no longer runs. -/
theorem mainOscillatorFailure : Obligations.MainOscillatorFailure := by
  intro s hl
  obtain ⟨hbad, hheld, hlow, hdom, hisl, hpd⟩ := Dev.oscFail_spec (d := s.dev) (t := s.env.tick)
  refine ⟨{ s with dev := s.dev.oscFail s.env.tick }, ?_, ⟨rfl, rfl, rfl⟩, ?_, hheld, hlow, hdom, hisl, hpd⟩
  · show execMainOscFail s = _
    simp [execMainOscFail, onDev, hl]
  · simp [Dev.aonRuns, Dev.islandOk, hbad]

/-! ### A domain that does not come up (R57) -/

/-- R57: what the failure of domain i leaves, the next domain due. -/
def Dev.rampFail (d : Dev) (i now : Nat) : Dev :=
  { d.domFault i with pwr := { (d.domFault i).pwr with rampDue := now + 512 } }

/-- R57: a blocking domain makes SYS_STATE PLATFORM_FAIL besides. -/
theorem exec_domainRampTimeout {s : State} (hr : s.dev.ramping = some i) (hd : s.dev.pwr.rampStart + 257 ≤ s.env.lockTicks) :
    exec .domainRampTimeout s = .next { s with dev := if blocking i then
      ((s.dev.rampFail i s.env.lockTicks).put Fd.SYS_STATE_STATE 0xB) else s.dev.rampFail i s.env.lockTicks } := by
  show execDomainRampTimeout s = _
  simp [execDomainRampTimeout, onDev, hr, hd, Dev.rampFail]

theorem domainRampTimeout_spec {s : State} {x : Nat} (hr : s.dev.ramping = some x)
    (hd : s.dev.pwr.rampStart + 257 ≤ s.env.lockTicks) :
    ∃ t, exec .domainRampTimeout s = .next t ∧ OnlyDev s t ∧ domSt t.dev x = .faultOff ∧
      (∀ j, j ≠ x → domSt t.dev j = domSt s.dev j) ∧ t.dev.bit Fd.CLK_EVT_PD_FAULT = true ∧
      t.dev.pwr.rampDue = s.env.lockTicks + 512 ∧
      t.dev.fld Fd.SYS_STATE_STATE = (if blocking x then 0xB else s.dev.fld Fd.SYS_STATE_STATE) ∧
      (x = domLid → t.dev.pwr.relayHeld = true) ∧ (x = domHost → t.dev.bg.snap = none) ∧
      (8 ≤ x → t.dev.enHigh (x - 8) = false) := by
  have hx := Dev.ramping_lt hr
  obtain ⟨hpwr, hpd, -, hreg, hsnap⟩ := Dev.domFault_spec (d := s.dev) hx
  generalize hf : s.dev.rampFail x s.env.lockTicks = e
  have hep : e.pwr = { s.dev.pwr.faulted x with rampDue := s.env.lockTicks + 512 } := by rw [← hf, ← hpwr]; rfl
  refine ⟨_, exec_domainRampTimeout hr hd, ⟨rfl, rfl, rfl⟩, ?_⟩
  rw [hf]
  generalize hu : (if blocking x then e.put Fd.SYS_STATE_STATE 0xB else e) = u
  have hup : u.pwr = e.pwr := by rw [← hu]; split <;> rfl
  have hub : u.bg = e.bg := by rw [← hu]; split <;> rfl
  refine ⟨?_, fun j hj => ?_, ?_, by rw [hup, hep], ?_, fun h => ?_, fun h => ?_, fun h8 => ?_⟩
  · simp only [domSt, hup, hep]; exact Power.faulted_dom_same hx
  · simp only [domSt, hup, hep]; exact Power.faulted_dom_other hj
  · have he : e.bit Fd.CLK_EVT_PD_FAULT = true := by rw [← hf]; exact hpd
    rw [← hu]
    split
    · rw [Dev.bit_put_other (by decide) rfl (by decide), he]
    · exact he
  · rw [← hu]
    split
    · rw [Dev.fld_put_same (by decide)]; rfl
    · rw [← hf]; exact Dev.fld_congr (hreg _ (by decide) (by decide))
  · rw [hup, hep]; simp [Power.faulted, h]
  · rw [hub, ← hf]; exact hsnap h
  · simp only [Dev.enHigh, hup, hep]; exact Power.faulted_str h8 hx

/-! ### An island whose clock fails (R49) -/

/-- What the end of HOST's locked sequence and of its service session leave alone. -/
def Dev.clockView (d : Dev) : Power × BgSt × Word := (d.pwr, d.bg, d.reg Reg.CLK_EVT)

theorem Dev.clockView_put {f : Fld} {v : Nat} (h : f.addr ≠ Reg.CLK_EVT) : (d.put f v).clockView = d.clockView := by
  simp [Dev.clockView, Dev.reg_put_other h.symm]

theorem Dev.clockView_modSvc {f : SvcSt → SvcSt} : (d.modSvc f).clockView = d.clockView := (rfl)
theorem Dev.clockView_modPot {f : PotSt → PotSt} : (d.modPot f).clockView = d.clockView := (rfl)
theorem Dev.clockView_modReq {p : Nat} {f : ReqSt → ReqSt} : (d.modReq p f).clockView = d.clockView := (rfl)
theorem Dev.clockView_modCtl {f : Ctl → Ctl} : (d.modCtl k f).clockView = d.clockView := (rfl)
theorem Dev.clockView_lock {l : LockSt} : ({ d with lock := l } : Dev).clockView = d.clockView := (rfl)
theorem Dev.clockView_img {x : ImgSt} : ({ d with img := x } : Dev).clockView = d.clockView := (rfl)

theorem Dev.clockView_ownerLoss {p res : Nat} : (d.ownerLoss p res).clockView = d.clockView := by
  unfold Dev.ownerLoss
  split
  · exact (Dev.clockView_put (addr_ne (of_decide_eq_true rfl))).trans
      ((Dev.clockView_put (addr_ne (of_decide_eq_true rfl))).trans
        (Dev.clockView_modReq.trans ((Dev.clockView_put (addr_ne (of_decide_eq_true rfl))).trans Dev.clockView_lock)))
  · rfl

theorem Dev.clockView_svcClosing : d.svcClosing.clockView = d.clockView := by
  have inj (d : Dev) : (d.each strings8 (fun d k => if (d.st k).ctl.inj.isSome then d.injStop k else d)).clockView =
      d.clockView := by
    refine Dev.each_same Dev.clockView (fun d k => ?_) _ _
    split
    · exact (Dev.clockView_put (addr_ne (of_decide_eq_true rfl))).trans Dev.clockView_modCtl
    · rfl
  have load (d : Dev) : d.startMapLoad.clockView = d.clockView := by
    unfold Dev.startMapLoad; split
    · exact Dev.clockView_modPot
    · rfl
  have session (d : Dev) : (if d.bit Fd.SVC_FL_STATUS_SESSION then (d.putB Fd.SVC_FL_STATUS_SESSION false).startMapLoad
      else d).clockView = d.clockView := by
    split
    · exact (load _).trans (Dev.clockView_put (by decide))
    · rfl
  unfold Dev.svcClosing
  dsimp only
  split
  · refine (Dev.clockView_put (by decide)).trans (Dev.clockView_modSvc.trans ?_)
    split
    · exact Dev.clockView_img.trans ((session _).trans (inj d))
    · exact (session _).trans (inj d)
  · rfl

/-- R49: HOST is off until its restart is due. -/
def Dev.hostOff (d : Dev) (now t : Nat) : Dev :=
  { (d.islandFail t islHost).domOff domHost .off with
    pwr := { ((d.islandFail t islHost).domOff domHost .off).pwr with hostDue := some (now + 65536) } }

theorem Dev.clockView_hostFail : (d.hostFail now t).clockView = (d.hostOff now t).clockView := by
  show (Dev.svcClosing _).clockView = _
  rw [Dev.clockView_svcClosing]
  show (match (d.hostOff now t).lock.owner with
    | some p => (d.hostOff now t).ownerLoss p 7
    | none => d.hostOff now t).clockView = _
  split
  · exact Dev.clockView_ownerLoss
  · rfl

theorem Dev.hostFail_spec : let e := d.hostFail now t
    vat e.pwr.islandBad islHost = true ∧ e.bit Fd.CLK_EVT_ISLAND_FAIL = true ∧ domSt e domHost = .off ∧
    e.pwr.hostDue = some (now + 65536) ∧ e.bg.snap = none ∧ (∀ j, j ≠ domHost → domSt e j = domSt d j) := by
  have hv := Dev.clockView_hostFail (d := d) (now := now) (t := t)
  have hpwr : (d.hostFail now t).pwr = (d.hostOff now t).pwr := congrArg Prod.fst hv
  have hbg : (d.hostFail now t).bg = (d.hostOff now t).bg := congrArg (fun x => x.2.1) hv
  have hev : (d.hostFail now t).reg Reg.CLK_EVT = (d.hostOff now t).reg Reg.CLK_EVT := congrArg (fun x => x.2.2) hv
  have off : (d.hostOff now t).pwr = { ((d.islandFail t islHost).setDom domHost .off).pwr with
      hostDue := some (now + 65536) } :=
    congrArg (fun p : Power => { p with hostDue := some (now + 65536) })
      (Dev.snapLost_spec (d := (d.islandFail t islHost).setDom domHost .off)).1
  refine ⟨?_, ?_, ?_, ?_, ?_, fun j hj => ?_⟩
  · rw [hpwr, off]; exact Dev.islandFail_bad (d := d) (t := t) (by decide)
  · rw [Dev.bit_congr hev]
    exact (Dev.bit_congr (Dev.reg_snapLost (by decide))).trans (Dev.islandFail_evt (d := d))
  · rw [domSt, hpwr, off]; exact Dev.domSt_setDom_same (by decide)
  · rw [hpwr, off]
  · rw [hbg]; exact Dev.snap_snapLost
  · simp only [domSt, hpwr, off]; exact Dev.domSt_setDom_other hj

/-- R49: an island whose failure switches its own domain into FAULT-OFF. -/
theorem Dev.islandFault_spec {x : Nat} (hi : i < 15) (hx : x < 16) : let e := (d.islandFail t i).domFault x
    vat e.pwr.islandBad i = true ∧ e.bit Fd.CLK_EVT_ISLAND_FAIL = true ∧ domSt e x = .faultOff ∧
    (∀ j, j ≠ x → domSt e j = domSt d j) ∧ (8 ≤ x → e.enHigh (x - 8) = false) ∧
    (x = domLid → e.pwr.relayHeld = true) := by
  obtain ⟨hpwr, -, hisl, -, -⟩ := Dev.domFault_spec (d := d.islandFail t i) hx
  refine ⟨?_, ?_, ?_, fun j hj => ?_, fun h8 => ?_, fun h => ?_⟩
  · rw [hpwr]; exact Dev.islandFail_bad (d := d) (t := t) hi
  · rw [hisl]; exact Dev.islandFail_evt
  · simp only [domSt, hpwr]; exact Power.faulted_dom_same hx
  · simp only [domSt, hpwr]; exact Power.faulted_dom_other hj
  · simp only [Dev.enHigh, hpwr]; exact Power.faulted_str h8 hx
  · rw [hpwr]; simp [Power.faulted, h]

theorem Dev.clockFail_aon : d.clockFail now t islAon = d.oscFail t := (rfl)
theorem Dev.clockFail_host : d.clockFail now t islHost = d.hostFail now t := (rfl)
theorem Dev.clockFail_lid : d.clockFail now t islLid = (d.islandFail t islLid).domFault domLid := (rfl)

/-- The other islands: a string's own switches its domain off. -/
theorem Dev.clockFail_other (h : 3 ≤ i) :
    d.clockFail now t i = if 7 ≤ i then (d.islandFail t i).domFault (i + 1) else d.islandFail t i := by
  have h0 : (i == islAon) = false := by simp [islAon]; omega
  have h1 : (i == islLid) = false := by simp [islLid]; omega
  have h2 : (i == islHost) = false := by simp [islHost]; omega
  simp [Dev.clockFail, Dev.islandReact, h0, h1, h2, islCh]

theorem islandClockFail_spec (i : Fin 15) {s : State} (hc : s.dev.clockRuns i.val = true) :
    ∃ t, exec (.islandClockFail i) s = .next t ∧ OnlyDev s t ∧ vat t.dev.pwr.islandBad i.val = true ∧
      t.dev.bit Fd.CLK_EVT_ISLAND_FAIL = true ∧
      (7 ≤ i.val → domSt t.dev (i.val + 1) = .faultOff ∧ t.dev.enHigh (i.val - 7) = false ∧
        (∀ j, j ≠ i.val + 1 → domSt t.dev j = domSt s.dev j)) ∧
      (i.val = islLid → domSt t.dev domLid = .faultOff ∧ t.dev.pwr.relayHeld = true ∧
        (∀ j, j ≠ domLid → domSt t.dev j = domSt s.dev j)) ∧
      (i.val = islHost → domSt t.dev domHost = .off ∧ t.dev.pwr.hostDue = some (s.env.lockTicks + 65536) ∧
        t.dev.bg.snap = none ∧ (∀ j, j ≠ domHost → domSt t.dev j = domSt s.dev j)) ∧
      (3 ≤ i.val → i.val ≤ 6 → t.dev.pwr.dom = s.dev.pwr.dom ∧ t.dev = { s.dev with regs := t.dev.regs, pwr := t.dev.pwr } ∧
        FieldsBut s.dev t.dev [Fd.CLK_EVT_ISLAND_FAIL]) := by
  have hi := i.isLt
  refine ⟨{ s with dev := s.dev.clockFail s.env.lockTicks s.env.tick i.val }, ?_, ⟨rfl, rfl, rfl⟩, ?_⟩
  · show execIslandClockFail i s = _
    simp [execIslandClockFail, onDev, hc]
  generalize i.val = n at hi ⊢
  rcases (show n = islAon ∨ n = islLid ∨ n = islHost ∨ 3 ≤ n by simp only [islAon, islLid, islHost]; omega) with rfl | rfl | rfl | h3
  · obtain ⟨hbad, -, -, -, hisl, -⟩ := Dev.oscFail_spec (d := s.dev) (t := s.env.tick)
    rw [Dev.clockFail_aon]
    exact ⟨hbad, hisl, fun h => absurd h (by decide), nofun, nofun, fun h => absurd h (by decide)⟩
  · obtain ⟨hbad, hisl, hoff, hdom, -, hheld⟩ :=
      Dev.islandFault_spec (d := s.dev) (t := s.env.tick) (i := islLid) (x := domLid) (by decide) (by decide)
    rw [Dev.clockFail_lid]
    exact ⟨hbad, hisl, fun h => absurd h (by decide), fun _ => ⟨hoff, hheld rfl, hdom⟩, nofun, fun h => absurd h (by decide)⟩
  · obtain ⟨hbad, hisl, hoff, hdue, hsnap, hdom⟩ := Dev.hostFail_spec (d := s.dev) (now := s.env.lockTicks) (t := s.env.tick)
    rw [Dev.clockFail_host]
    exact ⟨hbad, hisl, fun h => absurd h (by decide), nofun, fun _ => ⟨hoff, hdue, hsnap, hdom⟩,
      fun h => absurd h (by decide)⟩
  have hlid : n ≠ islLid := by simp [islLid]; omega
  have hhost : n ≠ islHost := by simp [islHost]; omega
  rw [Dev.clockFail_other h3]
  split
  next h7 =>
    obtain ⟨hbad, hisl, hoff, hdom, hlow, -⟩ :=
      Dev.islandFault_spec (d := s.dev) (t := s.env.tick) hi (show n + 1 < 16 by omega)
    exact ⟨hbad, hisl, fun _ => ⟨hoff, hlow (by omega), hdom⟩, fun h => absurd h hlid, fun h => absurd h hhost, by omega⟩
  next h7 =>
    exact ⟨Dev.islandFail_bad hi, Dev.islandFail_evt, fun h => absurd h h7, fun h => absurd h hlid,
      fun h => absurd h hhost, fun _ _ => ⟨rfl, rfl, FieldsBut.put (by decide)⟩⟩

end Sys2Proof.Machine
end

section
/-! The control engine of a string leaves the floor alone (spec files 07 to 09, 12, 13). -/
namespace Sys2Proof.Machine
variable {d : Dev} {k p t b lo : Nat}

/-! ### Cells (R222, R226, R232 to R239) -/

@[simp] theorem Dev.floor_markBypassed : (d.markBypassed k p).floor lo = d.floor lo :=
  Dev.floor_put (high_reg (of_decide_eq_true rfl))

@[simp] theorem Dev.floor_resetZf : (d.resetZf k).floor lo = d.floor lo :=
  Dev.floor_each (fun _ _ => Dev.floor_putB (high_reg (high_reg (of_decide_eq_true rfl)))) _

@[simp] theorem Dev.floor_dropFailed : (d.dropFailed k t).floor lo = d.floor lo := by
  unfold Dev.dropFailed
  dsimp only
  split
  · rfl
  · exact Dev.floor_modWh

@[simp] theorem Dev.floor_headroom {fell : Bool} : (d.headroom k fell).1.floor lo = d.floor lo := by
  unfold Dev.headroom
  simp (disch := with_unfolding_all exact id (high_reg (of_decide_eq_true rfl))) only [Dev.floor_modWh, Dev.floor_evtIf]

@[simp] theorem Dev.floor_joinOne : (d.joinOne k).floor lo = d.floor lo := by
  unfold Dev.joinOne
  split
  · rfl
  · simp (disch := with_unfolding_all exact id (high_reg (of_decide_eq_true rfl))) only
      [Dev.floor_evt, Dev.floor_bump, Dev.floor_modWh]

@[simp] theorem Dev.floor_demote : (d.demote k p).floor lo = d.floor lo := by
  unfold Dev.demote
  rw [Dev.floor_bump (high_reg (of_decide_eq_true rfl)), Dev.floor_modWh]

@[simp] theorem Dev.floor_rotate : (d.rotate k).floor lo = d.floor lo := by
  unfold Dev.rotate
  dsimp only
  split
  · split_ifs
    · simp (disch := with_unfolding_all exact id (high_reg (of_decide_eq_true rfl))) only
        [Dev.floor_evt, Dev.floor_bump, Dev.floor_modCell, Dev.floor_modWh]
    · rfl
  · rfl

@[simp] theorem Dev.floor_freqAvg : (d.freqAvg k b p).floor lo = d.floor lo := by
  unfold Dev.freqAvg
  dsimp only
  rw [Dev.floor_put (high_reg (high_reg (of_decide_eq_true rfl))), Dev.floor_modCell]

/-! ### The Mortar (R201 to R207, R217) -/

@[simp] theorem Dev.floor_morClear : (d.morClear k).floor lo = d.floor lo := by
  unfold Dev.morClear
  rw [Dev.floor_bump (high_reg (of_decide_eq_true rfl)), Dev.floor_eccWriteRange, Dev.floor_mortar]

@[simp] theorem Dev.floor_morSuspendNow : (d.morSuspendNow k).floor lo = d.floor lo := by
  unfold Dev.morSuspendNow; split <;> simp

@[simp] theorem Dev.floor_morResume : (d.morResume k).floor lo = d.floor lo := by
  unfold Dev.morResume
  split_ifs <;> simp

@[simp] theorem Dev.floor_morWrap {w : Bool} : (d.morWrap k b w).floor lo = d.floor lo := by
  unfold Dev.morWrap
  dsimp only
  split_ifs <;> simp

@[simp] theorem Dev.floor_morLock {l : Bool} : (d.morLock k l).floor lo = d.floor lo := by
  have lock (d : Dev) : (d.putB (Fd.CHk_MOR_STATUS_LOCK k) l).floor lo = d.floor lo :=
    Dev.floor_putB (high_reg (of_decide_eq_true rfl))
  have found (d : Dev) : (d.evt (Fd.CHk_FB_EVT_MOR_LOCK k)).floor lo = d.floor lo :=
    Dev.floor_evt (high_reg (of_decide_eq_true rfl))
  have lost (d : Dev) : ((d.evt (Fd.CHk_FB_EVT_MOR_LOST k)).bump (Fd.CHk_MOR_CNT_LOST k)).floor lo = d.floor lo := by
    rw [Dev.floor_bump (high_reg (of_decide_eq_true rfl)), Dev.floor_evt (high_reg (of_decide_eq_true rfl))]
  unfold Dev.morLock
  dsimp only
  split_ifs <;> simp [lock, found, lost]

@[simp] theorem Dev.floor_track {x : Int} : (d.track k x).floor lo = d.floor lo := by
  unfold Dev.track
  dsimp only
  rw [Dev.floor_put (high_reg (of_decide_eq_true rfl)), Dev.floor_morLock, Dev.floor_modMor]

@[simp] theorem Dev.floor_morAdvance {x : Int} : (d.morAdvance k x).floor lo = d.floor lo := by
  unfold Dev.morAdvance
  dsimp only
  split
  · exact Dev.floor_track
  · rw [Dev.floor_put (high_reg (of_decide_eq_true rfl)), Dev.floor_modMor]

section
variable (h : 0x1000 ≤ lo)
include h

@[simp] theorem Dev.floor_morRead {bin : Nat} : (d.morRead k bin t).1.floor lo = d.floor lo := by
  unfold Dev.morRead
  dsimp only
  split_ifs
  · rfl
  · exact Dev.floor_bump (high_reg (of_decide_eq_true rfl))
  · rw [Dev.floor_count h, Dev.floor_bump (high_reg (of_decide_eq_true rfl))]

@[simp] theorem Dev.floor_morCorrect : (d.morCorrect k b).1.floor lo = d.floor lo := by
  unfold Dev.morCorrect
  dsimp only
  split
  · exact Dev.floor_morRead h
  · rfl

@[simp] theorem Dev.floor_morLearn : (d.morLearn k t).floor lo = d.floor lo := by
  unfold Dev.morLearn
  split
  · rfl
  · dsimp only
    split
    · split
      · rw [Dev.floor_eccWrite, Dev.floor_mortar, Dev.floor_morRead h, Dev.floor_modMor]
      · exact Dev.floor_modMor
    · rfl

end

/-! ### Feedback loss (R208 to R219) -/

@[simp] theorem Dev.floor_detect : (d.detect k b).floor lo = d.floor lo := by
  unfold Dev.detect
  dsimp only
  simp (disch := with_unfolding_all exact id (high_reg (of_decide_eq_true rfl))) only
    [Dev.floor_putI, Dev.floor_put, Dev.floor_modFb]

@[simp] theorem Dev.floor_enterFallback : (d.enterFallback k t).floor lo = d.floor lo := by
  unfold Dev.enterFallback
  dsimp only
  split <;> simp (disch := with_unfolding_all exact id (high_reg (of_decide_eq_true rfl))) only
    [Dev.floor_evt, Dev.floor_putB, Dev.floor_winEvent, Dev.floor_morSuspendNow, Dev.floor_injStop, Dev.floor_modWh,
      Dev.floor_modCtl, Dev.floor_bump, Dev.floor_put]

@[simp] theorem Dev.floor_leaveFallback : (d.leaveFallback k).floor lo = d.floor lo := by
  unfold Dev.leaveFallback
  simp (disch := with_unfolding_all exact id (high_reg (of_decide_eq_true rfl))) only
    [Dev.floor_morResume, Dev.floor_resetZf, Dev.floor_modCtl, Dev.floor_evt, Dev.floor_bump, Dev.floor_put]

@[simp] theorem Dev.floor_formMi {v : Int} : (d.formMi k b v).floor lo = d.floor lo := Dev.floor_modCtl

theorem Dev.floor_takeMi : (d.takeMi k t).floor lo = d.floor lo := by
  unfold Dev.takeMi; split
  · split <;> simp
  · rfl

theorem Dev.floor_takeIref : (d.takeIref k t).floor lo = d.floor lo := by
  unfold Dev.takeIref; split
  · split <;> simp
  · rfl

theorem Dev.floor_takeMode : (d.takeMode k t).floor lo = d.floor lo := by
  unfold Dev.takeMode; split
  · split_ifs <;> simp
  · rfl

/-- R296: trips that fall due. -/
theorem Dev.floor_trips (h : 0x1000 ≤ lo) (l : List (Nat × Nat)) :
    (l.foldl (fun d x => d.trip k x.1 x.2) d).floor lo = d.floor lo := by
  induction l generalizing d with
  | nil => rfl
  | cons x l ih => exact ih.trans (Dev.floor_trip h)

@[simp] theorem Dev.floor_takeDue (h : 0x1000 ≤ lo) : (d.takeDue k t).floor lo = d.floor lo := by
  rw [Dev.takeDue_eq, Dev.floor_trips h, Dev.floor_takeMode, Dev.floor_takeIref, Dev.floor_takeMi]
  exact Dev.floor_modPr

@[simp] theorem Dev.floor_noteV : (d.noteV k t).floor lo = d.floor lo := by
  unfold Dev.noteV
  dsimp only
  split <;> simp

/-! ### Capture and injection (R195 to R199) -/

@[simp] theorem Dev.floor_injForm {inner : Bool} : (d.injForm k t inner).1.floor lo = d.floor lo := by
  have form (on : Bool) (f : Ctl → Ctl) (x : Nat × Int × Bool) : (if on then
      ((d.modCtl k f).putB (Fd.CHk_CL_STATUS_INJ k) true, x) else (d, 0, 0, false)).1.floor lo = d.floor lo := by
    split
    · rw [Dev.floor_putB (high_reg (of_decide_eq_true rfl)), Dev.floor_modCtl]
    · rfl
  unfold Dev.injForm
  split
  · rfl
  · exact form _ _ _

@[simp] theorem Dev.floor_capTrigger {c : Nat} : (d.capTrigger k t c).floor lo = d.floor lo := by
  unfold Dev.capTrigger
  dsimp only
  split
  · rw [Dev.floor_putB (high_reg (of_decide_eq_true rfl)), Dev.floor_modCtl]
  · rfl

@[simp] theorem Dev.floor_capPut {x y : Int} : (d.capPut k x y).floor lo = d.floor lo := by
  unfold Dev.capPut
  dsimp only
  split
  · rfl
  · simp (disch := with_unfolding_all exact id (high_reg (of_decide_eq_true rfl))) only [Dev.floor_put, Dev.floor_modCtl]

@[simp] theorem Dev.floor_capBoundary : (d.capBoundary k b).floor lo = d.floor lo := by
  unfold Dev.capBoundary
  dsimp only
  split_ifs <;> simp

@[simp] theorem Dev.floor_capDecision {l : List Int} : (d.capDecision k t l).floor lo = d.floor lo := by
  unfold Dev.capDecision; split <;> simp

/-! ### Decision instants (R183, R298) -/

@[simp] theorem Dev.floor_innerDecide : (d.innerDecide k t).floor lo = d.floor lo := by
  unfold Dev.innerDecide
  dsimp only
  rw [Dev.floor_capDecision]
  simp (disch := with_unfolding_all exact id (high_reg (of_decide_eq_true rfl))) only
    [Dev.floor_putB, Dev.floor_put, Dev.floor_putI, Dev.floor_modCtl]
  split <;> simp

@[simp] theorem Dev.floor_ocFast (h : 0x1000 ≤ lo) : (d.ocFast k t).floor lo = d.floor lo := by
  unfold Dev.ocFast
  dsimp only
  split_ifs <;> simp [h]

theorem Dev.floor_decisionStr (h : 0x1000 ≤ lo) : (d.decisionStr k t).floor lo = d.floor lo := by
  unfold Dev.decisionStr
  dsimp only
  split <;> simp [h]

end Sys2Proof.Machine
end

section
/-! Decision instants (R50, R166, R172, R183): the strings take up fast samples, decide, and the Sieve forms the next ones. -/
namespace Sys2Proof.Machine
variable {d : Dev} {k i n t : Nat}

/-! ### The take-up of fast samples (R50) -/

/-- R50: what string k holds once it has taken up its fast samples at decision instant t. -/
def Dev.takenFast (d : Dev) (k t : Nat) : Int × Int × Bool :=
  if d.produced islSieve (t - 2) then ((vat d.sieve k).fast, (vat d.sieve (8 + k)).fast, false)
  else ((d.st k).fv, (d.st k).fi, true)

theorem Dev.takeFast_pwr : (d.takeFast k t).pwr = d.pwr := by unfold Dev.takeFast; split <;> rfl
theorem Dev.takeFast_sieve : (d.takeFast k t).sieve = d.sieve := by unfold Dev.takeFast; split <;> rfl

theorem Dev.produced_congr {e : Dev} (h : e.pwr = d.pwr) : e.produced i n = d.produced i n := by
  simp only [Dev.produced, Dev.islandOk, Dev.domRun, h]

theorem Dev.fast_takeFast (hk : k < 8) : ((d.takeFast k t).st k).fast = d.takenFast k t := by
  unfold Dev.takeFast Dev.takenFast
  split
  · rw [Dev.st_modStr_same hk]; rfl
  · rw [Dev.st_modStr_same hk]; rfl

theorem Dev.st_takeFast_other (h : k ≠ i) : (d.takeFast i t).st k = d.st k := by
  unfold Dev.takeFast; split <;> exact Dev.st_modStr_other h

/-- The values of a string's samples are those produced, or stay. -/
theorem Dev.takenFast_takeFast (hi : i < 8) : (d.takeFast i t).takenFast k t = d.takenFast k t := by
  have hp : (d.takeFast i t).produced islSieve (t - 2) = d.produced islSieve (t - 2) := Dev.produced_congr Dev.takeFast_pwr
  unfold Dev.takenFast
  rw [hp, Dev.takeFast_sieve]
  split
  · rfl
  next h =>
    by_cases hk : k = i
    · subst hk
      have fast := Dev.fast_takeFast (d := d) (t := t) hi
      rw [Dev.takenFast, if_neg h] at fast
      simp only [Str.fast, Prod.mk.injEq] at fast
      rw [fast.1, fast.2.1]
    · rw [Dev.st_takeFast_other hk]

theorem Dev.st_each_takeFast {l : List Nat} (h : k ∉ l) : (d.each l (fun d k => d.takeFast k t)).st k = d.st k := by
  induction l generalizing d with
  | nil => rfl
  | cons i l ih =>
    simp only [List.mem_cons, not_or] at h
    exact (ih h.2).trans (Dev.st_takeFast_other h.1)

/-- Every string of a list takes its samples up, whatever the order. -/
theorem Dev.fast_each_takeFast {l : List Nat} (hl : ∀ i ∈ l, i < 8) (hk : k ∈ l) :
    ((d.each l (fun d k => d.takeFast k t)).st k).fast = d.takenFast k t := by
  induction l generalizing d with
  | nil => cases hk
  | cons i l ih =>
    have hi : i < 8 := hl i (by simp)
    by_cases h : k ∈ l
    · exact (ih (fun j hj => hl j (by simp [hj])) h).trans (Dev.takenFast_takeFast hi)
    · obtain rfl : k = i := by simpa [h] using hk
      exact (congrArg Str.fast (Dev.st_each_takeFast h)).trans (Dev.fast_takeFast hi)

/-! ### The Sieve's fast samples (R166, R172) -/

theorem Dev.fastSample_str {c : List Int} : (d.fastSample c n).str = d.str := by
  unfold Dev.fastSample Dev.countSat
  dsimp only
  split <;> rfl

theorem Dev.bits_fastSample {c : List Int} {m : Nat} : (vat (d.fastSample c n).sieve m).bits = (vat d.sieve m).bits := by
  unfold Dev.fastSample
  dsimp only
  rw [Dev.sieve_countSat, Dev.modSieve_sieve]
  exact vat_vmod_part SieveIn.bits (fun _ => rfl)

theorem Dev.reg_fastSample {c : List Int} {a : Nat} (h : a ≠ Reg.SIEVE_SAT_CNT) (h' : a ≠ Reg.SIEVE_EVT) :
    (d.fastSample c n).reg a = d.reg a := by
  unfold Dev.fastSample Dev.countSat
  dsimp only
  split
  · rfl
  · rw [Dev.reg_evt_other h', Dev.reg_bump_other h]
    rfl

/-- R172: the Sieve at a decision instant. -/
def Dev.fastFormed (d : Dev) (t : Nat) : Dev :=
  if d.islandOk islSieve then
    let d := if 32 ≤ t then d.putB Fd.SIEVE_VALID_FAST true else d
    let c := d.fastCoefs
    d.each inputs20 (fun d n => d.fastSample c n)
  else d

theorem Dev.fastFormed_spec : (d.fastFormed t).str = d.str ∧
    (∀ n, (vat (d.fastFormed t).sieve n).bits = (vat d.sieve n).bits) ∧
    (d.islandOk islSieve = true → 32 ≤ t → (d.fastFormed t).bit Fd.SIEVE_VALID_FAST = true) := by
  unfold Dev.fastFormed
  dsimp only
  split
  next hi =>
    have str (d : Dev) (c : List Int) := Dev.each_same Dev.str (fun d n => Dev.fastSample_str (d := d) (n := n) (c := c)) inputs20 d
    have bits (d : Dev) (c : List Int) (m : Nat) := Dev.each_same (fun d => (vat d.sieve m).bits)
      (fun d n => Dev.bits_fastSample (d := d) (n := n) (c := c)) inputs20 d
    have reg (d : Dev) (c : List Int) := Dev.each_same (Dev.reg · Reg.SIEVE_VALID)
      (fun d n => Dev.reg_fastSample (d := d) (n := n) (c := c) (by decide) (by decide)) inputs20 d
    refine ⟨(str _ _).trans ?_, fun m => (bits _ _ m).trans ?_, fun _ ht => ?_⟩
    · split <;> rfl
    · split <;> rfl
    · rw [Dev.bit_congr (reg _ _), if_pos ht]
      exact Dev.bit_putB_same (by decide) rfl
  next hi => exact ⟨rfl, fun _ => rfl, fun h => absurd h hi⟩

/-! ### A decision instant -/

/-- R50: the take-up of the fast samples. -/
def Dev.fastTakeUp (d : Dev) (t : Nat) : Dev := if 2 ≤ t then d.each d.liveStrs (fun d k => d.takeFast k t) else d

/-- R183: the strings decide. -/
def Dev.decided (d : Dev) (t : Nat) : Dev := (d.fastTakeUp t).each (d.fastTakeUp t).liveStrs (fun d k => d.decisionStr k t)

theorem Dev.decision_eq : d.decision t = (d.decided t).fastFormed t := (rfl)

theorem Dev.floor_decided {lo : Nat} (h : 0x1000 ≤ lo) : (d.decided t).floor lo = (d.fastTakeUp t).floor lo :=
  Dev.floor_each (fun _ _ => Dev.floor_decisionStr h) _

theorem Dev.fastTakeUp_pwr : (d.fastTakeUp t).pwr = d.pwr := by
  unfold Dev.fastTakeUp; split
  · exact Dev.each_same Dev.pwr (fun _ _ => Dev.takeFast_pwr) _ _
  · rfl

theorem Dev.fastTakeUp_sieve : (d.fastTakeUp t).sieve = d.sieve := by
  unfold Dev.fastTakeUp; split
  · exact Dev.each_same Dev.sieve (fun _ _ => Dev.takeFast_sieve) _ _
  · rfl

theorem Dev.mem_liveStrs : k ∈ d.liveStrs ↔ k < 8 ∧ d.present k = true ∧ d.islandOk (islCh k) = true := by
  have : k ∈ strings8 ↔ k < 8 := by simp [strings8]; omega
  simp only [Dev.liveStrs, Dev.strs, List.mem_filter, this, and_assoc]

/-- Settles O22: decisions, trips and captures of the strings leave the samples taken up alone. -/
theorem decisionTakesFastSamples : Obligations.DecisionTakesFastSamples := by
  intro s hs ht
  obtain ⟨hstr, hbits, hvalid⟩ := Dev.fastFormed_spec (d := s.dev.decided s.env.tick) (t := s.env.tick)
  have floor := Dev.floor_decided (d := s.dev) (t := s.env.tick) (Nat.le_refl 0x1000)
  have hpwr := (Dev.pwr_of_floor floor).trans Dev.fastTakeUp_pwr
  have hsieve := (Dev.sieve_of_floor floor).trans Dev.fastTakeUp_sieve
  refine ⟨{ s with dev := s.dev.decision s.env.tick }, ?_, ⟨rfl, rfl, rfl⟩, fun h2 k hk hp hi => ?_, fun n _ => ?_,
    fun hi h32 => hvalid ?_ h32⟩
  · show execDecisionInstant s = _
    simp [execDecisionInstant, onDev, hs, ht]
  · have hfast : ((s.dev.decision s.env.tick).st k).fast = s.dev.takenFast k s.env.tick := by
      rw [Dev.decision_eq, Dev.st, hstr]
      refine (Dev.fast_of_floor floor).trans ?_
      rw [Dev.fastTakeUp, if_pos h2]
      exact Dev.fast_each_takeFast (fun i h => (Dev.mem_liveStrs.1 h).1) (Dev.mem_liveStrs.2 ⟨hk, hp, hi⟩)
    refine ⟨fun hmade => ?_, fun hmade => ?_⟩
    all_goals
      simpa [Dev.takenFast, hmade, Str.fast] using hfast
  · rw [← hsieve]; exact hbits n
  · simpa only [Dev.islandOk, Dev.domRun, hpwr] using hi

end Sys2Proof.Machine
end

section
/-! What an outer-loop boundary does to a string leaves the floor alone (R180 to R193, R297, R300, R311, R323). -/
namespace Sys2Proof.Machine
variable {d : Dev} {k p t b lo : Nat}

/-! ### Membership and records (R235 to R239, R307) -/

section
variable (h : 0x1000 ≤ lo)
include h

@[simp] theorem Dev.floor_safeHeadroom : (d.safeHeadroom k b).floor lo = d.floor lo := by
  unfold Dev.safeHeadroom
  dsimp only
  split
  · rw [Dev.floor_trip h, Dev.floor_evt (high_reg (of_decide_eq_true rfl))]
  · rfl

@[simp] theorem Dev.floor_membership : (d.membership k b).floor lo = d.floor lo := by
  have joins (l : List Nat) (d : Dev) : (d.each l (fun d _ => d.joinOne k)).floor lo = d.floor lo :=
    Dev.floor_each (fun _ _ => Dev.floor_joinOne) l
  have freqs (d : Dev) : (d.each positions (fun d p => d.freqAvg k b p)).floor lo = d.floor lo :=
    Dev.floor_each (fun _ _ => Dev.floor_freqAvg) _
  have stay (d : Dev) (c : Bool) : (if c then d.safeHeadroom k b else d).floor lo = d.floor lo := by
    split
    · exact Dev.floor_safeHeadroom h
    · rfl
  have join (d : Dev) (c : Bool) (l : List Nat) : (if c then d.each l (fun d _ => d.joinOne k) else d).floor lo = d.floor lo := by
    split
    · exact joins l d
    · rfl
  have lose (d : Dev) (c fell : Bool) : (if c then
      (match d.headroom k fell with | (d, lost) => if lost then d.trip k causeHeadroom b else d) else d).floor lo = d.floor lo := by
    split
    · dsimp only
      split <;> simp [h]
    · rfl
  have turn (d : Dev) : (if d.inRun k then
      (match (d.st k).wh.rot, (sorted7 (d.aq k)).find? (fun p => d.slow k p && !(d.failed k p)), d.parkedFit k with
        | none, some p, some _ => d.demote k p
        | _, _, _ => d).rotate k else d).floor lo = d.floor lo := by
    split
    · rw [Dev.floor_rotate]
      split <;> simp
    · rfl
  unfold Dev.membership
  dsimp only
  rw [Dev.floor_modWh, freqs]
  refine (turn _).trans ((lose _ _ _).trans ?_)
  rw [Dev.floor_modWh]
  exact (join _ _ _).trans (stay _ _)

@[simp] theorem Dev.floor_cellRecords : (d.cellRecords k b).floor lo = d.floor lo := by
  have corrected (l : List (Nat × Nat)) (d : Dev) :
      (l.foldl (fun d e => if e.2 == 1 then d.bump (Fd.CHk_PR_ECC_CORR k) else d) d).floor lo = d.floor lo := by
    induction l generalizing d with
    | nil => rfl
    | cons x l ih =>
      refine (ih _).trans ?_
      dsimp only
      split
      · exact Dev.floor_bump (high_reg (of_decide_eq_true rfl))
      · rfl
  unfold Dev.cellRecords
  dsimp only
  split_ifs
  · rfl
  · rw [Dev.floor_trip h, corrected, Dev.floor_eccWriteRange]
  · rw [corrected, Dev.floor_eccWriteRange]

end

/-! ### The loops (R180, R191, R195 to R199) -/

@[simp] theorem Dev.floor_endPeriod : (d.endPeriod k).floor lo = d.floor lo := by
  have bump (d : Dev) (c : Bool) (f : Fld) (hf : 0x8000 ≤ f.addr) : (if c then d.bump f else d).floor lo = d.floor lo := by
    split
    · exact Dev.floor_bump hf
    · rfl
  unfold Dev.endPeriod
  dsimp only
  rw [Dev.floor_modCtl, Dev.floor_evtIf (high_reg (of_decide_eq_true rfl)), bump _ _ _ (high_reg (of_decide_eq_true rfl)),
    bump _ _ _ (high_reg (of_decide_eq_true rfl)), bump _ _ _ (high_reg (of_decide_eq_true rfl))]

@[simp] theorem Dev.floor_swapBank : (d.swapBank k b).1.floor lo = d.floor lo := by
  unfold Dev.swapBank
  dsimp only
  split
  · rfl
  · simp (disch := with_unfolding_all exact id (high_reg (of_decide_eq_true rfl))) only [Dev.floor_bump, Dev.floor_put]

@[simp] theorem Dev.floor_swapSat : (d.swapSat k).floor lo = d.floor lo := by
  unfold Dev.swapSat
  simp (disch := with_unfolding_all exact id (high_reg (of_decide_eq_true rfl))) only [Dev.floor_bump, Dev.floor_evt]

@[simp] theorem Dev.floor_putOuter {q : Bank} {o : Outer} {c : Bool} : (d.putOuter k b q o c).floor lo = d.floor lo := by
  unfold Dev.putOuter
  simp (disch := with_unfolding_all exact id (high_reg (of_decide_eq_true rfl))) only [Dev.floor_putB, Dev.floor_modCtl]

@[simp] theorem Dev.floor_runLoops {swap : Bool} {x m : Int} : (d.runLoops k b swap x m).1.floor lo = d.floor lo := by
  have enter (d : Dev) (c : Bool) : (if c then d.enterFallback k b else d).floor lo = d.floor lo := by split <;> simp
  have trig (d : Dev) (c : Bool) (n : Nat) : (if c then d.capTrigger k b n else d).floor lo = d.floor lo := by split <;> simp
  have sat (d : Dev) (c : Bool) : (if c then d.swapSat k else d).floor lo = d.floor lo := by split <;> simp
  unfold Dev.runLoops
  dsimp only
  generalize hd : (if d.closed k && (d.st k).fb.lostNow && (d.st k).pr.entry == b then d.enterFallback k b else d) = e
  have he : e.floor lo = d.floor lo := by rw [← hd]; exact enter _ _
  rw [← he]
  split
  · split
    · simp only [Dev.floor_formMi, Dev.floor_modCtl, trig, Dev.floor_modMor, Dev.floor_putOuter, sat, Dev.floor_injForm]
    · simp only [trig, Dev.floor_modMor, Dev.floor_modCtl, Dev.floor_putOuter, sat, Dev.floor_injForm]
  · split
    · simp only [trig, Dev.floor_modMor, Dev.floor_modCtl, Dev.floor_putOuter]
    · simp only [Dev.floor_modCtl, Dev.floor_formMi]

/-! ### Detectors, demands and measurements (R297, R300, R311, R323, R331, R334, R335) -/

@[simp] theorem Dev.floor_lineDetect {v : Int} : (d.lineDetect k b v).floor lo = d.floor lo := Dev.floor_modPr
@[simp] theorem Dev.floor_probeSum : (d.probeSum k b).floor lo = d.floor lo := Dev.floor_modPr

@[simp] theorem Dev.floor_auxDetect : (d.auxDetect k b).floor lo = d.floor lo := by
  unfold Dev.auxDetect
  simp (disch := with_unfolding_all exact id (high_reg (of_decide_eq_true rfl))) only [Dev.floor_modPr, Dev.floor_evtIf]

theorem Dev.floor_demand {f g : Fld} {c : Bool} (hf : 0x8000 ≤ f.addr) (hg : 0x8000 ≤ g.addr) :
    (d.demand f g c).floor lo = d.floor lo := by
  unfold Dev.demand
  rw [Dev.floor_putB hf, Dev.floor_evtIf hg]

@[simp] theorem Dev.floor_floorShow : (d.floorShow k).floor lo = d.floor lo :=
  Dev.floor_demand (high_reg (of_decide_eq_true rfl)) (high_reg (of_decide_eq_true rfl))

@[simp] theorem Dev.floor_powerAvg : (d.powerAvg k).floor lo = d.floor lo := by
  unfold Dev.powerAvg
  dsimp only
  rw [Dev.floor_floorShow, Dev.floor_demand (high_reg (of_decide_eq_true rfl)) (high_reg (of_decide_eq_true rfl)),
    Dev.floor_put (high_reg (of_decide_eq_true rfl)), Dev.floor_modLoad]

@[simp] theorem Dev.floor_testBoundary : (d.testBoundary k b).floor lo = d.floor lo := by
  have cut (d : Dev) (c : Bool) (f : TestSt → TestSt) : (if c then
      (d.modTest k f).putB (Fd.CHk_DT_STATUS_ABORT k) true else d).floor lo = d.floor lo := by
    split
    · rw [Dev.floor_putB (high_reg (of_decide_eq_true rfl)), Dev.floor_modTest]
    · rfl
  unfold Dev.testBoundary
  refine (cut _ _ _).trans ?_
  split <;> simp

@[simp] theorem Dev.floor_diagAccumulate {ok run : Bool} : (d.diagAccumulate k b ok run).floor lo = d.floor lo := (rfl)
@[simp] theorem Dev.floor_pilotAdvance : (d.pilotAdvance k).floor lo = d.floor lo := (rfl)

/-! ### A string at a boundary -/

theorem Dev.floor_boundaryStr {im : Int} (h : 0x1000 ≤ lo) : (d.boundaryStr k b im).floor lo = d.floor lo := by
  have detect (d : Dev) (c : Bool) : (if c then d.detect k b else d.modFb k (fun f => { f with neutral := false })).floor lo =
      d.floor lo := by split <;> simp
  have loops (d : Dev) (c swap : Bool) (x m : Int) (f : Ctl → Ctl) : (if c then d.runLoops k b swap x m
      else (d.modCtl k f, 0)).1.floor lo = d.floor lo := by split <;> simp
  have trig (d : Dev) (c : Bool) : (if c then d.capTrigger k b 2 else d).floor lo = d.floor lo := by split <;> simp
  have line (d : Dev) (c : Bool) (v : Int) : (if c then (d.lineDetect k b v).probeSum k b else d).floor lo = d.floor lo := by
    split <;> simp
  have test (d : Dev) (c : Bool) : (if c then d.testBoundary k b else d).floor lo = d.floor lo := by split <;> simp
  have diag (d : Dev) (c ok run : Bool) : (if c then d.diagAccumulate k b ok run else d).floor lo = d.floor lo := by
    split <;> simp
  unfold Dev.boundaryStr
  simp only [Dev.floor_noteV, Dev.floor_pilotAdvance, Dev.floor_morAdvance, Dev.floor_capBoundary, Dev.floor_capTrigger,
    Dev.floor_modCtl, diag, test, Dev.floor_powerAvg, Dev.floor_auxDetect, line, trig, loops, detect,
    Dev.floor_morCorrect h, Dev.floor_morWrap, Dev.floor_swapBank, Dev.floor_membership h, Dev.floor_cellRecords h,
    Dev.floor_endPeriod]

end Sys2Proof.Machine
end

section
/-! What the Lid and the Stockpot do at a boundary leaves the floor alone (R346 to R368). -/
namespace Sys2Proof.Machine
variable {d : Dev} {k p t b e lo : Nat}

theorem Dev.floor_cinSettle : (d.cinSettle b).floor lo = d.floor lo := by
  refine Dev.floor_each (fun d i => ?_) _
  dsimp only
  split
  · split <;> simp
  · rfl

/-! ### The mailbox (R367, R368) -/

theorem Dev.floor_mbEffect {code arg : Nat} : (d.mbEffect p code arg).floor lo = d.floor lo := by
  unfold Dev.mbEffect
  split_ifs <;> simp (disch := decide) only [Dev.floor_putE, Dev.floor_put, Dev.floor_modLid]

theorem Dev.floor_mailbox {code arg tag : Nat} : (d.mailbox p code arg tag).floor lo = d.floor lo := by
  have effect (d : Dev) (c : Bool) : (if c then d.mbEffect p code arg else d).floor lo = d.floor lo := by
    split
    · exact Dev.floor_mbEffect
    · rfl
  unfold Dev.mailbox
  rw [Dev.floor_evt (by decide)]
  simp (disch := with_unfolding_all exact id (high_reg (of_decide_eq_true rfl))) only
    [Dev.floor_put, Dev.floor_putB, Dev.floor_modLid, effect]

theorem Dev.floor_mailboxDue : (d.mailboxDue b).floor lo = d.floor lo := by
  refine Dev.floor_each (fun d p => ?_) _
  split
  · split
    · exact Dev.floor_mailbox
    · rfl
  · rfl

/-! ### Entries and zones (R351 to R354) -/

theorem Dev.floor_entryStep : (d.entryStep e).floor lo = d.floor lo := by
  unfold Dev.entryStep
  simp (disch := decide) only [Dev.floor_evtIf, Dev.floor_putE, Dev.floor_modLid]

theorem Dev.floor_lidEntries : (d.lidEntries b).1.floor lo = d.floor lo := by
  unfold Dev.lidEntries
  rw [Dev.floor_modLid, Dev.floor_each fun _ _ => Dev.floor_entryStep, Dev.floor_mailboxDue, Dev.floor_cinSettle]

theorem Dev.floor_zoneWinner : (d.zoneWinner k).1.floor lo = d.floor lo := by
  have clear (d : Dev) (c : Bool) : (if c then (d.putE Fd.LID_STOP_STOP k false).bump Fd.LID_STOP_CLEARED else d).floor lo =
      d.floor lo := by
    split
    · rw [Dev.floor_bump (by decide), Dev.floor_putE (by decide)]
    · rfl
  have win (d : Dev) (n : Nat) : (d.put (Fd.LID_WIN_WIN k) n).floor lo = d.floor lo := by
    refine Dev.floor_put ?_
    simp [Fd.LID_WIN_WIN, Reg.LID_WIN]
  unfold Dev.zoneWinner
  dsimp only
  split <;> simp (disch := decide) only [win, Dev.floor_putE, clear]

theorem Dev.floor_lidOutputs : (d.lidOutputs b).floor lo = d.floor lo := by
  have zones (l : List Nat) (x : Dev × Vector (Option (Nat × Nat)) 8) :
      (l.foldl (fun (x : Dev × Vector (Option (Nat × Nat)) 8) k =>
        if x.1.present k then
          let (d, o) := x.1.zoneWinner k
          (d.put (Fd.LID_SUPk_VERD_DC k) (d.copyOf k).dc, vset x.2 k o)
        else x) x).1.floor lo = x.1.floor lo := by
    induction l generalizing x with
    | nil => rfl
    | cons k l ih =>
      refine (ih _).trans ?_
      dsimp only
      split
      · rw [Dev.floor_put (high_reg (of_decide_eq_true rfl)), Dev.floor_zoneWinner]
      · rfl
  unfold Dev.lidOutputs
  dsimp only
  rw [Dev.floor_modLid]
  exact zones _ _

/-! ### The message owner (R352, R359, R361) -/

theorem Dev.floor_potSet {st : Nat} : (d.potSet st).floor lo = d.floor lo := Dev.floor_put (by decide)

theorem Dev.floor_potRead : d.potRead.floor lo = d.floor lo := by
  unfold Dev.potRead; split <;> simp

theorem Dev.floor_startFill {i : Nat} : (d.startFill i b).floor lo = d.floor lo := by
  unfold Dev.startFill Dev.showBuf
  simp (disch := decide) only [Dev.floor_potRead, Dev.floor_put, Dev.floor_potSet, Dev.floor_modPot]

/-- R352: the owner is noted; a new one starts its repetitions afresh. -/
def Dev.noteOwner (d : Dev) (o : Option Nat) : Dev :=
  let same := d.lid.owner == o
  let d := (d.modLid (fun l => { l with owner := o })).put Fd.STOCKPOT_STATUS_OWNER (o.getD 0)
  if same then d else d.modPot (fun p => { p with reps := 0 })

/-- R359, R361: the Stockpot turns to the message that is wanted. -/
def Dev.followOwner (d : Dev) (b : Nat) (want : Option Nat) : Dev :=
  if d.potState == potNoStore || want == d.potTarget then d
  else if d.potState == potFade then d.modPot (fun p => { p with after := want.map (fun i => (i, b)) })
  else match d.potState == potIdle, d.potState == potFill, want with
    | true, _, some i => d.startFill i b
    | true, _, none => d
    | _, true, some i => d.startFill i b
    | _, _, w => (d.modPot (fun p => { p with fadePos := 0, fading := d.potState == potPlay, after := w.map (fun i => (i, b)) })).potSet potFade

theorem Dev.setOwner_eq {o : Option Nat} : d.setOwner b o =
    (d.noteOwner o).followOwner b (o.bind fun e => (d.noteOwner o).dirIndex ((d.noteOwner o).messageOf e)) := (rfl)

theorem Dev.floor_noteOwner {o : Option Nat} : (d.noteOwner o).floor lo = d.floor lo := by
  unfold Dev.noteOwner
  dsimp only
  split
  · rw [Dev.floor_put (by decide), Dev.floor_modLid]
  · rw [Dev.floor_modPot, Dev.floor_put (by decide), Dev.floor_modLid]

theorem Dev.floor_followOwner {want : Option Nat} : (d.followOwner b want).floor lo = d.floor lo := by
  unfold Dev.followOwner
  split_ifs
  · rfl
  · exact Dev.floor_modPot
  · split
    · exact Dev.floor_startFill
    · rfl
    · exact Dev.floor_startFill
    · rw [Dev.floor_potSet, Dev.floor_modPot]

theorem Dev.floor_setOwner {o : Option Nat} : (d.setOwner b o).floor lo = d.floor lo := by
  rw [Dev.setOwner_eq, Dev.floor_followOwner, Dev.floor_noteOwner]

theorem Dev.floor_lidBoundary : (d.lidBoundary b).floor lo = d.floor lo := by
  unfold Dev.lidBoundary
  dsimp only
  rw [Dev.floor_lidOutputs, Dev.floor_setOwner, Dev.floor_lidEntries]

end Sys2Proof.Machine
end

section
/-! Outer-loop boundaries (R44, R53, R172): the steer value, the held writes, the precise path. -/
namespace Sys2Proof.Machine
variable {d : Dev} {a b k n lo : Nat}

/-! ### The strings and the Lid at a boundary -/

theorem Dev.floor_takePrecise : (d.takePrecise k).floor lo = d.floor lo := by
  unfold Dev.takePrecise
  dsimp only
  split <;> exact Dev.floor_modStr fun _ => rfl

theorem Dev.floor_stringBoundary (h : 0x1000 ≤ lo) : (d.stringBoundary b k).floor lo = d.floor lo := by
  unfold Dev.stringBoundary
  dsimp only
  rw [Dev.floor_boundaryStr h, Dev.floor_takePrecise]

/-- R53, R44, R167: what a boundary does before the strings and the Lid. -/
def Dev.boundaryBase (d : Dev) (b : Nat) : Dev := ((d.settle b).steer).sieveBoundary b

theorem Dev.floor_outerLoop (h : 0x1000 ≤ lo) : (d.outerLoop b).floor lo = (d.boundaryBase b).floor lo := by
  have strings (l : List Nat) (d : Dev) : (d.each l (fun d k => d.stringBoundary b k)).floor lo = d.floor lo :=
    Dev.floor_each (fun _ _ => Dev.floor_stringBoundary h) l
  have lid (d : Dev) (c : Bool) : (if c then d.lidBoundary b else d).floor lo = d.floor lo := by
    split
    · exact Dev.floor_lidBoundary
    · rfl
  show (Dev.each _ _ _).floor lo = _
  rw [Dev.floor_each fun _ _ => Dev.floor_modLid, lid, strings, Dev.boundaryBase]

/-! ### The Sieve at a boundary (R167, R172 to R174) -/

theorem Dev.held_countSat {f : Fld} {x y : Int} : (d.countSat f x y).held = d.held := by
  unfold Dev.countSat; split <;> simp

theorem Dev.reg_countSat {f : Fld} {x y : Int} (h : a ≠ f.addr) (h' : a ≠ Reg.SIEVE_EVT) :
    (d.countSat f x y).reg a = d.reg a := by
  unfold Dev.countSat; split
  · rfl
  · rw [Dev.reg_evt_other h', Dev.reg_bump_other h]

/-- R167, R173, R174: an input of the Sieve at a boundary: its sample, its figures and its flags. -/
def Dev.inputBoundary (d : Dev) (h : List Int) (b n : Nat) : Dev := ((d.stage2 h n).activity n).thresholds n b

theorem Dev.held_inputBoundary {h : List Int} : (d.inputBoundary h b n).held = d.held := by
  have flags (d : Dev) (c : Bool) (f : Fld) : (d.evtIf c f).held = d.held := by unfold Dev.evtIf; split <;> simp
  unfold Dev.inputBoundary Dev.thresholds Dev.activity Dev.stage2
  simp only [flags, Dev.put_held, Dev.modSieve_held, Dev.held_countSat]

/-- The Sieve's own registers lie above SIEVE_VALID. -/
theorem Dev.reg_inputBoundary {h : List Int} (ha : a ≤ Reg.SIEVE_VALID) : (d.inputBoundary h b n).reg a = d.reg a := by
  have ha' : a ≤ 0x7004 := ha
  have sieve (d : Dev) (i : Nat) (f : SieveIn → SieveIn) : (d.modSieve i f).reg a = d.reg a := rfl
  unfold Dev.inputBoundary Dev.thresholds Dev.activity Dev.stage2
  dsimp only
  rw [Dev.reg_evtIf_other (show a ≠ 0x7028 by omega), Dev.reg_put_other (show a ≠ 0x7010 by omega),
    Dev.reg_put_other (show a ≠ 0x700C by omega), sieve, Dev.reg_put_other (show a ≠ 0x7180 + 4 * n by omega),
    Dev.reg_put_other (show a ≠ 0x7180 + 4 * n by omega), sieve,
    Dev.reg_countSat (show a ≠ 0x7014 by omega) (show a ≠ 0x7028 by omega), sieve]

theorem Dev.sieveBoundary_spec : (d.sieveBoundary b).held = d.held ∧
    (∀ a, a < Reg.SIEVE_VALID → (d.sieveBoundary b).reg a = d.reg a) ∧
    (d.islandOk islSieve = true → 448 ≤ b → (d.sieveBoundary b).bit Fd.SIEVE_VALID_PRECISE = true) := by
  have held (d : Dev) (h : List Int) : (d.each inputs20 (fun d n => d.inputBoundary h b n)).held = d.held :=
    Dev.each_same Dev.held (fun _ _ => Dev.held_inputBoundary) _ _
  have reg (d : Dev) (h : List Int) (a : Nat) (ha : a ≤ Reg.SIEVE_VALID) :
      (d.each inputs20 (fun d n => d.inputBoundary h b n)).reg a = d.reg a :=
    Dev.each_same (Dev.reg · a) (fun _ _ => Dev.reg_inputBoundary ha) _ _
  unfold Dev.sieveBoundary
  split
  next hi =>
    refine ⟨(held _ _).trans ?_, fun a ha => (reg _ _ a (Nat.le_of_lt ha)).trans ?_, fun _ hb => ?_⟩
    · split <;> simp
    · split
      · exact Dev.reg_putB_other (Nat.ne_of_lt ha)
      · rfl
    · rw [if_pos hb]
      exact (Dev.bit_congr (f := Fd.SIEVE_VALID_PRECISE) (reg _ _ _ (Nat.le_refl _))).trans (Dev.bit_putB_same (by decide) rfl)
  next hi => exact ⟨rfl, fun _ _ => rfl, fun h => absurd h hi⟩

/-! ### The steer value (R44) -/

/-- A number of 24 bits reads back from its two's complement field. -/
theorem sx_ux24 {x : Int} (hl : -(2 ^ 23) ≤ x) (hr : x < 2 ^ 23) : sx 24 (ux 24 x) = x := by
  simp only [sx, ux]
  norm_num
  split <;> omega

/-- A clamped move from within the limits is one of at most a step. -/
theorem clampI_step {now step lim ask : Int} (hs : 0 ≤ step) (hl : -lim ≤ now) (hr : now ≤ lim) :
    now - step ≤ clampI (-lim) lim (clampI (now - step) (now + step) ask) ∧
    clampI (-lim) lim (clampI (now - step) (now + step) ask) ≤ now + step := by
  unfold clampI
  split_ifs <;> omega

/-- R44: the steer value that a boundary applies. -/
def Dev.steered (d : Dev) : Int :=
  clampI (-(d.fld Fd.CLK_STEER_LIM_LIM : Int)) (d.fld Fd.CLK_STEER_LIM_LIM)
    (clampI (d.sfld Fd.CLK_STEER_STEER - d.fld Fd.CLK_SLEW_STEP) (d.sfld Fd.CLK_STEER_STEER + d.fld Fd.CLK_SLEW_STEP)
      d.align.req)

theorem Dev.steered_bounds : -(d.fld Fd.CLK_STEER_LIM_LIM : Int) ≤ d.steered ∧ d.steered ≤ d.fld Fd.CLK_STEER_LIM_LIM :=
  clampI_bounds (by omega)

theorem Dev.steer_spec : d.steer.sfld Fd.CLK_STEER_STEER = d.steered ∧ d.steer.held = d.held ∧
    (d.steered ≠ d.align.req → d.steer.bit Fd.CLK_EVT_STEER_LIMIT = true) := by
  have eq : d.steer = (d.putI Fd.CLK_STEER_STEER d.steered).evtIf (d.steered != d.align.req) Fd.CLK_EVT_STEER_LIMIT := rfl
  obtain ⟨hl, hr⟩ := d.steered_bounds
  have hlim : d.fld Fd.CLK_STEER_LIM_LIM < 2 ^ 23 := Dev.fld_lt
  rw [eq]
  refine ⟨?_, ?_, fun h => ?_⟩
  · have field : ((d.putI Fd.CLK_STEER_STEER d.steered).evtIf (d.steered != d.align.req) Fd.CLK_EVT_STEER_LIMIT).fld
        Fd.CLK_STEER_STEER = ux 24 d.steered % 2 ^ 24 :=
      (Dev.fld_congr (Dev.reg_evtIf_other (by decide))).trans (Dev.fld_put_same (by decide))
    have fits : ux 24 d.steered % 2 ^ 24 = ux 24 d.steered := by
      simp only [ux]; omega
    rw [Dev.sfld, field, fits]
    exact sx_ux24 (by omega) (by omega)
  · unfold Dev.evtIf; split <;> simp [Dev.putI]
  · rw [Dev.evtIf, if_pos (by simpa using h)]
    exact Dev.bit_evt_same (by decide) rfl

/-! ### The boundary -/

/-- Settles O24: strings and Lid leave CLK, the held writes and the Sieve's registers alone. -/
theorem boundarySteersWithinLimits : Obligations.BoundarySteersWithinLimits := by
  intro s hs ht hr
  have floor := Dev.floor_outerLoop (d := s.dev) (b := s.env.tick) (Nat.le_refl 0x1000)
  obtain ⟨hheld, hreg, hvalid⟩ := Dev.sieveBoundary_spec (d := (s.dev.settle s.env.tick).steer) (b := s.env.tick)
  obtain ⟨hnew, hsheld, hlimit⟩ := Dev.steer_spec (d := s.dev.settle s.env.tick)
  have reg (a : Nat) (hl : 0x1000 ≤ a) (ha : a < 0x7004) :
      (s.dev.outerLoop s.env.tick).reg a = (s.dev.settle s.env.tick).steer.reg a :=
    (Dev.reg_of_floor floor hl (by omega)).trans (hreg a ha)
  have new : (s.dev.outerLoop s.env.tick).sfld Fd.CLK_STEER_STEER = s.dev.steered := by
    rw [Dev.sfld, Dev.fld_congr (reg _ (by decide) (by decide))]
    exact hnew
  have hlow := s.dev.steered_bounds
  refine ⟨{ s with dev := s.dev.outerLoop s.env.tick }, ?_, ⟨rfl, rfl, rfl⟩, ?_, fun h hh => ?_, fun hi hb => ?_⟩
  · show execOuterLoopBoundary s = _
    simp [execOuterLoopBoundary, onDev, hs, ht, hr]
  · dsimp only
    rw [new]
    refine ⟨rfl, hlow.1, hlow.2, fun hl hu => clampI_step (by omega) hl hu, fun h => ?_⟩
    rw [Dev.bit_congr (reg _ (by decide) (by decide))]
    exact hlimit h
  · have held : (s.dev.outerLoop s.env.tick).held = (s.dev.settle s.env.tick).held :=
      (Dev.held_of_floor floor).trans (hheld.trans hsheld)
    simp only [held, Dev.settle, List.mem_filter, decide_eq_true_eq] at hh
    exact hh
  · rw [Dev.bit_congr (Dev.reg_of_floor floor (by decide) (by decide))]
    refine hvalid ?_ hb
    have hp : (s.dev.settle s.env.tick).steer.pwr = s.dev.pwr := by
      unfold Dev.steer Dev.evtIf
      dsimp only
      split <;> simp [Dev.putI, Dev.settle]
    simpa only [Dev.islandOk, Dev.domRun, hp] using hi

end Sys2Proof.Machine
end

section
/-! Transfers between islands (R50, R52): what is late is counted, what is taken up in time counts nothing. -/
namespace Sys2Proof.Machine
variable {d : Dev} {a i k n t lo : Nat} {row : TransferRow}

/-! ### Late transfers (R52) -/

theorem Dev.late_spec (hi : i < 16) : (d.late i n).fld Fd.CLK_LATE_CNT_COUNT = min (2 ^ 24 - 1) (d.fld Fd.CLK_LATE_CNT_COUNT + n) ∧
    (d.late i n).fld Fd.CLK_LATE_CNT_LAST_SRC = i ∧ (d.late i n).bit Fd.CLK_EVT_LATE = true := by
  unfold Dev.late
  refine ⟨?_, ?_, Dev.bit_evt_same (by decide) rfl⟩
  · rw [Dev.fld_evt_other (by decide) (by decide), Dev.fld_put_other (by decide) (by decide), Dev.fld_add_same (by decide)]
    rfl
  · rw [Dev.fld_evt_other (by decide) (by decide), Dev.fld_put_same (by decide)]
    exact Nat.mod_eq_of_lt (Nat.lt_of_lt_of_le hi (by decide))

/-- R52, R317: the faults and the check bits that follow a take-up, in time or late. -/
def Dev.afterTakeUp (d : Dev) (k t : Nat) (row : TransferRow) : Dev :=
  if row = .equalised then d.audioFault k t
  else if row = .zoneFeed then d.delayWritten
  else if row = .delayed then d.historyWritten
  else d

theorem Dev.floor_afterTakeUp (h : 0x1000 ≤ lo) : (d.afterTakeUp k t row).floor lo = d.floor lo := by
  unfold Dev.afterTakeUp Dev.audioFault Dev.delayWritten Dev.historyWritten
  split_ifs
  · exact Dev.floor_count h
  · rfl
  · exact Dev.floor_each (fun _ _ => Dev.floor_eccWrite) _
  · exact Dev.floor_each (fun _ _ => Dev.floor_eccWrite) _
  · rfl

/-! ### What a row changes when it is taken up in time -/

theorem Dev.floor_supervise {m : Meas} : (d.supervise k m).floor lo = d.floor lo := by
  have sup (i : Nat) : 0x8000 ≤ (supField k i).addr := by
    unfold supField
    split_ifs <;> exact high_reg (of_decide_eq_true rfl)
  have judge (d : Dev) (i : Nat) (c : Bool) : (d.supJudge k i c).floor lo = d.floor lo := by
    unfold Dev.supJudge
    dsimp only
    split_ifs <;> simp [Dev.floor_putB (sup i)]
  have all (d : Dev) (c : List Bool) : (d.each [0, 1, 2, 3, 4] (fun d i => d.supJudge k i (c.getD i false))).floor lo =
      d.floor lo := Dev.floor_each (fun d i => judge d i _) _
  unfold Dev.supervise
  split_ifs
  · dsimp only
    rw [Dev.floor_bump (high_reg (of_decide_eq_true rfl)), Dev.floor_putB (high_reg (of_decide_eq_true rfl)),
      Dev.floor_modLid, all]
  · exact Dev.floor_bump (high_reg (of_decide_eq_true rfl))
  · rfl

theorem Dev.floor_takeMeas : (d.takeMeas k t).floor lo = d.floor lo := by
  unfold Dev.takeMeas
  split
  · split
    · exact Dev.floor_supervise
    · rfl
  · rfl

theorem Dev.floor_takeRequest {o : LidOut} (h : 0x1000 ≤ lo) : (d.takeRequest k t o).floor lo = d.floor lo := by
  unfold Dev.takeRequest
  dsimp only
  split_ifs <;> simp [h]

theorem Dev.floor_supModes : (d.supModes k).floor lo = d.floor lo := by
  unfold Dev.supModes
  simp (disch := with_unfolding_all exact id (high_reg (of_decide_eq_true rfl))) only [Dev.floor_putB]

/-- R149: an override changes ROUTE's registers. -/
theorem Dev.reg_takeOverride {o : Option (Nat × Nat)} (ha : a < 0x5000) : (d.takeOverride k o).reg a = d.reg a := by
  have zone (d : Dev) (f : ZoneSt → ZoneSt) : (d.modZone k f).reg a = d.reg a := rfl
  unfold Dev.takeOverride
  dsimp only
  have ovr : a ≠ Reg.ROUTE_OVRk k := by simp only [Reg.ROUTE_OVRk]; omega
  have evt : a ≠ Reg.ROUTE_EVT := by simp only [Reg.ROUTE_EVT]; omega
  have shown (d : Dev) (b : Bool) (src gain : Nat) : (((d.putB (Fd.ROUTE_OVRk_ACTIVE k) b).put (Fd.ROUTE_OVRk_SRC k) src).put
      (Fd.ROUTE_OVRk_GAIN k) gain).reg a = d.reg a := by
    rw [Dev.reg_put_other ovr, Dev.reg_put_other ovr, Dev.reg_putB_other ovr]
  have fading (d : Dev) : ((d.putB (Fd.ROUTE_OVRk_FADING k) true).evt Fd.ROUTE_EVT_OVERRIDE).reg a = d.reg a := by
    rw [Dev.reg_evt_other evt, Dev.reg_putB_other ovr]
  split
  · split
    · rw [shown, zone]
    · rw [fading, shown, zone]
  · split
    · rw [fading, Dev.reg_putB_other ovr, zone]
    · rfl

theorem Dev.reg_takeOverrides {o : LidOut} (ha : a < 0x5000) : (d.takeOverrides o).reg a = d.reg a := by
  refine Dev.each_same (Dev.reg · a) (fun d k => ?_) _ _
  dsimp only
  split
  · rw [Dev.reg_of_floor Dev.floor_injStop (Nat.zero_le a) (by omega), Dev.reg_takeOverride ha]
  · exact Dev.reg_takeOverride ha

/-- A part that every output of a list leaves alone. -/
theorem foldl_same {β γ : Type} (g : Dev → γ) {f : Dev → β → Dev} (h : ∀ d x, g (f d x) = g d) (l : List β) (d : Dev) :
    g (l.foldl f d) = g d := by
  induction l generalizing d with
  | nil => rfl
  | cons x l ih => exact (ih (f d x)).trans (h d x)

/-- R52: no row taken up in time changes the registers of CLK. -/
theorem Dev.reg_takeRow (hl : 0x1000 ≤ a) (ha : a < 0x5000) : (d.takeRow k t row).reg a = d.reg a := by
  have low : a < 0x8000 := by omega
  cases row with
  | supervision => exact Dev.reg_of_floor (Dev.floor_each (fun _ _ => Dev.floor_takeMeas) _) hl low
  | stringState => exact Dev.reg_of_floor (Dev.floor_supModes.trans Dev.floor_modLid) hl low
  | overrides => exact foldl_same (Dev.reg · a) (fun _ _ => Dev.reg_takeOverrides ha) _ _
  | stringRequest =>
    exact Dev.reg_of_floor (foldl_same (Dev.floor · 0x1000) (fun _ _ => Dev.floor_takeRequest (Nat.le_refl _)) _ _) hl low
  | fast | precise | pilotPhase | zoneFeed | delayed | equalised => rfl

/-- R328, R341: the Lid's verdict follows the class that the string state carries. -/
theorem Dev.takeStringState_spec (hk : k < 8) : let e := d.takeRow k t .stringState
    e = { d with regs := e.regs, lid := { d.lid with strs := vset d.lid.strs k (vat d.lid.strsNext k) } } ∧
    e.bit (Fd.LID_SUPk_VERD_NOBASE k) = !(d.bit (Fd.LID_SUPk_BA_VALID k)) ∧
    e.bit (Fd.LID_SUPk_VERD_LEARN k) = (!(d.bit (Fd.LID_SUPk_BA_VALID k)) && (vat d.lid.strsNext k).cls) ∧
    FieldsBut d e [Fd.LID_SUPk_VERD_NOBASE k, Fd.LID_SUPk_VERD_LEARN k] := by
  have nobase : (Fd.LID_SUPk_VERD_NOBASE k).fits := by simp [Fld.fits, Fd.LID_SUPk_VERD_NOBASE]
  have learn : (Fd.LID_SUPk_VERD_LEARN k).fits := by simp [Fld.fits, Fd.LID_SUPk_VERD_LEARN]
  have cls : ((d.modLid (fun l => { l with strs := vset l.strs k (vat l.strsNext k) })).copyOf k).cls =
      (vat d.lid.strsNext k).cls := by
    simp only [Dev.copyOf, Dev.modLid_lid, vat_vset_same hk]
  unfold Dev.takeRow Dev.supModes
  generalize hl : d.modLid (fun l => { l with strs := vset l.strs k (vat l.strsNext k) }) = m at cls ⊢
  have hreg : m.regs = d.regs := by rw [← hl]; rfl
  have hm : m = { d with lid := { d.lid with strs := vset d.lid.strs k (vat d.lid.strsNext k) } } := hl.symm
  dsimp only
  rw [cls, Dev.bit_congr (Dev.reg_congr hreg)]
  refine ⟨?_, ?_, Dev.bit_putB_same learn rfl, ?_⟩
  · have only (x y : Nat) : OnlyRegs m ((m.put (Fd.LID_SUPk_VERD_NOBASE k) x).put (Fd.LID_SUPk_VERD_LEARN k) y) :=
      OnlyRegs.put.trans OnlyRegs.put
    have h := only (b2n !(d.bit (Fd.LID_SUPk_BA_VALID k)))
      (b2n (!(d.bit (Fd.LID_SUPk_BA_VALID k)) && (vat d.lid.strsNext k).cls))
    unfold Dev.putB
    generalize Dev.put _ _ _ = e at h ⊢
    unfold OnlyRegs at h
    rw [hm] at h
    exact h
  · refine (Dev.bit_putB_other learn rfl ?_).trans (Dev.bit_putB_same nobase rfl)
    simp [Fld.apart, Fd.LID_SUPk_VERD_NOBASE, Fd.LID_SUPk_VERD_LEARN]
  · exact ((FieldsBut.of_regs hreg : FieldsBut d m []).andPut nobase).andPut learn

/-- R151, R155, R407: writes of words change their check bits, and the background's write-back that they overtake. -/
theorem Dev.each_eccWrite_eq {m w : Dev → Nat → Nat} (l : List Nat) (d : Dev) :
    ∃ x y, d.each l (fun d k => d.eccWrite (m d k) (w d k)) = { d with ecc := x, bg := y } := by
  have one (d : Dev) (a b : Nat) : ∃ x y, d.eccWrite a b = { d with ecc := x, bg := y } := by
    unfold Dev.eccWrite; dsimp only; split <;> exact ⟨_, _, rfl⟩
  induction l generalizing d with
  | nil => exact ⟨_, _, rfl⟩
  | cons i l ih =>
    obtain ⟨x, y, hx⟩ := one d (m d i) (w d i)
    obtain ⟨x', y', hx'⟩ := ih (d.eccWrite (m d i) (w d i))
    exact ⟨x', y', hx'.trans (by rw [hx])⟩

theorem Dev.afterTakeUp_ecc (h : row = .zoneFeed ∨ row = .delayed) :
    d.afterTakeUp k t row = { d with ecc := (d.afterTakeUp k t row).ecc, bg := (d.afterTakeUp k t row).bg } := by
  have written : ∃ x y, d.afterTakeUp k t row = { d with ecc := x, bg := y } := by
    rcases h with rfl | rfl
    · exact Dev.each_eccWrite_eq _ _
    · exact Dev.each_eccWrite_eq _ _
  obtain ⟨x, y, hx⟩ := written
  rw [hx]

/-! ### The take-up (R50) -/

theorem rowMade_source_lt {k : Nat} (hk : k < 8) : rowSource k row < 16 := by
  cases row <;> simp [rowSource, islSieve, islCh, islLid, islAudio, islMem, islFir] <;> omega

/-- R50, R52: nothing is made, or the target does not take it up. -/
theorem Dev.transfer_none (h : rowMade d.period t row = []) : d.transfer k t row = d := by
  simp [Dev.transfer, h]

section
variable (hm : rowMade d.period t row ≠ []) (hp : rowOfString row = false ∨ d.present k = true)
  (hi : d.islandOk (rowTarget k row) = true)
include hm hp hi

/-- R52: no transfer of the row comes in time. -/
theorem Dev.transfer_late (h : ∀ m ∈ rowMade d.period t row, d.produced (rowSource k row) m = false) :
    d.transfer k t row = (d.late (rowSource k row) (rowMade d.period t row).length).afterTakeUp k t row := by
  have miss : (rowMade d.period t row).filter (fun m => !(d.produced (rowSource k row) m)) = rowMade d.period t row :=
    List.filter_eq_self.2 fun m hm => by simp [h m hm]
  have here : (rowOfString row && !(d.present k)) = false := by rcases hp with hp | hp <;> simp [hp]
  simp [Dev.transfer, Dev.afterTakeUp, hm, here, hi, miss]

/-- R50: every transfer of the row comes in time. -/
theorem Dev.transfer_inTime (h : ∀ m ∈ rowMade d.period t row, d.produced (rowSource k row) m = true) :
    d.transfer k t row = (d.takeRow k t row).afterTakeUp k t row := by
  have miss : (rowMade d.period t row).filter (fun m => !(d.produced (rowSource k row) m)) = [] :=
    List.filter_eq_nil_iff.2 fun m hm => by simp [h m hm]
  have here : (rowOfString row && !(d.present k)) = false := by rcases hp with hp | hp <;> simp [hp]
  simp [Dev.transfer, Dev.afterTakeUp, hm, here, hi, miss, List.length_pos_iff]

end

/-- Settles O27: faults, trips and check bits that follow a take-up leave CLK's registers alone. -/
theorem transfersAreTakenUpOrLate : Obligations.TransfersAreTakenUpOrLate := by
  intro k row s hs hr
  have floor (d : Dev) := Dev.floor_afterTakeUp (d := d) (k := k.val) (t := s.env.tick) (row := row) (Nat.le_refl 0x1000)
  refine ⟨{ s with dev := s.dev.transfer k.val s.env.tick row }, ?_, ⟨rfl, rfl, rfl⟩, Dev.transfer_none,
    fun hm hp hi => ⟨fun h => ?_, fun h => ?_⟩⟩
  · show execTransferTakeup k row s = _
    simp [execTransferTakeup, onDev, hs, hr]
  · rw [Dev.transfer_late hm hp hi h, Dev.fld_congr (Dev.reg_of_floor (floor _) (by decide) (by decide)),
      Dev.fld_congr (Dev.reg_of_floor (floor _) (by decide) (by decide)),
      Dev.bit_congr (Dev.reg_of_floor (floor _) (by decide) (by decide))]
    exact Dev.late_spec (rowMade_source_lt k.isLt)
  · rw [Dev.transfer_inTime hm hp hi h]
    refine ⟨?_, fun hrow => ?_, fun hrow => ?_, fun hrow => ?_⟩
    · rw [Dev.fld_congr (Dev.reg_of_floor (floor _) (by decide) (by decide))]
      exact Dev.fld_congr (Dev.reg_takeRow (by decide) (by decide))
    · subst hrow
      obtain ⟨heq, hbase, hlearn, hfld⟩ := Dev.takeStringState_spec (d := s.dev) (t := s.env.tick) k.isLt
      exact ⟨heq, ⟨hbase, hlearn⟩, hfld⟩
    · rcases hrow with rfl | rfl | rfl <;> rfl
    · have same : s.dev.takeRow k.val s.env.tick row = s.dev := by rcases hrow with rfl | rfl <;> rfl
      rw [same]
      exact Dev.afterTakeUp_ecc hrow

end Sys2Proof.Machine
end

section
/-! What a Rack frame start does to a string and to the Lid, apart from the string's state and STR_EN, leaves the floor alone. -/
namespace Sys2Proof.Machine
variable {d : Dev} {k p f lo : Nat}

/-! ### Links and cells (R232, R242, R251, R264) -/

@[simp] theorem Dev.floor_failCell {src : FailSrc} : (d.failCell k p src).floor lo = d.floor lo := by
  have marked (d : Dev) (c : Bool) : (if c then d.markBypassed k p else d).floor lo = d.floor lo := by split <;> simp
  have restart (d : Dev) (c : Bool) (g : TestSt → TestSt) : (if c then d.modTest k g else d).floor lo = d.floor lo := by
    split <;> simp
  unfold Dev.failCell
  split
  · split <;> simp
  · simp (disch := with_unfolding_all exact id (high_reg (of_decide_eq_true rfl))) only
      [restart, Dev.floor_modCell, Dev.floor_modWh, marked, Dev.floor_evt, Dev.floor_put]

@[simp] theorem Dev.floor_rejectLink {n : Nat} : (d.rejectLink k p n).floor lo = d.floor lo := by
  unfold Dev.rejectLink Dev.enumDone
  simp (disch := with_unfolding_all exact id (high_reg (of_decide_eq_true rfl))) only [Dev.floor_evtIf, Dev.floor_put]

@[simp] theorem Dev.floor_enumLink : (d.enumLink k p).floor lo = d.floor lo := by
  unfold Dev.enumLink
  dsimp only
  split <;> simp (disch := with_unfolding_all exact id (high_reg (of_decide_eq_true rfl))) only
    [Dev.floor_put, Dev.floor_putB, Dev.floor_modCell]

theorem Dev.floor_endLinks : (d.endLinks k).floor lo = d.floor lo := by
  have failStart (d : Dev) (bad : Nat → Bool) : (d.failStart k bad).floor lo = d.floor lo := by
    refine Dev.floor_each (fun d p => ?_) _
    split <;> simp
  unfold Dev.endLinks
  dsimp only
  rw [failStart]
  refine Dev.floor_each (fun d p => ?_) _
  split_ifs <;> simp

theorem Dev.floor_slowFrame : (d.slowFrame k).floor lo = d.floor lo := by
  have clear (d : Dev) (c : Bool) (n : Nat) : (if c then d.put (Fd.CHk_WH_MARKS_SLOW k) n else d).floor lo = d.floor lo := by
    split
    · exact Dev.floor_put (high_reg (of_decide_eq_true rfl))
    · rfl
  refine Dev.floor_each (fun d p => ?_) _
  dsimp only
  rw [Dev.floor_modCell, clear]

theorem Dev.floor_rotFrame : (d.rotFrame k).floor lo = d.floor lo := by
  unfold Dev.rotFrame
  dsimp only
  split <;> simp

/-! ### The start test and the load (R324, R326, R329) -/

theorem Dev.floor_testStart : (d.testStart k f p).floor lo = d.floor lo := by
  unfold Dev.testStart
  rw [Dev.floor_put (high_reg (of_decide_eq_true rfl)), Dev.floor_modTest]

theorem Dev.floor_testStep {v : Nat} : (d.put (Fd.CHk_DT_STATUS_STEP k) v).floor lo = d.floor lo :=
  Dev.floor_put (high_reg (of_decide_eq_true rfl))

theorem Dev.floor_demandCounts : (d.demandCounts k).floor lo = d.floor lo := by
  have count (d : Dev) (c : Bool) (f : Fld) (hf : 0x8000 ≤ f.addr) : (if c then d.bump f else d).floor lo = d.floor lo := by
    split
    · exact Dev.floor_bump hf
    · rfl
  unfold Dev.demandCounts
  dsimp only
  rw [Dev.floor_modLoad, count _ _ _ (high_reg (of_decide_eq_true rfl)), count _ _ _ (high_reg (of_decide_eq_true rfl)),
    count _ _ _ (high_reg (of_decide_eq_true rfl))]

theorem Dev.floor_thermal : (d.thermal k f).floor lo = d.floor lo := by
  unfold Dev.thermal
  dsimp only
  rw [Dev.floor_floorShow, Dev.floor_demand (high_reg (of_decide_eq_true rfl)) (high_reg (of_decide_eq_true rfl)),
    Dev.floor_put (high_reg (of_decide_eq_true rfl)), Dev.floor_put (high_reg (of_decide_eq_true rfl)), Dev.floor_modLoad]

/-! ### The Lid and the service (R340, R369, R370, R399) -/

theorem Dev.floor_supStale : (d.supStale k).floor lo = d.floor lo := by
  unfold Dev.supStale
  split
  · dsimp only
    rw [Dev.floor_putB (high_reg (of_decide_eq_true rfl)), Dev.floor_modLid]
  · rfl

theorem Dev.floor_formConditions : d.formConditions.floor lo = d.floor lo := by
  unfold Dev.formConditions
  simp (disch := decide) only [Dev.floor_evtIf, Dev.floor_put]

theorem Dev.floor_relayFrame {ran : Bool} {r : Nat} : (Dev.relayFrame ran d r).floor lo = d.floor lo := by
  unfold Dev.relayFrame
  split
  · exact Dev.floor_modLid
  · dsimp only
    split
    · rw [Dev.floor_evt (by decide), Dev.floor_putE (by decide), Dev.floor_modLid]
    · exact Dev.floor_modLid

theorem Dev.floor_lidFrame {ran : Bool} : (d.lidFrame ran).floor lo = d.floor lo := by
  unfold Dev.lidFrame
  dsimp only
  rw [Dev.floor_each fun _ _ => Dev.floor_relayFrame, Dev.floor_formConditions, Dev.floor_each fun _ _ => Dev.floor_supStale,
    Dev.floor_modLid]

theorem Dev.floor_svcFrame : d.svcFrame.floor lo = d.floor lo := Dev.floor_modSvc

end Sys2Proof.Machine
end

section
/-! Rack frame starts (R99 to R103, R237, R312): what a frame start does to the other strings stands apart from string k. -/
namespace Sys2Proof.Machine
variable {d e : Dev} {f j k : Nat}

/-- R312: a string that is latched takes the phase; the rest is its own. -/
theorem Dev.latchStr_floor {lo : Nat} : (d.latchStr k).floor lo = (d.setPhase k phLatched).floor lo := by
  unfold Dev.latchStr
  rw [Dev.floor_evt (high_reg (of_decide_eq_true rfl)), Dev.floor_modPr, Dev.floor_prPhase]

/-- `e` is as `d` where string k and the blocks CLK and RACK look at it. -/
structure Apart (k : Nat) (d e : Dev) : Prop where
  reg : ∀ a, 0x1000 ≤ a → a < 0x3000 → e.reg a = d.reg a
  phase : e.phase k = d.phase k
  en : e.enHigh k = d.enHigh k
  evt : d.bit Fd.SYS_EVT_START_FAIL = true → e.bit Fd.SYS_EVT_START_FAIL = true
  dom : e.pwr.dom = d.pwr.dom
  cfg : e.img.cfg = d.img.cfg

namespace Apart

theorem refl : Apart k d d := ⟨fun _ _ _ => rfl, rfl, rfl, id, rfl, rfl⟩

theorem trans {d' : Dev} (h : Apart k d d') (h' : Apart k d' e) : Apart k d e :=
  ⟨fun a hl ha => (h'.reg a hl ha).trans (h.reg a hl ha), h'.phase.trans h.phase, h'.en.trans h.en, fun x => h'.evt (h.evt x),
    h'.dom.trans h.dom, h'.cfg.trans h.cfg⟩

theorem of_regs (hr : ∀ a, a < 0x3000 → e.reg a = d.reg a) (hp : e.pwr = d.pwr) (hi : e.img = d.img) : Apart k d e :=
  ⟨fun a _ ha => hr a ha, Dev.fld_congr (hr _ (of_decide_eq_true rfl)), congrArg (fun p : Power => vat p.strEn k) hp,
    fun h => (Dev.bit_congr (hr _ (of_decide_eq_true rfl))).trans h, congrArg Power.dom hp, congrArg ImgSt.cfg hi⟩

theorem of_floor (h : e.floor 0 = d.floor 0) : Apart k d e :=
  of_regs (fun a ha => Dev.reg_of_floor h (Nat.zero_le a) (by omega)) (Dev.pwr_of_floor h) (Dev.img_of_floor h)

theorem each {g : Dev → Nat → Dev} {l : List Nat} (h : ∀ i ∈ l, ∀ d, Apart k d (g d i)) : Apart k d (d.each l g) := by
  induction l generalizing d with
  | nil => exact refl
  | cons i l ih => exact (h i (by simp) d).trans (ih fun j hj => h j (by simp [hj]))

theorem ite {c : Prop} [Decidable c] {x y : Dev} (hx : Apart k d x) (hy : Apart k d y) : Apart k d (if c then x else y) := by
  split
  · exact hx
  · exact hy

/-- An event of a string. -/
theorem startFailEvt : Apart k d (d.evt Fd.SYS_EVT_START_FAIL) := by
  refine ⟨fun a hl _ => Dev.reg_evt_other (show a ≠ 0x10 by omega), Dev.fld_congr (Dev.reg_evt_other (by decide : (0xC : Nat) ≠ 0x10)),
    rfl, fun _ => Dev.bit_evt_same (by decide) rfl, rfl, rfl⟩

section
variable (hj : j < 8) (h : k ≠ j)
include hj h

theorem setPhase {ph : Nat} : Apart k d (d.setPhase j ph) :=
  ⟨fun a hl _ => Dev.reg_put_other (show a ≠ 0xC by omega), Dev.phase_setPhase_other hj h, rfl,
    fun x => (Dev.bit_congr (Dev.reg_put_other (by decide : (0x10 : Nat) ≠ 0xC))).trans x, rfl, rfl⟩

omit hj in
theorem strEn {b : Bool} : Apart k d (d.strEn j b) := by
  have regs (a : Nat) : (d.strEn j b).reg a = d.reg a := Dev.reg_congr (Dev.strEn_regs ..)
  obtain ⟨x, hx⟩ := d.strEn_eq j b
  exact ⟨fun a _ _ => regs a, Dev.fld_congr (regs _), Dev.strEn_enHigh_other h b, fun y => (Dev.bit_congr (regs _)).trans y,
    Dev.strEn_dom .., by rw [hx]⟩

/-! ### The phases of another string -/

theorem latchStr : Apart k d (d.latchStr j) := (setPhase hj h).trans (of_floor Dev.latchStr_floor)

theorem startWait {failed : Bool} : Apart k d (d.startWait j f failed) := by
  unfold Dev.startWait
  dsimp only
  split
  · exact latchStr hj h
  · refine ((setPhase hj h (ph := phStartWait)).trans ((strEn h (b := false)).trans startFailEvt)).trans (of_floor ?_)
    split <;> simp

theorem startFail : Apart k d (d.startFail j) := by
  have halt : Apart k d (d.strHalt j) :=
    (of_floor Dev.floor_ifRun).trans ((strEn h (b := false)).trans (of_floor Dev.strHalt_floor))
  exact (halt.trans (setPhase hj h)).trans startFailEvt

theorem enterEnum : Apart k d (d.enterEnum j f) := by
  have links (d : Dev) : (d.each positions (fun d p => d.enumLink j p)).floor 0 = d.floor 0 :=
    Dev.floor_each (fun _ _ => Dev.floor_enumLink) _
  refine ((setPhase hj h (ph := phEnum)).trans (strEn h (b := true))).trans (of_floor ?_)
  unfold Dev.enterEnum
  dsimp only
  rw [Dev.floor_modPr, Dev.floor_put (high_reg (of_decide_eq_true rfl)), Dev.floor_prPhase, links,
    Dev.floor_setReg (a := Reg.CHk_LK_STATUS j) (.inr (high_reg (of_decide_eq_true rfl))), Dev.floor_put (high_reg (of_decide_eq_true rfl)),
    Dev.floor_put (high_reg (of_decide_eq_true rfl))]

theorem restartEnum : Apart k d (d.restartEnum j f) := (of_floor Dev.floor_winClear).trans (enterEnum hj h)

theorem endEnum : Apart k d (d.endEnum j f) := by
  unfold Dev.endEnum
  exact ite ((setPhase hj h).trans (of_floor Dev.floor_modPr)) (startWait hj h)

theorem enumFrame : Apart k d (d.enumFrame j f) := by
  unfold Dev.enumFrame
  exact ite ((of_floor Dev.floor_endLinks).trans (startFail hj h)) (ite refl (ite (endEnum hj h) refl))

theorem enterTest : Apart k d (d.enterTest j f) := by
  unfold Dev.enterTest
  split
  · exact (setPhase hj h).trans ((of_floor Dev.floor_modPr).trans (of_floor Dev.floor_testStart))
  · exact startWait hj h

theorem prechargeFrame : Apart k d (d.prechargeFrame j f) := by
  unfold Dev.prechargeFrame
  lift_lets
  extract_lets n e
  have counted : Apart k d e := of_floor Dev.floor_modPr
  exact ite (counted.trans (ite (enterTest hj h) refl)) (startWait hj h)

theorem testFrame : Apart k d (d.testFrame j f) := by
  have restart : Apart k d (d.testRestart j f) := by
    unfold Dev.testRestart
    split
    · exact of_floor ((Dev.floor_bump (high_reg (of_decide_eq_true rfl))).trans Dev.floor_testStart)
    · exact (of_floor Dev.floor_testStep).trans (startWait hj h)
  unfold Dev.testFrame
  exact ite (ite restart refl) ((of_floor Dev.floor_testStep).trans (startWait hj h))

theorem phaseFrame {fresh : Bool} : Apart k d (d.phaseFrame j f fresh) := by
  unfold Dev.phaseFrame
  lift_lets
  extract_lets e ph
  have counted : Apart k d e := (of_floor Dev.floor_modPr).trans (of_floor Dev.floor_slowFrame)
  refine counted.trans ?_
  exact ite (enumFrame hj h) (ite (prechargeFrame hj h) (ite (testFrame hj h) (ite (ite refl (startWait hj h))
    (ite (of_floor Dev.floor_rotFrame) (ite (restartEnum hj h) refl)))))

theorem stringFrame {low : List Nat} : Apart k d (d.stringFrame f low j) :=
  (phaseFrame hj h).trans ((of_floor Dev.floor_demandCounts).trans (of_floor Dev.floor_thermal))

omit hj in
theorem dropEn : Apart k d (d.dropEn j) := by
  unfold Dev.dropEn
  lift_lets
  extract_lets e
  have dropped : Apart k d e := of_floor Dev.floor_modPr
  exact dropped.trans (ite (strEn h) refl)

theorem pinOff : Apart k d (d.pinOff j) := by
  unfold Dev.pinOff
  lift_lets
  extract_lets ends e x
  have stopped : Apart k d e := of_floor Dev.floor_modSvc
  have ended : Apart k e x := (of_floor Dev.floor_modPr).trans (of_floor Dev.floor_modSvc)
  exact stopped.trans (ite (ended.trans (ite ((of_floor Dev.floor_endLinks).trans (latchStr hj h)) refl)) refl)

theorem pinOn : Apart k d (d.pinOn f j) := by
  unfold Dev.pinOn
  split
  · lift_lets
    extract_lets e
    have asked : Apart k d e := of_floor Dev.floor_modSvc
    have pins (m) : Apart k e ((e.modPr j (fun p => { p with pinMode := true })).modSvc
        (fun v => { v with pin := vset v.pin j m })) :=
      (of_floor Dev.floor_modPr).trans (of_floor Dev.floor_modSvc)
    exact ite refl (asked.trans (ite ((pins _).trans (restartEnum hj h)) refl))
  · exact refl

end

/-! ### SYS_STATE -/

theorem sysRunCheck {t : Nat} : Apart k d (d.sysRunCheck t) := by
  unfold Dev.sysRunCheck
  dsimp only
  split
  · refine ⟨fun a hl _ => ?_, ?_, rfl, fun h => ?_, rfl, rfl⟩
    · rw [Dev.reg_evt_other (show a ≠ 0x10 by omega), Dev.reg_put_other (show a ≠ 0x8 by omega)]
    · refine Dev.fld_congr ?_
      rw [Dev.reg_evt_other (by decide : (0xC : Nat) ≠ 0x10), Dev.reg_put_other (by decide : (0xC : Nat) ≠ 0x8)]
    · rw [Dev.bit_evt_other (by decide) rfl (by decide), Dev.bit_put_other (by decide) rfl (by decide), h]
  · exact refl

end Apart

end Sys2Proof.Machine
end

section
/-! Rack frame starts (R99, R103): the islands' copies, the pins, and the strings whose domain is lost. -/
namespace Sys2Proof.Machine
variable {d e : Dev} {f i j k t : Nat}

/-! ### The islands' copies of the tick number (R48) -/

theorem Dev.strEn_img {b : Bool} : (d.strEn k b).img = d.img := by
  obtain ⟨x, hx⟩ := d.strEn_eq k b
  rw [hx]

theorem Dev.releaseRelays_img : d.releaseRelays.img = d.img := by
  refine Dev.each_same Dev.img (f := fun d r => if d.ebit Fd.LID_RLY_ENERGISED r then
    (d.putE Fd.LID_RLY_ENERGISED r false).evt Fd.LID_EVT_RELAY else d) (fun d r => ?_) [0, 1, 2, 3] d
  split <;> rfl

theorem Dev.domOff_faultOff_img : (d.domOff i .faultOff).img = d.img := by
  have snap (d : Dev) : d.snapLost.img = d.img := by unfold Dev.snapLost; split <;> rfl
  have halt (d : Dev) (k : Nat) : (d.strHalt k).img = d.img := by
    rw [Dev.img_of_floor (Dev.strHalt_floor (lo := 0)), Dev.strEn_img, Dev.img_of_floor (Dev.floor_ifRun (lo := 0))]
  unfold Dev.domOff
  lift_lets
  extract_lets x y
  have hy : y.img = d.img := by
    unfold y
    split
    · exact Dev.releaseRelays_img
    · split
      · exact snap x
      · rfl
  simp only [if_true]
  split
  · exact (halt y _).trans hy
  · exact hy

/-- Below the strings' and the Lid's registers `e` is as `d` but for CLK's events, and no domain has come back from FAULT-OFF. -/
structure Steady (d e : Dev) : Prop where
  reg : ∀ a, a < 0x8000 → a ≠ Reg.CLK_EVT → e.reg a = d.reg a
  img : e.img = d.img
  off : ∀ x, domSt d x = .faultOff → domSt e x = .faultOff

theorem Steady.refl : Steady d d := ⟨fun _ _ _ => rfl, rfl, fun _ => id⟩

theorem Steady.trans {d' : Dev} (h : Steady d d') (h' : Steady d' e) : Steady d e :=
  ⟨fun a ha hne => (h'.reg a ha hne).trans (h.reg a ha hne), h'.img.trans h.img, fun x hx => h'.off x (h.off x hx)⟩

theorem Dev.islandFail_steady : Steady d (d.islandFail t i) :=
  ⟨fun _ _ hne => Dev.reg_evt_other hne, rfl, fun _ => id⟩

theorem Dev.domFault_steady (hi : i < 16) : Steady d (d.domFault i) := by
  obtain ⟨hpwr, -, -, hreg, -⟩ := Dev.domFault_spec (d := d) hi
  refine ⟨hreg, Dev.domOff_faultOff_img, fun x hx => ?_⟩
  unfold domSt
  rw [hpwr]
  by_cases h : x = i
  · subst h; exact Power.faulted_dom_same hi
  · rw [Power.faulted_dom_other h]; exact hx

theorem Dev.copyCheck_steady (hi : i < 15) : Steady d (d.copyCheck t i) := by
  unfold Dev.copyCheck Dev.islandReact
  split
  · split
    · exact Dev.islandFail_steady.trans (Dev.domFault_steady (by decide))
    · split
      · exact Dev.islandFail_steady.trans (Dev.domFault_steady (by omega))
      · exact Dev.islandFail_steady
  · exact Steady.refl

theorem Dev.copyChecks_steady (l : List Nat) (hl : ∀ i ∈ l, i < 15) : Steady d (d.each l (fun d i => d.copyCheck t i)) := by
  induction l generalizing d with
  | nil => exact Steady.refl
  | cons i l ih => exact (Dev.copyCheck_steady (hl i (by simp))).trans (ih fun j hj => hl j (by simp [hj]))

theorem lt_of_mem_strings8 (h : k ∈ strings8) : k < 8 := by simp [strings8] at h; omega

/-! ### What a frame start leaves of a string whose domain is lost -/

/-- Whether string k stays out in START_FAIL, its domain and the image are the same in `d` and `e`. -/
structure Near (k : Nat) (d e : Dev) : Prop where
  phase : e.phase k = phStartFail ↔ d.phase k = phStartFail
  dom : e.pwr.dom = d.pwr.dom
  cfg : e.img.cfg = d.img.cfg

namespace Near

theorem refl : Near k d d := ⟨.rfl, rfl, rfl⟩

theorem trans {d' : Dev} (h : Near k d d') (h' : Near k d' e) : Near k d e :=
  ⟨h'.phase.trans h.phase, h'.dom.trans h.dom, h'.cfg.trans h.cfg⟩

theorem each {g : Dev → Nat → Dev} {l : List Nat} (h : ∀ i ∈ l, ∀ d, Near k d (g d i)) : Near k d (d.each l g) := by
  induction l generalizing d with
  | nil => exact refl
  | cons i l ih => exact (h i (by simp) d).trans (ih fun j hj => h j (by simp [hj]))

theorem of_apart (h : Apart k d e) : Near k d e := ⟨by rw [h.phase], h.dom, h.cfg⟩

theorem of_stance (h : e.stance = d.stance) : Near k d e :=
  ⟨by rw [Dev.phase_congr h], congrArg Stance.dom h, congrArg Stance.cfg h⟩

theorem strEn {b : Bool} : Near k d (d.strEn j b) := by
  have phase : (d.strEn j b).phase k = d.phase k := Dev.fld_congr (Dev.reg_congr (Dev.strEn_regs ..))
  exact ⟨by rw [phase], Dev.strEn_dom .., by rw [Dev.strEn_img]⟩

/-- A string passes from one phase to another, and neither is START_FAIL. -/
theorem setPhase {ph : Nat} (hk : k < 8) (hd : d.phase k ≠ phStartFail) (hp : ph < 16) (h : ph ≠ phStartFail) :
    Near k d (d.setPhase k ph) := by
  refine ⟨?_, rfl, rfl⟩
  rw [Dev.phase_setPhase_same hk hp]
  simp [h, hd]

/-! ### The string itself -/

theorem latchStr (hk : k < 8) (hd : d.phase k ≠ phStartFail) : Near k d (d.latchStr k) :=
  (setPhase hk hd (by decide) (by decide)).trans (of_apart (Apart.of_floor Dev.latchStr_floor))

theorem restartEnum (hk : k < 8) (hd : d.phase k ≠ phStartFail) : Near k d (d.restartEnum k f) := by
  have clear : Near k d (d.winClear k) := of_apart (Apart.of_floor Dev.floor_winClear)
  have entered (x : Dev) : (x.enterEnum k f).stance = ((x.setPhase k phEnum).strEn k true).stance := by
    rw [Dev.stance_enterEnum, Dev.stance_strEn, Dev.stance_setPhase]
  have hp : (d.winClear k).phase k ≠ phStartFail := fun h => hd (clear.phase.1 h)
  exact clear.trans (((setPhase hk hp (by decide) (by decide)).trans strEn).trans (of_stance (entered _)))

theorem pinOff (hk : k < 8) : Near k d (d.pinOff k) := by
  unfold Dev.pinOff
  lift_lets
  extract_lets ends e x
  have stopped : Near k d e := of_stance rfl
  have ended : Near k e x := of_stance rfl
  refine stopped.trans ?_
  split
  · refine ended.trans ?_
    split
    next h =>
      have links : Near k x (x.endLinks k) := of_apart (Apart.of_floor Dev.floor_endLinks)
      refine links.trans (latchStr hk fun hf => ?_)
      exact absurd ((links.phase.1 hf).symm.trans (eq_of_beq h)) (by decide)
    next => exact refl
  · exact refl

theorem pinOn (hk : k < 8) : Near k d (d.pinOn f k) := by
  unfold Dev.pinOn
  split
  · lift_lets
    extract_lets e
    have asked : Near k d e := of_stance rfl
    have pins (m) : Near k e ((e.modPr k (fun p => { p with pinMode := true })).modSvc
        (fun v => { v with pin := vset v.pin k m })) := of_stance rfl
    split
    · exact refl
    · refine asked.trans ?_
      split
      next h =>
        refine (pins _).trans (restartEnum hk fun hf => ?_)
        exact absurd (((pins _).phase.1 hf).symm.trans (eq_of_beq h)) (by decide)
      next => exact refl
  · exact refl

/-- R404: the pin tests that end and begin. -/
theorem pinFrame : Near k d (d.pinFrame f) := by
  have off (i) (hi : i ∈ strings8) (d : Dev) : Near k d (d.pinOff i) := by
    by_cases h : k = i
    · subst h; exact pinOff (lt_of_mem_strings8 hi)
    · exact of_apart (Apart.pinOff (lt_of_mem_strings8 hi) h)
  have on (i) (hi : i ∈ strings8) (d : Dev) : Near k d (d.pinOn f i) := by
    by_cases h : k = i
    · subst h; exact pinOn (lt_of_mem_strings8 hi)
    · exact of_apart (Apart.pinOn (lt_of_mem_strings8 hi) h)
  exact (each off).trans (each on)

theorem dropEn : Near k d (d.dropEn j) := by
  unfold Dev.dropEn
  lift_lets
  extract_lets e
  have dropped : Near k d e := of_stance rfl
  refine dropped.trans ?_
  split
  · exact strEn
  · exact refl

end Near

/-! ### START_FAIL (R103) -/

/-- String k stays out in START_FAIL, with STR_EN low and its event raised. -/
structure Dev.Failed (k : Nat) (d : Dev) : Prop where
  phase : d.phase k = phStartFail
  evt : d.bit Fd.SYS_EVT_START_FAIL = true
  low : d.enHigh k = false

theorem Dev.Failed.of_apart (h : d.Failed k) (ha : Apart k d e) : e.Failed k :=
  ⟨ha.phase.trans h.phase, ha.evt h.evt, ha.en.trans h.low⟩

theorem Dev.startFail_pwr : (d.startFail k).pwr = { d.pwr with strEn := vset d.pwr.strEn k false } := by
  rw [Dev.startFail, Dev.evt_pwr, Dev.setPhase_pwr, Dev.strHalt_pwr]

theorem Dev.startFail_failed (hk : k < 8) : (d.startFail k).Failed k := by
  refine ⟨?_, ?_, ?_⟩
  · rw [Dev.startFail, Dev.phase, Dev.fld_congr (Dev.reg_evt_other (show Reg.SYS_STR_STATE ≠ Reg.SYS_EVT by decide))]
    exact Dev.phase_setPhase_same hk (by decide)
  · rw [Dev.startFail]
    exact Dev.bit_evt_same (by decide) rfl
  · rw [Dev.enHigh, Dev.startFail_pwr]
    exact vat_vset_same hk

theorem Dev.startFails_failed {l : List Nat} (hl : ∀ i ∈ l, i < 8) (hk : k ∈ l) : (d.each l Dev.startFail).Failed k := by
  have keep (i) (hi : i < 8) (d : Dev) (h : d.Failed k) : (d.startFail i).Failed k := by
    by_cases hki : k = i
    · subst hki; exact Dev.startFail_failed hi
    · exact h.of_apart (Apart.startFail hi hki)
  have rest (l : List Nat) (hl : ∀ i ∈ l, i < 8) (d : Dev) (h : d.Failed k) : (d.each l Dev.startFail).Failed k := by
    induction l generalizing d with
    | nil => exact h
    | cons i l ih => exact ih (fun j hj => hl j (by simp [hj])) _ (keep i (hl i (by simp)) d h)
  induction l generalizing d with
  | nil => simp at hk
  | cons i l ih =>
    have hl' : ∀ j ∈ l, j < 8 := fun j hj => hl j (by simp [hj])
    by_cases hki : k = i
    · subst hki; exact rest l hl' _ (Dev.startFail_failed (hl k (by simp)))
    · exact ih hl' (by simpa [hki] using hk)

theorem Dev.startFails_dom {l : List Nat} : (d.each l Dev.startFail).pwr.dom = d.pwr.dom := by
  refine Dev.each_same (fun d : Dev => d.pwr.dom) (fun d k => ?_) l d
  simp only [Dev.startFail_pwr]

end Sys2Proof.Machine
end

section
/-! Rack frame starts (R60, R99, R103): the parts of a frame start, in their order. -/
namespace Sys2Proof.Machine
variable {d e : Dev} {f i j k n t v : Nat} {g : Fld}

/-! ### The references and the converters (R143, R205) -/

namespace Apart

theorem of_regs_eq (hr : e.regs = d.regs) (hp : e.pwr = d.pwr) (hi : e.img = d.img) : Apart k d e :=
  of_regs (fun _ _ => Dev.reg_congr hr) hp hi

theorem put (h : 0x3000 ≤ g.addr) : Apart k d (d.put g v) :=
  of_regs (fun _ ha => Dev.reg_put_other (by omega)) rfl rfl

theorem putB {b : Bool} (h : 0x3000 ≤ g.addr) : Apart k d (d.putB g b) := put h
theorem putI {x : Int} (h : 0x3000 ≤ g.addr) : Apart k d (d.putI g x) := put h
theorem event (h : 0x3000 ≤ g.addr) : Apart k d (d.evt g) := put h

theorem refUnlock : Apart k d d.refUnlock := by
  unfold Dev.refUnlock
  lift_lets
  extract_lets src e
  have cleared : Apart k d e := of_regs_eq rfl rfl rfl
  exact cleared.trans (ite ((putB (by decide)).trans (event (by decide))) refl)

theorem steerFrame : Apart k d d.steerFrame := by
  unfold Dev.steerFrame
  lift_lets
  extract_lets a e src lim x y req win run e' e''
  have sums : Apart k d e := of_regs_eq rfl rfl rfl
  have held : Apart k e { e with align := { e.align with goodRun := 0 } } := of_regs_eq rfl rfl rfl
  have steered : Apart k e e' := of_regs_eq rfl rfl rfl
  have shown : Apart k e' e'' := ((putB (by decide)).trans (putI (by decide))).trans (putI (by decide))
  refine ite refl (sums.trans (ite (held.trans (putB (by decide))) ((steered.trans shown).trans ?_)))
  exact ite refUnlock (ite ((putB (by decide)).trans (event (by decide))) refl)

theorem modConv {m : ConvSt → ConvSt} : Apart k d (d.modConv n m) := of_regs_eq rfl rfl rfl

theorem showConv : Apart k d (d.showConv n) :=
  (((((putI (Nat.le_add_right_of_le (of_decide_eq_true rfl))).trans (putI (Nat.le_add_right_of_le (of_decide_eq_true rfl)))).trans
    (putB (Nat.le_add_right_of_le (of_decide_eq_true rfl)))).trans (putB (Nat.le_add_right_of_le (of_decide_eq_true rfl)))).trans
    (putB (Nat.le_add_right_of_le (of_decide_eq_true rfl))))

theorem convUnlock : Apart k d (d.convUnlock n) := by
  unfold Dev.convUnlock Dev.evtIf
  exact (modConv.trans (ite (event (by decide)) refl)).trans showConv

theorem convFrame : Apart k d (d.convFrame n) := by
  unfold Dev.convFrame
  lift_lets
  extract_lets c e x rhoI rho win run e'
  have sums : Apart k d e := modConv
  have slewed : Apart k e e' := modConv.trans (putI (Nat.le_add_right_of_le (of_decide_eq_true rfl)))
  refine sums.trans (ite refl (slewed.trans (ite convUnlock (ite ?_ showConv))))
  exact (modConv.trans (event (by decide))).trans showConv

end Apart

/-! ### The parts of a frame start -/

/-- R48, R60: the islands' copies are compared and the Rack's frame begins. -/
def Dev.frameHead (d : Dev) (f : Nat) : Dev := (d.each copyIslands (fun d i => d.copyCheck f i)).rackFrame (f / 65536)

/-- R143, R205: AUDIO's loops take a step. -/
def Dev.frameRefs (d : Dev) : Dev :=
  if d.islandOk islAudio then
    let d := d.steerFrame
    d.each (ports6.filter (fun n => d.convMaster n || d.txSlave n)) (fun d n => d.convFrame n)
  else d

/-- R404: pin tests end and begin, and due falls of STR_EN happen. -/
def Dev.framePins (d : Dev) (f : Nat) : Dev := (d.pinFrame f).each d.enFalls (fun d k => d.dropEn k)

/-- R103: strings whose domain is lost. -/
def Dev.frameLost (d : Dev) : Dev := d.each (d.strs.filter d.lostDomain) Dev.startFail

/-- The strings in service, the service, SYS_STATE and the Lid. -/
def Dev.frameTail (d : Dev) (f : Nat) (low : List Nat) (ran : Bool) : Dev :=
  let d := d.each d.liveStrs (fun d k => d.stringFrame f low k)
  let d := d.svcFrame.sysRunCheck f
  if d.islandOk islLid then d.lidFrame ran else d

theorem Dev.frameStart_eq (d : Dev) (f : Nat) : d.frameStart f =
    ((d.frameHead f).frameRefs.framePins f).frameLost.frameTail f (d.frameHead f).frameRefs.enFalls
      (d.fld Fd.SYS_STATE_STATE == 2) := (rfl)

theorem Dev.lt_of_mem_enFalls (h : k ∈ d.enFalls) : k < 8 := (Dev.mem_liveStrs.1 (List.mem_of_mem_filter h)).1

theorem Dev.mem_strs : k ∈ d.strs ↔ k < 8 ∧ d.present k = true := by
  have : k ∈ strings8 ↔ k < 8 := by simp [strings8]; omega
  simp only [Dev.strs, List.mem_filter, this]

theorem Dev.lt_of_mem_lost (h : k ∈ d.strs.filter d.lostDomain) : k < 8 := (Dev.mem_strs.1 (List.mem_of_mem_filter h)).1

namespace Apart

theorem frameRefs : Apart k d d.frameRefs := by
  unfold Dev.frameRefs
  exact ite (steerFrame.trans (each fun _ _ _ => convFrame)) refl

theorem frameTail {low : List Nat} {ran : Bool} (hk : k ∉ d.liveStrs) : Apart k d (d.frameTail f low ran) := by
  have strings : Apart k d (d.each d.liveStrs (fun d k => d.stringFrame f low k)) :=
    each fun j hj _ => stringFrame (Dev.mem_liveStrs.1 hj).1 (fun h => by subst h; exact hk hj)
  unfold Dev.frameTail
  exact ((strings.trans (of_floor Dev.floor_svcFrame)).trans sysRunCheck).trans (ite (of_floor Dev.floor_lidFrame) refl)

/-- What is no string's own. -/
theorem framePins (hk : 8 ≤ k) : Apart k d (d.framePins f) := by
  have off : Apart k d (d.each strings8 Dev.pinOff) :=
    each fun j hj _ => pinOff (lt_of_mem_strings8 hj) (by have := lt_of_mem_strings8 hj; omega)
  have on (d : Dev) : Apart k d (d.each strings8 (fun d j => d.pinOn f j)) :=
    each fun j hj _ => pinOn (lt_of_mem_strings8 hj) (by have := lt_of_mem_strings8 hj; omega)
  exact (off.trans (on _)).trans (each fun j hj _ => dropEn (by have := Dev.lt_of_mem_enFalls hj; omega))

theorem frameLost (hk : k ∉ d.strs.filter d.lostDomain) : Apart k d d.frameLost :=
  each fun j hj _ => startFail (Dev.lt_of_mem_lost hj) (fun h => by subst h; exact hk hj)

/-- R60: once the Rack's frame has begun, the rest of the frame start leaves the Rack alone. -/
theorem frameStart_head (hk : 8 ≤ k) : Apart k (d.frameHead f) (d.frameStart f) := by
  rw [Dev.frameStart_eq]
  refine ((frameRefs.trans (framePins hk)).trans (frameLost fun h => ?_)).trans (frameTail fun h => ?_)
  · have := Dev.lt_of_mem_lost h; omega
  · have := (Dev.mem_liveStrs.1 h).1; omega

end Apart

end Sys2Proof.Machine
end

section
/-! What a frame start brings to a string whose domain is lost (R99, R103). -/
namespace Sys2Proof.Machine
variable {d e : Dev} {f i k : Nat}

theorem Dev.copies_steady : Steady d (d.each copyIslands (fun d i => d.copyCheck f i)) :=
  Dev.copyChecks_steady copyIslands (by decide)

theorem Dev.present_congr (h : e.img.cfg = d.img.cfg) : e.present k = d.present k := by
  unfold Dev.present; rw [h]

/-- String k is present and its domain is in FAULT-OFF. -/
structure Dev.Lost (k : Nat) (d : Dev) : Prop where
  present : d.present k = true
  off : domSt d (domCh k) = .faultOff

theorem Dev.Lost.of_dom (h : d.Lost k) (hd : e.pwr.dom = d.pwr.dom) (hc : e.img.cfg = d.img.cfg) : e.Lost k :=
  ⟨(Dev.present_congr hc).trans h.present, (congrArg (vat · (domCh k)) hd).trans h.off⟩

theorem Dev.Lost.of_stance (h : d.Lost k) (hs : e.stance = d.stance) : e.Lost k :=
  h.of_dom (congrArg Stance.dom hs) (congrArg Stance.cfg hs)

theorem Dev.Lost.of_near (h : d.Lost k) (hn : Near k d e) : e.Lost k := h.of_dom hn.dom hn.cfg

/-- R49: no island of a domain that is off works. -/
theorem Dev.not_islandOk_of_off (hk : k < 8) (h : domSt d (domCh k) = .faultOff) : d.islandOk (islCh k) = false := by
  have dom : islCh k + 1 = domCh k := by unfold islCh domCh; omega
  have mem : (islCh k == islMem) = false := by simp [islCh, islMem]; omega
  have low : ¬ islCh k < 6 := by unfold islCh; omega
  have run : d.domRun (domCh k) = false := by
    unfold Dev.domRun
    rw [show vat d.pwr.dom (domCh k) = .faultOff from h]
    rfl
  simp [Dev.islandOk, mem, low, dom, run]

theorem Dev.frameHead_phase : (d.frameHead f).phase k = d.phase k := by
  unfold Dev.frameHead
  rw [Dev.phase_congr Dev.stance_rackFrame]
  have states : (d.each copyIslands (fun d i => d.copyCheck f i)).reg Reg.SYS_STR_STATE = d.reg Reg.SYS_STR_STATE :=
    Dev.copies_steady.reg _ (by decide) (by decide)
  exact Dev.fld_congr states

theorem Dev.Lost.frameHead (h : d.Lost k) : (d.frameHead f).Lost k := by
  have steady := Dev.copies_steady (d := d) (f := f)
  have copied : (d.each copyIslands (fun d i => d.copyCheck f i)).Lost k :=
    ⟨(Dev.present_congr (congrArg ImgSt.cfg steady.img)).trans h.present, steady.off _ h.off⟩
  exact copied.of_stance Dev.stance_rackFrame

theorem Near.framePins : Near k d (d.framePins f) := Near.pinFrame.trans (Near.each fun _ _ _ => Near.dropEn)

/-- Up to the strings' own steps, a frame start leaves the phase of a string whose domain is lost. -/
theorem Dev.frameStart_lost_pins (h : d.Lost k) :
    (((d.frameHead f).frameRefs.framePins f).phase k = phStartFail ↔ d.phase k = phStartFail) ∧
      ((d.frameHead f).frameRefs.framePins f).Lost k := by
  have near : Near k (d.frameHead f) ((d.frameHead f).frameRefs.framePins f) :=
    (Near.of_apart Apart.frameRefs).trans Near.framePins
  exact ⟨near.phase.trans (by rw [Dev.frameHead_phase]), h.frameHead.of_near near⟩

/-- R103: a string whose domain is lost takes no step of its own in the rest of the frame start. -/
theorem Apart.lostTail {low : List Nat} {ran : Bool} (hk : k < 8) (h : d.Lost k) :
    Apart k d.frameLost (d.frameLost.frameTail f low ran) := by
  refine frameTail fun hl => ?_
  have off : domSt d.frameLost (domCh k) = .faultOff := by
    unfold domSt Dev.frameLost
    rw [Dev.startFails_dom]
    exact h.off
  exact absurd (Dev.mem_liveStrs.1 hl).2.2 (by rw [Dev.not_islandOk_of_off hk off]; decide)

theorem Dev.frameStart_lost (hk : k < 8) (h : d.Lost k) : (d.frameStart f).phase k = phStartFail ∧
    (d.phase k ≠ phStartFail → (d.frameStart f).bit Fd.SYS_EVT_START_FAIL = true ∧ (d.frameStart f).enHigh k = false) := by
  obtain ⟨hph, hlost⟩ := Dev.frameStart_lost_pins (f := f) h
  rw [Dev.frameStart_eq]
  generalize (d.frameHead f).frameRefs.enFalls = low
  generalize (d.frameHead f).frameRefs.framePins f = x at hph hlost ⊢
  have tail := Apart.lostTail (f := f) (low := low) (ran := d.fld Fd.SYS_STATE_STATE == 2) hk hlost
  by_cases hf : d.phase k = phStartFail
  · have out : k ∉ x.strs.filter x.lostDomain := fun hm => by
      simpa [Dev.lostDomain, hph.2 hf] using List.of_mem_filter hm
    exact ⟨(tail.phase.trans (Apart.frameLost out).phase).trans (hph.2 hf), fun hn => absurd hf hn⟩
  · have mem : k ∈ x.strs.filter x.lostDomain := by
      refine List.mem_filter.2 ⟨Dev.mem_strs.2 ⟨hk, hlost.present⟩, ?_⟩
      have hoff : vat x.pwr.dom (domCh k) = .faultOff := hlost.off
      simp [Dev.lostDomain, hoff, mt hph.1 hf]
    have failed : x.frameLost.Failed k := Dev.startFails_failed (fun _ => Dev.lt_of_mem_lost) mem
    obtain ⟨hphase, hevt, hlow⟩ := failed.of_apart tail
    exact ⟨hphase, fun _ => ⟨hevt, hlow⟩⟩

theorem execRackFrameStart_eq {s : State} (hf : s.env.frameStart = true) (ht : 0 < s.env.tick) (hr : s.dev.aonRuns = true) :
    exec .rackFrameStart s = .next { s with dev := s.dev.frameStart s.env.tick } := by
  show execRackFrameStart s = _
  simp [execRackFrameStart, onDev, hf, ht, hr]

/-- Settles O12: a string whose domain is lost is taken out of service at the frame start, and no step of another string or
island brings it back. -/
theorem failuresOfDomainsAndIslands : Obligations.FailuresOfDomainsAndIslands := by
  refine ⟨fun s x hr hd => domainRampTimeout_spec hr hd, fun i s hc => islandClockFail_spec i hc,
    fun k s hf ht hr hk hp hd => ?_⟩
  have lost : s.dev.Lost k := ⟨hp, hd⟩
  obtain ⟨hphase, hnew⟩ := Dev.frameStart_lost (f := s.env.tick) hk lost
  exact ⟨_, execRackFrameStart_eq hf ht hr, ⟨rfl, rfl, rfl⟩, hphase, hnew⟩

end Sys2Proof.Machine
end

section
/-! The Rack's frames and slots (R60 to R63, R70). -/
namespace Sys2Proof.Machine
variable {d e : Dev} {a f n v w : Nat}

/-! ### The two tables change place (R70) -/

theorem Dev.reg_swapWord_other (ha : a ≠ Reg.RACK_ACTIVEw w) (hs : a ≠ Reg.RACK_STBYw w) : (d.swapWord w).reg a = d.reg a := by
  rw [Dev.swapWord, Dev.reg_setReg_other hs, Dev.reg_setReg_other ha]

theorem rackTables_apart (hv : v < 128) : Reg.RACK_ACTIVEw v ≠ Reg.RACK_STBYw w := by
  unfold Reg.RACK_ACTIVEw Reg.RACK_STBYw; omega

theorem Dev.swapWord_active (hw : w < 128) : (d.swapWord w).reg (Reg.RACK_ACTIVEw w) = d.reg (Reg.RACK_STBYw w) := by
  rw [Dev.swapWord, Dev.reg_setReg_other (rackTables_apart hw), Dev.reg_setReg_same]

theorem Dev.swapWord_standby : (d.swapWord w).reg (Reg.RACK_STBYw w) = d.reg (Reg.RACK_ACTIVEw w) := by
  rw [Dev.swapWord, Dev.reg_setReg_same]

/-- The first n words of the two tables of `d` have changed place in `e`, and no other register has changed. -/
structure Swapped (n : Nat) (d e : Dev) : Prop where
  active : ∀ w, w < n → e.reg (Reg.RACK_ACTIVEw w) = d.reg (Reg.RACK_STBYw w)
  standby : ∀ w, w < n → e.reg (Reg.RACK_STBYw w) = d.reg (Reg.RACK_ACTIVEw w)
  other : ∀ a, (∀ w, w < n → a ≠ Reg.RACK_ACTIVEw w ∧ a ≠ Reg.RACK_STBYw w) → e.reg a = d.reg a

theorem Dev.swapWords_swapped (hn : n ≤ 128) : Swapped n d ((upTo n).foldl Dev.swapWord d) := by
  induction n with
  | zero => exact ⟨by simp, by simp, fun _ _ => rfl⟩
  | succ n ih =>
    obtain ⟨active, standby, other⟩ := ih (by omega)
    have split : (upTo (n + 1)).foldl Dev.swapWord d = ((upTo n).foldl Dev.swapWord d).swapWord n := by simp [upTo]
    rw [split]
    have far (w : Nat) (hw : w < n) : Reg.RACK_ACTIVEw w ≠ Reg.RACK_ACTIVEw n ∧ Reg.RACK_STBYw w ≠ Reg.RACK_STBYw n := by
      unfold Reg.RACK_ACTIVEw Reg.RACK_STBYw; omega
    refine ⟨fun w hw => ?_, fun w hw => ?_, fun a ha => ?_⟩
    · by_cases h : w = n
      · subst h
        rw [Dev.swapWord_active (by omega)]
        exact other _ fun v hv => ⟨(rackTables_apart (by omega)).symm, (far v hv).2.symm⟩
      · rw [Dev.reg_swapWord_other (far w (by omega)).1 (rackTables_apart (by omega))]
        exact active w (by omega)
    · by_cases h : w = n
      · subst h
        rw [Dev.swapWord_standby]
        exact other _ fun v hv => ⟨(far v hv).1.symm, rackTables_apart (by omega)⟩
      · rw [Dev.reg_swapWord_other (rackTables_apart (by omega)).symm (far w (by omega)).2]
        exact standby w (by omega)
    · rw [Dev.reg_swapWord_other (ha n (by omega)).1 (ha n (by omega)).2]
      exact other a fun w hw => ha w (by omega)

/-! ### A pending swap is settled (R70) -/

/-- R70: the standby table's validity rests on the table, the least counts and the image. -/
theorem Dev.standbyOk_congr (hr : ∀ a, 0x2000 ≤ a → a < 0x3000 → a ≠ Reg.RACK_STATUS → e.reg a = d.reg a)
    (hc : e.img.cfg = d.img.cfg) : e.standbyOk = d.standbyOk := by
  have words : e.rackWords Reg.RACK_STBYw = d.rackWords Reg.RACK_STBYw := by
    refine List.map_congr_left fun w hw => ?_
    have := mem_upTo.1 hw
    rw [hr _ (by unfold Reg.RACK_STBYw; omega) (by unfold Reg.RACK_STBYw; omega)
      (by unfold Reg.RACK_STBYw Reg.RACK_STATUS; omega)]
  unfold Dev.standbyOk
  rw [words, hc, hr _ (by decide) (by decide) (by decide), hr _ (by decide) (by decide) (by decide)]

/-- R60, R70: what frame f begins with in `e`, by the tables and the request of `d`. -/
structure FrameBegun (f : Nat) (d e : Dev) : Prop where
  frame : e.fld Fd.RACK_FRAME_FRAME = f % 2 ^ 32
  settled : e.bit Fd.RACK_STATUS_SWAP_PENDING = false
  done : d.bit Fd.RACK_STATUS_SWAP_PENDING = true → d.standbyOk = true → e.bit Fd.RACK_EVT_SWAP_DONE = true ∧
    ∀ w, w < 128 → e.reg (Reg.RACK_ACTIVEw w) = d.reg (Reg.RACK_STBYw w) ∧ e.reg (Reg.RACK_STBYw w) = d.reg (Reg.RACK_ACTIVEw w)
  refused : d.bit Fd.RACK_STATUS_SWAP_PENDING = true → d.standbyOk = false → e.bit Fd.RACK_EVT_REFUSED = true
  kept : d.bit Fd.RACK_STATUS_SWAP_PENDING = false ∨ d.standbyOk = false →
    ∀ w, w < 128 → e.reg (Reg.RACK_ACTIVEw w) = d.reg (Reg.RACK_ACTIVEw w) ∧ e.reg (Reg.RACK_STBYw w) = d.reg (Reg.RACK_STBYw w)

/-- Only the block RACK and the image's settings tell. -/
theorem FrameBegun.congr {d' e' : Dev} (h : FrameBegun f d e) (hd : ∀ a, 0x2000 ≤ a → a < 0x3000 → d.reg a = d'.reg a)
    (hc : d.img.cfg = d'.img.cfg) (he : ∀ a, 0x2000 ≤ a → a < 0x3000 → e'.reg a = e.reg a) : FrameBegun f d' e' := by
  have ok : d.standbyOk = d'.standbyOk := Dev.standbyOk_congr (fun a hl ha _ => hd a hl ha) hc
  have pending : d.bit Fd.RACK_STATUS_SWAP_PENDING = d'.bit Fd.RACK_STATUS_SWAP_PENDING :=
    Dev.bit_congr (hd _ (by decide) (by decide))
  have active (x y : Dev) (hxy : ∀ a, 0x2000 ≤ a → a < 0x3000 → x.reg a = y.reg a) (w : Nat) (hw : w < 128) :
      x.reg (Reg.RACK_ACTIVEw w) = y.reg (Reg.RACK_ACTIVEw w) ∧ x.reg (Reg.RACK_STBYw w) = y.reg (Reg.RACK_STBYw w) :=
    ⟨hxy _ (by unfold Reg.RACK_ACTIVEw; omega) (by unfold Reg.RACK_ACTIVEw; omega),
      hxy _ (by unfold Reg.RACK_STBYw; omega) (by unfold Reg.RACK_STBYw; omega)⟩
  obtain ⟨frame, settled, done, refused, kept⟩ := h
  rw [ok, pending] at *
  refine ⟨(Dev.fld_congr (he _ (by decide) (by decide))).trans frame, (Dev.bit_congr (he _ (by decide) (by decide))).trans settled,
    fun hp hs => ?_, fun hp hs => (Dev.bit_congr (he _ (by decide) (by decide))).trans (refused hp hs), fun hk w hw => ?_⟩
  · obtain ⟨evt, words⟩ := done hp hs
    refine ⟨(Dev.bit_congr (he _ (by decide) (by decide))).trans evt, fun w hw => ?_⟩
    obtain ⟨ha, hb⟩ := words w hw
    exact ⟨(active e' e he w hw).1.trans (ha.trans (active d d' hd w hw).2),
      (active e' e he w hw).2.trans (hb.trans (active d d' hd w hw).1)⟩
  · obtain ⟨ha, hb⟩ := kept hk w hw
    exact ⟨(active e' e he w hw).1.trans (ha.trans (active d d' hd w hw).1),
      (active e' e he w hw).2.trans (hb.trans (active d d' hd w hw).2)⟩

theorem Dev.standbyOk_asked {b : Bool} : (d.putB Fd.RACK_STATUS_SWAP_PENDING b).standbyOk = d.standbyOk := by
  refine Dev.standbyOk_congr (fun a _ _ ha => Dev.reg_putB_other ha) ?_
  rw [Dev.putB_img]

theorem Dev.rackSettle_swap (hp : d.bit Fd.RACK_STATUS_SWAP_PENDING = true) (hs : d.standbyOk = true) : d.rackSettle =
    ((upTo 128).foldl Dev.swapWord (d.putB Fd.RACK_STATUS_SWAP_PENDING false)).evt Fd.RACK_EVT_SWAP_DONE := by
  simp [Dev.rackSettle, hp, Dev.standbyOk_asked, hs]

theorem Dev.rackSettle_refuse (hp : d.bit Fd.RACK_STATUS_SWAP_PENDING = true) (hs : d.standbyOk = false) : d.rackSettle =
    (d.putB Fd.RACK_STATUS_SWAP_PENDING false).evt Fd.RACK_EVT_REFUSED := by
  simp [Dev.rackSettle, hp, Dev.standbyOk_asked, hs]

theorem Dev.rackSettle_none (hp : d.bit Fd.RACK_STATUS_SWAP_PENDING = false) : d.rackSettle = d := by
  simp [Dev.rackSettle, hp]

/-- The tables stand above the Rack's other registers. -/
theorem below_rackTables (ha : a < 0x2400) : a ≠ Reg.RACK_ACTIVEw w ∧ a ≠ Reg.RACK_STBYw w := by
  unfold Reg.RACK_ACTIVEw Reg.RACK_STBYw; omega

/-- A register below the tables that is written leaves them. -/
theorem Dev.tables_put {g : Fld} (hg : g.addr < 0x2400) : (d.put g v).reg (Reg.RACK_ACTIVEw w) = d.reg (Reg.RACK_ACTIVEw w) ∧
    (d.put g v).reg (Reg.RACK_STBYw w) = d.reg (Reg.RACK_STBYw w) :=
  ⟨Dev.reg_put_other (below_rackTables hg).1.symm, Dev.reg_put_other (below_rackTables hg).2.symm⟩

/-- R70: the pending swap is settled before the frame number shows. -/
theorem Dev.rackFrame_begun : FrameBegun f d (d.rackFrame f) := by
  have frame : (d.rackFrame f).fld Fd.RACK_FRAME_FRAME = f % 2 ^ 32 := Dev.fld_put_same (by decide)
  have shown (g : Fld) (hg : g.addr ≠ Reg.RACK_FRAME) : (d.rackFrame f).bit g = d.rackSettle.bit g :=
    Dev.bit_congr (Dev.reg_put_other hg)
  have tables (w : Nat) : (d.rackFrame f).reg (Reg.RACK_ACTIVEw w) = d.rackSettle.reg (Reg.RACK_ACTIVEw w) ∧
      (d.rackFrame f).reg (Reg.RACK_STBYw w) = d.rackSettle.reg (Reg.RACK_STBYw w) := by
    rw [Dev.rackFrame]
    exact Dev.tables_put (by decide)
  let p := d.putB Fd.RACK_STATUS_SWAP_PENDING false
  have asked : p.bit Fd.RACK_STATUS_SWAP_PENDING = false := Dev.bit_putB_same (by decide) rfl
  have before (w : Nat) := Dev.tables_put (d := d) (v := b2n false) (w := w) (show Fd.RACK_STATUS_SWAP_PENDING.addr < 0x2400 by decide)
  cases hp : d.bit Fd.RACK_STATUS_SWAP_PENDING with
  | false =>
    rw [Dev.rackSettle_none hp] at tables shown
    refine ⟨frame, ?_, by simp [hp], by simp [hp], fun _ w _ => ?_⟩
    · rw [shown _ (by decide), hp]
    · exact tables w
  | true =>
    cases hs : d.standbyOk with
    | false =>
      rw [Dev.rackSettle_refuse hp hs] at tables shown
      refine ⟨frame, ?_, by simp [hs], fun _ _ => ?_, fun _ w _ => ?_⟩
      · rw [shown _ (by decide), Dev.bit_evt_other (by decide) rfl (by decide)]
        exact asked
      · rw [shown _ (by decide)]
        exact Dev.bit_evt_same (by decide) rfl
      · have event := Dev.tables_put (d := p) (v := b2n true) (w := w) (show Fd.RACK_EVT_REFUSED.addr < 0x2400 by decide)
        exact ⟨(tables w).1.trans (event.1.trans (before w).1), (tables w).2.trans (event.2.trans (before w).2)⟩
    | true =>
      rw [Dev.rackSettle_swap hp hs] at tables shown
      have words : Swapped 128 p ((upTo 128).foldl Dev.swapWord p) := Dev.swapWords_swapped (Nat.le_refl _)
      refine ⟨frame, ?_, fun _ _ => ⟨?_, fun w hw => ?_⟩, by simp [hs], by simp [hp, hs]⟩
      · rw [shown _ (by decide), Dev.bit_evt_other (by decide) rfl (by decide)]
        exact (Dev.bit_congr (words.other _ fun _ _ => below_rackTables (by decide))).trans asked
      · rw [shown _ (by decide)]
        exact Dev.bit_evt_same (by decide) rfl
      · have event := Dev.tables_put (d := (upTo 128).foldl Dev.swapWord p) (v := b2n true) (w := w)
          (show Fd.RACK_EVT_SWAP_DONE.addr < 0x2400 by decide)
        exact ⟨(tables w).1.trans (event.1.trans ((words.active w hw).trans (before w).2)),
          (tables w).2.trans (event.2.trans ((words.standby w hw).trans (before w).1))⟩

/-- R60: nothing that follows in the frame start touches the Rack. -/
theorem Dev.frameStart_begun : FrameBegun (f / 65536) d (d.frameStart f) := by
  have steady := Dev.copies_steady (d := d) (f := f)
  have rest : Apart 8 (d.frameHead f) (d.frameStart f) := Apart.frameStart_head (Nat.le_refl 8)
  exact (Dev.rackFrame_begun (d := d.each copyIslands (fun d i => d.copyCheck f i))).congr
    (fun a hl ha => steady.reg a (by omega) (by unfold Reg.CLK_EVT; omega)) (congrArg ImgSt.cfg steady.img)
    (fun a hl ha => rest.reg a (by omega) ha)

end Sys2Proof.Machine
end

section
/-! The Rack's slots (R61, R63), and the Rack's frames and slots together. -/
namespace Sys2Proof.Machine
variable {d e : Dev} {env : Env} {code param t : Nat}

/-! ### The start of a slot (R61, R63) -/

theorem Dev.leaseSlot_regs : d.leaseSlot.regs = d.regs := by
  unfold Dev.leaseSlot; split <;> rfl

theorem Dev.leaseSlot_pwr : d.leaseSlot.pwr = d.pwr := by
  unfold Dev.leaseSlot; split <;> rfl

theorem Dev.patrolSlot_regs : d.patrolSlot.1.regs = d.regs := by
  unfold Dev.patrolSlot; split <;> rfl

theorem Dev.relocSlot_regs : (d.relocSlot env).1.regs = d.regs := by
  unfold Dev.relocSlot
  lift_lets
  extract_lets fresh
  have kept (l : Nat) : (fresh l).1.regs = d.regs := by
    unfold fresh; split <;> rfl
  split
  · rfl
  · split
    · rfl
    · exact kept _
    · split
      · exact kept _
      · split
        · rfl
        · split
          · split <;> rfl
          · rfl

/-- R61: an activity begins without a register's change. -/
theorem Dev.slotBegin_regs : (d.slotBegin env t code param).1.regs = d.regs := by
  unfold Dev.slotBegin
  split
  · rfl
  split
  · exact Dev.patrolSlot_regs
  split
  · exact Dev.relocSlot_regs
  split
  · rfl
  split
  · rfl
  split
  · split <;> rfl
  · rfl

/-- R63: the domains that a slot needs are those of the power controller. -/
theorem Dev.slotDomains_congr (h : e.pwr.dom = d.pwr.dom) : e.slotDomains code param = d.slotDomains code param := by
  have run (i : Nat) : e.domRun i = d.domRun i := by unfold Dev.domRun; rw [h]
  unfold Dev.slotDomains
  simp only [run]

theorem Dev.slotBegin_idle (h : d.slotDomains code param = false) : d.slotBegin env t code param = (d, false) := by
  simp [Dev.slotBegin, h]

/-- R61: the slot shows its number and its activity's code, and its share of the lease ends. -/
def Dev.slotShown (d : Dev) (n code : Nat) : Dev := ((d.put Fd.RACK_STATUS_CUR_SLOT n).put Fd.RACK_STATUS_CUR_CODE code).leaseSlot

/-- R61, R63: the activity begins or the slot is counted as skipped. -/
def Dev.slotTaken (d : Dev) (e : Env) (t code param : Nat) : Dev :=
  let b := d.slotBegin e t code param
  let d := b.1.modBg (fun g => { g with slot := { code := code, param := param, start := t, live := b.2 } })
  if b.2 then d else d.bump Fd.RACK_SKIP_CNT_SKIP

theorem Dev.slotStart_eq : d.slotStart env t = (d.slotShown (t / 256 % 256) (d.rackEntry (t / 256 % 256) / 4096)).slotTaken env t
    (d.rackEntry (t / 256 % 256) / 4096) (d.rackEntry (t / 256 % 256) % 4096) := (rfl)

theorem Dev.slotTaken_slot : (d.slotTaken env t code param).bg.slot =
    { code := code, param := param, start := t, live := (d.slotBegin env t code param).2 } := by
  unfold Dev.slotTaken
  dsimp only
  split
  next h => simp [Dev.modBg, h]
  next h => simp [Dev.modBg, Dev.bump_bg, h]

/-- R63: a slot that does not begin is counted, and nothing else changes in a register. -/
theorem Dev.slotTaken_fields : FieldsBut d (d.slotTaken env t code param) [Fd.RACK_SKIP_CNT_SKIP] ∧
    (d.slotTaken env t code param).fld Fd.RACK_SKIP_CNT_SKIP = if (d.slotBegin env t code param).2 then
      d.fld Fd.RACK_SKIP_CNT_SKIP else min (2 ^ 32 - 1) (d.fld Fd.RACK_SKIP_CNT_SKIP + 1) := by
  have begun (g : BgSt → BgSt) : ((d.slotBegin env t code param).1.modBg g).regs = d.regs := Dev.slotBegin_regs
  have fields (g : BgSt → BgSt) (f : Fld) : ((d.slotBegin env t code param).1.modBg g).fld f = d.fld f :=
    Dev.fld_congr (Dev.reg_congr (begun g))
  unfold Dev.slotTaken
  dsimp only
  split
  · exact ⟨FieldsBut.of_regs (begun _), fields _ _⟩
  · refine ⟨fun g hg => (Dev.fld_bump_other (by decide) (hg _ (by simp))).trans (fields _ g), ?_⟩
    rw [Dev.fld_bump_same (by decide), fields]
    rfl

theorem Dev.rackEntry_lt {n : Nat} : d.rackEntry n < 65536 := Nat.mod_lt _ (by decide)

theorem Dev.slotShown_fields {n : Nat} :
    FieldsBut d (d.slotShown n code) [Fd.RACK_STATUS_CUR_SLOT, Fd.RACK_STATUS_CUR_CODE] ∧
    (d.slotShown n code).fld Fd.RACK_STATUS_CUR_SLOT = n % 256 ∧ (d.slotShown n code).fld Fd.RACK_STATUS_CUR_CODE = code % 16 := by
  have shown (g : Fld) : (d.slotShown n code).fld g =
      ((d.put Fd.RACK_STATUS_CUR_SLOT n).put Fd.RACK_STATUS_CUR_CODE code).fld g :=
    Dev.fld_congr (Dev.reg_congr Dev.leaseSlot_regs)
  have puts : FieldsBut d ((d.put Fd.RACK_STATUS_CUR_SLOT n).put Fd.RACK_STATUS_CUR_CODE code)
      [Fd.RACK_STATUS_CUR_SLOT, Fd.RACK_STATUS_CUR_CODE] :=
    (FieldsBut.put (f := Fd.RACK_STATUS_CUR_SLOT) (by decide)).andPut (by decide)
  refine ⟨fun g hg => (shown g).trans (puts g hg), ?_, ?_⟩
  · rw [shown, Dev.fld_put_other (by decide) (by decide), Dev.fld_put_same (by decide)]
    rfl
  · rw [shown, Dev.fld_put_same (by decide)]
    rfl

theorem Dev.slotShown_pwr {n : Nat} : (d.slotShown n code).pwr = d.pwr := by
  rw [Dev.slotShown, Dev.leaseSlot_pwr, Dev.put_pwr, Dev.put_pwr]

/-- R61, R63: the slot in progress and what shows it, after the start of slot t / 256. -/
theorem rackSlotStart_spec (d : Dev) (env : Env) (t : Nat) : let n := t / 256 % 256
    let x := d.rackEntry n
    let e := d.slotStart env t
    e.fld Fd.RACK_STATUS_CUR_SLOT = n ∧ e.fld Fd.RACK_STATUS_CUR_CODE = x / 4096 ∧
    e.bg.slot.code = x / 4096 ∧ e.bg.slot.param = x % 4096 ∧ e.bg.slot.start = t ∧
    (d.slotDomains (x / 4096) (x % 4096) = false → e.bg.slot.live = false ∧
      FieldsBut d e [Fd.RACK_STATUS_CUR_SLOT, Fd.RACK_STATUS_CUR_CODE, Fd.RACK_SKIP_CNT_SKIP]) ∧
    e.fld Fd.RACK_SKIP_CNT_SKIP =
      if e.bg.slot.live then d.fld Fd.RACK_SKIP_CNT_SKIP else min (2 ^ 32 - 1) (d.fld Fd.RACK_SKIP_CNT_SKIP + 1) := by
  intro n x
  have hx : x < 65536 := Dev.rackEntry_lt
  obtain ⟨frame, hslot, hcode⟩ := Dev.slotShown_fields (d := d) (n := n) (code := x / 4096)
  have hpwr : (d.slotShown n (x / 4096)).pwr.dom = d.pwr.dom := by rw [Dev.slotShown_pwr]
  have eq : d.slotStart env t = (d.slotShown n (x / 4096)).slotTaken env t (x / 4096) (x % 4096) := Dev.slotStart_eq
  rw [eq]
  generalize d.slotShown n (x / 4096) = y at frame hslot hcode hpwr ⊢
  obtain ⟨taken, skips⟩ := Dev.slotTaken_fields (d := y) (env := env) (t := t) (code := x / 4096) (param := x % 4096)
  rw [frame _ (by decide)] at skips
  dsimp only
  rw [Dev.slotTaken_slot]
  refine ⟨?_, ?_, rfl, rfl, rfl, fun h => ⟨?_, frame.trans taken⟩, skips⟩
  · rw [taken _ (by decide), hslot]; omega
  · rw [taken _ (by decide), hcode]; omega
  · rw [Dev.slotBegin_idle ((Dev.slotDomains_congr hpwr).trans h)]

/-- Settles O26: a frame start settles the swap before anything else of it, and no part of it after that touches the Rack. -/
theorem rackFramesAndSlots : Obligations.RackFramesAndSlots := by
  refine ⟨fun s hf ht hr => ?_, fun s hs ht => ⟨{ s with dev := s.dev.slotStart s.env s.env.tick }, ?_, ⟨rfl, rfl, rfl⟩,
    rackSlotStart_spec s.dev s.env s.env.tick⟩⟩
  · obtain ⟨frame, settled, done, refused, kept⟩ := Dev.frameStart_begun (d := s.dev) (f := s.env.tick)
    exact ⟨_, execRackFrameStart_eq hf ht hr, ⟨rfl, rfl, rfl⟩, frame, settled, done, refused, kept⟩
  · show execRackSlotStart s = _
    simp [execRackSlotStart, onDev, hs, ht]

end Sys2Proof.Machine
end

section
/-! Flash devices (R77, R356, R403): every write and every erasure keeps their canonical form (log entry 3), and no other
command reaches them. -/
namespace Sys2Proof.Machine

/-- Both flash devices stand in their canonical form (log entry 3). -/
def Env.FlashWf (e : Env) : Prop := Store.wf erased e.nor = true ∧ Store.wf erased e.nand = true

variable {e e' : Env} {d : Dev} {s t : State}

/-! ### Writes and erasures -/

theorem Env.FlashWf.nandProgram {row : Nat} {data : List Byte} (h : e.FlashWf) : (e.nandProgram row data).FlashWf :=
  ⟨h.1, Store.wf_setList _ _ _ h.2⟩

theorem Env.FlashWf.nandErase {block : Nat} (h : e.FlashWf) : (e.nandErase block).FlashWf := ⟨h.1, Store.wf_clear h.2⟩

theorem Env.FlashWf.markBad {block : Nat} (h : e.FlashWf) : (e.markBad block).FlashWf := by
  refine ⟨h.1, ?_⟩
  unfold Env.markBad
  dsimp only
  exact Store.wf_set h.2

/-- R403: an operation of the service interface programs, erases or leaves a device. -/
theorem Env.FlashWf.flashDone {f : FlashOp} (h : e.FlashWf) : (flashDone e d f).1.FlashWf := by
  unfold Sys2Proof.Machine.flashDone
  split
  · split
    · exact h
    split
    · exact h.nandErase
    · exact h.nandProgram
  split
  · exact h
  split
  · exact ⟨Store.wf_clear h.1, h.2⟩
  split
  · refine ⟨?_, h.2⟩
    dsimp only
    exact Store.wf_setList _ _ _ h.1
  · exact h

/-- R401: fuses are no part of a flash device. -/
theorem OnlyFuses.flashWf (hf : OnlyFuses e e') (h : e.FlashWf) : e'.FlashWf := by
  rw [hf]; exact h

/-! ### Commands -/

theorem onEnvDev_flashWf {f : Env → Dev → Env × Dev} (hf : (f s.env s.dev).1.FlashWf) (h : onEnvDev s f = .next t) :
    t.env.FlashWf := by
  cases h; exact hf

theorem onWrite_flashWf {p a v : Nat} (hs : s.env.FlashWf) (h : onWrite s p a v = .next t) : t.env.FlashWf := by
  refine onEnvDev_flashWf ?_ h
  split
  · exact (accessWrite_onlyFuses ..).flashWf hs
  · exact hs

theorem hostFrame_flashWf {p c crc : Nat} {data : List Word} (h : e.FlashWf) : (hostFrame e d p c data crc).1.FlashWf :=
  hostFrame_keeps (fun _ _ _ _ he => (accessWrite_onlyFuses ..).flashWf he) h

theorem flashOpDone_flashWf {ok : Bool} (hs : s.env.FlashWf) (h : execFlashOpDone ok s = .next t) : t.env.FlashWf := by
  refine onEnvDev_flashWf ?_ h
  split
  · split
    · cases ok
      · simp only [Bool.false_eq_true, if_false]; split <;> exact hs
      · simp only [if_true]; split <;> exact hs.flashDone
    · exact hs
  · exact hs

/-- R365: an erasure that succeeded erases its block; of those that failed, a block of the store is marked bad. -/
theorem nandEraseDone_flashWf {ok : Bool} (hs : s.env.FlashWf) (h : execNandEraseDone ok s = .next t) : t.env.FlashWf := by
  have erasedOrBad (b : Nat) : (if ok then s.env.nandErase b else s.env.markBad b).FlashWf := by
    split
    · exact hs.nandErase
    · exact hs.markBad
  refine onEnvDev_flashWf ?_ h
  dsimp only
  split
  · exact hs
  split
  · exact erasedOrBad _
  · exact erasedOrBad _
  · split
    · exact hs.nandErase
    · exact hs
  · exact erasedOrBad _
  · exact erasedOrBad _
  · dsimp only
    split
    · exact hs.nandErase
    · exact hs
  · exact hs

/-- R365: a program operation writes its page; one that failed may mark its block bad. -/
theorem nandProgramDone_flashWf {ok : Bool} (hs : s.env.FlashWf) (h : execNandProgramDone ok s = .next t) :
    t.env.FlashWf := by
  refine onEnvDev_flashWf ?_ h
  split
  · exact hs
  split
  · split
    · exact hs.nandProgram
    · exact hs.markBad
  · split
    · exact hs.nandProgram
    · exact hs
  · exact hs
  · exact hs
  · exact hs

/-- The commands that reach outside the controller keep the devices canonical; every other one changes the controller or
one companion. -/
theorem exec_flashWf {i : Instr} (hs : s.env.FlashWf) (h : exec i s = .next t) : t.env.FlashWf := by
  cases i with
  | tick | releaseTick | mainOscLock =>
    cases h
    dsimp only
    split <;> exact hs
  | hostWriteFrame | hostReadFrame =>
    cases h
    dsimp only
    split
    · exact hostFrame_flashWf hs
    · exact hs
  | nandEraseDone ok => exact nandEraseDone_flashWf hs h
  | nandProgramDone ok => exact nandProgramDone_flashWf hs h
  | flashOpDone ok => exact flashOpDone_flashWf hs h
  | registerWrite | lockOpen | lockCommit | lockAbort | firCdataWrite | firCopyGo | firBankRequest | olBankRequest | rackSwap
  | rackAbort | injGo | injAbort | capArm | capAbort | diagCrstWrite | svcClose | svcTryPass | svcTryResp | svcReqChal
  | svcCommit | norRead | norErase | norProgram | norVerify | nandRead | nandErase | nandProgram | nandVerify | svcPinGo
  | svcPinStop => exact onWrite_flashWf hs h
  | svcFlDataAccess p wr =>
    cases wr with
    | none => cases h; exact hs
    | some v => exact onWrite_flashWf hs h
  | mailboxInvalidCode p code arg tag =>
    change execMailboxInvalidCode p code arg tag s = .next t at h
    unfold execMailboxInvalidCode at h
    split at h <;> (cases h; exact hs)
  | _ => cases h; exact hs

/-- Settles O4: a step is idle or a command, and every command keeps the canonical form. -/
theorem flashStoresStayCanonical : Obligations.FlashStoresStayCanonical := by
  intro s t hnor hnand h
  unfold step at h
  split at h
  next => cases h; exact ⟨hnor, hnand⟩
  next rest _ => exact exec_flashWf (s := { s with pending := rest }) ⟨hnor, hnand⟩ h

end Sys2Proof.Machine
end

section
/-! Power-on reset (R72, R429). -/
namespace Sys2Proof.Machine

/-- R12: no register is listed in the reset state, so each reads its reset word. -/
theorem Dev.reg_reset (c : Bool) (fuses : Fuses) (a : Nat) : (Dev.reset c fuses).reg a = resetWord a := rfl

/-- R56: of the power domains AON alone runs after power-on reset. -/
theorem Dev.domRun_reset (c : Bool) (fuses : Fuses) : ∀ i, i < 16 → ((Dev.reset c fuses).domRun i = true ↔ i = domAon) := by
  have power : ∀ i, i < 16 → (decide (vat (Power.reset c).dom i = .run) = true ↔ i = domAon) := by
    cases c <;> decide
  exact power

/-- Settles O8: what stands outside the controller but the time base is not touched, and the controller is the reset one. -/
theorem powerOnResetRestarts : Obligations.PowerOnResetRestarts := by
  intro c s
  exact ⟨{ s with env := { s.env with tick := 0, started := false, lockTicks := 0 }, dev := Dev.reset c s.env.fuses }, rfl,
    rfl, rfl, rfl, rfl, rfl, rfl, rfl, rfl, rfl, rfl, rfl, rfl, Dev.reg_reset c _, Dev.domRun_reset c _⟩

end Sys2Proof.Machine
end

section
/-! Image selection and the standby check (R81, R94, R95, R98, R452): what a header shows in its slot's registers, the order
of the candidates, and the slot that was not loaded. -/
namespace Sys2Proof.Machine

variable {d : Dev} {e : Env} {c : Bool} {r : Nat} {errs : List ByteErr} {s : State}

/-! ### The registers of a slot (R94) -/

/-- The PROFILE field of a slot. -/
def profileField (slotB : Bool) : Fld := if slotB then Fd.IMG_SLOT_B_PROFILE else Fd.IMG_SLOT_A_PROFILE

/-- The SEQ field of a slot. -/
def seqField (slotB : Bool) : Fld := if slotB then Fd.IMG_SEQ_B_SEQ else Fd.IMG_SEQ_A_SEQ

/-- The fields that the header of a slot may change. -/
def headFields (slotB : Bool) : List Fld := [profileField slotB, seqField slotB, resultField slotB, Fd.IMG_EVT_REFUSED]

theorem Dev.slotResult_fld (h : r < 16) : (d.slotResult c r).fld (resultField c) = r := by
  unfold Dev.slotResult Dev.evtIf
  split
  · exact (Dev.fld_evt_other (by decide) (by cases c <;> decide)).trans (Dev.fld_put_result h)
  · exact Dev.fld_put_result h

theorem Dev.slotResult_only : OnlyFields d (d.slotResult c r) [resultField c, Fd.IMG_EVT_REFUSED] := by
  have shown : OnlyFields d (d.put (resultField c) r) [resultField c] := OnlyFields.put (resultField_fits c)
  unfold Dev.slotResult Dev.evtIf
  split
  · exact shown.andPut (by decide)
  · exact ⟨shown.1, shown.2.mono (by simp)⟩

theorem Dev.slotHeader_only {l : List Nat} : OnlyFields d (d.slotHeader c l) [profileField c, seqField c] :=
  OnlyFields.put_put (f := profileField c) (g := seqField c) (by cases c <;> decide) (by cases c <;> decide)

/-- R81: SEQ of a slot is its header's, and 0 for a header that failed check 2. -/
theorem Dev.slotHeader_seq {l : List Nat} :
    (d.slotHeader c l).fld (seqField c) = if headerOk l then (readHeader l).seq % 2 ^ 32 else 0 := by
  have hw : (seqField c).w = 32 := by cases c <;> rfl
  have shown (v : Nat) : ((d.put (profileField c) (if headerOk l then (readHeader l).profile else 0)).put (seqField c)
      v).fld (seqField c) = v % 2 ^ 32 := by
    rw [Dev.fld_put_same (by cases c <;> decide), hw]
  refine (shown _).trans ?_
  split <;> rfl

/-! ### A header is read (R94, checks 1 to 3) -/

theorem headerResult_lt {m : Nat} {l : List Nat} : headerResult m l < 16 := by
  unfold headerResult
  split_ifs <;> decide

theorem Dev.readHead_passed (h : headerResult e.fuses.maxProfile.toNat (e.slotBytes c 64 errs) = 1) :
    d.readHead e c errs = (d.slotHeader c (e.slotBytes c 64 errs), true) := by
  simp [Dev.readHead, h, resAccepted]

theorem Dev.readHead_failed (h : headerResult e.fuses.maxProfile.toNat (e.slotBytes c 64 errs) ≠ 1) :
    d.readHead e c errs = ((d.slotHeader c (e.slotBytes c 64 errs)).slotResult c
      (headerResult e.fuses.maxProfile.toNat (e.slotBytes c 64 errs)), false) := by
  simp [Dev.readHead, h, resAccepted]

/-- A header touches the fields of its own slot and IMG_EVT.REFUSED. -/
theorem Dev.readHead_only : OnlyFields d (d.readHead e c errs).1 (headFields c) := by
  by_cases h : headerResult e.fuses.maxProfile.toNat (e.slotBytes c 64 errs) = 1
  · rw [Dev.readHead_passed h]
    exact ⟨Dev.slotHeader_only.1, Dev.slotHeader_only.2.mono (by simp [headFields])⟩
  · rw [Dev.readHead_failed h]
    exact Dev.slotHeader_only.trans Dev.slotResult_only

theorem Dev.readHead_seq : (d.readHead e c errs).1.fld (seqField c) =
    if headerOk (e.slotBytes c 64 errs) then (readHeader (e.slotBytes c 64 errs)).seq % 2 ^ 32 else 0 := by
  by_cases h : headerResult e.fuses.maxProfile.toNat (e.slotBytes c 64 errs) = 1
  · rw [Dev.readHead_passed h]
    exact Dev.slotHeader_seq
  · rw [Dev.readHead_failed h, Dev.slotResult_only.2 _ (by cases c <;> decide)]
    exact Dev.slotHeader_seq

theorem Dev.readHead_result (h : headerResult e.fuses.maxProfile.toNat (e.slotBytes c 64 errs) ≠ 1) :
    (d.readHead e c errs).1.fld (resultField c) = headerResult e.fuses.maxProfile.toNat (e.slotBytes c 64 errs) := by
  rw [Dev.readHead_failed h]
  exact Dev.slotResult_fld headerResult_lt

/-! ### The order of the candidates (R95) -/

/-- R95: the slots whose headers passed, the highest SEQ first, slot A first on equal SEQ. -/
def Dev.candidates (d : Dev) (okA okB : Bool) : List Bool :=
  if okA && okB then (if decide (d.fld Fd.IMG_SEQ_B_SEQ ≤ d.fld Fd.IMG_SEQ_A_SEQ) then [false, true] else [true, false])
  else if okA then [false] else if okB then [true] else []

/-- The candidates stand in the image state, the first of them named. -/
def Dev.lineUp (d : Dev) (l : List Bool) : Dev := { d with img := { d.img with cands := l, first := l.head? } }

theorem Dev.orderCandidates_eq {okA okB : Bool} :
    d.orderCandidates okA okB = (d.lineUp (d.candidates okA okB)).nextCandidate := rfl

/-- Going on changes registers and the image state alone. -/
theorem Dev.nextCandidate_frame : d.nextCandidate = { d with regs := d.nextCandidate.regs, img := d.nextCandidate.img } := by
  cases hc : d.img.cands with
  | cons x rest => rw [Dev.nextCandidate_cons hc]
  | nil =>
    rw [Dev.nextCandidate_nil hc]
    unfold Dev.noImage Dev.when
    split <;> rfl

theorem Dev.orderCandidates_reg {okA okB : Bool} {a : Nat} (h : a ≠ Reg.SYS_STATE) :
    (d.orderCandidates okA okB).reg a = d.reg a := Dev.nextCandidate_reg h

theorem Dev.orderCandidates_cons {okA okB x : Bool} {rest : List Bool} (h : d.candidates okA okB = x :: rest) :
    (d.orderCandidates okA okB).img.phase = .validate x ∧ (d.orderCandidates okA okB).img.cands = rest := by
  rw [Dev.orderCandidates_eq, h, Dev.nextCandidate_cons rfl]
  exact ⟨rfl, rfl⟩

/-- R97: without a candidate selection ends, and POWER_UP becomes NO_IMAGE. -/
theorem Dev.orderCandidates_none : (d.orderCandidates false false).img.phase = .done ∧
    (d.fld Fd.SYS_STATE_STATE = 0 → (d.orderCandidates false false).fld Fd.SYS_STATE_STATE = 8) := by
  have h : (d.lineUp (d.candidates false false)).img.cands = [] := rfl
  rw [Dev.orderCandidates_eq, Dev.nextCandidate_nil h]
  exact ⟨Dev.noImage_phase, fun h0 => Dev.noImage_sysState.trans (if_pos h0)⟩

/-! ### Selection -/

/-- R95: slot A's header is known: slot B's is read. -/
def Dev.afterHeadA (d : Dev) (e : Env) (errs : List ByteErr) : Dev :=
  let x := (d.readHead e false errs).1
  { x with img := { x.img with phase := .header true, cands := if (d.readHead e false errs).2 then [false] else [] } }

/-- R95: slot B's header is known too. -/
def Dev.afterHeadB (d : Dev) (e : Env) (errs : List ByteErr) : Dev :=
  (d.readHead e true errs).1.orderCandidates (!d.img.cands.isEmpty) (d.readHead e true errs).2

theorem exec_headerA (h : s.dev.img.phase = .header false) :
    exec (.headerReadDone errs) s = .next { s with dev := s.dev.afterHeadA s.env errs } := by
  show execHeaderReadDone errs s = _
  simp only [execHeaderReadDone, onDev, h]
  rfl

theorem exec_headerB (h : s.dev.img.phase = .header true) :
    exec (.headerReadDone errs) s = .next { s with dev := s.dev.afterHeadB s.env errs } := by
  show execHeaderReadDone errs s = _
  simp only [execHeaderReadDone, onDev, h]
  rfl

theorem Dev.afterHeadA_cands : (d.afterHeadA e errs).img.cands =
    if headerResult e.fuses.maxProfile.toNat (e.slotBytes false 64 errs) = 1 then [false] else [] := by
  unfold Dev.afterHeadA
  by_cases h : headerResult e.fuses.maxProfile.toNat (e.slotBytes false 64 errs) = 1
  · rw [Dev.readHead_passed h, if_pos h]
    rfl
  · rw [Dev.readHead_failed h, if_neg h]
    rfl

theorem Dev.afterHeadA_only :
    OnlyFields { d with img := (d.afterHeadA e errs).img } (d.afterHeadA e errs) (headFields false) := by
  obtain ⟨hregs, hfields⟩ := Dev.readHead_only (d := d) (e := e) (c := false) (errs := errs)
  refine ⟨?_, hfields⟩
  unfold OnlyRegs at *
  unfold Dev.afterHeadA
  dsimp only
  rw [hregs]

theorem Dev.afterHeadB_frame :
    d.afterHeadB e errs = { d with regs := (d.afterHeadB e errs).regs, img := (d.afterHeadB e errs).img } := by
  have hregs : OnlyRegs d (d.readHead e true errs).1 := Dev.readHead_only.1
  unfold OnlyRegs at hregs
  unfold Dev.afterHeadB
  rw [Dev.orderCandidates_eq, Dev.nextCandidate_frame]
  unfold Dev.lineUp
  rw [hregs]

theorem Dev.afterHeadB_reg {a : Nat} (h : a ≠ Reg.SYS_STATE) :
    (d.afterHeadB e errs).reg a = (d.readHead e true errs).1.reg a := Dev.orderCandidates_reg h

/-- Settles O16: each header shows itself in its slot, and the second one puts the candidates in order. -/
theorem selectionOrdersTheCandidates : Obligations.SelectionOrdersTheCandidates := by
  refine ⟨fun s hp hst hn hsh hl => ?_, fun errs s => ⟨fun hp => ?_, fun hp => ?_⟩⟩
  · refine ⟨{ s with dev := s.dev.imgPhase (.header false) }, ?_, ⟨rfl, rfl, rfl⟩, rfl⟩
    have hlid : s.dev.domRun domLid = true ∨ domSt s.dev domLid = .faultOff := hl.imp_left fun h => decide_eq_true h
    show execImageSelectionStart s = _
    simp [execImageSelectionStart, onDev, hp, hst, hn, hsh, hlid]
  · refine ⟨_, exec_headerA hp, ⟨rfl, rfl, rfl⟩, rfl, ⟨Dev.afterHeadA_cands, fun h => Dev.readHead_result h,
      Dev.readHead_seq⟩, Dev.afterHeadA_only.2.mono ?_, Dev.afterHeadA_only.1⟩
    simp [headFields, profileField, seqField, resultField]
  · refine ⟨_, exec_headerB hp, ⟨rfl, rfl, rfl⟩, ?_, Dev.afterHeadB_frame⟩
    have hA : (s.dev.afterHeadB s.env errs).fld Fd.IMG_SEQ_A_SEQ = (s.dev.readHead s.env true errs).1.fld Fd.IMG_SEQ_A_SEQ :=
      Dev.fld_congr (Dev.afterHeadB_reg (by decide))
    have hB : (s.dev.afterHeadB s.env errs).fld Fd.IMG_SEQ_B_SEQ = (s.dev.readHead s.env true errs).1.fld Fd.IMG_SEQ_B_SEQ :=
      Dev.fld_congr (Dev.afterHeadB_reg (by decide))
    have hsys : (s.dev.readHead s.env true errs).1.fld Fd.SYS_STATE_STATE = s.dev.fld Fd.SYS_STATE_STATE :=
      Dev.readHead_only.2 _ (by decide)
    have passed (h : headerResult s.env.fuses.maxProfile.toNat (s.env.slotBytes true 64 errs) = 1) :
        (s.dev.readHead s.env true errs).2 = true := by rw [Dev.readHead_passed h]
    have refused (h : headerResult s.env.fuses.maxProfile.toNat (s.env.slotBytes true 64 errs) ≠ 1) :
        (s.dev.readHead s.env true errs).2 = false := by rw [Dev.readHead_failed h]
    refine ⟨hA.trans (Dev.readHead_only.2 _ (by decide)), hB.trans Dev.readHead_seq, fun h => ?_, fun hc h hle => ?_,
      fun hc h hlt => ?_, fun hc h => ?_, fun hc h => ?_, fun hc h => ?_⟩
    · exact (Dev.fld_congr (Dev.afterHeadB_reg (by decide))).trans (Dev.readHead_result h)
    · rw [hA, hB] at hle
      exact Dev.orderCandidates_cons (by simp [Dev.candidates, hc, passed h, hle])
    · rw [hA, hB] at hlt
      exact Dev.orderCandidates_cons (by simp [Dev.candidates, hc, passed h, hlt])
    · exact Dev.orderCandidates_cons (by simp [Dev.candidates, hc, refused h])
    · exact Dev.orderCandidates_cons (by simp [Dev.candidates, hc, passed h])
    · have ends := Dev.orderCandidates_none (d := (s.dev.readHead s.env true errs).1)
      unfold Dev.afterHeadB
      rw [hc, refused h, ← hsys]
      exact ends

/-! ### The standby check (R98) -/

theorem ImgPass.result_lt {p : ImgPass} {f : Fuses} : p.result f < 16 := by
  have records : p.records < 16 := by
    unfold ImgPass.records
    split_ifs <;> decide
  unfold ImgPass.result
  split_ifs
  · exact records
  all_goals decide

/-- R94: to tell which record failed changes registers alone. -/
theorem Dev.when_slotError_only {b : ImgBuild} {q : Bool} : OnlyRegs d (d.when q (fun d => d.slotError c b)) := by
  unfold Dev.when Dev.slotError
  split
  · split <;> rfl
  · rfl

/-- R98: a check shows its result in the slot's registers, and changes registers alone. -/
theorem Dev.checkSlot_spec : OnlyRegs d (d.checkSlot e c errs).1 ∧
    (d.checkSlot e c errs).1.fld (resultField c) = (d.checkSlot e c errs).2 := by
  unfold Dev.checkSlot
  generalize imagePass e c errs = p
  by_cases h : headerResult e.fuses.maxProfile.toNat (e.slotBytes c 64 []) = 1
  · rw [Dev.readHead_passed h]
    exact ⟨(Dev.slotHeader_only.1.trans Dev.when_slotError_only).trans Dev.slotResult_only.1,
      Dev.slotResult_fld ImgPass.result_lt⟩
  · rw [Dev.readHead_failed h]
    exact ⟨Dev.slotHeader_only.1.trans Dev.slotResult_only.1, Dev.slotResult_fld headerResult_lt⟩

/-- R98: the registers once the check of a slot has given result `r`. -/
def Dev.showStandby (d : Dev) (r : Nat) : Dev :=
  let d := d.putB Fd.IMG_STATUS_STANDBY_DONE true
  if r == resAccepted then d.putB Fd.IMG_STATUS_SINGLE false else (d.putB Fd.IMG_STATUS_SINGLE true).evt Fd.IMG_EVT_SINGLE

theorem Dev.showStandby_accepted : d.showStandby 1 =
    (d.putB Fd.IMG_STATUS_STANDBY_DONE true).putB Fd.IMG_STATUS_SINGLE false := rfl

theorem Dev.showStandby_refused (h : r ≠ 1) : d.showStandby r =
    ((d.putB Fd.IMG_STATUS_STANDBY_DONE true).putB Fd.IMG_STATUS_SINGLE true).evt Fd.IMG_EVT_SINGLE := by
  simp [Dev.showStandby, resAccepted, h]

/-- Neither STANDBY_DONE nor SINGLE stands in a slot's register. -/
theorem Dev.showStandby_result : (d.showStandby r).fld (resultField c) = d.fld (resultField c) := by
  have putB (d : Dev) (f : Fld) (b : Bool) (hf : f = Fd.IMG_STATUS_STANDBY_DONE ∨ f = Fd.IMG_STATUS_SINGLE) :
      (d.putB f b).fld (resultField c) = d.fld (resultField c) := by
    rcases hf with rfl | rfl <;> exact Dev.fld_putB_other (by decide) (by cases c <;> decide)
  by_cases h : r = 1
  · subst h
    rw [Dev.showStandby_accepted, putB _ _ _ (.inr rfl), putB _ _ _ (.inl rfl)]
  · rw [Dev.showStandby_refused h, Dev.fld_evt_other (by decide) (by cases c <;> decide), putB _ _ _ (.inr rfl),
      putB _ _ _ (.inl rfl)]

/-- R98: SINGLE stands for a slot that shows another result than ACCEPTED. -/
theorem Dev.showStandby_spec (hr : d.fld (resultField c) = r) : OnlyRegs d (d.showStandby r) ∧
    (d.showStandby r).bit Fd.IMG_STATUS_STANDBY_DONE = true ∧
    ((d.showStandby r).bit Fd.IMG_STATUS_SINGLE = true ↔ (d.showStandby r).fld (resultField c) ≠ 1) ∧
    ((d.showStandby r).fld (resultField c) ≠ 1 → (d.showStandby r).bit Fd.IMG_EVT_SINGLE = true) := by
  rw [Dev.showStandby_result, hr]
  by_cases h : r = 1
  · subst h
    rw [Dev.showStandby_accepted]
    refine ⟨rfl, ?_, ?_, fun h => absurd rfl h⟩
    · rw [Dev.bit_putB_other (by decide) rfl (by decide), Dev.bit_putB_same (by decide) rfl]
    · rw [Dev.bit_putB_same (by decide) rfl]
      simp
  · rw [Dev.showStandby_refused h]
    refine ⟨rfl, ?_, ?_, fun _ => Dev.bit_evt_same (by decide) rfl⟩
    · rw [Dev.bit_evt_other (by decide) rfl (by decide), Dev.bit_putB_other (by decide) rfl (by decide),
        Dev.bit_putB_same (by decide) rfl]
    · rw [Dev.bit_evt_other (by decide) rfl (by decide), Dev.bit_putB_same (by decide) rfl]
      simp [h]

theorem Dev.standbyEnd_eq : (d.standbyEnd e c errs).1 =
    { (d.checkSlot e c errs).1.showStandby (d.checkSlot e c errs).2 with
      img := { ((d.checkSlot e c errs).1.showStandby (d.checkSlot e c errs).2).img with standby := none } } := rfl

/-- Settles O20: the check names the slot that was not loaded, and SINGLE follows the result that it shows. -/
theorem standbyCheckReports : Obligations.StandbyCheckReports := by
  refine ⟨fun s hst hn hno hdone hload => ?_, fun errs c r s hsb hn => ?_⟩
  · refine ⟨{ s with dev := { s.dev with img := { s.dev.img with standby := some (s.dev.otherSlot, false) } } }, ?_,
      ⟨rfl, rfl, rfl⟩, rfl, fun h => ?_, fun h => ?_⟩
    · show execStandbyCheckStart s = _
      simp [execStandbyCheckStart, onDev, hst, hn, hno, hdone, hload]
    · simp [Dev.otherSlot, h]
    · simp [Dev.otherSlot, h]
  · obtain ⟨hcheck, hres⟩ := Dev.checkSlot_spec (d := s.dev) (e := s.env) (c := c) (errs := errs)
    generalize hx : (s.dev.checkSlot s.env c errs).1 = x at hcheck hres
    generalize hr : (s.dev.checkSlot s.env c errs).2 = r' at hres
    obtain ⟨hregs, hdone, hsingle, hevt⟩ := Dev.showStandby_spec hres
    have only := hcheck.trans hregs
    unfold OnlyRegs at only
    refine ⟨{ s with dev := (s.dev.standbyEnd s.env c errs).1 }, ?_, ⟨rfl, rfl, rfl⟩, ?_⟩
    · show execStandbyCheckDone errs s = _
      simp [execStandbyCheckDone, onDev, hsb, hn]
    · rw [Dev.standbyEnd_eq, hx, hr]
      refine ⟨?_, hdone, hsingle, hevt, ?_⟩ <;> rw [only]

end Sys2Proof.Machine
end

section
/-! The end of a start phase (R99, R103, R106, R369): what SYS_STATE and the condition vector touch when they follow a string,
and what a string in START_WAIT or LATCHED shows. -/
namespace Sys2Proof.Machine
variable {d e : Dev} {k f t a : Nat}

/-! ### Folds and bits -/

/-- What the step of one element attains from a standing condition, and every step keeps, the fold attains. -/
theorem Dev.each_attains {I P : Dev → Prop} {g : Dev → Nat → Dev} {i : Nat} (hI : ∀ d j, I d → I (g d j))
    (hset : ∀ d, I d → P (g d i)) (hP : ∀ d j, P d → P (g d j)) :
    ∀ (l : List Nat) (d : Dev), i ∈ l → I d → P (d.each l g) := by
  intro l
  induction l with
  | nil => intro d hi; simp at hi
  | cons j l ih =>
    intro d hi hd
    by_cases h : i = j
    · subst h
      exact Dev.each_keeps hP l _ (hset d hd)
    · exact ih _ (by simpa [h] using hi) (hI d j hd)

theorem mem_positions {p : Nat} (h : p < 7) : p ∈ positions := by simp [positions]; omega

theorem putBit_eq_putBits (n i : Nat) (b : Bool) : putBit n i b = putBits n i 1 (b2n b) := by
  have hb : b2n (tbit n i) = bits n i 1 := by
    rw [tbit_eq_bits]
    have : bits n i 1 < 2 := Nat.mod_lt _ (by decide)
    interval_cases bits n i 1 <;> rfl
  have hv : b2n b % 2 ^ 1 = b2n b := by cases b <;> rfl
  rw [putBit, putBits, hb, hv]

theorem tbit_putBit_same (n i : Nat) (b : Bool) : tbit (putBit n i b) i = b := by
  rw [tbit_eq_bits, putBit_eq_putBits, bits_putBits_same]
  cases b <;> rfl

theorem tbit_putBit_other {n i j : Nat} {b : Bool} (h : j ≠ i) : tbit (putBit n i b) j = tbit n j := by
  rw [tbit_eq_bits, tbit_eq_bits, putBit_eq_putBits]
  rcases Nat.lt_or_gt_of_ne h with h | h
  · rw [bits_putBits_below (by omega)]
  · rw [bits_putBits_above (by omega)]

/-- A bit below the width of a field is the number's own. -/
theorem tbit_mod {n i w : Nat} (h : i < w) : tbit (n % 2 ^ w) i = tbit n i := by
  rw [tbit_eq_bits, tbit_eq_bits, bits_mod (k := w) (by omega) (Nat.mod_mod n (2 ^ w))]

/-! ### SYS_STATE and the condition vector follow (R106, R369) -/

/-- The registers that may change when SYS_STATE follows the strings. -/
def settledRegs : List Nat := [Reg.SYS_STATE, Reg.SYS_EVT, Reg.LID_COND, Reg.LID_FLT_NEW, Reg.LID_EVT]

theorem Dev.sysRunCheck_spec : OnlyRegs d (d.sysRunCheck t) ∧ RegsBut d (d.sysRunCheck t) [Reg.SYS_STATE, Reg.SYS_EVT] ∧
    ∀ g : Fld, g.w = 1 → Fd.SYS_EVT_SYS_RUN.apart g → Fd.SYS_STATE_STATE.apart g → (d.sysRunCheck t).bit g = d.bit g := by
  unfold Dev.sysRunCheck
  dsimp only
  split
  · refine ⟨rfl, fun a ha => ?_, fun g hw hg hs => ?_⟩
    · simp only [List.mem_cons, List.not_mem_nil, or_false, not_or] at ha
      exact (Dev.reg_evt_other ha.2).trans (Dev.reg_put_other ha.1)
    · exact (Dev.bit_evt_other (by decide) hw hg).trans (Dev.bit_put_other (by decide) hw hs)
  · exact ⟨rfl, fun _ _ => rfl, fun _ _ _ _ => rfl⟩

theorem OnlyRegs.evtIf {c : Bool} {g : Fld} : OnlyRegs d (d.evtIf c g) := by
  unfold Dev.evtIf
  split <;> rfl

theorem Dev.formConditions_spec : OnlyRegs d d.formConditions ∧
    RegsBut d d.formConditions [Reg.LID_COND, Reg.LID_FLT_NEW, Reg.LID_EVT] := by
  unfold Dev.formConditions
  refine ⟨(OnlyRegs.put.trans OnlyRegs.put).trans OnlyRegs.evtIf, fun a ha => ?_⟩
  simp only [List.mem_cons, List.not_mem_nil, or_false, not_or] at ha
  obtain ⟨hc, hn, he⟩ := ha
  exact (Dev.reg_evtIf_other he).trans ((Dev.reg_put_other hn).trans (Dev.reg_put_other hc))

/-- SYS_RUN is the one event of the strings that SYS_STATE raises. -/
theorem Dev.sysRunCheck_evt {g : Fld} (ha : g.addr = Reg.SYS_EVT) (hl : g.lo < 2) (hw : g.w = 1) :
    (d.sysRunCheck t).bit g = d.bit g := by
  refine Dev.sysRunCheck_spec.2.2 g hw (.inr (.inr ?_)) (.inl ?_)
  · rw [hw]; exact hl
  · rw [ha]; decide

/-- SYS_STATE follows, and with it the condition vector of the Lid or not. -/
theorem Dev.settled_cases : d.settled t = d.sysRunCheck t ∨ d.settled t = (d.sysRunCheck t).formConditions := by
  unfold Dev.settled
  dsimp only
  split
  · exact .inr rfl
  · exact .inl rfl

theorem Dev.settled_only : OnlyRegs d (d.settled t) := by
  rcases Dev.settled_cases (d := d) (t := t) with h | h <;> rw [h]
  · exact Dev.sysRunCheck_spec.1
  · exact Dev.sysRunCheck_spec.1.trans Dev.formConditions_spec.1

theorem Dev.reg_settled (h : a ∉ settledRegs) : (d.settled t).reg a = d.reg a := by
  simp only [settledRegs, List.mem_cons, List.not_mem_nil, or_false, not_or] at h
  obtain ⟨hs, he, hc, hn, hv⟩ := h
  have run : (d.sysRunCheck t).reg a = d.reg a := Dev.sysRunCheck_spec.2.1 a (by simp [hs, he])
  rcases Dev.settled_cases (d := d) (t := t) with h | h <;> rw [h]
  · exact run
  · exact (Dev.formConditions_spec.2 a (by simp [hc, hn, hv])).trans run

theorem Dev.settled_evt {g : Fld} (ha : g.addr = Reg.SYS_EVT) (hl : g.lo < 2) (hw : g.w = 1) :
    (d.settled t).bit g = d.bit g := by
  rcases Dev.settled_cases (d := d) (t := t) with h | h <;> rw [h]
  · exact Dev.sysRunCheck_evt ha hl hw
  · refine (Dev.bit_congr (Dev.formConditions_spec.2 _ ?_)).trans (Dev.sysRunCheck_evt ha hl hw)
    rw [ha]
    simp [Reg.SYS_EVT, Reg.LID_COND, Reg.LID_FLT_NEW, Reg.LID_EVT]

theorem Dev.settled_str : (d.settled t).str = d.str := by
  have h := Dev.settled_only (d := d) (t := t)
  unfold OnlyRegs at h
  rw [h]

theorem Dev.settled_st : (d.settled t).st k = d.st k := by rw [Dev.st, Dev.settled_str, Dev.st]

theorem Dev.settled_pwr : (d.settled t).pwr = d.pwr := by
  have h := Dev.settled_only (d := d) (t := t)
  unfold OnlyRegs at h
  rw [h]

theorem Dev.settled_img : (d.settled t).img = d.img := by
  have h := Dev.settled_only (d := d) (t := t)
  unfold OnlyRegs at h
  rw [h]

theorem Dev.settled_test : (d.settled t).test = d.test := by
  have h := Dev.settled_only (d := d) (t := t)
  unfold OnlyRegs at h
  rw [h]

theorem Dev.settled_phase : (d.settled t).phase k = d.phase k := by
  refine Dev.fld_congr (Dev.reg_settled (a := Reg.SYS_STR_STATE) ?_)
  simp [settledRegs, Reg.SYS_STR_STATE, Reg.SYS_STATE, Reg.SYS_EVT, Reg.LID_COND, Reg.LID_FLT_NEW, Reg.LID_EVT]

theorem Dev.settled_enHigh : (d.settled t).enHigh k = d.enHigh k := by rw [Dev.enHigh, Dev.settled_pwr, Dev.enHigh]

theorem Dev.settled_startFail : (d.settled t).bit Fd.SYS_EVT_START_FAIL = d.bit Fd.SYS_EVT_START_FAIL :=
  Dev.settled_evt rfl (by decide) rfl

theorem Dev.settled_strRun : (d.settled t).bit Fd.SYS_EVT_STR_RUN = d.bit Fd.SYS_EVT_STR_RUN :=
  Dev.settled_evt rfl (by decide) rfl

/-- A register of the blocks of the strings is none of them. -/
theorem strReg_settled (hl : 0x8000 ≤ a) (ha : a < 0x20000) : a ∉ settledRegs := by
  simp only [settledRegs, List.mem_cons, List.not_mem_nil, or_false, not_or, Reg.SYS_STATE, Reg.SYS_EVT, Reg.LID_COND,
    Reg.LID_FLT_NEW, Reg.LID_EVT]
  omega

/-! ### START_WAIT and LATCHED (R103, R309, R312) -/

theorem Dev.phase_of_floor (h : e.floor 0 = d.floor 0) : e.phase k = d.phase k :=
  Dev.fld_congr (Dev.reg_of_floor h (Nat.zero_le _) (of_decide_eq_true rfl))

theorem Dev.enHigh_of_floor (h : e.floor 0 = d.floor 0) : e.enHigh k = d.enHigh k :=
  congrArg (fun p : Power => vat p.strEn k) (Dev.pwr_of_floor h)

theorem Dev.latchStr_phase (hk : k < 8) : (d.latchStr k).phase k = phLatched :=
  (Dev.phase_of_floor Dev.latchStr_floor).trans (Dev.phase_setPhase_same hk (by decide))

theorem Dev.startWait_severe {failed : Bool} (h : d.severe k srcRetry f = true) : d.startWait k f failed = d.latchStr k := by
  rw [Dev.startWait, if_pos h]

/-- The entry into START_WAIT up to the string's own protection state and registers. -/
theorem Dev.startWait_floor {failed : Bool} (h : d.severe k srcRetry f = false) : (d.startWait k f failed).floor 0 =
    (((d.setPhase k phStartWait).strEn k false).evt Fd.SYS_EVT_START_FAIL).floor 0 := by
  rw [Dev.startWait, if_neg (by simp [h])]
  dsimp only
  split
  · rw [Dev.floor_winEvent, Dev.floor_modPr]
  · rw [Dev.floor_modPr]

/-- What a string shows whose start phase has failed: LATCHED when RETRY is severe, else START_WAIT with STR_EN low. -/
structure Dev.Waits (d : Dev) (k : Nat) (sev : Bool) : Prop where
  latched : sev = true → d.phase k = phLatched
  waiting : sev = false → d.phase k = phStartWait ∧ d.enHigh k = false ∧ d.bit Fd.SYS_EVT_START_FAIL = true

theorem Dev.startWait_waits {failed : Bool} (hk : k < 8) : (d.startWait k f failed).Waits k (d.severe k srcRetry f) := by
  refine ⟨fun h => ?_, fun h => ?_⟩
  · rw [Dev.startWait_severe h]
    exact Dev.latchStr_phase hk
  · have hfl := Dev.startWait_floor (failed := failed) h
    refine ⟨(Dev.phase_of_floor hfl).trans ?_, (Dev.enHigh_of_floor hfl).trans ?_, ?_⟩
    · rw [Dev.phase, Dev.fld_congr (Dev.reg_evt_other (of_decide_eq_true rfl)), Dev.fld_congr (Dev.reg_congr (Dev.strEn_regs ..))]
      exact Dev.phase_setPhase_same hk (by decide)
    · exact (Dev.strEn_enHigh hk false).trans rfl
    · exact (Dev.bit_congr (Dev.reg_of_floor hfl (Nat.zero_le _) (by decide))).trans (Dev.bit_evt_same (by decide) rfl)

theorem Dev.Waits.settled {sev : Bool} (h : d.Waits k sev) : (d.settled t).Waits k sev := by
  refine ⟨fun hs => Dev.settled_phase.trans (h.latched hs), fun hs => ?_⟩
  rw [Dev.settled_phase, Dev.settled_enHigh, Dev.settled_startFail]
  exact h.waiting hs

end Sys2Proof.Machine
end

section
/-! ARMED ends (R99, R105, R107, R308, R313): a string enters RUN at its release, or what its state calls for instead. -/
namespace Sys2Proof.Machine
variable {d e : Dev} {k f t a : Nat}

/-- Registers at different places of an array of blocks differ. -/
theorem off_ne {a b x : Nat} (h : a ≠ b) : a + x ≠ b + x := fun e => h (Nat.add_right_cancel e)

theorem fits_of {g : Fld} (h : decide (g.lo + g.w ≤ 32) = true) : g.fits := of_decide_eq_true h

/-! ### A trip is recorded (R296, R309) -/

theorem Dev.tripSet_shows {cause : Nat} (hc : cause < 16) : (d.tripSet k cause t).fld (Fd.CHk_PR_STATUS_CAUSE k) = cause ∧
    (d.tripSet k cause t).fld (Fd.CHk_PR_TRIP_TICK k) = t % 2 ^ (Fd.CHk_PR_TRIP_TICK k).w := by
  have bits (d : Dev) (x y : Bool) (g : Fld) (hs : (Fd.CHk_PR_STATUS_RETRY_SEV k).apart g)
      (hu : (Fd.CHk_PR_STATUS_UNCONF k).apart g) :
      ((d.putB (Fd.CHk_PR_STATUS_RETRY_SEV k) x).putB (Fd.CHk_PR_STATUS_UNCONF k) y).fld g = d.fld g := by
    rw [Dev.fld_putB_other (fits_of rfl) hu, Dev.fld_putB_other (fits_of rfl) hs]
  have recorded (d : Dev) (u : ProtSt → ProtSt) (g : Fld) : (d.modPr k u).fld g = d.fld g := rfl
  unfold Dev.tripSet
  dsimp only
  constructor
  · rw [recorded, bits _ _ _ _ (.inr (.inl (of_decide_eq_true rfl))) (.inr (.inl (of_decide_eq_true rfl))),
      Dev.fld_put_other (fits_of rfl) (.inl (off_ne (of_decide_eq_true rfl))), Dev.fld_put_same (fits_of rfl)]
    exact Nat.mod_eq_of_lt hc
  · rw [recorded, bits _ _ _ (Fd.CHk_PR_TRIP_TICK k) (.inl (off_ne (of_decide_eq_true rfl)))
      (.inl (off_ne (of_decide_eq_true rfl))), Dev.fld_put_same (fits_of rfl)]

theorem Dev.reg_tripCount (hc : a ≠ Reg.CHk_PR_CNT k) (he : a ≠ Reg.CHk_PR_EVT k) : (d.tripCount k).reg a = d.reg a :=
  (Dev.reg_evt_other he).trans (Dev.reg_bump_other hc)

/-- The count of trips stands apart from the record of the latest one. -/
theorem Dev.tripCount_shows : (d.tripCount k).fld (Fd.CHk_PR_STATUS_CAUSE k) = d.fld (Fd.CHk_PR_STATUS_CAUSE k) ∧
    (d.tripCount k).fld (Fd.CHk_PR_TRIP_TICK k) = d.fld (Fd.CHk_PR_TRIP_TICK k) :=
  ⟨Dev.fld_congr (Dev.reg_tripCount (off_ne (of_decide_eq_true rfl)) (off_ne (of_decide_eq_true rfl))),
    Dev.fld_congr (Dev.reg_tripCount (off_ne (of_decide_eq_true rfl)) (off_ne (of_decide_eq_true rfl)))⟩

/-! ### A stop level at the end of ARMED (R313) -/

theorem Dev.holdAtArmed_phase (hk : k < 8) : (d.holdAtArmed k f).phase k = phSafe := by
  have hfl : (d.holdAtArmed k f).floor 0 = (d.setPhase k phSafe).floor 0 := by
    unfold Dev.holdAtArmed
    dsimp only
    rw [Dev.floor_modPr, Dev.floor_prPhase, Dev.floor_tripCount, Dev.floor_tripSet]
  exact (Dev.phase_of_floor hfl).trans (Dev.phase_setPhase_same hk (by decide))

theorem Dev.holdAtArmed_shows : (d.holdAtArmed k f).fld (Fd.CHk_PR_STATUS_CAUSE k) = causeHost ∧
    (d.holdAtArmed k f).fld (Fd.CHk_PR_TRIP_TICK k) = f % 2 ^ (Fd.CHk_PR_TRIP_TICK k).w := by
  have recorded (d : Dev) (u : ProtSt → ProtSt) (g : Fld) : (d.modPr k u).fld g = d.fld g := rfl
  obtain ⟨hcause, htick⟩ := Dev.tripSet_shows (d := d.setPhase k phSafe) (k := k) (t := f) (by decide : causeHost < 16)
  obtain ⟨kcause, ktick⟩ := Dev.tripCount_shows (d := (d.setPhase k phSafe).tripSet k causeHost f) (k := k)
  unfold Dev.holdAtArmed
  dsimp only
  constructor
  · rw [recorded, Dev.fld_put_other (fits_of rfl) (.inr (.inr (of_decide_eq_true rfl))), kcause, hcause]
  · rw [recorded, Dev.fld_put_other (fits_of rfl) (.inl (off_ne (of_decide_eq_true rfl))), ktick, htick]

/-! ### Entry into RUN (R105, R107, R223, R308) -/

/-- R308: too few active cells: LATCHED with cause HEADROOM. -/
theorem Dev.entryHeadroom_latched (hk : k < 8) : (d.entryHeadroom k f).phase k = phLatched ∧
    (d.entryHeadroom k f).fld (Fd.CHk_PR_STATUS_CAUSE k) = causeHeadroom := by
  have latched (d : Dev) : (d.latchStr k).fld (Fd.CHk_PR_STATUS_CAUSE k) = d.fld (Fd.CHk_PR_STATUS_CAUSE k) := by
    have phase (d : Dev) : (d.put (Fd.CHk_PR_STATUS_PHASE k) 4).fld (Fd.CHk_PR_STATUS_CAUSE k) =
        d.fld (Fd.CHk_PR_STATUS_CAUSE k) := Dev.fld_put_other (fits_of rfl) (.inr (.inr (of_decide_eq_true rfl)))
    have record (d : Dev) (u : ProtSt → ProtSt) (g : Fld) : (d.modPr k u).fld g = d.fld g := rfl
    unfold Dev.latchStr
    dsimp only
    rw [Dev.fld_evt_other (fits_of rfl) (.inl (off_ne (of_decide_eq_true rfl))), record, phase]
    exact Dev.fld_congr (Dev.reg_put_other (addr_ne (of_decide_eq_true rfl)))
  unfold Dev.entryHeadroom
  refine ⟨Dev.latchStr_phase hk, ?_⟩
  rw [latched, Dev.tripCount_shows.1, (Dev.tripSet_shows (by decide)).1]

theorem Dev.floor_runFresh {lo : Nat} : (d.runFresh k f).floor lo = d.floor lo := by
  have cells (d : Dev) (u : Dev → Nat → CellC → CellC) : (d.each positions (fun d p =>
      (d.modCell k p (u d p)).put (Fd.CHk_WH_FAVGp_FAVG k p) 0)).floor lo = d.floor lo :=
    Dev.floor_each (fun d p => by rw [Dev.floor_put (high_reg (high_reg (of_decide_eq_true rfl))), Dev.floor_modCell]) _
  unfold Dev.runFresh
  dsimp only
  rw [Dev.floor_modPr, Dev.floor_put (high_reg (of_decide_eq_true rfl)), Dev.floor_modCtl, Dev.floor_modWh,
    Dev.floor_put (high_reg (of_decide_eq_true rfl)), cells]

theorem Dev.floor_loadEnterRun {lo : Nat} : (d.loadEnterRun k).floor lo = d.floor lo := by
  unfold Dev.loadEnterRun
  simp (disch := with_unfolding_all exact id (high_reg (of_decide_eq_true rfl))) only
    [Dev.floor_floorShow, Dev.floor_put, Dev.floor_putB, Dev.floor_modLoad]

theorem Dev.floor_morEnterRun {lo : Nat} : (d.morEnterRun k).floor lo = d.floor lo := by
  unfold Dev.morEnterRun
  dsimp only
  split_ifs <;> simp only [Dev.floor_morSet, Dev.floor_modMor, Dev.floor_morClear]

/-! ### MODE stands apart from the load models and the Mortar -/

theorem Dev.mode_put {g : Fld} {v : Nat} (h : Reg.CHk_CL_STATUS k ≠ g.addr) : (d.put g v).mode k = d.mode k :=
  Dev.fld_congr (Dev.reg_put_other h)

theorem Dev.mode_putB {g : Fld} {b : Bool} (h : Reg.CHk_CL_STATUS k ≠ g.addr) : (d.putB g b).mode k = d.mode k :=
  Dev.mode_put h

theorem Dev.mode_demand {g ev : Fld} {b : Bool} (h : Reg.CHk_CL_STATUS k ≠ g.addr) (he : Reg.CHk_CL_STATUS k ≠ ev.addr) :
    (d.demand g ev b).mode k = d.mode k := by
  unfold Dev.demand
  rw [Dev.mode_putB h]
  exact Dev.fld_congr (Dev.reg_evtIf_other he)

theorem Dev.mode_loadEnterRun : (d.loadEnterRun k).mode k = d.mode k := by
  have load (d : Dev) (u : LoadSt → LoadSt) : (d.modLoad k u).mode k = d.mode k := rfl
  have shown (d : Dev) : (d.floorShow k).mode k = d.mode k :=
    Dev.mode_demand (off_ne (of_decide_eq_true rfl)) (off_ne (of_decide_eq_true rfl))
  unfold Dev.loadEnterRun
  simp (disch := with_unfolding_all exact id (off_ne (of_decide_eq_true rfl))) only [shown, Dev.mode_put, Dev.mode_putB, load]

theorem Dev.mode_morSet {st step g : Nat} : (d.morSet k st step g).mode k = d.mode k := by
  have mor (d : Dev) (u : MortarSt → MortarSt) : (d.modMor k u).mode k = d.mode k := rfl
  unfold Dev.morSet
  simp (disch := with_unfolding_all exact id (off_ne (of_decide_eq_true rfl))) only [Dev.mode_put, mor]

theorem Dev.mode_morEnterRun : (d.morEnterRun k).mode k = d.mode k := by
  have mor (d : Dev) (u : MortarSt → MortarSt) : (d.modMor k u).mode k = d.mode k := rfl
  have range (d : Dev) (m lo hi : Nat) : (d.eccWriteRange m lo hi).mode k = d.mode k := by
    unfold Dev.eccWriteRange
    dsimp only
    split <;> rfl
  have cleared : (d.morClear k).mode k = d.mode k := by
    unfold Dev.morClear
    refine (Dev.mode_put (off_ne (of_decide_eq_true rfl))).trans ?_
    exact (range _ _ _ _).trans rfl
  unfold Dev.morEnterRun
  dsimp only
  split_ifs <;> simp only [Dev.mode_morSet, mor, cleared]

/-! ### The release out of ARMED -/

/-- R105, R107: string k takes its place in RUN, in closed loop, its roles formed. -/
def Dev.placeInRun (d : Dev) (k f : Nat) : Dev :=
  (((((d.setPhase k phRun).runFresh k f).resetZf k).put (Fd.CHk_CL_STATUS_MODE k) 1).evt Fd.SYS_EVT_STR_RUN)

/-- R107: its load models and its Mortar start afresh, and it is released at frame start f. -/
def Dev.releaseRun (d : Dev) (k f : Nat) : Dev :=
  ((((d.loadEnterRun k).morEnterRun k).putB (Fd.CHk_FB_STATUS_RAIL k) false).put (Fd.CHk_PR_STATUS_PHASE k) 0).modPr k
    (fun p => { p with release := some f, probe := none })

theorem Dev.enterRun_release : d.enterRun k f .release =
    if (d.formRoles k).nact k < d.fld (Fd.CHk_WH_CFG_NMIN k) then (((d.formRoles k).headroom k true).1).entryHeadroom k f
    else ((((d.formRoles k).headroom k true).1).placeInRun k f).releaseRun k f := by
  have hlost : ((d.formRoles k).headroom k true).2 = decide ((d.formRoles k).nact k < d.fld (Fd.CHk_WH_CFG_NMIN k)) := by
    unfold Dev.headroom
    exact Bool.true_and _
  by_cases h : (d.formRoles k).nact k < d.fld (Fd.CHk_WH_CFG_NMIN k)
  · rw [if_pos h, Dev.enterRun]
    dsimp only
    rw [hlost, if_pos (decide_eq_true h)]
  · rw [if_neg h, Dev.enterRun]
    dsimp only
    rw [hlost, if_neg (by simpa using h)]
    rfl

theorem Dev.placeInRun_shows (hk : k < 8) : (d.placeInRun k f).phase k = phRun ∧ (d.placeInRun k f).mode k = 1 ∧
    (d.placeInRun k f).bit Fd.SYS_EVT_STR_RUN = true := by
  have hfl : ((((d.setPhase k phRun).runFresh k f).resetZf k).put (Fd.CHk_CL_STATUS_MODE k) 1).floor 0 =
      (d.setPhase k phRun).floor 0 := by
    rw [Dev.floor_put (high_reg (of_decide_eq_true rfl)), Dev.floor_resetZf, Dev.floor_runFresh]
  unfold Dev.placeInRun
  refine ⟨?_, ?_, Dev.bit_evt_same (by decide) rfl⟩
  · rw [Dev.phase, Dev.fld_congr (Dev.reg_evt_other (of_decide_eq_true rfl))]
    exact (Dev.phase_of_floor hfl).trans (Dev.phase_setPhase_same hk (by decide))
  · refine (Dev.mode_put (addr_ne (of_decide_eq_true rfl))).trans ?_
    exact Dev.fld_put_same (fits_of rfl)

theorem Dev.releaseRun_shows (hk : k < 8) : (d.releaseRun k f).phase k = d.phase k ∧ (d.releaseRun k f).mode k = d.mode k ∧
    (d.releaseRun k f).bit Fd.SYS_EVT_STR_RUN = d.bit Fd.SYS_EVT_STR_RUN ∧
    ((d.releaseRun k f).st k).pr.release = some f := by
  have hfl : (d.releaseRun k f).floor 0 = d.floor 0 := by
    unfold Dev.releaseRun
    rw [Dev.floor_modPr, Dev.floor_prPhase, Dev.floor_putB (high_reg (of_decide_eq_true rfl)), Dev.floor_morEnterRun,
      Dev.floor_loadEnterRun]
  refine ⟨Dev.phase_of_floor hfl, ?_, Dev.bit_congr (Dev.reg_of_floor hfl (Nat.zero_le _) (by decide)), ?_⟩
  · have record (d : Dev) (u : ProtSt → ProtSt) : (d.modPr k u).mode k = d.mode k := rfl
    unfold Dev.releaseRun
    rw [record, Dev.mode_put (off_ne (of_decide_eq_true rfl)), Dev.mode_putB (off_ne (of_decide_eq_true rfl)), Dev.mode_morEnterRun, Dev.mode_loadEnterRun]
  · unfold Dev.releaseRun Dev.modPr
    rw [Dev.st_modStr_same hk]

/-! ### ARM_COMPLETE -/

theorem exec_armComplete {s : State} {k : Fin 8} (hf : s.env.frameStart = true) (hi : s.dev.islandOk (islCh k.val) = true) :
    exec (.armComplete k) s = .next { s with dev := (s.dev.armComplete k.val s.env.tick).settled s.env.tick } := by
  show execArmComplete k s = _
  simp only [execArmComplete, onDev, hf, hi, Bool.and_self, if_true]

theorem Dev.armComplete_eq (hp : d.phase k = phArmed) (hf : d.fld Fd.SYS_START0_ARM_FRAMES ≤ (d.st k).pr.frames) :
    d.armComplete k f = if inFrameBefore f (d.st k).fb.lostAt then d.startWait k f false
      else if (d.st k).pr.stop then d.holdAtArmed k f else d.enterRun k f .release := by
  unfold Dev.armComplete
  exact if_pos (by simp [hp, hf])

/-- Settles O33: each exit of ARMED, and SYS_STATE and the condition vector that follow leave it as it is. -/
theorem armedEntersRun : Obligations.ArmedEntersRun := by
  intro k s hfs hi hp hfr
  have hk := k.isLt
  have cause : Reg.CHk_PR_STATUS k.val ∉ settledRegs :=
    strReg_settled (high_reg (of_decide_eq_true rfl)) (by unfold Reg.CHk_PR_STATUS; omega)
  have trip : Reg.CHk_PR_TRIP k.val ∉ settledRegs :=
    strReg_settled (high_reg (of_decide_eq_true rfl)) (by unfold Reg.CHk_PR_TRIP; omega)
  have loop : Reg.CHk_CL_STATUS k.val ∉ settledRegs :=
    strReg_settled (high_reg (of_decide_eq_true rfl)) (by unfold Reg.CHk_CL_STATUS; omega)
  refine ⟨_, exec_armComplete hfs hi, ⟨rfl, rfl, rfl⟩, ?_⟩
  dsimp only
  rw [Dev.armComplete_eq hp hfr]
  refine ⟨fun hlost => ?_, fun hlost hstop => ?_, fun hlost hstop => ?_⟩
  · rw [if_pos hlost]
    have waits := (Dev.startWait_waits (d := s.dev) (f := s.env.tick) (failed := false) hk).settled (t := s.env.tick)
    split
    next h => exact waits.latched h
    next h =>
      obtain ⟨hphase, hen, _⟩ := waits.waiting (Bool.eq_false_of_not_eq_true h)
      exact ⟨hphase, hen⟩
  · rw [if_neg (by simp [hlost]), if_pos hstop, Dev.settled_phase, Dev.fld_congr (Dev.reg_settled cause),
      Dev.fld_congr (Dev.reg_settled trip)]
    exact ⟨Dev.holdAtArmed_phase hk, Dev.holdAtArmed_shows⟩
  · rw [if_neg (by simp [hlost]), if_neg (by simp [hstop]), Dev.settled_phase,
      Dev.fld_congr (f := Fd.CHk_PR_STATUS_CAUSE k.val) (Dev.reg_settled cause),
      Dev.fld_congr (f := Fd.CHk_CL_STATUS_MODE k.val) (Dev.reg_settled loop), Dev.settled_strRun, Dev.settled_st, Dev.enterRun_release]
    refine ⟨fun hn => ?_, fun hn => ?_⟩
    · rw [if_neg (by omega)]
      obtain ⟨pphase, pmode, pevt⟩ :=
        Dev.placeInRun_shows (d := ((s.dev.formRoles k.val).headroom k.val true).1) (f := s.env.tick) hk
      obtain ⟨rphase, rmode, revt, rrel⟩ := Dev.releaseRun_shows
        (d := (((s.dev.formRoles k.val).headroom k.val true).1).placeInRun k.val s.env.tick) (f := s.env.tick) hk
      exact ⟨rphase.trans pphase, rmode.trans pmode, revt.trans pevt, rrel⟩
    · rw [if_pos hn]
      exact Dev.entryHeadroom_latched hk

end Sys2Proof.Machine
end

section
/-! Entry into ENUM and a safe state that is not confirmed (R99, R103, R261, R305, R309). -/
namespace Sys2Proof.Machine
variable {d e : Dev} {k p q f t a : Nat}

/-! ### The links of the cells at the entry into ENUM (R251, R261) -/

/-- The registers of different positions of a string differ. -/
theorem cellReg_ne {b c : Nat} (h : p ≠ q) (hb : b < 0x400) (hc : c < 0x400) :
    0x10000 + b + 0x400 * cellIx k p ≠ 0x10000 + c + 0x400 * cellIx k q := by
  unfold cellIx; omega

theorem Dev.reg_enumLink_low (h : a < 0x10000) : (d.enumLink k p).reg a = d.reg a := by
  have cell (d : Dev) (u : CellC → CellC) : (d.modCell k p u).reg a = d.reg a := rfl
  have low {c x : Nat} (hc : 0x10000 ≤ c) : a ≠ c + x := by omega
  unfold Dev.enumLink
  dsimp only
  split
  · rw [Dev.reg_put_other (low (of_decide_eq_true rfl)), Dev.reg_put_other (low (of_decide_eq_true rfl)),
      Dev.reg_put_other (low (of_decide_eq_true rfl)), Dev.reg_putB_other (low (of_decide_eq_true rfl)),
      Dev.reg_put_other (low (of_decide_eq_true rfl)), cell]
  · exact cell d _

theorem Dev.cellHere_congr (h : e.img = d.img) : e.cellHere k p = d.cellHere k p := by
  simp only [Dev.cellHere, Dev.cellMap, h]

theorem Dev.enumLink_here : (d.enumLink k q).cellHere k p = d.cellHere k p :=
  Dev.cellHere_congr (Dev.img_of_floor (Dev.floor_enumLink (lo := 0)))

/-- R261: the link of a present cell trains. -/
theorem Dev.enumLink_trains (h : d.cellHere k p = true) : (d.enumLink k p).linkState k p = lkTraining := by
  have here (u : CellC → CellC) : (d.modCell k p u).cellHere k p = true := h
  have other (d : Dev) (g : Fld) (v : Nat) (hg : Reg.CELLc_LINK (cellIx k p) ≠ g.addr) :
      (d.put g v).linkState k p = d.linkState k p := Dev.fld_congr (Dev.reg_put_other hg)
  have stale (d : Dev) : (d.putB (Fd.CELLc_LINK_STALE (cellIx k p)) false).linkState k p = d.linkState k p :=
    Dev.fld_put_other (fits_of rfl) (.inr (.inl (of_decide_eq_true rfl)))
  have detail (d : Dev) : (d.put (Fd.CELLc_LINK_DETAIL (cellIx k p)) 0).linkState k p = d.linkState k p :=
    Dev.fld_put_other (fits_of rfl) (.inr (.inl (of_decide_eq_true rfl)))
  unfold Dev.enumLink
  dsimp only
  rw [if_pos (here _), other _ _ _ (off_ne (of_decide_eq_true rfl)), other _ _ _ (off_ne (of_decide_eq_true rfl)), detail, stale]
  exact Dev.fld_put_same (fits_of rfl)

/-- The link of another position stays as it is. -/
theorem Dev.enumLink_other (h : p ≠ q) : (d.enumLink k q).linkState k p = d.linkState k p := by
  have apart {c : Nat} (hc : c < 0x400) : Reg.CELLc_LINK (cellIx k p) ≠ 0x10000 + c + 0x400 * cellIx k q :=
    cellReg_ne (b := 0) h (by decide) hc
  have cell (d : Dev) (u : CellC → CellC) : (d.modCell k q u).linkState k p = d.linkState k p := rfl
  have other (d : Dev) (g : Fld) (v : Nat) (hg : Reg.CELLc_LINK (cellIx k p) ≠ g.addr) :
      (d.put g v).linkState k p = d.linkState k p := Dev.fld_congr (Dev.reg_put_other hg)
  unfold Dev.enumLink
  dsimp only
  split
  · rw [other _ _ _ (apart (c := 0xC) (by decide)), other _ _ _ (apart (c := 0x1C) (by decide)),
      other _ _ _ (apart (c := 0) (by decide)), Dev.putB, other _ _ _ (apart (c := 0) (by decide)),
      other _ _ _ (apart (c := 0) (by decide)), cell]
  · exact cell d _

theorem Dev.enumLinks_train (hp : p < 7) (h : d.cellHere k p = true) :
    (d.each positions (fun d p => d.enumLink k p)).linkState k p = lkTraining := by
  have keep (d : Dev) (j : Nat) (hd : d.cellHere k p = true ∧ d.linkState k p = lkTraining) :
      (d.enumLink k j).cellHere k p = true ∧ (d.enumLink k j).linkState k p = lkTraining := by
    refine ⟨Dev.enumLink_here.trans hd.1, ?_⟩
    by_cases hj : p = j
    · subst hj; exact Dev.enumLink_trains hd.1
    · exact (Dev.enumLink_other hj).trans hd.2
  have trained := Dev.each_attains (g := fun d p => d.enumLink k p) (I := fun d => d.cellHere k p = true)
    (P := fun d => d.cellHere k p = true ∧ d.linkState k p = lkTraining) (fun d j hd => Dev.enumLink_here.trans hd)
    (fun d hd => ⟨Dev.enumLink_here.trans hd, Dev.enumLink_trains hd⟩) keep positions d (mem_positions hp) h
  exact trained.2

/-! ### Entry into ENUM (R99, R233) -/

/-- The marks of the cells and their links are what entry into ENUM sets besides the phase and STR_EN. -/
def Dev.enumCells (d : Dev) (k : Nat) : Dev :=
  (((d.put (Fd.CHk_WH_MARKS_FAILED k) 0).put (Fd.CHk_WH_MARKS_BYPASSED k) 0).setReg (Reg.CHk_LK_STATUS k) 0).each positions
    (fun d p => d.enumLink k p)

theorem Dev.enterEnum_eq : ∃ u, d.enterEnum k f =
    (((((d.setPhase k phEnum).strEn k true).enumCells k).put (Fd.CHk_PR_STATUS_PHASE k) 0).put (Fd.DIAG_Ck_A_CNT k) 0).modPr k u := by
  unfold Dev.enterEnum Dev.enumCells
  exact ⟨_, rfl⟩

theorem Dev.enumCells_floor {lo : Nat} : (d.enumCells k).floor lo = d.floor lo := by
  unfold Dev.enumCells
  rw [Dev.floor_each fun _ _ => Dev.floor_enumLink, Dev.floor_setReg (a := Reg.CHk_LK_STATUS k) (.inr (high_reg (of_decide_eq_true rfl))),
    Dev.floor_put (high_reg (of_decide_eq_true rfl)), Dev.floor_put (high_reg (of_decide_eq_true rfl))]

theorem Dev.enterEnum_floor : (d.enterEnum k f).floor 0 = ((d.setPhase k phEnum).strEn k true).floor 0 := by
  obtain ⟨u, hu⟩ := d.enterEnum_eq (k := k) (f := f)
  rw [hu, Dev.floor_modPr, Dev.floor_put (high_reg (of_decide_eq_true rfl)), Dev.floor_prPhase, Dev.enumCells_floor]

/-- Of the registers below the strings' own entry into ENUM changes the strings' states alone. -/
theorem Dev.reg_enterEnum_low (h : a < 0x8000) (hs : a ≠ Reg.SYS_STR_STATE) : (d.enterEnum k f).reg a = d.reg a :=
  (Dev.reg_of_floor Dev.enterEnum_floor (Nat.zero_le a) h).trans
    ((Dev.reg_congr (Dev.strEn_regs ..)).trans (Dev.reg_put_other hs))

theorem Dev.enterEnum_enumerating (hk : k < 8) (hs : d.pwr.shutdown = false) : (d.enterEnum k f).enumerating k := by
  refine ⟨(Dev.phase_of_floor Dev.enterEnum_floor).trans ?_, (Dev.enHigh_of_floor Dev.enterEnum_floor).trans ?_⟩
  · rw [Dev.phase, Dev.fld_congr (Dev.reg_congr (Dev.strEn_regs ..))]
    exact Dev.phase_setPhase_same hk (by decide)
  · rw [Dev.strEn_enHigh hk]
    simpa using hs

/-- A register of the string's cells or of its marks is as the cells' entry into ENUM left it. -/
theorem Dev.reg_enterEnum (hp : a ≠ Reg.CHk_PR_STATUS k) (hd : a ≠ Reg.DIAG_Ck_A k) :
    (d.enterEnum k f).reg a = (((d.setPhase k phEnum).strEn k true).enumCells k).reg a := by
  obtain ⟨u, hu⟩ := d.enterEnum_eq (k := k) (f := f)
  have record (d : Dev) : (d.modPr k u).reg a = d.reg a := rfl
  rw [hu, record, Dev.reg_put_other hd, Dev.reg_put_other hp]

theorem Dev.enumCells_failed (hk : k < 8) : (d.enumCells k).failed k p = false := by
  have marks : (d.enumCells k).fld (Fd.CHk_WH_MARKS_FAILED k) = 0 := by
    have links (d : Dev) : (d.each positions (fun d p => d.enumLink k p)).fld (Fd.CHk_WH_MARKS_FAILED k) =
        d.fld (Fd.CHk_WH_MARKS_FAILED k) :=
      Dev.each_same (fun d => d.fld (Fd.CHk_WH_MARKS_FAILED k))
        (fun d p => Dev.fld_congr (Dev.reg_enumLink_low (show 0x831C + 0x1000 * k < 0x10000 by omega))) _ _
    unfold Dev.enumCells
    rw [links, Dev.fld_congr (Dev.reg_setReg_other (off_ne (of_decide_eq_true rfl))),
      Dev.fld_put_other (fits_of rfl) (.inr (.inr (of_decide_eq_true rfl))), Dev.fld_put_same (fits_of rfl)]
    rfl
  rw [Dev.failed, marks]
  simp [tbit]

theorem Dev.enterEnum_failed (hk : k < 8) : (d.enterEnum k f).failed k p = false := by
  rw [Dev.failed, Dev.fld_congr (Dev.reg_enterEnum (off_ne (of_decide_eq_true rfl)) ?_)]
  · exact Dev.enumCells_failed hk
  · show 0x831C + 0x1000 * k ≠ 0x1E404 + 0x20 * k
    omega

theorem Dev.enterEnum_trains (hp : p < 7) (h : d.cellHere k p = true) :
    (d.enterEnum k f).linkState k p = lkTraining := by
  rw [Dev.linkState, Dev.fld_congr (Dev.reg_enterEnum ?_ ?_)]
  · refine Dev.enumLinks_train hp ?_
    exact (Dev.cellHere_congr (d := (d.setPhase k phEnum).strEn k true) rfl).trans
      ((Dev.cellHere_congr Dev.strEn_img).trans h)
  · show 0x10000 + 0x400 * cellIx k p ≠ 0x8500 + 0x1000 * k
    omega
  · show 0x10000 + 0x400 * cellIx k p ≠ 0x1E404 + 0x20 * k
    unfold cellIx
    omega

/-! ### START_WAIT ends (R103) -/

theorem exec_startWaitExpiry {s : State} {k : Fin 8} (hf : s.env.frameStart = true) (hi : s.dev.islandOk (islCh k.val) = true)
    (hp : s.dev.phase k.val = phStartWait) (hs : (s.dev.st k.val).pr.since + 98304000 ≤ s.env.tick) :
    exec (.startWaitExpiry k) s =
      .next { s with dev := (s.dev.bump (Fd.SYS_RESTART_CNT k.val)).enterEnum k.val s.env.tick } := by
  show execStartWaitExpiry k s = _
  simp [execStartWaitExpiry, onDev, Dev.startWaitExpiry, hf, hi, hp, hs]

/-- A count of restarts is its string's own part of SYS_RESTART. -/
theorem restartField_fits (hk : k < 8) : (Fd.SYS_RESTART_CNT k).fits := by
  show 4 * k + 4 ≤ 32
  omega

/-! ### A safe state that is not confirmed in time (R305, R309) -/

theorem Dev.st_strEn_pr {b : Bool} : ((d.strEn k b).st k).pr = (d.st k).pr := by
  cases b with
  | true => rfl
  | false =>
    have lane (d : Dev) (p : Nat) : ((d.modCell k p (fun c => { c with poll := none, lane := false })).st k).pr = (d.st k).pr :=
      vat_vmod_part Str.pr fun _ => rfl
    exact Dev.each_same (fun d : Dev => (d.st k).pr) lane positions _

/-- R309: the string is LATCHED at once, with STR_EN low and UNCONF set. -/
def Dev.latchUnconfirmed (d : Dev) (k : Nat) : Dev :=
  (((d.latchStr k).strEn k false).putB (Fd.CHk_PR_STATUS_UNCONF k) true).modPr k (fun p => { p with enLowDue := false })

theorem exec_confirmTimeout {s : State} {k : Fin 8} (hp : s.dev.phase k.val = phSafe) (hh : (s.dev.st k.val).pr.handling = true)
    (hc : (s.dev.st k.val).pr.d + s.dev.fld (Fd.CHk_PR_CFG_CONFIRM k.val) ≤ s.env.tick) :
    exec (.confirmTimeout k) s = .next { s with dev := (s.dev.latchUnconfirmed k.val).settled s.env.tick } := by
  show execConfirmTimeout k s = _
  simp only [execConfirmTimeout, onDev, hp, hh, hc, beq_self_eq_true, decide_true, Bool.and_self, if_true]
  rfl

/-- Up to the string's own protection state and registers. -/
theorem Dev.latchUnconfirmed_floor : (d.latchUnconfirmed k).floor 0 = ((d.latchStr k).strEn k false).floor 0 := by
  unfold Dev.latchUnconfirmed
  rw [Dev.floor_modPr, Dev.floor_putB (high_reg (of_decide_eq_true rfl))]

theorem Dev.latchUnconfirmed_latched (hk : k < 8) : (d.latchUnconfirmed k).phase k = phLatched ∧
    (d.latchUnconfirmed k).enHigh k = false := by
  refine ⟨(Dev.phase_of_floor Dev.latchUnconfirmed_floor).trans ?_, (Dev.enHigh_of_floor Dev.latchUnconfirmed_floor).trans ?_⟩
  · rw [Dev.phase, Dev.fld_congr (Dev.reg_congr (Dev.strEn_regs ..))]
    exact Dev.latchStr_phase hk
  · exact (Dev.strEn_enHigh hk false).trans rfl

theorem Dev.latchUnconfirmed_shows : (d.latchUnconfirmed k).bit (Fd.CHk_PR_STATUS_UNCONF k) = true ∧
    (d.latchUnconfirmed k).bit (Fd.CHk_PR_EVT_LATCHED k) = true := by
  have record (d : Dev) (u : ProtSt → ProtSt) (g : Fld) : (d.modPr k u).bit g = d.bit g := rfl
  have latched : (d.latchStr k).bit (Fd.CHk_PR_EVT_LATCHED k) = true := by
    unfold Dev.latchStr
    exact Dev.bit_evt_same (fits_of rfl) rfl
  unfold Dev.latchUnconfirmed
  rw [record, record]
  refine ⟨Dev.bit_putB_same (fits_of rfl) rfl, ?_⟩
  rw [Dev.bit_putB_other (fits_of rfl) rfl (.inl (off_ne (of_decide_eq_true rfl))), Dev.bit_congr (Dev.reg_congr (Dev.strEn_regs ..))]
  exact latched

theorem Dev.latchStr_handling (hk : k < 8) : ((d.latchStr k).st k).pr.handling = false := by
  unfold Dev.latchStr Dev.modPr
  rw [Dev.st_evt, Dev.st_modStr_same hk]

theorem Dev.latchUnconfirmed_handling (hk : k < 8) : ((d.latchUnconfirmed k).st k).pr.handling = false := by
  have low : ((((d.latchStr k).strEn k false).putB (Fd.CHk_PR_STATUS_UNCONF k) true).st k).pr = ((d.latchStr k).st k).pr := by
    rw [Dev.st_putB, Dev.st_strEn_pr]
  unfold Dev.latchUnconfirmed Dev.modPr
  rw [Dev.st_modStr_same hk]
  dsimp only
  rw [low]
  exact Dev.latchStr_handling hk

theorem Dev.latchUnconfirmed_other {j : Nat} (hk : k < 8) (h : j ≠ k) : (d.latchUnconfirmed k).phase j = d.phase j := by
  have far : Apart j d (d.latchUnconfirmed k) :=
    ((Apart.latchStr hk h).trans (Apart.strEn h)).trans (Apart.of_floor Dev.latchUnconfirmed_floor)
  exact far.phase

/-- Settles O34: the entry into ENUM and the latch at once, each with what it sets. -/
theorem waitingAndUnconfirmedStrings : Obligations.WaitingAndUnconfirmedStrings := by
  refine ⟨fun k s hf hi hsh hp hs => ?_, fun k s hp hh hc => ?_⟩
  · have hk := k.isLt
    obtain ⟨hphase, hen⟩ := Dev.enterEnum_enumerating (d := s.dev.bump (Fd.SYS_RESTART_CNT k.val)) (f := s.env.tick) hk hsh
    have restarts : ((s.dev.bump (Fd.SYS_RESTART_CNT k.val)).enterEnum k.val s.env.tick).fld (Fd.SYS_RESTART_CNT k.val) =
        addSat 4 (s.dev.fld (Fd.SYS_RESTART_CNT k.val)) 1 :=
      (Dev.fld_congr (Dev.reg_enterEnum_low (of_decide_eq_true rfl) (of_decide_eq_true rfl))).trans
        (Dev.fld_bump_same (restartField_fits hk))
    refine ⟨_, exec_startWaitExpiry hf hi hp hs, ⟨rfl, rfl, rfl⟩, hphase, hen, fun p => Dev.enterEnum_failed hk,
      fun p hp7 hc => Dev.enterEnum_trains hp7 hc, ?_⟩
    exact restarts
  · have hk := k.isLt
    have status : Reg.CHk_PR_STATUS k.val ∉ settledRegs :=
      strReg_settled (high_reg (of_decide_eq_true rfl)) (by unfold Reg.CHk_PR_STATUS; omega)
    have evt : Reg.CHk_PR_EVT k.val ∉ settledRegs :=
      strReg_settled (high_reg (of_decide_eq_true rfl)) (by unfold Reg.CHk_PR_EVT; omega)
    obtain ⟨hphase, hen⟩ := Dev.latchUnconfirmed_latched (d := s.dev) hk
    obtain ⟨hunconf, hlatched⟩ := Dev.latchUnconfirmed_shows (d := s.dev) (k := k.val)
    refine ⟨_, exec_confirmTimeout hp hh hc, ⟨rfl, rfl, rfl⟩, Dev.settled_phase.trans hphase, Dev.settled_enHigh.trans hen,
      (Dev.bit_congr (Dev.reg_settled status)).trans hunconf, (Dev.bit_congr (Dev.reg_settled evt)).trans hlatched,
      (congrArg (fun x : Str => x.pr.handling) Dev.settled_st).trans (Dev.latchUnconfirmed_handling hk),
      fun j _ hj => Dev.settled_phase.trans (Dev.latchUnconfirmed_other hk hj)⟩

end Sys2Proof.Machine
end

section
/-! ENUM and PRECHARGE time out (R99, R101, R102, R264): cells that are not fit are failed, and the string goes on, or waits. -/
namespace Sys2Proof.Machine
variable {d e : Dev} {k p q n f t a : Nat}

/-! ### What the cells are judged by -/

/-- The registers in which the end of a start phase shows: those of SYS below SYS_START0, the string's protection and start
test, and the Lid's. -/
abbrev ShowsPhase (k a : Nat) : Prop := a < 0x18 ∨ (0x8500 + 0x1000 * k ≤ a ∧ a < 0x8700 + 0x1000 * k) ∨ 0x1F000 ≤ a

/-- What the cells of a string are judged by (R101, R102, R329): the image, every register in which the end of a phase does not
show, and the readings that the string has taken up. -/
structure Fit where
  cfg : ImgCfg
  reg : Nat → Word
  aux : Vector Int 4
  span : Nat → Option (Nat × Nat × Nat)

def Dev.fit (d : Dev) (k : Nat) : Fit :=
  ⟨d.img.cfg, fun a => if ShowsPhase k a then 0 else d.reg a, (d.st k).aux, fun p => (d.cellC k p).vbusSpan⟩

theorem Dev.fit_setReg {v : Word} (h : ShowsPhase k a) : (d.setReg a v).fit k = d.fit k := by
  have regs : (fun b => if ShowsPhase k b then 0 else (d.setReg a v).reg b) = fun b => if ShowsPhase k b then 0 else d.reg b := by
    funext b
    split
    · rfl
    next hb => exact Dev.reg_setReg_other fun e => hb (e ▸ h)
  simp only [Dev.fit, regs]
  rfl

theorem Dev.fit_put {g : Fld} {v : Nat} (h : ShowsPhase k g.addr) : (d.put g v).fit k = d.fit k := Dev.fit_setReg h
theorem Dev.fit_evt {g : Fld} (h : ShowsPhase k g.addr) : (d.evt g).fit k = d.fit k := Dev.fit_setReg h
theorem Dev.fit_setPhase {ph : Nat} : (d.setPhase k ph).fit k = d.fit k := Dev.fit_setReg (.inl (of_decide_eq_true rfl))
theorem Dev.fit_modTest {u : TestSt → TestSt} : (d.modTest k u).fit k = d.fit k := (rfl)

theorem Dev.fit_modStr {u : Str → Str} (ha : ∀ x, (u x).aux = x.aux)
    (hc : ∀ x p, (vat (u x).cell p).vbusSpan = (vat x.cell p).vbusSpan) : (d.modStr k u).fit k = d.fit k := by
  have aux : ((d.modStr k u).st k).aux = (d.st k).aux := vat_vmod_part Str.aux ha
  have span : (fun p => ((d.modStr k u).cellC k p).vbusSpan) = fun p => (d.cellC k p).vbusSpan :=
    funext fun p => vat_vmod_part (fun x : Str => (vat x.cell p).vbusSpan) fun x => hc x p
  simp only [Dev.fit, aux, span]
  rfl

theorem Dev.fit_modPr {u : ProtSt → ProtSt} : (d.modPr k u).fit k = d.fit k := Dev.fit_modStr (fun _ => rfl) fun _ _ => rfl

theorem Dev.fit_strEn {b : Bool} : (d.strEn k b).fit k = d.fit k := by
  have lane (d : Dev) (p : Nat) : (d.modCell k p (fun c => { c with poll := none, lane := false })).fit k = d.fit k :=
    Dev.fit_modStr (fun _ => rfl) fun _ _ => vat_vmod_part CellC.vbusSpan fun _ => rfl
  cases b with
  | true => rfl
  | false => exact Dev.each_same (fun d : Dev => d.fit k) lane positions _

/-- A register of the string's protection or of its start test shows the end of a phase. -/
theorem own_showsPhase {c : Nat} (h : 0x8500 ≤ c ∧ c < 0x8700) : ShowsPhase k (c + 0x1000 * k) := .inr (.inl (by omega))

theorem Dev.fit_latchStr : (d.latchStr k).fit k = d.fit k := by
  unfold Dev.latchStr
  rw [Dev.fit_evt (own_showsPhase (of_decide_eq_true rfl)), Dev.fit_modPr, Dev.fit_put (own_showsPhase (of_decide_eq_true rfl)),
    Dev.fit_setPhase]

theorem Dev.fit_startWait : (d.startWait k f false).fit k = d.fit k := by
  unfold Dev.startWait
  split
  · exact Dev.fit_latchStr
  · dsimp only
    rw [if_neg Bool.false_ne_true, Dev.fit_modPr, Dev.fit_evt (.inl (of_decide_eq_true rfl)), Dev.fit_strEn, Dev.fit_setPhase]

theorem Dev.fit_testStart : (d.testStart k f p).fit k = d.fit k := by
  unfold Dev.testStart
  dsimp only
  rw [Dev.fit_put (own_showsPhase (of_decide_eq_true rfl)), Dev.fit_modTest]

theorem Dev.fit_enterTest : (d.enterTest k f).fit k = d.fit k := by
  unfold Dev.enterTest
  split
  · rw [Dev.fit_testStart, Dev.fit_modPr, Dev.fit_setPhase]
  · exact Dev.fit_startWait

theorem Dev.fit_endEnum : (d.endEnum k f).fit k = d.fit k := by
  unfold Dev.endEnum
  split
  · rw [Dev.fit_modPr, Dev.fit_setPhase]
  · exact Dev.fit_startWait

theorem Dev.fit_settled : (d.settled t).fit k = d.fit k := by
  have regs : (fun a => if ShowsPhase k a then 0 else (d.settled t).reg a) = fun a => if ShowsPhase k a then 0 else d.reg a := by
    funext a
    split
    · rfl
    next h =>
      refine Dev.reg_settled ?_
      simp only [settledRegs, List.mem_cons, List.not_mem_nil, or_false, not_or, Reg.SYS_STATE, Reg.SYS_EVT, Reg.LID_COND,
        Reg.LID_FLT_NEW, Reg.LID_EVT]
      omega
  simp only [Dev.fit, regs, Dev.settled_img, Dev.cellC, Dev.settled_st]

/-! ### What two controllers with equally fit cells agree in -/

section
variable (h : e.fit k = d.fit k)
include h

theorem Dev.reg_of_fit (ha : ¬ ShowsPhase k a) : e.reg a = d.reg a := by
  have := congrFun (congrArg Fit.reg h) a
  simpa only [Dev.fit, if_neg ha] using this

theorem Dev.cellMap_of_fit : e.cellMap k = d.cellMap k := by
  have hc : e.img.cfg = d.img.cfg := congrArg Fit.cfg h
  funext p
  simp only [Dev.cellMap, hc]

theorem Dev.cellHere_of_fit : e.cellHere k = d.cellHere k := by
  funext p
  simp only [Dev.cellHere, Dev.cellMap_of_fit h]

theorem Dev.failed_of_fit (hk : k < 8) : e.failed k = d.failed k := by
  have marks : e.fld (Fd.CHk_WH_MARKS_FAILED k) = d.fld (Fd.CHk_WH_MARKS_FAILED k) :=
    Dev.fld_congr (Dev.reg_of_fit h (a := 0x831C + 0x1000 * k) (by unfold ShowsPhase; omega))
  funext p
  simp only [Dev.failed, marks]

theorem Dev.link_of_fit (hk : k < 8) (hp : p < 7) : e.reg (Reg.CELLc_LINK (cellIx k p)) = d.reg (Reg.CELLc_LINK (cellIx k p)) :=
  Dev.reg_of_fit h (by unfold Reg.CELLc_LINK ShowsPhase cellIx; omega)

theorem Dev.vbus_of_fit (hk : k < 8) (hp : p < 7) : e.vbus k p = d.vbus k p :=
  Dev.fld_congr (Dev.reg_of_fit h (a := 0x10004 + 0x400 * cellIx k p) (by unfold ShowsPhase cellIx; omega))

theorem Dev.enoughCells_of_fit (hk : k < 8) : e.enoughCells k = d.enoughCells k := by
  have nact : e.fld (Fd.CHk_WH_CFG_NACT k) = d.fld (Fd.CHk_WH_CFG_NACT k) :=
    Dev.fld_congr (Dev.reg_of_fit h (a := 0x8300 + 0x1000 * k) (by unfold ShowsPhase; omega))
  simp only [Dev.enoughCells, nact, Dev.cellHere_of_fit h, Dev.failed_of_fit h hk]

theorem Dev.testCell_of_fit (hk : k < 8) : e.testCell k = d.testCell k := by
  simp only [Dev.testCell, Dev.isSpare, Dev.cellMap_of_fit h, Dev.cellHere_of_fit h, Dev.failed_of_fit h hk]

theorem Dev.inWindow_of_fit (hk : k < 8) (hp : p < 7) : e.inWindow k p = d.inWindow k p := by
  unfold Dev.inWindow Dev.classH
  rw [Dev.cellMap_of_fit h, Dev.vbus_of_fit h hk hp]

theorem Dev.preAux_of_fit : e.preAux k = d.preAux k := by
  have start : e.reg Reg.SYS_START3 = d.reg Reg.SYS_START3 :=
    Dev.reg_of_fit h (by unfold ShowsPhase Reg.SYS_START3; omega)
  have lo : e.sfld Fd.SYS_START3_CBUS_LO = d.sfld Fd.SYS_START3_CBUS_LO := congrArg (sx _) (Dev.fld_congr start)
  have hi : e.sfld Fd.SYS_START3_CBUS_HI = d.sfld Fd.SYS_START3_CBUS_HI := congrArg (sx _) (Dev.fld_congr start)
  have aux : (e.st k).aux = (d.st k).aux := congrArg Fit.aux h
  simp only [Dev.preAux, lo, hi, aux]

/-- R101: the precharge conditions are judged by the fit of the cells. -/
theorem Dev.preOk_of_fit (hk : k < 8) : e.preOk k f = d.preOk k f := by
  have cells : e.preCells k = d.preCells k := by
    simp only [Dev.preCells, Dev.cellHere_of_fit h, Dev.failed_of_fit h hk]
  have small : ∀ p ∈ d.preCells k, p < 7 := fun p hp => by
    have := (List.mem_filter.1 hp).1
    simp [positions] at this
    omega
  have imbalance : e.fld Fd.SYS_START1_IMBALANCE = d.fld Fd.SYS_START1_IMBALANCE :=
    Dev.fld_congr (Dev.reg_of_fit h (a := 0x1C) (by unfold ShowsPhase; omega))
  have stable : e.fld Fd.SYS_START2_STABLE = d.fld Fd.SYS_START2_STABLE :=
    Dev.fld_congr (Dev.reg_of_fit h (a := 0x20) (by unfold ShowsPhase; omega))
  have span (p : Nat) : (e.cellC k p).vbusSpan = (d.cellC k p).vbusSpan := congrFun (congrArg Fit.span h) p
  have volts : (d.preCells k).map (e.vbus k) = (d.preCells k).map (d.vbus k) :=
    List.map_congr_left fun p hp => Dev.vbus_of_fit h hk (small p hp)
  have windows : (d.preCells k).all (e.inWindow k) = (d.preCells k).all (d.inWindow k) := by
    rw [Bool.eq_iff_iff, List.all_eq_true, List.all_eq_true]
    exact forall₂_congr fun p hp => by rw [Dev.inWindow_of_fit h hk (small p hp)]
  simp only [Dev.preOk, cells, volts, windows, imbalance, stable, span, Dev.preAux_of_fit h]

end

/-! ### Severity of RETRY (R309) -/

/-- Whether RETRY is severe is told by the string's window and by its setting. -/
theorem Dev.severe_congr (hp : (e.st k).pr = (d.st k).pr) (hr : e.reg (Reg.CHk_PR_W_RETRY k) = d.reg (Reg.CHk_PR_W_RETRY k)) :
    e.severe k srcRetry f = d.severe k srcRetry f := by
  have cfg : e.winCfg k srcRetry = d.winCfg k srcRetry := by
    have hn : e.fld (Fd.CHk_PR_W_RETRY_N k) = d.fld (Fd.CHk_PR_W_RETRY_N k) := Dev.fld_congr hr
    have hw : e.fld (Fd.CHk_PR_W_RETRY_WIN k) = d.fld (Fd.CHk_PR_W_RETRY_WIN k) := Dev.fld_congr hr
    have hu : e.bit (Fd.CHk_PR_W_RETRY_UNIT k) = d.bit (Fd.CHk_PR_W_RETRY_UNIT k) := Dev.bit_congr hr
    simp [Dev.winCfg, srcRetry, hn, hw, hu]
  simp only [Dev.severe, Dev.winAt, hp, cfg]

/-! ### A cell found wanting is failed (R232) -/

theorem Dev.reg_failCell (hm : a ≠ Reg.CHk_WH_MARKS k) (he : a ≠ Reg.CHk_WH_EVT k) : (d.failCell k p .start).reg a = d.reg a := by
  have test (d : Dev) (c : Bool) (u : TestSt → TestSt) : (if c then d.modTest k u else d).reg a = d.reg a := by split <;> rfl
  have cell (d : Dev) (u : CellC → CellC) : (d.modCell k p u).reg a = d.reg a := rfl
  have whisk (d : Dev) (u : WhiskSt → WhiskSt) : (d.modWh k u).reg a = d.reg a := rfl
  unfold Dev.failCell
  split
  · rfl
  · dsimp only
    rw [test, cell, whisk]
    exact (Dev.reg_evt_other he).trans (Dev.reg_put_other hm)

theorem Dev.failCell_pr : ((d.failCell k p .start).st k).pr = (d.st k).pr := by
  have test (d : Dev) (c : Bool) (u : TestSt → TestSt) : ((if c then d.modTest k u else d).st k).pr = (d.st k).pr := by
    split <;> rfl
  have cell (d : Dev) (u : CellC → CellC) : ((d.modCell k p u).st k).pr = (d.st k).pr := vat_vmod_part Str.pr fun _ => rfl
  have whisk (d : Dev) (u : WhiskSt → WhiskSt) : ((d.modWh k u).st k).pr = (d.st k).pr := vat_vmod_part Str.pr fun _ => rfl
  unfold Dev.failCell
  split
  · rfl
  · dsimp only
    rw [test, cell, whisk]
    rfl

/-- The marks of the cells once one has been found wanting: its own is set, and every other stands. -/
theorem Dev.failed_failCell (hq : q < 7) : (d.failCell k p .start).failed k q = (d.failed k q || decide (q = p)) := by
  have test (d : Dev) (c : Bool) (u : TestSt → TestSt) : (if c then d.modTest k u else d).failed k q = d.failed k q := by
    split <;> rfl
  have cell (d : Dev) (u : CellC → CellC) : (d.modCell k p u).failed k q = d.failed k q := rfl
  have whisk (d : Dev) (u : WhiskSt → WhiskSt) : (d.modWh k u).failed k q = d.failed k q := rfl
  have event (d : Dev) : (d.evt (Fd.CHk_WH_EVT_CELL_FAIL k)).failed k q = d.failed k q :=
    congrArg (tbit · q) (Dev.fld_evt_other (fits_of rfl) (.inl (off_ne (of_decide_eq_true rfl))))
  have mark : (d.put (Fd.CHk_WH_MARKS_FAILED k) (putBit (d.fld (Fd.CHk_WH_MARKS_FAILED k)) p true)).failed k q =
      (d.failed k q || decide (q = p)) := by
    rw [Dev.failed, Dev.fld_put_same (fits_of rfl), show (Fd.CHk_WH_MARKS_FAILED k).w = 7 from rfl, tbit_mod hq]
    by_cases h : q = p
    · subst h; simp [tbit_putBit_same]
    · simp [tbit_putBit_other h, h, Dev.failed]
  unfold Dev.failCell
  split
  next hf =>
    by_cases h : q = p
    · subst h; simp [hf]
    · simp [h]
  next =>
    dsimp only
    rw [test, cell, whisk]
    exact (event _).trans mark

theorem Dev.reg_failStart {bad : Nat → Bool} (hm : a ≠ Reg.CHk_WH_MARKS k) (he : a ≠ Reg.CHk_WH_EVT k) :
    (d.failStart k bad).reg a = d.reg a := by
  refine Dev.each_same (fun d : Dev => d.reg a) (fun d p => ?_) positions d
  split
  · exact Dev.reg_failCell hm he
  · rfl

theorem Dev.failStart_pr {bad : Nat → Bool} : ((d.failStart k bad).st k).pr = (d.st k).pr := by
  refine Dev.each_same (fun d : Dev => (d.st k).pr) (fun d p => ?_) positions d
  split
  · exact Dev.failCell_pr
  · rfl

/-- R232: a present cell that is found wanting is failed. -/
theorem Dev.failStart_failed {bad : Nat → Bool} (hp : p < 7) (hc : d.cellHere k p = true) (hb : bad p = true) :
    (d.failStart k bad).failed k p = true := by
  have here (d : Dev) (j : Nat) (hd : d.cellHere k p = true) :
      (if d.cellHere k j && bad j then d.failCell k j .start else d).cellHere k p = true := by
    split
    · exact (Dev.cellHere_congr (Dev.img_of_floor (Dev.floor_failCell (lo := 0)))).trans hd
    · exact hd
  have marked (d : Dev) (hd : d.cellHere k p = true) :
      (if d.cellHere k p && bad p then d.failCell k p .start else d).failed k p = true := by
    rw [if_pos (by simp [hd, hb]), Dev.failed_failCell hp]
    simp
  have stays (d : Dev) (j : Nat) (hd : d.failed k p = true) :
      (if d.cellHere k j && bad j then d.failCell k j .start else d).failed k p = true := by
    split
    · rw [Dev.failed_failCell hp, hd]
      rfl
    · exact hd
  exact Dev.each_attains here marked stays positions d (mem_positions hp) hc

/-! ### Links that are not accepted are rejected (R264) -/

theorem Dev.reg_rejectLink (hl : a ≠ Reg.CELLc_LINK (cellIx k p)) (he : a ≠ Reg.CHk_LK_EVT k) :
    (d.rejectLink k p n).reg a = d.reg a := by
  have event (d : Dev) (c : Bool) : (d.evtIf c (Fd.CHk_LK_EVT_ENUM k)).reg a = d.reg a := Dev.reg_evtIf_other he
  have state (d : Dev) : (d.put (Fd.CELLc_LINK_STATE (cellIx k p)) lkRejected).reg a = d.reg a := Dev.reg_put_other hl
  have detail (d : Dev) : (d.put (Fd.CELLc_LINK_DETAIL (cellIx k p)) n).reg a = d.reg a := Dev.reg_put_other hl
  unfold Dev.rejectLink Dev.enumDone
  rw [event, detail, state]

theorem Dev.rejectLink_st {j : Nat} : (d.rejectLink k p n).st j = d.st j := by
  have put (d : Dev) (g : Fld) (v : Nat) : (d.put g v).st j = d.st j := rfl
  have event (d : Dev) (c : Bool) (g : Fld) : (d.evtIf c g).st j = d.st j := by
    unfold Dev.evtIf
    split <;> rfl
  unfold Dev.rejectLink Dev.enumDone
  rw [event, put, put]

/-- The link of position p is rejected with a detail. -/
def Dev.Rejected (d : Dev) (k p n : Nat) : Prop :=
  d.linkState k p = lkRejected ∧ d.fld (Fd.CELLc_LINK_DETAIL (cellIx k p)) = n

theorem Dev.Rejected.congr (h : d.Rejected k p n)
    (hr : e.reg (Reg.CELLc_LINK (cellIx k p)) = d.reg (Reg.CELLc_LINK (cellIx k p))) : e.Rejected k p n :=
  ⟨(Dev.fld_congr hr).trans h.1, (Dev.fld_congr hr).trans h.2⟩

/-- The event of the string's links lies below the registers of its cells. -/
theorem link_ne_evt : Reg.CELLc_LINK q ≠ Reg.CHk_LK_EVT k := by
  unfold Reg.CELLc_LINK Reg.CHk_LK_EVT; omega

theorem Dev.rejectLink_rejected (hn : n < 256) : (d.rejectLink k p n).Rejected k p n := by
  have shown : ((d.put (Fd.CELLc_LINK_STATE (cellIx k p)) lkRejected).put (Fd.CELLc_LINK_DETAIL (cellIx k p)) n).Rejected k p n := by
    refine ⟨(Dev.fld_put_other (fits_of rfl) (.inr (.inl (of_decide_eq_true rfl)))).trans (Dev.fld_put_same (fits_of rfl)),
      (Dev.fld_put_same (fits_of rfl)).trans (Nat.mod_eq_of_lt hn)⟩
  exact shown.congr (Dev.reg_evtIf_other link_ne_evt)

/-- R264: the link of one position when ENUM ends. -/
def Dev.endLink (d : Dev) (k p : Nat) : Dev :=
  if !(d.cellHere k p) then d
  else if d.linkState k p == lkTraining then d.rejectLink k p 0x01
  else if d.linkState k p == lkManage then d.rejectLink k p 0x06
  else d

/-- R232: every rejected cell is a failed cell. -/
theorem Dev.endLinks_eq : d.endLinks k = (d.each positions (fun d p => d.endLink k p)).failStart k
    (fun p => (d.each positions (fun d p => d.endLink k p)).linkState k p == lkRejected) := rfl

/-- The end of ENUM leaves a link alone, or rejects it. -/
theorem Dev.endLink_cases : d.endLink k p = d ∨ ∃ n, d.endLink k p = d.rejectLink k p n := by
  unfold Dev.endLink
  split_ifs
  · exact .inl rfl
  · exact .inr ⟨1, rfl⟩
  · exact .inr ⟨6, rfl⟩
  · exact .inl rfl

theorem Dev.reg_endLink (hl : a ≠ Reg.CELLc_LINK (cellIx k p)) (he : a ≠ Reg.CHk_LK_EVT k) : (d.endLink k p).reg a = d.reg a := by
  rcases Dev.endLink_cases (d := d) (k := k) (p := p) with h | ⟨n, h⟩ <;> rw [h]
  exact Dev.reg_rejectLink hl he

theorem Dev.endLink_st {j : Nat} : (d.endLink k p).st j = d.st j := by
  rcases Dev.endLink_cases (d := d) (k := k) (p := p) with h | ⟨n, h⟩ <;> rw [h]
  exact Dev.rejectLink_st

theorem Dev.endLink_here : (d.endLink k q).cellHere k p = d.cellHere k p := by
  rcases Dev.endLink_cases (d := d) (k := k) (p := q) with h | ⟨n, h⟩ <;> rw [h]
  exact Dev.cellHere_congr (Dev.img_of_floor (Dev.floor_rejectLink (lo := 0)))

/-- The link of another position stays as it is. -/
theorem Dev.endLink_other (h : p ≠ q) :
    (d.endLink k q).reg (Reg.CELLc_LINK (cellIx k p)) = d.reg (Reg.CELLc_LINK (cellIx k p)) :=
  Dev.reg_endLink (cellReg_ne (b := 0) (c := 0) h (by decide) (by decide)) link_ne_evt

/-- A rejected link stays rejected. -/
theorem Dev.Rejected.endLink (h : d.Rejected k p n) : (d.endLink k q).Rejected k p n := by
  by_cases hq : p = q
  · subst hq
    have same : d.endLink k p = d := by
      unfold Dev.endLink
      simp [h.1, lkRejected, lkTraining, lkManage]
    rwa [same]
  · exact h.congr (Dev.endLink_other hq)

/-- R264: the state of a link that ENUM has not brought to acceptance, and the detail of its rejection. -/
def Unfinished (st n : Nat) : Prop := st = lkTraining ∧ n = 1 ∨ st = lkManage ∧ n = 6

theorem Dev.endLink_rejects {st : Nat} (hu : Unfinished st n) (hc : d.cellHere k p = true)
    (hs : d.linkState k p = st) : (d.endLink k p).Rejected k p n := by
  unfold Dev.endLink
  rcases hu with ⟨rfl, rfl⟩ | ⟨rfl, rfl⟩
  · rw [if_neg (by simp [hc]), if_pos (by simp [hs])]
    exact Dev.rejectLink_rejected (by decide)
  · rw [if_neg (by simp [hc]), if_neg (by simp [hs, lkManage, lkTraining]), if_pos (by simp [hs])]
    exact Dev.rejectLink_rejected (by decide)

theorem Dev.eachLink_rejects {st : Nat} (hp : p < 7) (hu : Unfinished st n) (hc : d.cellHere k p = true)
    (hs : d.linkState k p = st) : (d.each positions (fun d p => d.endLink k p)).Rejected k p n := by
  have rejects (d : Dev) (hd : d.cellHere k p = true ∧ (d.linkState k p = st ∨ d.Rejected k p n)) :
      (d.endLink k p).Rejected k p n :=
    hd.2.elim (Dev.endLink_rejects hu hd.1) Dev.Rejected.endLink
  refine Dev.each_attains (g := fun d p => d.endLink k p) (P := fun d => d.Rejected k p n)
    (I := fun d => d.cellHere k p = true ∧ (d.linkState k p = st ∨ d.Rejected k p n)) (fun d j hd => ?_) rejects
    (fun d j hd => hd.endLink) positions d (mem_positions hp) ⟨hc, .inl hs⟩
  refine ⟨Dev.endLink_here.trans hd.1, ?_⟩
  by_cases hj : p = j
  · subst hj; exact .inr (rejects d hd)
  · exact hd.2.imp (Dev.fld_congr (Dev.endLink_other hj)).trans Dev.Rejected.endLink

/-- R232, R264: when ENUM ends a present cell whose link is not accepted is rejected and failed. -/
theorem Dev.endLinks_reject {st : Nat} (hp : p < 7) (hu : Unfinished st n) (hc : d.cellHere k p = true)
    (hs : d.linkState k p = st) : (d.endLinks k).Rejected k p n ∧ (d.endLinks k).failed k p = true := by
  have ended := Dev.eachLink_rejects hp hu hc hs
  have here : (d.each positions (fun d p => d.endLink k p)).cellHere k p = true :=
    (Dev.each_same (fun d : Dev => d.cellHere k p) (fun d q => Dev.endLink_here) positions d).trans hc
  rw [Dev.endLinks_eq]
  refine ⟨ended.congr (Dev.reg_failStart ?_ ?_), Dev.failStart_failed hp here (by simp [ended.1])⟩
  · unfold Reg.CELLc_LINK Reg.CHk_WH_MARKS; omega
  · unfold Reg.CELLc_LINK Reg.CHk_WH_EVT; omega

theorem Dev.endLinks_severe : (d.endLinks k).severe k srcRetry f = d.severe k srcRetry f := by
  have links : ((d.each positions (fun d p => d.endLink k p)).st k).pr = (d.st k).pr :=
    Dev.each_same (fun d : Dev => (d.st k).pr) (fun d p => congrArg Str.pr Dev.endLink_st) positions d
  have cfg : (d.each positions (fun d p => d.endLink k p)).reg (Reg.CHk_PR_W_RETRY k) = d.reg (Reg.CHk_PR_W_RETRY k) :=
    Dev.each_same (fun d : Dev => d.reg (Reg.CHk_PR_W_RETRY k)) (fun d p => Dev.reg_endLink
      (by unfold Reg.CHk_PR_W_RETRY Reg.CELLc_LINK; omega) (off_ne (of_decide_eq_true rfl))) positions d
  rw [Dev.endLinks_eq]
  exact Dev.severe_congr (Dev.failStart_pr.trans links)
    ((Dev.reg_failStart (off_ne (of_decide_eq_true rfl)) (off_ne (of_decide_eq_true rfl))).trans cfg)

/-! ### ENUM_TIMEOUT -/

theorem exec_enumTimeout {s : State} {k : Fin 8} (hf : s.env.frameStart = true) (hi : s.dev.islandOk (islCh k.val) = true)
    (hp : s.dev.phase k.val = phEnum) (hm : (s.dev.st k.val).pr.pinMode = false)
    (ht : s.dev.fld Fd.SYS_START0_ENUM_TO ≤ (s.dev.st k.val).pr.frames) : exec (.enumTimeout k) s =
      .next { s with dev := ((s.dev.endLinks k.val).endEnum k.val s.env.tick).settled s.env.tick } := by
  have go : s.dev.enumTimeout k.val s.env.tick = (s.dev.endLinks k.val).endEnum k.val s.env.tick := by
    unfold Dev.enumTimeout
    exact if_pos (by simp [hp, hm, ht])
  show execEnumTimeout k s = _
  simp only [execEnumTimeout, onDev, hf, hi, Bool.and_self, if_true, go]

/-- R102: with enough cells the string goes to PRECHARGE, and STR_EN stays as it is. -/
theorem Dev.endEnum_enough (hk : k < 8) (h : d.enoughCells k = true) :
    (d.endEnum k f).phase k = phPrecharge ∧ (d.endEnum k f).enHigh k = d.enHigh k := by
  unfold Dev.endEnum
  rw [if_pos h]
  exact ⟨Dev.phase_setPhase_same hk (by decide), rfl⟩

theorem Dev.endEnum_short (hk : k < 8) (h : d.enoughCells k = false) : (d.endEnum k f).Waits k (d.severe k srcRetry f) := by
  have waits : d.endEnum k f = d.startWait k f false := by
    unfold Dev.endEnum
    exact if_neg (by simp [h])
  rw [waits]
  exact Dev.startWait_waits hk

/-! ### PRECHARGE_TIMEOUT -/

/-- R101: the cells outside their windows are failed. -/
def Dev.failWindows (d : Dev) (k : Nat) : Dev := d.failStart k (fun p => !(d.inWindow k p))

/-- R101, R102: what follows PRECHARGE. -/
def Dev.endPrecharge (d : Dev) (k f : Nat) : Dev :=
  if d.enoughCells k && d.preOk k f then d.enterTest k f else d.startWait k f false

theorem exec_prechargeTimeout {s : State} {k : Fin 8} (hf : s.env.frameStart = true) (hi : s.dev.islandOk (islCh k.val) = true)
    (hp : s.dev.phase k.val = phPrecharge) (ht : s.dev.fld Fd.SYS_START0_PRECHARGE_TO ≤ (s.dev.st k.val).pr.frames) :
    exec (.prechargeTimeout k) s =
      .next { s with dev := ((s.dev.failWindows k.val).endPrecharge k.val s.env.tick).settled s.env.tick } := by
  have go : s.dev.prechargeTimeout k.val s.env.tick = (s.dev.failWindows k.val).endPrecharge k.val s.env.tick := by
    unfold Dev.prechargeTimeout
    exact if_pos (by simp [hp, ht])
  show execPrechargeTimeout k s = _
  simp only [execPrechargeTimeout, onDev, hf, hi, Bool.and_self, if_true, go]

theorem Dev.endPrecharge_short (hk : k < 8) (h : d.enoughCells k = false ∨ d.preOk k f = false) :
    (d.endPrecharge k f).Waits k (d.severe k srcRetry f) := by
  have waits : d.endPrecharge k f = d.startWait k f false := by
    unfold Dev.endPrecharge
    exact if_neg (by rcases h with h | h <;> simp [h])
  rw [waits]
  exact Dev.startWait_waits hk

theorem Dev.fit_endPrecharge : (d.endPrecharge k f).fit k = d.fit k := by
  unfold Dev.endPrecharge
  split
  · exact Dev.fit_enterTest
  · exact Dev.fit_startWait

theorem Dev.failWindows_severe : (d.failWindows k).severe k srcRetry f = d.severe k srcRetry f :=
  Dev.severe_congr Dev.failStart_pr (Dev.reg_failStart (off_ne (of_decide_eq_true rfl)) (off_ne (of_decide_eq_true rfl)))

/-- R329: the test begins at QUIET with the test cell, at this frame start. -/
theorem Dev.enterTest_begins (hk : k < 8) (h : d.testCell k = some p) : (d.enterTest k f).phase k = phTest ∧
    (d.enterTest k f).fld (Fd.CHk_DT_STATUS_STEP k) = 1 ∧ ((d.enterTest k f).tst k).pos = p ∧
    ((d.enterTest k f).tst k).f0 = f := by
  have begun : d.enterTest k f = ((d.setPhase k phTest).modPr k (fun r => { r with since := f, frames := 0 })).testStart k f p := by
    unfold Dev.enterTest
    rw [h]
  have test (d : Dev) (u : TestSt → TestSt) (v : Nat) :
      ((d.modTest k u).put (Fd.CHk_DT_STATUS_STEP k) v).tst k = u (d.tst k) := vat_vmod_same hk
  have entered (d : Dev) (u : ProtSt → ProtSt) : ((d.setPhase k phTest).modPr k u).phase k = phTest :=
    (Dev.phase_of_floor Dev.floor_modPr).trans (Dev.phase_setPhase_same hk (by decide))
  have quiet (d : Dev) : (d.put (Fd.CHk_DT_STATUS_STEP k) 1).fld (Fd.CHk_DT_STATUS_STEP k) = 1 := Dev.fld_put_same (fits_of rfl)
  rw [begun]
  have started (d : Dev) : (d.testStart k f p).phase k = d.phase k := Dev.phase_of_floor Dev.floor_testStart
  refine ⟨(started _).trans (entered d _), ?_, ?_, ?_⟩
  all_goals unfold Dev.testStart
  · exact quiet _
  · rw [test]
  · rw [test]

/-- Settles O31: the cells are judged first, and neither the next phase nor SYS_STATE touches what they are judged by. -/
theorem entryTimeoutsJudgeTheCells : Obligations.EntryTimeoutsJudgeTheCells := by
  refine ⟨fun k s hf hi hp hm ht => ?_, fun k s hf hi hp ht => ?_⟩
  · have hk := k.isLt
    have same : (((s.dev.endLinks k.val).endEnum k.val s.env.tick).settled s.env.tick).fit k.val = (s.dev.endLinks k.val).fit k.val :=
      Dev.fit_settled.trans Dev.fit_endEnum
    refine ⟨_, exec_enumTimeout hf hi hp hm ht, ⟨rfl, rfl, rfl⟩, ?_⟩
    dsimp only
    have rejected {st n p : Nat} (hu : Unfinished st n) (hp7 : p < 7) (hc : s.dev.cellHere k.val p = true)
        (hs : s.dev.linkState k.val p = st) := (Dev.endLinks_reject hp7 hu hc hs).1.congr (Dev.link_of_fit same hk hp7)
    have failed {st n p : Nat} (hu : Unfinished st n) (hp7 : p < 7) (hc : s.dev.cellHere k.val p = true)
        (hs : s.dev.linkState k.val p = st) :=
      (congrFun (Dev.failed_of_fit same hk) p).trans (Dev.endLinks_reject hp7 hu hc hs).2
    refine ⟨fun p hp7 hc hs => ?_, fun p hp7 hc hs => ?_, fun h => ?_, fun h => ?_⟩
    · have hu : Unfinished lkTraining 1 := .inl ⟨rfl, rfl⟩
      exact ⟨(rejected hu hp7 hc hs).1, (rejected hu hp7 hc hs).2, failed hu hp7 hc hs⟩
    · have hu : Unfinished lkManage 6 := .inr ⟨rfl, rfl⟩
      exact ⟨(rejected hu hp7 hc hs).1, (rejected hu hp7 hc hs).2, failed hu hp7 hc hs⟩
    · obtain ⟨hphase, hen⟩ := Dev.endEnum_enough (f := s.env.tick) hk ((Dev.enoughCells_of_fit same hk).symm.trans h)
      exact ⟨Dev.settled_phase.trans hphase, Dev.settled_enHigh.trans (hen.trans (Dev.enHigh_of_floor Dev.floor_endLinks))⟩
    · have waits := Dev.endEnum_short (f := s.env.tick) hk ((Dev.enoughCells_of_fit same hk).symm.trans h)
      rw [Dev.endLinks_severe] at waits
      split
      next hs => exact waits.settled.latched hs
      next hs => exact waits.settled.waiting (Bool.eq_false_of_not_eq_true hs)
  · have hk := k.isLt
    have same : (((s.dev.failWindows k.val).endPrecharge k.val s.env.tick).settled s.env.tick).fit k.val =
        (s.dev.failWindows k.val).fit k.val := Dev.fit_settled.trans Dev.fit_endPrecharge
    have step : Reg.CHk_DT_STATUS k.val ∉ settledRegs :=
      strReg_settled (high_reg (of_decide_eq_true rfl)) (by unfold Reg.CHk_DT_STATUS; omega)
    refine ⟨_, exec_prechargeTimeout hf hi hp ht, ⟨rfl, rfl, rfl⟩, fun p hp7 hc hw => ?_, fun p he ho htc => ?_, fun h => ?_⟩
    · exact (congrFun (Dev.failed_of_fit same hk) p).trans (Dev.failStart_failed hp7 hc (by simp [hw]))
    · have goes : (s.dev.failWindows k.val).endPrecharge k.val s.env.tick = (s.dev.failWindows k.val).enterTest k.val s.env.tick :=
        if_pos (by rw [← Dev.enoughCells_of_fit same hk, ← Dev.preOk_of_fit same hk, Bool.and_eq_true]; exact ⟨he, ho⟩)
      obtain ⟨hphase, hstep, hpos, hf0⟩ := Dev.enterTest_begins (f := s.env.tick) hk ((Dev.testCell_of_fit same hk).symm.trans htc)
      refine ⟨?_, ?_, ?_, ?_⟩
      · exact Dev.settled_phase.trans (by rw [goes]; exact hphase)
      · exact (Dev.fld_congr (Dev.reg_settled step)).trans (by rw [goes]; exact hstep)
      all_goals
        dsimp only
        rw [Dev.tst, Dev.settled_test, goes]
      · exact hpos
      · exact hf0
    · rw [Dev.enoughCells_of_fit same hk, Dev.preOk_of_fit same hk] at h
      have waits := (Dev.endPrecharge_short hk h).settled (t := s.env.tick)
      rw [Dev.failWindows_severe] at waits
      split
      next hs => exact waits.latched hs
      next hs =>
        obtain ⟨hphase, hen, _⟩ := waits.waiting (Bool.eq_false_of_not_eq_true hs)
        exact ⟨hphase, hen⟩

end Sys2Proof.Machine
end

section
/-! What the records of an image load (R82 to R91): no word that is a BASELINE record's or lies in the standby table, and no
baseline but of the eight strings. -/
namespace Sys2Proof.Machine
variable {b c : ImgBuild} {is440 safe : Bool} {i a w o : Nat}

/-- R86: a word of a record is not one that only BASELINE records load, nor one of the standby table. -/
def WordLoadable (a : Nat) : Prop := baseOnly a = false ∧ ¬(0x2600 ≤ a ∧ a < 0x2800)

/-- The words and the baselines read so far are ones that records may load. -/
structure ImgBuild.Loadable (b : ImgBuild) : Prop where
  words : ∀ x ∈ b.words, WordLoadable x.addr
  bases : ∀ y ∈ b.bases, y.str < 8

theorem ImgBuild.Loadable.congr (h : b.Loadable) (hc : c.words = b.words ∧ c.bases = b.bases) : c.Loadable :=
  ⟨hc.1 ▸ h.words, hc.2 ▸ h.bases⟩

theorem ImgBuild.Loadable.fail {n : Nat} (h : b.Loadable) : (b.fail i n).Loadable := ⟨h.words, h.bases⟩

theorem ImgBuild.Loadable.either {q : Prop} [Decidable q] (hb : b.Loadable) (hc : c.Loadable) :
    (if q then b else c).Loadable := iteInduction (fun _ => hb) fun _ => hc

theorem ImgBuild.wordDetail_loadable (h : b.wordDetail is440 safe a w ≠ 4) : WordLoadable a := by
  unfold ImgBuild.wordDetail at h
  split at h
  · exact absurd rfl h
  · split at h
    · exact absurd rfl h
    next hc =>
      simp only [Bool.or_eq_true, Bool.and_eq_true, decide_eq_true_eq, not_or] at hc
      exact ⟨by simpa using hc.2, hc.1.2⟩

theorem ImgBuild.Loadable.word {x : LoadWord} (h : b.Loadable) (hx : WordLoadable x.addr) :
    ({ b with words := b.words ++ [x] } : ImgBuild).Loadable := by
  refine ⟨fun y hy => ?_, h.bases⟩
  rcases List.mem_append.1 hy with hy | hy
  · exact h.words y hy
  · rw [List.mem_singleton.1 hy]
    exact hx

theorem ImgBuild.Loadable.base {y : LoadBase} (h : b.Loadable) (hy : y.str < 8) :
    ({ b with bases := b.bases ++ [y] } : ImgBuild).Loadable := by
  refine ⟨h.words, fun x hx => ?_⟩
  rcases List.mem_append.1 hx with hx | hx
  · exact h.bases x hx
  · rw [List.mem_singleton.1 hx]
    exact hy

theorem ImgBuild.Loadable.taken {x : LoadWord} {n : Nat} (h : b.Loadable) (hx : n ≠ 4 → WordLoadable x.addr) :
    (if n == 4 || n == 6 then b else { b with words := b.words ++ [x] }).Loadable := by
  split
  · exact h
  next hn => exact h.word (hx fun h4 => hn (by simp [h4]))

/-- R86: a REG_LOAD or SAFE_REG_LOAD record. -/
theorem ImgBuild.Loadable.loadWords : ∀ (l : List Nat) (b : ImgBuild) (a o : Nat), b.Loadable →
    (b.loadWords is440 safe i a o l).Loadable
  | b0 :: b1 :: b2 :: b3 :: t, b, a, o, h => by
    unfold ImgBuild.loadWords
    refine ImgBuild.Loadable.loadWords t _ _ _ (.either (h.taken ?_).fail (h.taken ?_))
    all_goals exact ImgBuild.wordDetail_loadable
  | [], _, _, _, h | [_], _, _, _, h | [_, _], _, _, _, h | [_, _, _], _, _, _, h => h

/-- R87: a REG_LIMIT or SAFE_REG_LIMIT record loads no word. -/
theorem ImgBuild.Loadable.loadLimits : ∀ (n : Nat) (b : ImgBuild) (l : List Nat), b.Loadable → (b.loadLimits safe i n l).Loadable
  | 0, _, _, h => h
  | n + 1, b, l, h => by
    unfold ImgBuild.loadLimits
    split
    · exact h
    · exact ImgBuild.Loadable.loadLimits n _ _
        (.either ⟨h.words, h.bases⟩ h.fail)

theorem ImgBuild.loadFir_loads {fin : Nat} {p : List Nat} :
    (b.loadFir i fin p).words = b.words ∧ (b.loadFir i fin p).bases = b.bases := by
  unfold ImgBuild.loadFir
  dsimp only
  split_ifs <;> exact ⟨rfl, rfl⟩

/-- R90: a BASELINE record. -/
theorem ImgBuild.Loadable.loadBase {fin : Nat} {p : List Nat} (h : b.Loadable) : (b.loadBase i fin p).Loadable := by
  refine .either h.fail (.either h.fail (iteInduction (fun _ => h.fail) fun hk => h.base ?_))
  simp only [Bool.or_eq_true, not_or, Bool.not_eq_true', Bool.not_eq_false, Bool.and_eq_true, decide_eq_true_eq] at hk
  obtain ⟨⟨⟨⟨⟨hlt, _⟩, _⟩, _⟩, _⟩, _⟩ := hk
  exact hlt

theorem ImgBuild.Loadable.loadDir {l : Option (List MsgEnt)} (h : b.Loadable) : (match l with
    | some l => { b with dir := some (l, i) }
    | none => b.fail i 0x07 : ImgBuild).Loadable := by
  cases l with
  | some l => exact ⟨h.words, h.bases⟩
  | none => exact h.fail

/-- R83 to R91: one record, type by type. -/
theorem ImgBuild.Loadable.record {pos off t : Nat} {p : List Nat} (h : b.Loadable) :
    (b.record is440 safe pos i off t p).Loadable := by
  have platform {r s : Nat} {n : Bool} : ({ b with rate := r, strings := s, nand := n } : ImgBuild).Loadable := ⟨h.words, h.bases⟩
  have cellMap : ({ b with cells := p } : ImgBuild).Loadable := ⟨h.words, h.bases⟩
  have passcode : ({ b with pass := some p } : ImgBuild).Loadable := ⟨h.words, h.bases⟩
  unfold ImgBuild.record
  split
  · exact h.fail
  refine .either h.fail (.either h.fail (.either ?_ (.either ?_ (.either ?_ (.either ?_ (.either ?_ (.either ?_ (.either ?_
    (.either ?_ h)))))))))
  · exact .either h.fail (.either h.fail platform)
  · exact .either h.fail (.either h.fail cellMap)
  · exact .either h.fail (.either h.fail (.loadWords _ _ _ _ h))
  · exact .either h.fail (.loadLimits _ _ _ h)
  · exact h.congr ImgBuild.loadFir_loads
  · exact .either h.fail (.either h.fail (.either h.fail h.loadDir))
  · exact h.loadBase
  · exact .either h.fail (.either h.fail passcode)

/-- R82: the records of a section. -/
theorem ImgBuild.Loadable.section : ∀ (n : Nat) (b : ImgBuild) (pos off : Nat) (l : List Nat), b.Loadable →
    (b.section is440 safe n pos off l).Loadable
  | 0, _, _, _, _, h => h
  | n + 1, b, pos, off, l, h => by
    have read : ({ b with recs := b.recs ++ [(leAt l 0 2, off)] } : ImgBuild).Loadable := ⟨h.words, h.bases⟩
    unfold ImgBuild.section
    split
    · exact h
    dsimp only
    split
    · exact read.fail
    split
    · split
      · exact read.fail
      · exact read
    · exact ImgBuild.Loadable.section n _ _ _ _ read.record

theorem slotRecords_loadable {e : Env} {slotB : Bool} {errs : List ByteErr} : (slotRecords e slotB errs).Loadable := by
  have none : (default : ImgBuild).Loadable := ⟨fun _ hx => absurd hx List.not_mem_nil, fun _ hx => absurd hx List.not_mem_nil⟩
  unfold slotRecords
  exact (ImgBuild.Loadable.section _ _ _ _ _ (ImgBuild.Loadable.section _ _ _ _ _ none)).congr (readImage_loads ..)

end Sys2Proof.Machine
end

section
/-! The apply pass (R94, R95, R453): what a loaded word and a baseline write, what withdrawing the image leaves, and how the
CH domains are then switched off. -/
namespace Sys2Proof.Machine
variable {d e : Dev} {x : LoadWord} {b : ImgBuild} {a i k m n : Nat}

/-! ### Registers written one after another -/

/-- Only registers of `l` have changed. -/
structure RegWrites (l : List Nat) (d e : Dev) : Prop where
  only : OnlyRegs d e
  but : RegsBut d e l

theorem RegWrites.refl {l : List Nat} : RegWrites l d d := ⟨OnlyRegs.refl, fun _ _ => rfl⟩

theorem RegWrites.trans {u : Dev} {l r : List Nat} (h : RegWrites l d e) (h' : RegWrites r e u) : RegWrites (l ++ r) d u := by
  refine ⟨h.only.trans h'.only, fun a ha => ?_⟩
  rw [List.mem_append, not_or] at ha
  exact (h'.but a ha.2).trans (h.but a ha.1)

theorem RegWrites.put {g : Fld} {v : Nat} {l : List Nat} (h : RegWrites l d e) (hg : g.addr ∈ l) : RegWrites l d (e.put g v) :=
  ⟨h.only.trans OnlyRegs.put, fun a ha => (Dev.reg_put_other (ne_of_mem_of_not_mem hg ha).symm).trans (h.but a ha)⟩

theorem RegWrites.foldl {β : Type} {f : Dev → β → Dev} {g : β → List Nat} (h : ∀ d y, RegWrites (g y) d (f d y)) (l : List β)
    (d : Dev) : RegWrites (l.flatMap g) d (l.foldl f d) := by
  induction l generalizing d with
  | nil => exact RegWrites.refl
  | cons y l ih => exact (h d y).trans (ih _)

theorem RegWrites.pwr {l : List Nat} (h : RegWrites l d e) : e.pwr = d.pwr := by
  have only : e = _ := h.only
  rw [only]
theorem RegWrites.img {l : List Nat} (h : RegWrites l d e) : e.img = d.img := by
  have only : e = _ := h.only
  rw [only]

/-- What the step of one element attains from a standing condition, and every step keeps, the fold attains. -/
theorem foldl_attains {β : Type} {f : Dev → β → Dev} {I P : Dev → Prop} {z : β} : ∀ (l : List β) (d : Dev),
    (∀ d, ∀ y ∈ l, I d → I (f d y)) → (∀ d, I d → P (f d z)) → (∀ d, ∀ y ∈ l, P d → P (f d y)) → z ∈ l → I d →
    P (l.foldl f d) := by
  intro l
  induction l with
  | nil => intro d _ _ _ hz; exact absurd hz List.not_mem_nil
  | cons y l ih =>
    intro d hI hset hP hz hd
    by_cases hl : z ∈ l
    · exact ih _ (fun d y hy => hI d y (List.mem_cons_of_mem _ hy)) hset (fun d y hy => hP d y (List.mem_cons_of_mem _ hy)) hl
        (hI d y List.mem_cons_self hd)
    · obtain rfl : z = y := (List.mem_cons.1 hz).resolve_right hl
      exact List.foldlRecOn l f (hset d hd) fun d hd y hy => hP d y (List.mem_cons_of_mem _ hy) hd

/-! ### A loaded word (R453) -/

/-- The word of a register once a loaded word is written into it. -/
def LoadWord.into (x : LoadWord) (v : Word) : Word :=
  BitVec.ofNat 32 ((v.toNat &&& (0xFFFFFFFF - x.mask)) ||| (x.word &&& x.mask))

theorem Dev.addrRuns_congr (h : e.pwr = d.pwr) : e.addrRuns a = d.addrRuns a := by
  simp only [Dev.addrRuns, Dev.domRun, h]

/-- R452: a domain that does not run takes nothing. -/
theorem Dev.applyWord_stopped (h : d.addrRuns x.addr = false) : d.applyWord x = d := by
  unfold Dev.addrRuns at h
  unfold Dev.applyWord
  split
  next hb => rw [hb] at h; exact if_pos (by simp [h])
  next => rfl

/-- R69: a word of the image's table also stands in the standby copy. -/
theorem Dev.applyWord_table (h : d.addrRuns x.addr = true) (ht : 0x2400 ≤ x.addr ∧ x.addr < 0x2600) :
    d.applyWord x = (d.setReg x.addr (x.into (d.reg x.addr))).setReg (x.addr + 0x200)
      (x.into ((d.setReg x.addr (x.into (d.reg x.addr))).reg (x.addr + 0x200))) := by
  unfold Dev.addrRuns at h
  unfold Dev.applyWord
  split
  next hb =>
    rw [hb] at h
    exact (if_neg (by simp [h])).trans (if_pos (by simp [ht]))
  next hb => rw [hb] at h; exact absurd h Bool.false_ne_true

theorem Dev.applyWord_plain (h : d.addrRuns x.addr = true) (ht : ¬(0x2400 ≤ x.addr ∧ x.addr < 0x2600)) :
    d.applyWord x = d.setReg x.addr (x.into (d.reg x.addr)) := by
  unfold Dev.addrRuns at h
  unfold Dev.applyWord
  split
  next hb =>
    rw [hb] at h
    exact (if_neg (by simp [h])).trans (if_neg (by simpa using ht))
  next hb => rw [hb] at h; exact absurd h Bool.false_ne_true

theorem Dev.applyWord_writes : RegWrites [x.addr, x.addr + 0x200] d (d.applyWord x) := by
  cases h : d.addrRuns x.addr with
  | false => rw [Dev.applyWord_stopped h]; exact RegWrites.refl
  | true =>
    by_cases ht : 0x2400 ≤ x.addr ∧ x.addr < 0x2600
    · rw [Dev.applyWord_table h ht]
      refine ⟨OnlyRegs.setReg.trans OnlyRegs.setReg, fun a ha => ?_⟩
      simp only [List.mem_cons, List.not_mem_nil, or_false, not_or] at ha
      rw [Dev.reg_setReg_other ha.2, Dev.reg_setReg_other ha.1]
    · rw [Dev.applyWord_plain h ht]
      exact ⟨OnlyRegs.setReg, fun a ha => Dev.reg_setReg_other fun e => ha (e ▸ .head _)⟩

/-- Outside the standby table a loaded word shows at its own address alone. -/
theorem Dev.applyWord_reg (ha : a ≠ x.addr) (hs : ¬(0x2600 ≤ a ∧ a < 0x2800)) : (d.applyWord x).reg a = d.reg a := by
  by_cases ht : 0x2400 ≤ x.addr ∧ x.addr < 0x2600
  · exact Dev.applyWord_writes.but a (by simp; omega)
  · cases h : d.addrRuns x.addr with
    | false => rw [Dev.applyWord_stopped h]
    | true => rw [Dev.applyWord_plain h ht, Dev.reg_setReg_other ha]

theorem Dev.applyWord_same (h : d.addrRuns x.addr = true) : (d.applyWord x).reg x.addr = x.into (d.reg x.addr) := by
  by_cases ht : 0x2400 ≤ x.addr ∧ x.addr < 0x2600
  · rw [Dev.applyWord_table h ht, Dev.reg_setReg_other (by omega), Dev.reg_setReg_same]
  · rw [Dev.applyWord_plain h ht, Dev.reg_setReg_same]

/-! ### A baseline (R343) -/

/-- The registers of string k that only BASELINE records load. -/
def baseRegs (k : Nat) : List Nat := [Reg.LID_SUPk_BZ k, Reg.LID_SUPk_BA k, Reg.LID_SUPk_BR k, Reg.LID_SUPk_BC k,
  Reg.LID_SUPk_BE k, Reg.CHk_DT_RBASE k, Reg.CHk_DT_STATUS k]

theorem baseOnly_of_base (hk : k < 8) (ha : a ∈ baseRegs k) : baseOnly a = true := by
  have all : ∀ k < 8, ∀ a ∈ baseRegs k, baseOnly a = true := by decide
  exact all k hk a ha

theorem Dev.applyBase_writes {y : LoadBase} : RegWrites (baseRegs y.str) d (d.applyBase y) := by
  have bz : (Fd.LID_SUPk_BZ_Z_MAG y.str).addr ∈ baseRegs y.str := .head _
  have ba : (Fd.LID_SUPk_BA_Z_ARG y.str).addr ∈ baseRegs y.str := .tail _ (.head _)
  have bv : (Fd.LID_SUPk_BA_VALID y.str).addr ∈ baseRegs y.str := .tail _ (.head _)
  have br : (Fd.LID_SUPk_BR_R_DC y.str).addr ∈ baseRegs y.str := .tail _ (.tail _ (.head _))
  have bc : (Fd.LID_SUPk_BC_C_LINE y.str).addr ∈ baseRegs y.str := .tail _ (.tail _ (.tail _ (.head _)))
  have be : (Fd.LID_SUPk_BE_C_EOL y.str).addr ∈ baseRegs y.str := .tail _ (.tail _ (.tail _ (.tail _ (.head _))))
  have rbase : (Fd.CHk_DT_RBASE_RBASE y.str).addr ∈ baseRegs y.str := .tail _ (.tail _ (.tail _ (.tail _ (.tail _ (.head _)))))
  have status : (Fd.CHk_DT_STATUS_BVALID y.str).addr ∈ baseRegs y.str :=
    .tail _ (.tail _ (.tail _ (.tail _ (.tail _ (.tail _ (.head _))))))
  have lid (c : Prop) [Decidable c] (v0 v1 v2 v3 v4 v5 : Nat) : RegWrites (baseRegs y.str) d (if c then
      (((((d.put (Fd.LID_SUPk_BZ_Z_MAG y.str) v0).put (Fd.LID_SUPk_BA_Z_ARG y.str) v1).put (Fd.LID_SUPk_BA_VALID y.str) v2).put
        (Fd.LID_SUPk_BR_R_DC y.str) v3).put (Fd.LID_SUPk_BC_C_LINE y.str) v4).put (Fd.LID_SUPk_BE_C_EOL y.str) v5 else d) :=
    iteInduction (fun _ => (((((RegWrites.refl.put bz).put ba).put bv).put br).put bc).put be) fun _ => RegWrites.refl
  unfold Dev.applyBase
  exact iteInduction (motive := RegWrites _ d) (fun _ => ((lid _ _ _ _ _ _ _).put rbase).put status) fun _ => lid _ _ _ _ _ _ _

/-! ### Withdrawing the image (R95) -/

/-- A word merged in under a mask shows its bits there, and what agreed with it in other bits still does. -/
theorem merge_and {v w : Nat} (hm : m < 2 ^ 32) (hn : n < 2 ^ 32) (h : n = m ∨ v &&& n = w &&& n) :
    ((v &&& (0xFFFFFFFF - m)) ||| (w &&& m)) % 2 ^ 32 &&& n = w &&& n := by
  refine Nat.eq_of_testBit_eq fun i => ?_
  have keep : (0xFFFFFFFF - m).testBit i = (decide (i < 32) && !m.testBit i) := by
    rw [← Nat.testBit_two_pow_sub_succ hm]
    congr 1
    omega
  have hi : ¬ i < 32 → n.testBit i = false := fun hi =>
    Nat.testBit_eq_false_of_lt (hn.trans_le (Nat.pow_le_pow_right (by decide) (by omega)))
  have agree : n = m ∨ (v.testBit i && n.testBit i) = (w.testBit i && n.testBit i) := by
    refine h.imp id fun h => ?_
    rw [← Nat.testBit_and, ← Nat.testBit_and, h]
  simp only [Nat.testBit_and, Nat.testBit_or, Nat.testBit_mod_two_pow, keep]
  by_cases h32 : i < 32
  · rcases agree with rfl | agree
    · cases n.testBit i <;> simp [h32]
    · cases hmi : m.testBit i
      · simp [h32, agree]
      · cases n.testBit i <;> simp [h32]
  · simp [hi h32]

/-- The bits that a word loads read as at power-on reset. -/
def Dev.AtReset (d : Dev) (x : LoadWord) : Prop := (d.reg x.addr).toNat &&& x.mask = (resetWord x.addr).toNat &&& x.mask

/-- The load that returns the bits of a word to their reset value. -/
def LoadWord.undo (x : LoadWord) : LoadWord := { x with word := (resetWord x.addr).toNat }

theorem Dev.undo_same (hm : x.mask < 2 ^ 32) (hr : d.addrRuns x.addr = true) : (d.applyWord x.undo).AtReset x := by
  have same : (d.applyWord x.undo).reg x.addr = x.undo.into (d.reg x.addr) := Dev.applyWord_same (x := x.undo) hr
  rw [Dev.AtReset, same]
  exact merge_and hm hm (.inl rfl)

theorem Dev.AtReset.undo {y : LoadWord} (h : d.AtReset x) (hl : WordLoadable x.addr) (hx : x.mask < 2 ^ 32)
    (hy : y.mask < 2 ^ 32) : (d.applyWord y.undo).AtReset x := by
  by_cases ha : x.addr = y.addr
  · cases hr : d.addrRuns y.addr with
    | false => rwa [Dev.applyWord_stopped (x := y.undo) hr]
    | true =>
      have same : (d.applyWord y.undo).reg y.addr = y.undo.into (d.reg y.addr) := Dev.applyWord_same (x := y.undo) hr
      rw [Dev.AtReset, ha] at h
      rw [Dev.AtReset, ha, same]
      exact merge_and hy hx (.inr h)
  · rw [Dev.AtReset, Dev.applyWord_reg (x := y.undo) ha hl.2]
    exact h

/-- The registers of an image back at reset: its words, then its baselines. -/
def Dev.undoWords (d : Dev) (b : ImgBuild) : Dev := b.words.foldl (fun d x => d.applyWord x.undo) d
def Dev.undoBases (d : Dev) (b : ImgBuild) : Dev := b.bases.foldl (fun d y => d.applyBase { y with valid := 0, words := [] }) d

/-- The registers that the words and the baselines of an image may change. -/
def ImgBuild.wordRegs (b : ImgBuild) : List Nat := b.words.flatMap (fun x => [x.addr, x.addr + 0x200])
def ImgBuild.baselineRegs (b : ImgBuild) : List Nat := b.bases.flatMap (fun y => baseRegs y.str)

theorem Dev.undoWords_writes : RegWrites b.wordRegs d (d.undoWords b) :=
  RegWrites.foldl (fun _ x => Dev.applyWord_writes (x := x.undo)) b.words d

theorem Dev.undoBases_writes : RegWrites b.baselineRegs d (d.undoBases b) :=
  RegWrites.foldl (fun _ y => Dev.applyBase_writes (y := { y with valid := 0, words := [] })) b.bases d

theorem Dev.unload_regs : (d.unload b).regs = ((d.undoWords b).undoBases b).regs := rfl

theorem Dev.unload_frame : ∃ r m, d.unload b = { d with regs := r, firMem := m } := by
  have only : (d.undoWords b).undoBases b = { d with regs := ((d.undoWords b).undoBases b).regs } :=
    Dev.undoWords_writes.only.trans Dev.undoBases_writes.only
  exact ⟨_, _, congrArg (fun u : Dev => { u with firMem := (d.unload b).firMem }) only⟩

/-- R95: the bits of every word that the image loads are back at their reset value. -/
theorem Dev.unload_atReset (hb : b.Loadable) (hm : ∀ x ∈ b.words, x.mask < 2 ^ 32) (hx : x ∈ b.words)
    (hr : d.addrRuns x.addr = true) : (d.unload b).AtReset x := by
  have hl := hb.words x hx
  have words : (d.undoWords b).AtReset x :=
    foldl_attains (I := fun d => d.addrRuns x.addr = true) (P := fun d => d.AtReset x) b.words d
      (fun d y _ hd => (Dev.addrRuns_congr (Dev.applyWord_writes (x := y.undo)).pwr).trans hd)
      (fun d hd => Dev.undo_same (hm x hx) hd) (fun d y hy hd => hd.undo hl (hm x hx) (hm y hy)) hx hr
  have apart : x.addr ∉ b.baselineRegs := by
    intro ha
    obtain ⟨y, hy, hya⟩ := List.mem_flatMap.1 ha
    exact Bool.false_ne_true (hl.1.symm.trans (baseOnly_of_base (hb.bases y hy) hya))
  rw [Dev.AtReset, Dev.reg_congr Dev.unload_regs, Dev.undoBases_writes.but _ apart]
  exact words

end Sys2Proof.Machine
end

section
/-! The apply pass tick by tick, its end, and the domains switched off when it has failed (R94, R95, R453). -/
namespace Sys2Proof.Machine
variable {d e : Dev} {s : State} {b : ImgBuild} {c : Bool} {a i k n : Nat}

/-! ### A tick of the pass (R453) -/

/-- The words whose last byte is read at tick n of the pass. -/
def ImgBuild.wordsAt (b : ImgBuild) (n : Nat) : List LoadWord := b.words.filter (fun x => x.off + 20 == n)

/-- A coefficient bank goes to the FIR memories alone. -/
theorem applyFirs_frame : ∀ (l : List LoadFir) (d : Dev), ∃ m, l.foldl Dev.applyFir d = { d with firMem := m }
  | [], d => ⟨d.firMem, rfl⟩
  | x :: l, d => by
    obtain ⟨m, hm⟩ := applyFirs_frame l (d.applyFir x)
    exact ⟨m, hm⟩

/-- At a tick that no baseline ends, the words due are written, and coefficients. -/
theorem Dev.applyReached_words (hb : b.bases.all (fun y => y.fin + 16 != n) = true) :
    ∃ m, d.applyReached b (· == n) = { (b.wordsAt n).foldl Dev.applyWord d with firMem := m } := by
  have none : b.bases.filter (fun y => y.fin + passLead == n) = [] := by
    rw [List.filter_eq_nil_iff]
    intro y hy
    simpa [passLead] using List.all_eq_true.1 hb y hy
  obtain ⟨m, hm⟩ := applyFirs_frame (b.firs.filter (fun x => x.fin + passLead == n)) ((b.wordsAt n).foldl Dev.applyWord d)
  refine ⟨m, ?_⟩
  unfold Dev.applyReached
  rw [none]
  exact hm

theorem Dev.applyReached_none (hb : b.bases.all (fun y => y.fin + 16 != n) = true) (hl : b.wordsAt n = []) :
    (d.applyReached b (· == n)).regs = d.regs := by
  obtain ⟨m, hm⟩ := Dev.applyReached_words (d := d) hb
  rw [hm, hl]
  rfl

theorem Dev.applyReached_one {z : LoadWord} (hb : b.bases.all (fun y => y.fin + 16 != n) = true) (hl : b.wordsAt n = [z]) :
    (d.applyReached b (· == n)).regs = (d.applyWord z).regs := by
  obtain ⟨m, hm⟩ := Dev.applyReached_words (d := d) hb
  rw [hm, hl]
  rfl

/-- Outside the Rack tables a loaded word changes its own register, if its domain runs. -/
theorem Dev.applyWord_outside {z : LoadWord} (ho : 0x2400 ≤ z.addr → z.addr < 0x2800 → False) :
    (d.applyWord z).reg z.addr = (if d.addrRuns z.addr then z.into (d.reg z.addr) else d.reg z.addr) ∧
      RegsBut d (d.applyWord z) [z.addr] := by
  cases h : d.addrRuns z.addr with
  | false =>
    rw [Dev.applyWord_stopped h]
    exact ⟨rfl, fun _ _ => rfl⟩
  | true =>
    refine ⟨Dev.applyWord_same h, fun a ha => ?_⟩
    rw [Dev.applyWord_plain h fun ht => ho ht.1 (by omega), Dev.reg_setReg_other (by simpa using ha)]

theorem Dev.applyReached_img {due : Nat → Bool} : (d.applyReached b due).img = d.img := by
  obtain ⟨m, hm⟩ := applyFirs_frame (b.firs.filter (fun x => due (x.fin + passLead)))
    ((b.words.filter (fun x => due (x.off + 4 + passLead))).foldl Dev.applyWord d)
  unfold Dev.applyReached
  rw [(RegWrites.foldl (fun _ _ => Dev.applyBase_writes) _ _).img, hm]
  exact (RegWrites.foldl (fun _ _ => Dev.applyWord_writes) _ d).img

/-- The controller when a tick of the pass has elapsed, with what upsets have left of the check bits. -/
def Dev.passTick (d : Dev) (x : List (Nat × Nat)) : Dev := { d with ecc := x, img := { d.img with passPos := d.img.passPos + 1 } }

theorem Dev.passTick_reg {x : List (Nat × Nat)} : (d.passTick x).reg a = d.reg a := rfl
theorem Dev.passTick_regs {x : List (Nat × Nat)} : (d.passTick x).regs = d.regs := rfl
theorem Dev.passTick_pwr {x : List (Nat × Nat)} : (d.passTick x).pwr = d.pwr := rfl

/-- R453: the word whose last byte a tick of the pass reads is written. -/
theorem Dev.passTick_word {x : List (Nat × Nat)} {z : LoadWord} (hb : b.bases.all (fun y => y.fin + 16 != n) = true)
    (hl : b.wordsAt n = [z]) (ho : 0x2400 ≤ z.addr → z.addr < 0x2800 → False) :
    ((d.passTick x).applyReached b (· == n)).reg z.addr =
      (if d.addrRuns z.addr then z.into (d.reg z.addr) else d.reg z.addr) ∧
    RegsBut d ((d.passTick x).applyReached b (· == n)) [z.addr] := by
  have regs := Dev.applyReached_one (d := d.passTick x) hb hl
  obtain ⟨own, others⟩ := Dev.applyWord_outside (d := d.passTick x) ho
  rw [Dev.addrRuns_congr Dev.passTick_pwr, Dev.passTick_reg] at own
  exact ⟨(Dev.reg_congr regs).trans own, fun a ha => ((Dev.reg_congr regs).trans (others a ha)).trans Dev.passTick_reg⟩

/-- What the slot holds does not depend on the time. -/
theorem slotRecords_advance {e : Env} {locked : Bool} {errs : List ByteErr} :
    slotRecords (e.advance locked) c errs = slotRecords e c errs := rfl

theorem exec_applyTick {sd0 sd1 : BitVec 20} {ups : List Upset} {slips : List Slip} (ha : s.dev.aonRuns = true)
    (hs : s.env.started = false) (hp : s.dev.img.phase = .apply c) (hr : s.dev.imgRuns s.env = true)
    (hc : s.dev.chReady = true) : ∃ x, exec (.tick sd0 sd1 ⟨ups, slips⟩) s = .next { s with
      env := s.env.advance s.dev.pwr.locked
      dev := (s.dev.passTick x).applyReached (slotRecords s.env c []) (· == s.dev.img.passPos + 1) } := by
  obtain ⟨x, hx⟩ := Dev.upsets_eq ups s.dev
  refine ⟨x, ?_⟩
  have runs : ({ s.dev with ecc := x } : Dev).imgRuns (s.env.advance s.dev.pwr.locked) = true := hr
  have ready : ({ s.dev with ecc := x } : Dev).chReady = true := hc
  have pass : ({ s.dev with ecc := x } : Dev).applyTick (s.env.advance s.dev.pwr.locked) =
      (s.dev.passTick x).applyReached (slotRecords s.env c []) (· == s.dev.img.passPos + 1) := by
    unfold Dev.applyTick
    split
    next c' hc' =>
      obtain rfl : c' = c := by simpa [hp] using hc'.symm
      rw [if_neg (by simp [runs, ready]), slotRecords_advance]
      rfl
    next h => exact absurd hp (h c)
  have ends : s.dev.tickEnd (s.env.advance s.dev.pwr.locked) sd0 sd1 ups slips =
      ({ s.dev with ecc := x } : Dev).applyTick (s.env.advance s.dev.pwr.locked) := by
    unfold Dev.tickEnd
    dsimp only
    rw [hx]
    exact if_neg (by simp [Env.advance, hs])
  show execTick sd0 sd1 ⟨ups, slips⟩ s = _
  simp only [execTick, onEnvDev, ha, if_true, ends, pass]

/-! ### The end of the pass (R94, R95) -/

/-- The CRCs recomputed are those of the validation pass. -/
def ImgPass.confirms (p : ImgPass) (g : ImgSeen) : Bool := p.crcOk && p.genCrc == g.genCrc && p.safeCrc == g.safeCrc

/-- What stands once the pass has loaded the image. -/
def Dev.applyEnds (d : Dev) (p : ImgPass) (c : Bool) (now : Nat) : Dev :=
  let u := (d.applyImage p c).imgPhase .done
  { u with img := { u.img with applyDone := true, readyAt := max u.img.readyAt now } }

theorem exec_applyPassDone {errs : List ByteErr} (hp : s.dev.img.phase = .apply c) (hr : s.dev.imgRuns s.env = true)
    (hc : s.dev.chReady = true) : exec (.applyPassDone errs) s = .next { s with
      dev := if (imagePass s.env c errs).confirms s.dev.img.seen then s.dev.applyEnds (imagePass s.env c errs) c s.env.lockTicks
        else s.dev.applyFailed s.env c } := by
  show execApplyPassDone errs s = _
  simp only [execApplyPassDone, onDev, hp, hr, hc, Bool.not_true, Bool.or_self, Bool.false_eq_true, if_false]
  rfl

theorem Dev.applyImage_shows {p : ImgPass} : (d.applyImage p c).fld Fd.IMG_STATUS_LOADED = (if c then 2 else 1) ∧
    (d.applyImage p c).fld Fd.IMG_SITE_ID_SITE_ID = p.head.site % 2 ^ 32 ∧
    (d.applyImage p c).fld Fd.IMG_PROFILE_PROFILE = p.head.profile % 2 ^ 16 := by
  have shown (d : Dev) (v x y : Nat) (hv : v < 4) :
      (((d.put Fd.IMG_STATUS_LOADED v).put Fd.IMG_SITE_ID_SITE_ID x).put Fd.IMG_PROFILE_PROFILE y).fld Fd.IMG_STATUS_LOADED = v ∧
      (((d.put Fd.IMG_STATUS_LOADED v).put Fd.IMG_SITE_ID_SITE_ID x).put Fd.IMG_PROFILE_PROFILE y).fld Fd.IMG_SITE_ID_SITE_ID =
        x % 2 ^ 32 ∧
      (((d.put Fd.IMG_STATUS_LOADED v).put Fd.IMG_SITE_ID_SITE_ID x).put Fd.IMG_PROFILE_PROFILE y).fld Fd.IMG_PROFILE_PROFILE =
        y % 2 ^ 16 := by
    refine ⟨?_, ?_, Dev.fld_put_same (by decide)⟩
    · rw [Dev.fld_put_other (by decide) (by decide), Dev.fld_put_other (by decide) (by decide), Dev.fld_put_same (by decide)]
      exact Nat.mod_eq_of_lt hv
    · rw [Dev.fld_put_other (by decide) (by decide), Dev.fld_put_same (by decide)]
      rfl
  exact shown _ _ _ _ (by cases c <;> decide)

theorem Dev.applyEnds_shows {p : ImgPass} {now : Nat} : (d.applyEnds p c now).img.phase = .done ∧
    (d.applyEnds p c now).img.applyDone = true ∧ (d.applyEnds p c now).fld Fd.IMG_STATUS_LOADED = (if c then 2 else 1) ∧
    (d.applyEnds p c now).fld Fd.IMG_SITE_ID_SITE_ID = p.head.site % 2 ^ 32 ∧
    (d.applyEnds p c now).fld Fd.IMG_PROFILE_PROFILE = p.head.profile % 2 ^ 16 ∧
    (d.applyEnds p c now).img.cfg.strings = p.build.strings ∧ (d.applyEnds p c now).img.cfg.rate = p.build.rate := by
  have regs : (d.applyEnds p c now).regs = (d.applyImage p c).regs := rfl
  have cfg : (d.applyEnds p c now).img.cfg = (d.applyImage p c).img.cfg := rfl
  obtain ⟨loaded, site, profile⟩ := Dev.applyImage_shows (d := d) (p := p) (c := c)
  refine ⟨rfl, rfl, (Dev.fld_congr (Dev.reg_congr regs)).trans loaded, (Dev.fld_congr (Dev.reg_congr regs)).trans site,
    (Dev.fld_congr (Dev.reg_congr regs)).trans profile, ?_, ?_⟩
  all_goals
    rw [cfg]
    rfl

theorem Dev.applyFailed_img {v : Env} : (d.applyFailed v c).img.phase = .applyFail ∧
    (d.applyFailed v c).img.failDue = v.lockTicks + 1 := ⟨rfl, rfl⟩

/-- R94: the registers in which the refusal of an image shows. -/
def refusalRegs : List Nat := [Reg.IMG_SLOT_A, Reg.IMG_SLOT_B, Reg.IMG_EVT, Reg.IMG_STATUS]

theorem Dev.applyFailed_regs {v : Env} : (d.applyFailed v c).regs =
    (((d.unload (slotRecords v c [])).slotResult c resApplyCrc).putB Fd.IMG_STATUS_FALLBACK false).regs := rfl

theorem Dev.applyFailed_reg {v : Env} (ha : a ∉ refusalRegs) :
    (d.applyFailed v c).reg a = (d.unload (slotRecords v c [])).reg a := by
  simp only [refusalRegs, List.mem_cons, List.not_mem_nil, or_false, not_or] at ha
  obtain ⟨hA, hB, hE, hS⟩ := ha
  rw [Dev.reg_congr Dev.applyFailed_regs, Dev.reg_putB_other hS]
  exact Dev.slotResult_reg (by cases c; exacts [hA, hB]) hE

theorem Dev.applyFailed_shows {v : Env} : (d.applyFailed v c).fld (resultField c) = 0xB ∧
    (d.applyFailed v c).bit Fd.IMG_STATUS_FALLBACK = false := by
  refine ⟨(Dev.fld_congr (Dev.reg_congr Dev.applyFailed_regs)).trans ?_,
    (Dev.bit_congr (Dev.reg_congr Dev.applyFailed_regs)).trans (Dev.bit_putB_same (by decide) rfl)⟩
  rw [Dev.fld_putB_other (by decide) (by cases c <;> decide)]
  exact Dev.slotResult_fld (by decide)

theorem Dev.applyFailed_frame {v : Env} : ∃ r g m, d.applyFailed v c = { d with regs := r, img := g, firMem := m } := by
  obtain ⟨r, m, unloaded⟩ := Dev.unload_frame (d := d) (b := slotRecords v c [])
  have shown : OnlyRegs (d.unload (slotRecords v c []))
      (((d.unload (slotRecords v c [])).slotResult c resApplyCrc).putB Fd.IMG_STATUS_FALLBACK false) :=
    Dev.slotResult_only.1.trans OnlyRegs.put
  obtain ⟨r', refused⟩ : ∃ r', ((d.unload (slotRecords v c [])).slotResult c resApplyCrc).putB Fd.IMG_STATUS_FALLBACK false =
      { d.unload (slotRecords v c []) with regs := r' } := ⟨_, shown⟩
  unfold Dev.applyFailed
  rw [refused, unloaded]
  exact ⟨_, _, _, rfl⟩

/-- R95: beside the refusal, only registers that the image loads have changed. -/
theorem Dev.applyFailed_regsBut {v : Env} : RegsBut d (d.applyFailed v c)
    (refusalRegs ++ (slotRecords v c []).wordRegs ++ (slotRecords v c []).baselineRegs) := by
  intro a ha
  simp only [List.mem_append, not_or] at ha
  obtain ⟨⟨hr, hw⟩, hb⟩ := ha
  rw [Dev.applyFailed_reg hr, Dev.reg_congr Dev.unload_regs, Dev.undoBases_writes.but a hb, Dev.undoWords_writes.but a hw]

/-! ### The CH domains are switched off (R453) -/

/-- Domain i is off, and it alone: its string's STR_EN is low and its state OFF. -/
def Dev.SwitchedOff (d u : Dev) (i : Nat) : Prop :=
  domSt u i = .off ∧ (∀ j, j ≠ i → domSt u j = domSt d j) ∧ u.enHigh (i - 8) = false ∧ u.phase (i - 8) = phOff

theorem Dev.domOff_switchedOff (hi : i < 16) (h8 : 8 ≤ i) : d.SwitchedOff (d.domOff i .off) i := by
  obtain ⟨off, others, _, string, _⟩ := Dev.domOff_off (d := d) hi
  exact ⟨off, others, (string h8).2, (string h8).1⟩

/-- A string's domain leaves the image state alone. -/
theorem Dev.domOff_off_img (hi : i < 16) (h8 : 8 ≤ i) : (d.domOff i .off).img = d.img := by
  have lid : (i == domLid) = false := by simp [domLid]; omega
  have host : (i == domHost) = false := by simp [domHost]; omega
  unfold Dev.domOff
  rw [lid, host]
  simp [h8, hi, Dev.strEn_img]

/-- The configuration is forgotten: the next candidate brings its own. -/
def Dev.forget (d : Dev) : Dev := { d with img := { d.img with cfg := default } }

theorem Dev.forget_next_pwr : d.forget.nextCandidate.pwr = d.pwr := by
  rw [Dev.nextCandidate_frame]
  rfl

theorem Dev.forget_next_cons {cs : List Bool} (h : d.img.cands = c :: cs) :
    d.forget.nextCandidate.img.phase = .validate c ∧ d.forget.nextCandidate.img.cands = cs := by
  rw [Dev.nextCandidate_cons (d := d.forget) h]
  exact ⟨rfl, rfl⟩

theorem Dev.forget_next_nil (h : d.img.cands = []) : d.forget.nextCandidate.img.phase = .done := by
  rw [Dev.nextCandidate_nil (d := d.forget) h]
  exact Dev.noImage_phase

theorem Dev.SwitchedOff.next {u : Dev} (h : d.SwitchedOff u i) : d.SwitchedOff u.forget.nextCandidate i := by
  have dom : domSt u.forget.nextCandidate = domSt u := by funext j; simp only [domSt, Dev.forget_next_pwr]
  have en : u.forget.nextCandidate.enHigh (i - 8) = u.enHigh (i - 8) :=
    congrArg (fun p : Power => vat p.strEn (i - 8)) Dev.forget_next_pwr
  have phase : u.forget.nextCandidate.phase (i - 8) = u.phase (i - 8) :=
    Dev.fld_congr (Dev.nextCandidate_reg (d := u.forget) (a := Reg.SYS_STR_STATE) (by decide))
  unfold Dev.SwitchedOff
  rw [dom, en, phase]
  exact h

/-- The CH domains, the highest first. -/
abbrev chOrder : List Nat := [15, 14, 13, 12, 11, 10, 9, 8]

theorem exec_applyFail_none (hp : s.dev.img.phase = .applyFail) (hd : s.dev.img.failDue ≤ s.env.lockTicks)
    (hl : chOrder.filter s.dev.powered = []) :
    exec .applyFailDomainOff s = .next { s with dev := s.dev.forget.nextCandidate } := by
  show execApplyFailDomainOff s = _
  simp only [execApplyFailDomainOff, onDev, hp, hd, hl]
  rfl

theorem exec_applyFail_last (hp : s.dev.img.phase = .applyFail) (hd : s.dev.img.failDue ≤ s.env.lockTicks)
    (hl : chOrder.filter s.dev.powered = [i]) :
    exec .applyFailDomainOff s = .next { s with dev := (s.dev.domOff i .off).forget.nextCandidate } := by
  show execApplyFailDomainOff s = _
  simp only [execApplyFailDomainOff, onDev, hp, hd, hl]
  rfl

theorem exec_applyFail_more {j : Nat} {l : List Nat} (hp : s.dev.img.phase = .applyFail)
    (hd : s.dev.img.failDue ≤ s.env.lockTicks) (hl : chOrder.filter s.dev.powered = i :: j :: l) :
    exec .applyFailDomainOff s = .next { s with
      dev := { s.dev.domOff i .off with img := { (s.dev.domOff i .off).img with failDue := s.env.lockTicks + 256 } } } := by
  show execApplyFailDomainOff s = _
  simp only [execApplyFailDomainOff, onDev, hp, hd, hl]
  rfl

theorem ch_of_powered {l : List Nat} (h : chOrder.filter d.powered = i :: l) : i < 16 ∧ 8 ≤ i := by
  have hi : i ∈ chOrder := (List.mem_filter.1 (h ▸ List.mem_cons_self)).1
  have all : ∀ i ∈ chOrder, i < 16 ∧ 8 ≤ i := by decide
  exact all i hi

/-- Settles O18: each clause by what its command makes of the controller; a word that an image loads is none of a
baseline's and none of the standby table's, so no later load of the withdrawal touches it. -/
theorem applyingTheImage : Obligations.ApplyingTheImage := by
  refine ⟨fun sd0 sd1 ups slips c s ha hs hp hr hc => ?_, fun errs c s hp hr hc => ?_, fun s hp hd => ?_⟩
  · obtain ⟨x, htick⟩ := exec_applyTick (sd0 := sd0) (sd1 := sd1) (ups := ups) (slips := slips) ha hs hp hr hc
    refine ⟨_, htick, rfl, rfl, Dev.applyReached_img, fun z _ hl hout hb => ?_, fun hl hb => ?_⟩
    · have due : (slotRecords s.env c []).wordsAt (s.dev.img.passPos + 1) = [z] := hl
      have word := Dev.passTick_word (d := s.dev) (x := x) hb due hout
      exact word
    · have due : (slotRecords s.env c []).wordsAt (s.dev.img.passPos + 1) = [] := hl
      have same := Dev.applyReached_none (d := s.dev.passTick x) hb due
      exact same.trans Dev.passTick_regs
  · refine ⟨_, exec_applyPassDone hp hr hc, ⟨rfl, rfl, rfl⟩, fun hok => ?_, fun hok => ?_⟩
    · have ok : (imagePass s.env c errs).confirms s.dev.img.seen = true := hok
      dsimp only
      rw [if_pos ok]
      exact Dev.applyEnds_shows
    · have ok : ¬ (imagePass s.env c errs).confirms s.dev.img.seen = true := fun h => Bool.false_ne_true (hok.symm.trans h)
      dsimp only
      rw [if_neg ok]
      obtain ⟨hphase, hdue⟩ := Dev.applyFailed_img (d := s.dev) (c := c) (v := s.env)
      obtain ⟨hres, hback⟩ := Dev.applyFailed_shows (d := s.dev) (c := c) (v := s.env)
      refine ⟨hphase, hdue, hres, hback, ?_, fun hm z hz hrun hout => ?_, Dev.applyFailed_regsBut⟩
      · obtain ⟨r, g, m, h⟩ := Dev.applyFailed_frame (d := s.dev) (c := c) (v := s.env)
        rw [h]
      · rw [Dev.applyFailed_reg hout]
        exact Dev.unload_atReset slotRecords_loadable hm hz hrun
  · match hl : chOrder.filter s.dev.powered with
    | [] =>
      refine ⟨_, exec_applyFail_none hp hd hl, ⟨rfl, rfl, rfl⟩, fun _ _ h => (nomatch h),
        fun _ => ⟨fun j => ?_, fun c cs h => ?_, fun h => ?_⟩⟩
      · simp only [domSt, Dev.forget_next_pwr]
      · exact Dev.forget_next_cons h
      · exact Dev.forget_next_nil h
    | [i] =>
      obtain ⟨hi, h8⟩ := ch_of_powered hl
      refine ⟨_, exec_applyFail_last hp hd hl, ⟨rfl, rfl, rfl⟩, fun i' rest h => ?_, fun h => (nomatch h)⟩
      obtain ⟨rfl, rfl⟩ := List.cons.inj h
      obtain ⟨off, others, en, phase⟩ := (Dev.domOff_switchedOff (d := s.dev) hi h8).next
      exact ⟨off, others, en, phase, fun h => absurd rfl h, fun _ c cs h =>
        Dev.forget_next_cons ((congrArg ImgSt.cands (Dev.domOff_off_img hi h8)).trans h)⟩
    | i :: j :: l =>
      obtain ⟨hi, h8⟩ := ch_of_powered hl
      refine ⟨_, exec_applyFail_more hp hd hl, ⟨rfl, rfl, rfl⟩, fun i' rest h => ?_, fun h => (nomatch h)⟩
      obtain ⟨rfl, rfl⟩ := List.cons.inj h
      obtain ⟨off, others, en, phase⟩ := Dev.domOff_switchedOff (d := s.dev) hi h8
      refine ⟨off, others, en, phase, fun _ => ?_, fun h => absurd h (by simp)⟩
      dsimp only
      rw [Dev.domOff_off_img hi h8]

end Sys2Proof.Machine
end

section
/-! What qualifies a received clock (R116 to R118, R129): the fields that TDM ports and AES3 receivers are judged by and
show, the run of clean frames and the latest sync, and what leaves them alone. -/
namespace Sys2Proof.Machine
variable {d : Dev} {n qt len a : Nat} {f g : Fld}

/-! ### The gauges of a port -/

/-- The fields that qualify the clock of a port and show how it stands. -/
def gauges (n : Nat) : List Fld :=
  if n < 4 then [Fd.TDMn_CFG_FRAME_BITS n, Fd.TDMn_CFG_RATE n, Fd.TDMn_STATUS_ACCEPT n, Fd.TDMn_STATUS_CLEAN n,
    Fd.TDMn_CLKMON_TOL n, Fd.TDMn_PERIOD_PERIOD n, Fd.TDMn_ERR_CNT_RATE n, Fd.TDMn_ERR_CNT_MISSING n,
    Fd.TDMn_ERR_CNT_EARLY n, Fd.TDMn_ERR_CNT_LOSS n, Fd.TDMn_EVT_LOSS n, Fd.TDMn_EVT_LOCK n]
  else [Fd.AESn_CFG_RATE (n - 4), Fd.AESn_STATUS_ACCEPT (n - 4), Fd.AESn_STATUS_CLEAN (n - 4), Fd.AESn_CLKMON_TOL (n - 4),
    Fd.AESn_PERIOD_PERIOD (n - 4), Fd.AESn_ERR_CNT_LOSS (n - 4), Fd.AESn_ERR_CNT_BIPHASE (n - 4), Fd.AESn_EVT_LOSS (n - 4),
    Fd.AESn_EVT_LOCK (n - 4)]

/-- How a port stands: its gauges, the clean frames of the run and their length, the latest sync. -/
structure Gauge where
  fld : Fld → Nat
  run : Nat × Nat
  sync : Option Nat

def Dev.gauge (d : Dev) (n : Nat) : Gauge :=
  ⟨fun g => if g ∈ gauges n then d.fld g else 0, ((d.port1 n).runN, (d.port1 n).runTot), (d.port1 n).lastSync⟩

/-- One gauge is set. -/
def Gauge.set (x : Gauge) (f : Fld) (v : Nat) : Gauge := { x with fld := Function.update x.fld f v }

theorem Dev.fld_of_gauge (h : g ∈ gauges n) : d.fld g = (d.gauge n).fld g := by simp [Dev.gauge, h]

theorem Dev.runN_of_gauge : (d.port1 n).runN = (d.gauge n).run.1 := rfl
theorem Dev.runTot_of_gauge : (d.port1 n).runTot = (d.gauge n).run.2 := rfl
theorem Dev.sync_of_gauge : (d.port1 n).lastSync = (d.gauge n).sync := rfl

theorem gauges_fit : ∀ n < 6, ∀ g ∈ gauges n, g.fits := by decide

theorem gauges_apart : ∀ n < 6, ∀ f ∈ gauges n, ∀ g ∈ gauges n, f ≠ g → f.apart g := by decide

/-- The gauges of a port stand among the first registers of its block. -/
theorem gauges_addr : ∀ n < 6, ∀ g ∈ gauges n, g.addr < 0x3080 + 0x400 * n := by decide

theorem gauges_low (hn : n < 6) (hg : g ∈ gauges n) : g.addr < 0x5000 := by
  have := gauges_addr n hn g hg
  omega

/-! ### What leaves them alone -/

theorem Dev.gauge_congr {e : Dev} (hf : ∀ g ∈ gauges n, e.fld g = d.fld g) (hp : e.port1 n = d.port1 n) :
    e.gauge n = d.gauge n := by
  have fld : (fun g => if g ∈ gauges n then e.fld g else 0) = fun g => if g ∈ gauges n then d.fld g else 0 := by
    funext g
    split
    · exact hf g ‹_›
    · rfl
  simp only [Dev.gauge, fld, hp]

theorem Dev.gauge_setReg {v : Word} (h : ∀ g ∈ gauges n, g.addr ≠ a) : (d.setReg a v).gauge n = d.gauge n :=
  Dev.gauge_congr (fun g hg => Dev.fld_congr (Dev.reg_setReg_other (h g hg))) rfl

theorem Dev.gauge_putApart {v : Nat} (hf : f.fits) (h : ∀ g ∈ gauges n, f.apart g) : (d.put f v).gauge n = d.gauge n :=
  Dev.gauge_congr (fun g hg => Dev.fld_put_other hf (h g hg)) rfl

section
variable (hn : n < 6) (h : 0x5000 ≤ f.addr)
include hn h

/-- A register above the ports' own. -/
theorem Dev.gauge_put {v : Nat} : (d.put f v).gauge n = d.gauge n :=
  Dev.gauge_setReg fun _ hg => Nat.ne_of_lt (Nat.lt_of_lt_of_le (gauges_low hn hg) h)

theorem Dev.gauge_putB {v : Bool} : (d.putB f v).gauge n = d.gauge n := Dev.gauge_put hn h
theorem Dev.gauge_putI {v : Int} : (d.putI f v).gauge n = d.gauge n := Dev.gauge_put hn h
theorem Dev.gauge_evt : (d.evt f).gauge n = d.gauge n := Dev.gauge_put hn h
theorem Dev.gauge_evtIf {c : Bool} : (d.evtIf c f).gauge n = d.gauge n := by
  unfold Dev.evtIf; split
  · exact Dev.gauge_evt hn h
  · rfl

end

@[simp] theorem Dev.gauge_modConv {m : Nat} {u : ConvSt → ConvSt} : (d.modConv m u).gauge n = d.gauge n := rfl
@[simp] theorem Dev.gauge_modAes {m : Nat} {u : AesSt → AesSt} : (d.modAes m u).gauge n = d.gauge n := rfl
@[simp] theorem Dev.gauge_align {x : AlignSt} : ({ d with align := x } : Dev).gauge n = d.gauge n := rfl

/-- The FIFO, the pending set and the transmitted frame of a port. -/
theorem Dev.gauge_modPort {u : PortSt → PortSt} (h : ∀ p, (u p).runN = p.runN ∧ (u p).runTot = p.runTot ∧
    (u p).lastSync = p.lastSync) : (d.modPort n u).gauge n = d.gauge n := by
  have part := vat_vmod_part (v := d.port) (i := n) (j := n) (f := u) (fun p => (p.runN, p.runTot, p.lastSync))
    fun p => by obtain ⟨h1, h2, h3⟩ := h p; simp [h1, h2, h3]
  simp only [Prod.mk.injEq] at part
  obtain ⟨h1, h2, h3⟩ := part
  simp only [Dev.gauge, Dev.port1, Dev.modPort_port, h1, h2, h3]
  rfl

/-- What a fold of operations that keep the gauges keeps. -/
theorem Dev.gauge_foldl {β : Type} {u : Dev → β → Dev} (l : List β) (d : Dev)
    (h : ∀ d, ∀ x ∈ l, (u d x).gauge n = d.gauge n) : (l.foldl u d).gauge n = d.gauge n := by
  induction l generalizing d with
  | nil => rfl
  | cons x l ih =>
    exact (ih (u d x) fun d y hy => h d y (List.mem_cons_of_mem _ hy)).trans (h d x List.mem_cons_self)

section
variable (hn : n < 6)
include hn

theorem Dev.gauge_showConv {m : Nat} : (d.showConv m).gauge n = d.gauge n := by
  unfold Dev.showConv
  dsimp only
  have high {c : Nat} (h : 0x5000 ≤ c) : 0x5000 ≤ c + 0x10 * m := Nat.le_add_right_of_le h
  rw [Dev.gauge_putB hn (high (of_decide_eq_true rfl)), Dev.gauge_putB hn (high (of_decide_eq_true rfl)),
    Dev.gauge_putB hn (high (of_decide_eq_true rfl)), Dev.gauge_putI hn (high (of_decide_eq_true rfl)),
    Dev.gauge_putI hn (high (of_decide_eq_true rfl))]

theorem Dev.gauge_convUnlock {m : Nat} : (d.convUnlock m).gauge n = d.gauge n := by
  unfold Dev.convUnlock
  dsimp only
  rw [Dev.gauge_showConv hn, Dev.gauge_evtIf hn (by decide), Dev.gauge_modConv]

theorem Dev.gauge_acquire {m : Nat} {x : Int} : (d.acquire m x).gauge n = d.gauge n := by
  unfold Dev.acquire
  exact (Dev.gauge_showConv hn).trans Dev.gauge_modConv

theorem Dev.gauge_groupAccept {m : Nat} : (d.groupAccept m qt).gauge n = d.gauge n := by
  unfold Dev.groupAccept
  dsimp only
  split_ifs <;> simp only [Dev.gauge_acquire hn, Dev.gauge_showConv hn, Dev.gauge_modConv]

theorem Dev.gauge_refUnlock : d.refUnlock.gauge n = d.gauge n := by
  unfold Dev.refUnlock
  dsimp only
  split_ifs
  · rw [Dev.gauge_evt hn (by decide), Dev.gauge_putB hn (by decide), Dev.gauge_align]
  · rfl

theorem Dev.gauge_groupLoss {m : Nat} : (d.groupLoss m).gauge n = d.gauge n := by
  unfold Dev.groupLoss Dev.gridClear
  dsimp only
  split_ifs <;> simp only [Dev.gauge_convUnlock hn, Dev.gauge_refUnlock hn, Dev.gauge_showConv hn, Dev.gauge_modConv]

theorem Dev.gauge_convSync {m : Nat} : (d.convSync m qt).gauge n = d.gauge n := by
  unfold Dev.convSync Dev.convAdvance
  dsimp only
  split_ifs <;> simp only [Dev.gauge_showConv hn, Dev.gauge_modConv]

end

theorem Dev.gauge_gridPush {m : Nat} : (d.gridPush m qt).gauge n = d.gauge n := rfl

/-! ### A frame is delivered, a set is taken up -/

theorem fifo_apart : ∀ n < 4, ∀ g ∈ gauges n, (Fd.TDMn_STATUS_FILL n).apart g ∧ (Fd.TDMn_FIFO_CNT_OVERFLOW n).apart g ∧
    (Fd.TDMn_EVT_FIFO n).apart g := by decide

theorem Dev.gauge_setFifo {l : List AFrame} : (d.setFifo n l).gauge n = d.gauge n := by
  have fifo : (d.modPort n (fun p => { p with fifo := l })).gauge n = d.gauge n := by
    apply Dev.gauge_modPort
    exact fun _ => ⟨rfl, rfl, rfl⟩
  unfold Dev.setFifo
  dsimp only
  split_ifs with h
  · exact (Dev.gauge_putApart (of_decide_eq_true rfl) fun g hg => (fifo_apart n h g hg).1).trans fifo
  · exact fifo

theorem Dev.gauge_deliver {ts : Nat} {ch : List Int} : (d.deliver n ts ch).gauge n = d.gauge n := by
  have kept (c : Bool) (u : ConvSt → ConvSt) : (if c then d.modConv n u else d).gauge n = d.gauge n := by
    split <;> rfl
  have full (d : Dev) (h : n < 4) : ((d.bump (Fd.TDMn_FIFO_CNT_OVERFLOW n)).evt (Fd.TDMn_EVT_FIFO n)).gauge n = d.gauge n :=
    (Dev.gauge_putApart (of_decide_eq_true rfl) fun g hg => (fifo_apart n h g hg).2.2).trans
      (Dev.gauge_putApart (of_decide_eq_true rfl) fun g hg => (fifo_apart n h g hg).2.1)
  unfold Dev.deliver
  lift_lets
  extract_lets grp c num e old
  have he : e.gauge n = d.gauge n := kept _ _
  split_ifs with _ _ h4
  · exact he
  · exact (full e h4).trans he
  · exact he
  · exact Dev.gauge_setFifo.trans he

theorem set_apart : ∀ n < 4, ∀ g ∈ gauges n, (Fd.TDMn_STATUS_CHANNELS n).apart g ∧
    (Fd.TDMn_STATUS_UPDATE_PENDING n).apart g ∧ (Fd.TDMn_EVT_UPDATE n).apart g ∧ g.addr ≠ Reg.TDMn_LIVE_FMT n ∧
    g.addr ≠ Reg.TDMn_LIVE_MASK n := by decide

theorem Dev.gauge_takeSet (hn : n < 4) : (d.takeSet n).gauge n = d.gauge n := by
  have src (d : Dev) (j : Nat) : (d.setReg (Reg.TDMn_LIVE_TXSRCj n j) (d.reg (Reg.TDMn_TXSRCj n j))).gauge n = d.gauge n :=
    Dev.gauge_setReg fun g hg => by
      have := gauges_addr n (by omega) g hg
      simp only [Reg.TDMn_LIVE_TXSRCj]; omega
  unfold Dev.takeSet
  dsimp only
  rw [Dev.gauge_putApart (of_decide_eq_true rfl) fun g hg => (set_apart n hn g hg).1,
    Dev.gauge_foldl _ _ fun d j _ => src d j, Dev.gauge_setReg fun g hg => (set_apart n hn g hg).2.2.2.2,
    Dev.gauge_setReg fun g hg => (set_apart n hn g hg).2.2.2.1]

theorem Dev.gauge_syncSet (hn : n < 4) : (d.syncSet n qt).gauge n = d.gauge n := by
  have taken (d : Dev) : ((((d.takeSet n).modPort n (fun p => { p with pendTick := none })).putB
      (Fd.TDMn_STATUS_UPDATE_PENDING n) false).evt (Fd.TDMn_EVT_UPDATE n)).gauge n = d.gauge n := by
    refine (Dev.gauge_putApart (of_decide_eq_true rfl) fun g hg => (set_apart n hn g hg).2.2.1).trans ?_
    refine (Dev.gauge_putApart (of_decide_eq_true rfl) fun g hg => (set_apart n hn g hg).2.1).trans ?_
    refine (Dev.gauge_modPort ?_).trans (Dev.gauge_takeSet hn)
    exact fun _ => ⟨rfl, rfl, rfl⟩
  have fresh : d.fresh.2.gauge n = d.gauge n := rfl
  unfold Dev.syncSet
  dsimp only
  split
  · rfl
  · split
    · split
      · exact (taken _).trans fresh
      · exact fresh
    · exact taken d

theorem Dev.gauge_sendFrameTdm {src : List Int} : (d.sendFrameTdm n src).gauge n = d.gauge n :=
  Dev.gauge_modPort fun _ => ⟨rfl, rfl, rfl⟩

end Sys2Proof.Machine
end

section
/-! Qualification of a received clock (R116 to R118, R129): what a clean frame, the end of a run, a loss and an acceptance
make of the gauges of a port. -/
namespace Sys2Proof.Machine
variable {d e : Dev} {x y : Gauge} {n qt len v : Nat} {f g : Fld}

/-! ### What is written of them -/

theorem fd_mem : ∀ n < 6, fdAccept n ∈ gauges n ∧ fdClean n ∈ gauges n ∧ fdTol n ∈ gauges n ∧ fdPeriod n ∈ gauges n ∧
    fdLoss n ∈ gauges n ∧ fdEvtLoss n ∈ gauges n ∧ fdEvtLock n ∈ gauges n := by decide

theorem fd_width : ∀ n < 6, (fdAccept n).w = 1 ∧ (fdClean n).w = 7 ∧ (fdPeriod n).w = 20 ∧ (fdLoss n).w = 8 ∧
    (fdEvtLoss n).w = 1 ∧ (fdEvtLock n).w = 1 := by decide

theorem fd_nodup : ∀ n < 6, [fdAccept n, fdClean n, fdTol n, fdPeriod n, fdLoss n, fdEvtLoss n, fdEvtLock n].Nodup := by
  decide

section
variable (hn : n < 6)
include hn

theorem Dev.gauge_putOwn (hf : f ∈ gauges n) : (d.put f v).gauge n = (d.gauge n).set f (v % 2 ^ f.w) := by
  have fld : (fun g => if g ∈ gauges n then (d.put f v).fld g else 0) =
      Function.update (fun g => if g ∈ gauges n then d.fld g else 0) f (v % 2 ^ f.w) := by
    funext g
    by_cases hg : g = f
    · subst hg
      rw [Function.update_self, if_pos hf, Dev.fld_put_same (gauges_fit n hn g hf)]
    · rw [Function.update_of_ne hg]
      split
      · exact Dev.fld_put_other (gauges_fit n hn f hf) (gauges_apart n hn f hf g ‹_› (Ne.symm hg))
      · rfl
  simp only [Dev.gauge, fld]
  rfl

theorem Dev.gauge_addOwn (hf : f ∈ gauges n) :
    (d.add f v).gauge n = (d.gauge n).set f (addSat f.w ((d.gauge n).fld f) v) := by
  rw [Dev.add, Dev.gauge_putOwn hn hf, Nat.mod_eq_of_lt (addSat_lt _ _ _), Dev.fld_of_gauge hf]

theorem Dev.accepted_eq_gauge : d.accepted n = ((d.gauge n).fld (fdAccept n) == 1) := by
  rw [Dev.accepted, Dev.bit_eq_fld (fd_width n hn).1, Dev.fld_of_gauge (fd_mem n hn).1]

theorem Dev.gauge_modRun {u : PortSt → PortSt} : (d.modPort n u).gauge n = { d.gauge n with
    run := ((u (d.port1 n)).runN, (u (d.port1 n)).runTot), sync := (u (d.port1 n)).lastSync } := by
  have same : (d.modPort n u).port1 n = u (d.port1 n) := by simp [Dev.port1, hn]
  simp only [Dev.gauge, same]
  rfl

end

/-! ### Runs, losses and acceptance -/

/-- A run of clean frames ends. -/
def Gauge.ended (x : Gauge) (n : Nat) : Gauge := { x.set (fdClean n) 0 with run := (0, 0) }

/-- R118, R129: an accepted port is lost. -/
def Gauge.lost (x : Gauge) (n : Nat) : Gauge :=
  (((x.ended n).set (fdAccept n) 0).set (fdLoss n) (addSat 8 (x.fld (fdLoss n)) 1)).set (fdEvtLoss n) 1

/-- What a frame that is not clean, or a rate out of tolerance, leaves: an accepted port is lost. -/
def Gauge.dropped (x : Gauge) (n : Nat) : Gauge := if x.fld (fdAccept n) = 1 then x.lost n else x.ended n

/-- A clean frame that does not end its run (R117). -/
def Gauge.counted (x : Gauge) (n len : Nat) : Gauge :=
  { x.set (fdClean n) (min 64 (x.fld (fdClean n) + 1)) with run := (x.run.1 + 1, x.run.2 + len) }

/-- The 64th clean frame of a run (R117). -/
def Gauge.filled (x : Gauge) (n len : Nat) : Gauge :=
  { (x.set (fdClean n) (min 64 (x.fld (fdClean n) + 1))).set (fdPeriod n) (min (2 ^ 20 - 1) (x.run.2 + len)) with run := (0, 0) }

/-- R117, R129: the port is accepted. -/
def Gauge.locked (x : Gauge) (n : Nat) : Gauge := (x.set (fdAccept n) 1).set (fdEvtLock n) 1

/-- The source rate of a port (R110, R127). -/
def fdRate (n : Nat) : Fld := if n < 4 then Fd.TDMn_CFG_RATE n else Fd.AESn_CFG_RATE (n - 4)

/-- The nominal length of a frame in quarter-ticks (R116). -/
def Gauge.nominal (x : Gauge) (n : Nat) : Nat := 4 * (512 / 2 ^ x.fld (fdRate n))

/-- R117: the length of a run of 64 frames is within tolerance. -/
def Gauge.inRate (x : Gauge) (n tot : Nat) : Bool :=
  decide (((tot : Int) - (64 * x.nominal n : Nat)).natAbs * 1000000 ≤ x.fld (fdTol n) * (64 * x.nominal n))

theorem fdRate_mem : ∀ n < 6, fdRate n ∈ gauges n := by decide

theorem fdClean_ne : ∀ n < 6, fdRate n ≠ fdClean n ∧ fdTol n ≠ fdClean n := by decide

/-- What judges a run stays as it is while clean frames are counted. -/
theorem Gauge.setClean_same (hn : n < 6) : (x.set (fdClean n) v).nominal n = x.nominal n ∧
    (x.set (fdClean n) v).fld (fdTol n) = x.fld (fdTol n) := by
  obtain ⟨hr, ht⟩ := fdClean_ne n hn
  have rate : (x.set (fdClean n) v).fld (fdRate n) = x.fld (fdRate n) := Function.update_of_ne hr _ _
  exact ⟨by rw [Gauge.nominal, rate, Gauge.nominal], Function.update_of_ne ht _ _⟩

theorem Dev.nominalQt_eq (hn : n < 6) : d.nominalQt n = (d.gauge n).nominal n := by
  rw [Gauge.nominal, ← Dev.fld_of_gauge (fdRate_mem n hn)]
  unfold Dev.nominalQt Dev.srcPeriod fdRate
  split <;> rfl

section
variable (hn : n < 6)
include hn

theorem Dev.gauge_runReset : (d.runReset n).gauge n = (d.gauge n).ended n := by
  unfold Dev.runReset
  rw [Dev.gauge_putOwn hn (fd_mem n hn).2.1, Dev.gauge_modRun hn, Nat.zero_mod]
  rfl

theorem Dev.gauge_portLoss : (d.portLoss n).gauge n = (d.gauge n).lost n := by
  obtain ⟨accept, _, _, _, loss, evt, _⟩ := fd_mem n hn
  obtain ⟨waccept, _, _, wloss, wevt, _⟩ := fd_width n hn
  have hloss : ((((d.gauge n).ended n).set (fdAccept n) 0).fld (fdLoss n)) = (d.gauge n).fld (fdLoss n) := by
    have := fd_nodup n hn
    simp only [List.nodup_cons, List.mem_cons, not_or] at this
    obtain ⟨⟨_, _, _, ha, _⟩, ⟨_, _, hc, _⟩, _⟩ := this
    simp [Gauge.ended, Gauge.set, Function.update_of_ne (Ne.symm ha), Function.update_of_ne (Ne.symm hc)]
  unfold Dev.portLoss
  dsimp only
  rw [Dev.gauge_groupLoss hn, Dev.evt, Dev.putB, Dev.gauge_putOwn hn evt, Dev.bump, Dev.gauge_addOwn hn loss, Dev.putB,
    Dev.gauge_putOwn hn accept, Dev.gauge_setFifo, Dev.gauge_runReset hn, waccept, wloss, wevt]
  show (((((d.gauge n).ended n).set (fdAccept n) 0).set (fdLoss n) (addSat 8
    ((((d.gauge n).ended n).set (fdAccept n) 0).fld (fdLoss n)) 1)).set (fdEvtLoss n) 1) = _
  rw [hloss]
  rfl

theorem Dev.gauge_portAccept : (d.portAccept n qt).gauge n = (d.gauge n).locked n := by
  obtain ⟨accept, _, _, _, _, _, lock⟩ := fd_mem n hn
  obtain ⟨waccept, _, _, _, _, wlock⟩ := fd_width n hn
  unfold Dev.portAccept
  rw [Dev.gauge_groupAccept hn, Dev.evt, Dev.putB, Dev.gauge_putOwn hn lock, Dev.putB, Dev.gauge_putOwn hn accept, waccept,
    wlock]
  rfl

/-- A frame that is not clean. -/
theorem Dev.gauge_drop : (if d.accepted n then d.portLoss n else d.runReset n).gauge n = (d.gauge n).dropped n := by
  unfold Gauge.dropped
  simp only [Dev.accepted_eq_gauge hn, beq_iff_eq]
  split
  · exact Dev.gauge_portLoss hn
  · exact Dev.gauge_runReset hn

/-- A clean frame before the 64th of its run. -/
theorem Dev.cleanFrame_counted (h : (d.port1 n).runN < 63) :
    (d.cleanFrame n len).2 = none ∧ (d.cleanFrame n len).1.gauge n = (d.gauge n).counted n len := by
  have clean := (fd_mem n hn).2.1
  have short : (d.port1 n).runN + 1 < 64 := by omega
  unfold Dev.cleanFrame
  simp only [short, if_true]
  rw [Dev.gauge_modRun hn, Dev.gauge_putOwn hn clean, (fd_width n hn).2.1, Nat.mod_eq_of_lt (by omega),
    Dev.fld_of_gauge clean]
  exact ⟨trivial, rfl⟩

/-- The 64th clean frame of a run: the answer is the rate check. -/
theorem Dev.cleanFrame_filled (h : 63 ≤ (d.port1 n).runN) :
    (d.cleanFrame n len).2 = some ((d.gauge n).inRate n ((d.port1 n).runTot + len)) ∧
    (d.cleanFrame n len).1.gauge n = (d.gauge n).filled n len := by
  obtain ⟨_, clean, tol, period, _⟩ := fd_mem n hn
  obtain ⟨_, wclean, wperiod, _⟩ := fd_width n hn
  have full : ¬ (d.port1 n).runN + 1 < 64 := by omega
  have hput : (d.put (fdClean n) (min 64 (d.fld (fdClean n) + 1))).gauge n =
      (d.gauge n).set (fdClean n) (min 64 ((d.gauge n).fld (fdClean n) + 1)) := by
    rw [Dev.gauge_putOwn hn clean, wclean, Nat.mod_eq_of_lt (by omega), Dev.fld_of_gauge clean]
  unfold Dev.cleanFrame
  simp only [full, if_false]
  refine ⟨?_, ?_⟩
  · obtain ⟨nominal, tolerance⟩ := Gauge.setClean_same (x := d.gauge n) (v := min 64 ((d.gauge n).fld (fdClean n) + 1)) hn
    rw [Dev.nominalQt_eq hn, Dev.fld_of_gauge tol, hput, nominal, tolerance, Gauge.inRate]
  · rw [Dev.gauge_putOwn hn period, Dev.gauge_modRun hn, hput, wperiod, satNat, Nat.mod_eq_of_lt (by omega)]
    rfl

end
end Sys2Proof.Machine
end

section
/-! Received frames (R116 to R118, R123, R129): what the gauges of a port show once a frame has been judged. -/
namespace Sys2Proof.Machine
variable {d e : Dev} {x y : Gauge} {n q qt len tot v : Nat} {f g : Fld} {sd : List Bool}

/-! ### Reading the gauges -/

/-- The fields that the end of a run or a loss may change. -/
def lossFds (n : Nat) : List Fld := [fdAccept n, fdClean n, fdLoss n, fdEvtLoss n]

/-- One event is counted in a field of 8 bits. -/
def Gauge.stepped (x : Gauge) (f : Fld) (v : Nat) : Gauge := x.set f (addSat 8 (x.fld f) v)

theorem Gauge.set_other (h : g ≠ f) : (x.set f v).fld g = x.fld g := Function.update_of_ne h _ _
theorem Gauge.set_same : (x.set f v).fld f = v := Function.update_self _ _ _
theorem Gauge.stepped_other (h : g ≠ f) : (x.stepped f v).fld g = x.fld g := Gauge.set_other h

theorem Gauge.dropped_other (h : g ∉ lossFds n) : (x.dropped n).fld g = x.fld g := by
  simp only [lossFds, List.mem_cons, List.not_mem_nil, or_false, not_or] at h
  obtain ⟨ha, hc, hl, he⟩ := h
  unfold Gauge.dropped
  split
  · exact (Gauge.set_other he).trans ((Gauge.set_other hl).trans ((Gauge.set_other ha).trans (Gauge.set_other hc)))
  · exact Gauge.set_other hc

theorem Gauge.filled_other (hc : g ≠ fdClean n) (hp : g ≠ fdPeriod n) : (x.filled n len).fld g = x.fld g :=
  (Gauge.set_other hp).trans (Gauge.set_other hc)

theorem lossFds_nodup : ∀ n < 6, (lossFds n).Nodup := by decide

section
variable (hn : n < 6)
include hn

theorem Dev.gauge_stepOwn (hf : f ∈ gauges n) (hw : f.w = 8) : (d.add f v).gauge n = (d.gauge n).stepped f v := by
  rw [Dev.gauge_addOwn hn hf, hw]; rfl

theorem Dev.accepted_congr (h : (e.gauge n).fld (fdAccept n) = (d.gauge n).fld (fdAccept n)) : e.accepted n = d.accepted n := by
  rw [Dev.accepted_eq_gauge hn, Dev.accepted_eq_gauge hn, h]

theorem Dev.accepted_iff : d.accepted n = true ↔ (d.gauge n).fld (fdAccept n) = 1 := by
  rw [Dev.accepted_eq_gauge hn, beq_iff_eq]

/-- R118, R129: what a port that was dropped shows, whether or not it was accepted. -/
theorem Gauge.dropped_shows : (x.dropped n).fld (fdAccept n) ≠ 1 ∧ (x.dropped n).fld (fdClean n) = 0 ∧
    (x.dropped n).run = (0, 0) ∧
    (x.fld (fdAccept n) = 1 → (x.dropped n).fld (fdLoss n) = min 255 (x.fld (fdLoss n) + 1) ∧
      (x.dropped n).fld (fdEvtLoss n) = 1) ∧
    (x.fld (fdAccept n) ≠ 1 → (x.dropped n).fld (fdLoss n) = x.fld (fdLoss n)) := by
  have distinct := lossFds_nodup n hn
  simp only [lossFds, List.nodup_cons, List.mem_cons, List.not_mem_nil, or_false, not_or] at distinct
  obtain ⟨⟨ac, al, ae⟩, ⟨cl, ce⟩, le, _⟩ := distinct
  unfold Gauge.dropped
  split
  case isTrue h =>
    refine ⟨?_, ?_, rfl, fun _ => ⟨?_, Gauge.set_same⟩, fun h' => absurd h h'⟩
    · rw [Gauge.lost, Gauge.set_other ae, Gauge.set_other al, Gauge.set_same]
      exact Nat.zero_ne_one
    · rw [Gauge.lost, Gauge.set_other ce, Gauge.set_other cl, Gauge.set_other (Ne.symm ac)]
      exact Gauge.set_same
    · rw [Gauge.lost, Gauge.set_other le, Gauge.set_same]
      rfl
  case isFalse h =>
    refine ⟨?_, Gauge.set_same, rfl, fun h' => absurd h' h, fun _ => Gauge.set_other (Ne.symm cl)⟩
    rw [Gauge.ended]
    exact fun h' => h ((Gauge.set_other ac).symm.trans h')

/-- R118, R129: port n was lost, or its run has ended. -/
def Dev.Dropped (d e : Dev) (n : Nat) : Prop := e.accepted n = false ∧ e.fld (fdClean n) = 0 ∧ (e.port1 n).runN = 0 ∧
  (d.accepted n = true → e.fld (fdLoss n) = min 255 (d.fld (fdLoss n) + 1) ∧ e.bit (fdEvtLoss n) = true) ∧
  (d.accepted n = false → e.fld (fdLoss n) = d.fld (fdLoss n))

/-- A controller whose gauges are those of a dropped port shows the loss. -/
theorem Dev.dropped_of_gauge (hf : (e.gauge n).fld = (x.dropped n).fld) (hr : (e.gauge n).run = (x.dropped n).run)
    (ha : x.fld (fdAccept n) = (d.gauge n).fld (fdAccept n)) (hl : x.fld (fdLoss n) = (d.gauge n).fld (fdLoss n)) :
    d.Dropped e n := by
  obtain ⟨accept, clean, run, lost, kept⟩ := Gauge.dropped_shows (x := x) hn
  obtain ⟨_, mclean, _, _, mloss, mevt, _⟩ := fd_mem n hn
  unfold Dev.Dropped
  rw [Dev.bit_eq_fld (fd_width n hn).2.2.2.2.1, Dev.fld_of_gauge mclean, Dev.fld_of_gauge mloss, Dev.fld_of_gauge mevt,
    Dev.fld_of_gauge mloss, ← hl, hf, Dev.accepted_eq_gauge hn, Dev.accepted_eq_gauge hn, ← ha, hf]
  refine ⟨by simpa using accept, clean, Dev.runN_of_gauge.trans (congrArg Prod.fst (hr.trans run)), fun h => ?_, fun h => ?_⟩
  · obtain ⟨h1, h2⟩ := lost (by simpa using h)
    exact ⟨h1, by simp [h2]⟩
  · exact kept (by simpa using h)

end
end Sys2Proof.Machine
end

section
/-! Clean frames of a port (R117, R129) and frames of the TDM ports (R116 to R118, R123). -/
namespace Sys2Proof.Machine
variable {d e : Dev} {x y : Gauge} {n q qt len bits tot v : Nat} {f g : Fld} {sd : List Bool} {s : State} {acc : Bool}
  {drop : Dev → Dev}

/-! ### A clean frame -/

/-- A clean frame of a port that is accepted or not; `drop` is what a rate out of tolerance does. -/
def Dev.judged (d : Dev) (n len qt : Nat) (acc : Bool) (drop : Dev → Dev) : Dev :=
  match d.cleanFrame n len with
  | (e, none) => e
  | (e, some true) => if acc then e.groupAccept n qt else e.portAccept n qt
  | (e, some false) => drop e

section
variable (hn : n < 6)
include hn

theorem Dev.judged_counted (h : (d.port1 n).runN < 63) : (d.judged n len qt acc drop).gauge n = (d.gauge n).counted n len := by
  obtain ⟨hc, hg⟩ := Dev.cleanFrame_counted (len := len) hn h
  unfold Dev.judged
  generalize d.cleanFrame n len = r at hc hg
  obtain ⟨e, o⟩ := r
  subst hc
  exact hg

section
variable (h : 63 ≤ (d.port1 n).runN)
include h

theorem Dev.judged_inRate (hr : (d.gauge n).inRate n ((d.port1 n).runTot + len) = true) :
    (d.judged n len qt acc drop).gauge n = if acc then (d.gauge n).filled n len else ((d.gauge n).filled n len).locked n := by
  obtain ⟨hc, hg⟩ := Dev.cleanFrame_filled (len := len) hn h
  rw [hr] at hc
  unfold Dev.judged
  generalize d.cleanFrame n len = r at hc hg
  obtain ⟨e, o⟩ := r
  subst hc
  rw [← hg]
  cases acc
  · exact Dev.gauge_portAccept hn
  · exact Dev.gauge_groupAccept hn

theorem Dev.judged_outOfRate (hr : (d.gauge n).inRate n ((d.port1 n).runTot + len) = false) :
    ∃ e, d.judged n len qt acc drop = drop e ∧ e.gauge n = (d.gauge n).filled n len := by
  obtain ⟨hc, hg⟩ := Dev.cleanFrame_filled (len := len) hn h
  rw [hr] at hc
  unfold Dev.judged
  generalize d.cleanFrame n len = r at hc hg
  obtain ⟨e, o⟩ := r
  subst hc
  exact ⟨e, rfl, hg⟩

end

theorem Gauge.filled_accept : (x.filled n len).fld (fdAccept n) = x.fld (fdAccept n) ∧
    (x.filled n len).fld (fdLoss n) = x.fld (fdLoss n) := by
  have distinct := fd_nodup n hn
  simp only [List.nodup_cons, List.mem_cons, not_or] at distinct
  obtain ⟨⟨ac, _, ap, _⟩, ⟨_, _, cl, _⟩, _, ⟨pl, _⟩, _⟩ := distinct
  exact ⟨Gauge.filled_other ac ap, Gauge.filled_other (Ne.symm cl) (Ne.symm pl)⟩

/-- A drop on what was accepted before errors were counted. -/
theorem Dev.gauge_dropAs (h : e.accepted n = acc) :
    (if acc then e.portLoss n else e.runReset n).gauge n = (e.gauge n).dropped n := by
  rw [← h]; exact Dev.gauge_drop hn

theorem Dev.accepted_stepOwn (hf : f ∈ gauges n) (hw : f.w = 8) (hl : f ∉ lossFds n) : (d.add f v).accepted n = d.accepted n := by
  refine Dev.accepted_congr hn ?_
  rw [Dev.gauge_stepOwn hn hf hw]
  exact Gauge.stepped_other fun h => hl (h ▸ List.mem_cons_self)

end

/-- R117, R129: what a port shows once a run has ended with its rate within tolerance. -/
theorem Dev.shows_inRate (hn : n < 6) (hx : x.fld (fdAccept n) = (d.gauge n).fld (fdAccept n))
    (hf : (e.gauge n).fld = (if d.accepted n then x.filled n len else (x.filled n len).locked n).fld)
    (hr : (e.gauge n).run = (if d.accepted n then x.filled n len else (x.filled n len).locked n).run) :
    e.fld (fdPeriod n) = min (2 ^ 20 - 1) (x.run.2 + len) ∧ (e.port1 n).runN = 0 ∧ e.accepted n = true ∧
      (d.accepted n = false → e.bit (fdEvtLock n) = true) := by
  obtain ⟨_, _, _, period, _, _, lock⟩ := fd_mem n hn
  have distinct := fd_nodup n hn
  simp only [List.nodup_cons, List.mem_cons, not_or] at distinct
  obtain ⟨⟨_, _, ap, _, _, al, _⟩, _, _, ⟨_, _, pl, _⟩, _⟩ := distinct
  rw [Dev.accepted_iff hn, Dev.bit_eq_fld (fd_width n hn).2.2.2.2.2, Dev.fld_of_gauge period, Dev.fld_of_gauge lock, hf]
  by_cases acc : d.accepted n = true
  · rw [if_pos acc] at hr ⊢
    exact ⟨Gauge.set_same, Dev.runN_of_gauge.trans (congrArg Prod.fst hr), ((Gauge.filled_accept hn).1.trans hx).trans ((Dev.accepted_iff hn).1 acc),
      fun h => absurd acc (by simp [h])⟩
  · rw [if_neg acc] at hr ⊢
    refine ⟨?_, Dev.runN_of_gauge.trans (congrArg Prod.fst hr), ?_, fun _ => beq_iff_eq.2 Gauge.set_same⟩
    · exact (Gauge.set_other pl).trans ((Gauge.set_other (Ne.symm ap)).trans Gauge.set_same)
    · exact (Gauge.set_other al).trans Gauge.set_same

/-! ### TDM frames -/

theorem tdm_mem : ∀ n < 4, Fd.TDMn_CFG_FRAME_BITS n ∈ gauges n ∧ Fd.TDMn_ERR_CNT_RATE n ∈ gauges n ∧
    Fd.TDMn_ERR_CNT_MISSING n ∈ gauges n ∧ Fd.TDMn_ERR_CNT_EARLY n ∈ gauges n := by decide

/-- The counters of frames that are not clean stand apart from what a loss changes. -/
theorem tdm_notLoss : ∀ n < 4, Fd.TDMn_ERR_CNT_RATE n ∉ lossFds n ∧ Fd.TDMn_ERR_CNT_MISSING n ∉ lossFds n ∧
    Fd.TDMn_ERR_CNT_EARLY n ∉ lossFds n := by decide

/-- Whether a frame counts as clean (R116). -/
def Dev.tdmClean (d : Dev) (n q qt : Nat) (sd : List Bool) : Bool :=
  sd.length == d.fld (Fd.TDMn_CFG_FRAME_BITS n) && d.lengthOk n (qt - q)

/-- A frame that is not clean is counted (R116). -/
def Dev.blame (d : Dev) (n q qt : Nat) (sd : List Bool) : Dev :=
  if d.fld (Fd.TDMn_CFG_FRAME_BITS n) < sd.length || d.syncOverdue n (qt - q) then d.bump (Fd.TDMn_ERR_CNT_MISSING n)
  else if sd.length < d.fld (Fd.TDMn_CFG_FRAME_BITS n) then d.bump (Fd.TDMn_ERR_CNT_EARLY n) else d

/-- A clean frame is delivered before it is counted. -/
def Dev.delivered (d : Dev) (n q : Nat) (sd : List Bool) : Dev :=
  if d.accepted n && d.portRx n then
    d.deliver n q (colander (d.reg (Reg.TDMn_LIVE_FMT n)).toNat (d.fld (Fd.TDMn_LIVE_MASK_MASK n)) sd)
  else d

/-- A rate out of tolerance at a TDM port (R117). -/
def Dev.dropRate (acc : Bool) (n : Nat) (e : Dev) : Dev :=
  if acc then (e.bump (Fd.TDMn_ERR_CNT_RATE n)).portLoss n else (e.bump (Fd.TDMn_ERR_CNT_RATE n)).runReset n

theorem Dev.tdmFrameEnd_eq : d.tdmFrameEnd n q qt sd =
    if d.tdmClean n q qt sd then
      (d.delivered n q sd).judged n (qt - q) qt (d.accepted n) (Dev.dropRate (d.accepted n) n)
    else if d.accepted n then (d.blame n q qt sd).portLoss n else (d.blame n q qt sd).runReset n := by
  unfold Dev.tdmFrameEnd Dev.tdmClean
  dsimp only
  split
  · rfl
  · rfl

theorem Dev.gauge_delivered : (d.delivered n q sd).gauge n = d.gauge n := by
  unfold Dev.delivered
  split
  · exact Dev.gauge_deliver
  · rfl

theorem Dev.run_delivered : ((d.delivered n q sd).port1 n).runN = (d.port1 n).runN ∧
    ((d.delivered n q sd).port1 n).runTot = (d.port1 n).runTot :=
  Prod.ext_iff.1 (congrArg Gauge.run (Dev.gauge_delivered (d := d) (n := n) (q := q) (sd := sd)))

section
variable (hn : n < 4)
include hn

theorem Dev.accepted_blame : (d.blame n q qt sd).accepted n = d.accepted n := by
  obtain ⟨_, _, missing, early⟩ := tdm_mem n hn
  obtain ⟨_, nm, ne⟩ := tdm_notLoss n hn
  unfold Dev.blame
  split_ifs
  · exact Dev.accepted_stepOwn (by omega) missing rfl nm
  · exact Dev.accepted_stepOwn (by omega) early rfl ne
  · rfl

theorem Dev.tdmFrameEnd_unclean (h : d.tdmClean n q qt sd = false) :
    (d.tdmFrameEnd n q qt sd).gauge n = ((d.blame n q qt sd).gauge n).dropped n := by
  rw [Dev.tdmFrameEnd_eq, h]
  exact Dev.gauge_dropAs (by omega) (Dev.accepted_blame hn)

theorem Dev.tdmFrameEnd_counted (h : d.tdmClean n q qt sd = true) (hr : (d.port1 n).runN < 63) :
    (d.tdmFrameEnd n q qt sd).gauge n = (d.gauge n).counted n (qt - q) := by
  rw [Dev.tdmFrameEnd_eq, if_pos h, Dev.judged_counted (by omega) (Dev.run_delivered.1.trans_lt hr), Dev.gauge_delivered]

section
variable (h : d.tdmClean n q qt sd = true) (hr : 63 ≤ (d.port1 n).runN)
include h hr

theorem Dev.tdmFrameEnd_inRate (hi : (d.gauge n).inRate n ((d.port1 n).runTot + (qt - q)) = true) :
    (d.tdmFrameEnd n q qt sd).gauge n =
      if d.accepted n then (d.gauge n).filled n (qt - q) else ((d.gauge n).filled n (qt - q)).locked n := by
  rw [Dev.tdmFrameEnd_eq, if_pos h, Dev.judged_inRate (by omega) (hr.trans_eq Dev.run_delivered.1.symm)
    (by rw [Dev.gauge_delivered, Dev.run_delivered.2, hi]), Dev.gauge_delivered]

theorem Dev.tdmFrameEnd_outOfRate (hi : (d.gauge n).inRate n ((d.port1 n).runTot + (qt - q)) = false) :
    (d.tdmFrameEnd n q qt sd).gauge n =
      (((d.gauge n).filled n (qt - q)).stepped (Fd.TDMn_ERR_CNT_RATE n) 1).dropped n := by
  have h6 : n < 6 := by omega
  have rate := (tdm_mem n hn).2.1
  obtain ⟨e, he, hg⟩ := Dev.judged_outOfRate (d := d.delivered n q sd) (len := qt - q) (qt := qt) (acc := d.accepted n)
    (drop := Dev.dropRate (d.accepted n) n) h6 (hr.trans_eq Dev.run_delivered.1.symm)
    (by rw [Dev.gauge_delivered, Dev.run_delivered.2, hi])
  rw [Dev.gauge_delivered] at hg
  have kept : (e.bump (Fd.TDMn_ERR_CNT_RATE n)).accepted n = d.accepted n :=
    (Dev.accepted_stepOwn h6 rate rfl (tdm_notLoss n hn).1).trans
      (Dev.accepted_congr h6 (by rw [hg, (Gauge.filled_accept h6).1]))
  rw [Dev.tdmFrameEnd_eq, if_pos h, he, ← hg, ← Dev.gauge_stepOwn h6 rate rfl]
  exact Dev.gauge_dropAs h6 kept

end

/-- R116: the next frame begins at the sync. -/
theorem Dev.gauge_tdmSync (hq : (d.port1 n).lastSync = some q) :
    (d.tdmSync n qt sd).gauge n = { (d.tdmFrameEnd n q qt sd).gauge n with sync := some qt } := by
  have h6 : n < 6 := by omega
  have began (e : Dev) : (e.modPort n (fun p => { p with lastSync := some qt })).gauge n =
      { e.gauge n with sync := some qt } := Dev.gauge_modRun h6
  unfold Dev.tdmSync
  rw [hq, ← began]
  lift_lets
  extract_lets e1 e2 e3 e4 e5
  have pushed : e3.gauge n = e2.gauge n := by
    simp only [e3]
    split
    · exact Dev.gauge_gridPush
    · rfl
  have taken : e4.gauge n = e2.gauge n := (Dev.gauge_syncSet hn).trans pushed
  split
  · refine Dev.gauge_sendFrameTdm.trans ?_
    simp only [e5]
    split
    · exact (Dev.gauge_convSync h6).trans taken
    · exact taken
  · exact taken

end
end Sys2Proof.Machine
end

section
/-! What a TDM frame and a missing frame sync show in the registers of their port (R116 to R118). -/
namespace Sys2Proof.Machine
variable {d e : Dev} {x y : Gauge} {n q qt len bits tot v : Nat} {f g : Fld} {sd : List Bool} {s : State}

/-- The nominal length of a frame of TDM port n. -/
def Dev.tdmNom (d : Dev) (n : Nat) : Nat := 4 * (512 / 2 ^ d.fld (Fd.TDMn_CFG_RATE n))

/-- The length of a run of 64 frames of TDM port n is within tolerance (R117). -/
def Dev.TdmInRate (d : Dev) (n tot : Nat) : Prop :=
  ((tot : Int) - (64 * d.tdmNom n : Nat)).natAbs * 1000000 ≤ d.fld (Fd.TDMn_CLKMON_TOL n) * (64 * d.tdmNom n)

theorem tdm_rate : ∀ n < 4, Fd.TDMn_ERR_CNT_RATE n ≠ fdClean n ∧ Fd.TDMn_ERR_CNT_RATE n ≠ fdPeriod n ∧
    fdPeriod n ∉ lossFds n := by decide

section
variable (hn : n < 4)
include hn

theorem fd_tdm : fdClean n = Fd.TDMn_STATUS_CLEAN n ∧ fdPeriod n = Fd.TDMn_PERIOD_PERIOD n ∧
    fdTol n = Fd.TDMn_CLKMON_TOL n ∧ fdLoss n = Fd.TDMn_ERR_CNT_LOSS n ∧ fdEvtLoss n = Fd.TDMn_EVT_LOSS n ∧
    fdEvtLock n = Fd.TDMn_EVT_LOCK n :=
  ⟨if_pos hn, if_pos hn, if_pos hn, if_pos hn, if_pos hn, if_pos hn⟩

theorem Dev.nominalQt_tdm : d.nominalQt n = d.tdmNom n := by
  simp only [Dev.nominalQt, Dev.srcPeriod, if_pos hn, Dev.tdmNom]

theorem Dev.nominal_tdm : (d.gauge n).nominal n = d.tdmNom n := by
  rw [← Dev.nominalQt_eq (by omega), Dev.nominalQt_tdm hn]

theorem Dev.inRate_tdm : (d.gauge n).inRate n tot = true ↔ d.TdmInRate n tot := by
  obtain ⟨_, _, tol, _⟩ := fd_mem n (by omega)
  rw [Gauge.inRate, Dev.nominal_tdm hn, ← Dev.fld_of_gauge tol, (fd_tdm hn).2.2.1, decide_eq_true_iff, Dev.TdmInRate]

theorem Dev.tdmClean_iff : d.tdmClean n q qt sd = true ↔ sd.length = d.fld (Fd.TDMn_CFG_FRAME_BITS n) ∧
    (((qt - q : Nat) : Int) - d.tdmNom n).natAbs * 100 ≤ d.tdmNom n := by
  rw [Dev.tdmClean, Bool.and_eq_true, beq_iff_eq, Dev.lengthOk, Dev.nominalQt_tdm hn, decide_eq_true_iff]

theorem Dev.syncOverdue_tdm : d.syncOverdue n len = true ↔ 3 * d.tdmNom n < 2 * len := by
  rw [Dev.syncOverdue, Dev.nominalQt_tdm hn, decide_eq_true_iff]

/-! ### Frames that are not clean -/

theorem Dev.blame_missing (h : d.fld (Fd.TDMn_CFG_FRAME_BITS n) < sd.length ∨ 3 * d.tdmNom n < 2 * (qt - q)) :
    d.blame n q qt sd = d.bump (Fd.TDMn_ERR_CNT_MISSING n) := by
  refine if_pos ?_
  rw [Bool.or_eq_true, decide_eq_true_iff, Dev.syncOverdue_tdm hn]
  exact h

theorem Dev.blame_notMissing (hb : ¬ d.fld (Fd.TDMn_CFG_FRAME_BITS n) < sd.length) (hl : ¬ 3 * d.tdmNom n < 2 * (qt - q)) :
    d.blame n q qt sd =
      if sd.length < d.fld (Fd.TDMn_CFG_FRAME_BITS n) then d.bump (Fd.TDMn_ERR_CNT_EARLY n) else d := by
  refine if_neg ?_
  rw [Bool.or_eq_true, decide_eq_true_iff, Dev.syncOverdue_tdm hn]
  exact not_or.2 ⟨hb, hl⟩

/-- A frame whose sync is overdue is not within 1 % of nominal. -/
theorem Dev.tdmClean_false (h : sd.length ≠ d.fld (Fd.TDMn_CFG_FRAME_BITS n) ∨ 3 * d.tdmNom n < 2 * (qt - q) ∨
    ¬ (((qt - q : Nat) : Int) - d.tdmNom n).natAbs * 100 ≤ d.tdmNom n) : d.tdmClean n q qt sd = false := by
  rw [← Bool.not_eq_true, Dev.tdmClean_iff hn]
  omega

/-- The loss that a TDM port shows (R118). -/
def Dev.TdmLost (d e : Dev) (n : Nat) : Prop :=
  e.accepted n = false ∧ e.fld (Fd.TDMn_STATUS_CLEAN n) = 0 ∧ (e.port1 n).runN = 0 ∧
  (d.accepted n = true → e.fld (Fd.TDMn_ERR_CNT_LOSS n) = min 255 (d.fld (Fd.TDMn_ERR_CNT_LOSS n) + 1) ∧
    e.bit (Fd.TDMn_EVT_LOSS n) = true) ∧
  (d.accepted n = false → e.fld (Fd.TDMn_ERR_CNT_LOSS n) = d.fld (Fd.TDMn_ERR_CNT_LOSS n))

theorem Dev.tdmLost_iff : d.TdmLost e n ↔ d.Dropped e n := by
  obtain ⟨clean, _, _, loss, evt, _⟩ := fd_tdm hn
  rw [Dev.TdmLost, Dev.Dropped, clean, loss, evt]

/-- A drop after one of the counters of TDM frames has stepped. -/
theorem Dev.tdmLost_stepped (hf : f ∈ gauges n) (hl : f ∉ lossFds n)
    (hx : x.fld (fdAccept n) = (d.gauge n).fld (fdAccept n) ∧ x.fld (fdLoss n) = (d.gauge n).fld (fdLoss n))
    (h : (e.gauge n).fld = ((x.stepped f 1).dropped n).fld) (hr : (e.gauge n).run = ((x.stepped f 1).dropped n).run) :
    d.TdmLost e n ∧ e.fld f = addSat 8 (x.fld f) 1 ∧ ∀ g ∈ gauges n, g ∉ lossFds n → g ≠ f → e.fld g = x.fld g := by
  have off (a : Fld) (ha : a ∈ lossFds n) : a ≠ f := fun h => hl (h ▸ ha)
  refine ⟨(Dev.tdmLost_iff hn).2 (Dev.dropped_of_gauge (by omega) h hr ((Gauge.stepped_other (off _ ?_)).trans hx.1)
    ((Gauge.stepped_other (off _ ?_)).trans hx.2)), ?_, fun g hg hgl hgf => ?_⟩
  · simp [lossFds]
  · simp [lossFds]
  · rw [Dev.fld_of_gauge hf, h, Gauge.dropped_other hl, Gauge.stepped, Gauge.set_same]
  · rw [Dev.fld_of_gauge hg, h, Gauge.dropped_other hgl, Gauge.stepped_other hgf]

section
variable (hq : (d.port1 n).lastSync = some q)
include hq

theorem Dev.tdmSync_missing (h : d.fld (Fd.TDMn_CFG_FRAME_BITS n) < sd.length ∨ 3 * d.tdmNom n < 2 * (qt - q)) :
    let e := d.tdmSync n qt sd
    d.TdmLost e n ∧ e.fld (Fd.TDMn_ERR_CNT_MISSING n) = min 255 (d.fld (Fd.TDMn_ERR_CNT_MISSING n) + 1) ∧
      e.fld (Fd.TDMn_ERR_CNT_EARLY n) = d.fld (Fd.TDMn_ERR_CNT_EARLY n) := by
  obtain ⟨_, _, missing, early⟩ := tdm_mem n hn
  obtain ⟨_, nm, ne⟩ := tdm_notLoss n hn
  have key := (Dev.gauge_tdmSync (qt := qt) (sd := sd) hn hq).trans (congrArg (fun x => { x with sync := some qt })
    (Dev.tdmFrameEnd_unclean hn (Dev.tdmClean_false hn (by omega))))
  rw [Dev.blame_missing hn h, Dev.bump, Dev.gauge_stepOwn (by omega) missing rfl] at key
  obtain ⟨lost, stepped, kept⟩ := Dev.tdmLost_stepped (d := d) hn missing nm ⟨rfl, rfl⟩ (by rw [key]) (by rw [key])
  rw [← Dev.fld_of_gauge missing] at stepped
  have apart : Fd.TDMn_ERR_CNT_EARLY n ≠ Fd.TDMn_ERR_CNT_MISSING n := by simp [Fd.TDMn_ERR_CNT_EARLY, Fd.TDMn_ERR_CNT_MISSING]
  exact ⟨lost, stepped, (kept _ early ne apart).trans (Dev.fld_of_gauge early).symm⟩

theorem Dev.tdmSync_early (hb : sd.length < d.fld (Fd.TDMn_CFG_FRAME_BITS n)) (h : 2 * (qt - q) ≤ 3 * d.tdmNom n) :
    let e := d.tdmSync n qt sd
    d.TdmLost e n ∧ e.fld (Fd.TDMn_ERR_CNT_EARLY n) = min 255 (d.fld (Fd.TDMn_ERR_CNT_EARLY n) + 1) ∧
      e.fld (Fd.TDMn_ERR_CNT_MISSING n) = d.fld (Fd.TDMn_ERR_CNT_MISSING n) := by
  obtain ⟨_, _, missing, early⟩ := tdm_mem n hn
  obtain ⟨_, nm, ne⟩ := tdm_notLoss n hn
  have key := (Dev.gauge_tdmSync (qt := qt) (sd := sd) hn hq).trans (congrArg (fun x => { x with sync := some qt })
    (Dev.tdmFrameEnd_unclean hn (Dev.tdmClean_false hn (by omega))))
  rw [Dev.blame_notMissing hn (by omega) (by omega), if_pos hb, Dev.bump, Dev.gauge_stepOwn (by omega) early rfl] at key
  obtain ⟨lost, stepped, kept⟩ := Dev.tdmLost_stepped (d := d) hn early ne ⟨rfl, rfl⟩ (by rw [key]) (by rw [key])
  rw [← Dev.fld_of_gauge early] at stepped
  have apart : Fd.TDMn_ERR_CNT_MISSING n ≠ Fd.TDMn_ERR_CNT_EARLY n := by simp [Fd.TDMn_ERR_CNT_EARLY, Fd.TDMn_ERR_CNT_MISSING]
  exact ⟨lost, stepped, (kept _ missing nm apart).trans (Dev.fld_of_gauge missing).symm⟩

theorem Dev.tdmSync_far (hb : sd.length = d.fld (Fd.TDMn_CFG_FRAME_BITS n))
    (hf : ¬ (((qt - q : Nat) : Int) - d.tdmNom n).natAbs * 100 ≤ d.tdmNom n) (h : 2 * (qt - q) ≤ 3 * d.tdmNom n) :
    let e := d.tdmSync n qt sd
    d.TdmLost e n ∧ e.fld (Fd.TDMn_ERR_CNT_EARLY n) = d.fld (Fd.TDMn_ERR_CNT_EARLY n) ∧
      e.fld (Fd.TDMn_ERR_CNT_MISSING n) = d.fld (Fd.TDMn_ERR_CNT_MISSING n) := by
  obtain ⟨_, _, missing, early⟩ := tdm_mem n hn
  obtain ⟨_, nm, ne⟩ := tdm_notLoss n hn
  have key := (Dev.gauge_tdmSync (qt := qt) (sd := sd) hn hq).trans (congrArg (fun x => { x with sync := some qt })
    (Dev.tdmFrameEnd_unclean hn (Dev.tdmClean_false hn (.inr (.inr hf)))))
  rw [Dev.blame_notMissing hn (by omega) (by omega), if_neg (by omega)] at key
  have kept (g : Fld) (hg : g ∈ gauges n) (hl : g ∉ lossFds n) : (d.tdmSync n qt sd).fld g = d.fld g := by
    rw [Dev.fld_of_gauge hg, key, Gauge.dropped_other hl, ← Dev.fld_of_gauge hg]
  exact ⟨(Dev.tdmLost_iff hn).2 (Dev.dropped_of_gauge (by omega) (by rw [key]) (by rw [key]) rfl rfl),
    kept _ early ne, kept _ missing nm⟩

/-! ### Clean frames -/

section
variable (hb : sd.length = d.fld (Fd.TDMn_CFG_FRAME_BITS n))
  (h : (((qt - q : Nat) : Int) - d.tdmNom n).natAbs * 100 ≤ d.tdmNom n)
include hb h

theorem Dev.tdmSync_counted (hr : (d.port1 n).runN < 63) :
    let e := d.tdmSync n qt sd
    e.fld (Fd.TDMn_STATUS_CLEAN n) = min 64 (d.fld (Fd.TDMn_STATUS_CLEAN n) + 1) ∧ e.accepted n = d.accepted n ∧
      (e.port1 n).runN = (d.port1 n).runN + 1 ∧ (e.port1 n).runTot = (d.port1 n).runTot + (qt - q) := by
  have h6 : n < 6 := by omega
  have clean := (fd_mem n h6).2.1
  have distinct := (List.nodup_cons.1 (lossFds_nodup n h6)).1
  have key := (Dev.gauge_tdmSync (qt := qt) (sd := sd) hn hq).trans (congrArg (fun x => { x with sync := some qt })
    (Dev.tdmFrameEnd_counted hn ((Dev.tdmClean_iff hn).2 ⟨hb, h⟩) hr))
  have run := congrArg Gauge.run key
  refine ⟨?_, Dev.accepted_congr h6 ?_, Dev.runN_of_gauge.trans (congrArg Prod.fst run),
    Dev.runTot_of_gauge.trans (congrArg Prod.snd run)⟩
  · rw [← (fd_tdm hn).1, Dev.fld_of_gauge clean, key, Dev.fld_of_gauge clean]
    exact Gauge.set_same
  · rw [key]
    exact Gauge.set_other fun he => distinct (he ▸ List.mem_cons_self)

section
variable (hr : 63 ≤ (d.port1 n).runN)
include hr

theorem Dev.tdmSync_inRate (hi : (d.gauge n).inRate n ((d.port1 n).runTot + (qt - q)) = true) :
    let e := d.tdmSync n qt sd
    e.fld (Fd.TDMn_PERIOD_PERIOD n) = min (2 ^ 20 - 1) ((d.port1 n).runTot + (qt - q)) ∧ (e.port1 n).runN = 0 ∧
      e.accepted n = true ∧ (d.accepted n = false → e.bit (Fd.TDMn_EVT_LOCK n) = true) := by
  obtain ⟨_, fperiod, _, _, _, flock⟩ := fd_tdm hn
  have key := (Dev.gauge_tdmSync (qt := qt) (sd := sd) hn hq).trans (congrArg (fun x => { x with sync := some qt })
    (Dev.tdmFrameEnd_inRate hn ((Dev.tdmClean_iff hn).2 ⟨hb, h⟩) hr hi))
  rw [← fperiod, ← flock]
  exact Dev.shows_inRate (x := d.gauge n) (by omega) rfl (by rw [key]) (by rw [key])

theorem Dev.tdmSync_outOfRate (hi : (d.gauge n).inRate n ((d.port1 n).runTot + (qt - q)) = false) :
    let e := d.tdmSync n qt sd
    e.fld (Fd.TDMn_PERIOD_PERIOD n) = min (2 ^ 20 - 1) ((d.port1 n).runTot + (qt - q)) ∧
      e.fld (Fd.TDMn_ERR_CNT_RATE n) = min 255 (d.fld (Fd.TDMn_ERR_CNT_RATE n) + 1) ∧ d.TdmLost e n := by
  have h6 : n < 6 := by omega
  have period := (fd_mem n h6).2.2.2.1
  obtain ⟨_, rate, _, _⟩ := tdm_mem n hn
  obtain ⟨rc, rp, pl⟩ := tdm_rate n hn
  have key := (Dev.gauge_tdmSync (qt := qt) (sd := sd) hn hq).trans (congrArg (fun x => { x with sync := some qt })
    (Dev.tdmFrameEnd_outOfRate hn ((Dev.tdmClean_iff hn).2 ⟨hb, h⟩) hr hi))
  obtain ⟨lost, stepped, kept⟩ := Dev.tdmLost_stepped (d := d) hn rate (tdm_notLoss n hn).1 (Gauge.filled_accept h6)
    (by rw [key]) (by rw [key])
  rw [Gauge.filled_other rc rp, ← Dev.fld_of_gauge rate] at stepped
  refine ⟨?_, stepped, lost⟩
  rw [← (fd_tdm hn).2.1]
  exact (kept _ period pl (Ne.symm rp)).trans Gauge.set_same

/-- The 64th clean frame of a run, whatever its rate (R117). -/
theorem Dev.tdmSync_filled :
    let e := d.tdmSync n qt sd
    let tot := (d.port1 n).runTot + (qt - q)
    e.fld (Fd.TDMn_PERIOD_PERIOD n) = min (2 ^ 20 - 1) tot ∧ (e.port1 n).runN = 0 ∧
      (d.TdmInRate n tot → e.accepted n = true ∧ (d.accepted n = false → e.bit (Fd.TDMn_EVT_LOCK n) = true)) ∧
      (¬ d.TdmInRate n tot →
        e.fld (Fd.TDMn_ERR_CNT_RATE n) = min 255 (d.fld (Fd.TDMn_ERR_CNT_RATE n) + 1) ∧ d.TdmLost e n) := by
  cases rate : (d.gauge n).inRate n ((d.port1 n).runTot + (qt - q))
  · obtain ⟨period, counted, lost⟩ := Dev.tdmSync_outOfRate hn hq hb h hr rate
    have outside : ¬ d.TdmInRate n _ := fun within => Bool.false_ne_true (rate.symm.trans ((Dev.inRate_tdm hn).2 within))
    exact ⟨period, lost.2.2.1, fun within => absurd within outside, fun _ => ⟨counted, lost⟩⟩
  · obtain ⟨period, run, accept⟩ := Dev.tdmSync_inRate hn hq hb h hr rate
    exact ⟨period, run, fun _ => accept, fun outside => absurd ((Dev.inRate_tdm hn).1 rate) outside⟩

end
end

end
end
end Sys2Proof.Machine
end

section
/-! The commands of a TDM port (R116 to R118): TDM_FRAME_SYNC and TDM_FRAME_SYNC_MISSING. -/
namespace Sys2Proof.Machine
variable {d e : Dev} {n : Fin 4} {q qt bits : Nat} {sd : List Bool} {s : State}

/-- R116, R118: the next sync of port n is missing. -/
def Dev.missSync (d : Dev) (n : Nat) : Dev :=
  let d := (d.modPort n (fun p => { p with lastSync := none })).bump (Fd.TDMn_ERR_CNT_MISSING n)
  if d.accepted n then d.portLoss n else d.runReset n

theorem Dev.TdmLost.loss {n : Nat} (h : d.TdmLost e n) : e.fld (Fd.TDMn_ERR_CNT_LOSS n) =
    min 255 (d.fld (Fd.TDMn_ERR_CNT_LOSS n) + if d.accepted n then 1 else 0) := by
  obtain ⟨_, _, _, lost, kept⟩ := h
  cases acc : d.accepted n
  · rw [kept acc]
    have bound : d.fld (Fd.TDMn_ERR_CNT_LOSS n) < 2 ^ 8 := Dev.fld_lt
    simp only [Bool.false_eq_true, if_false]
    omega
  · exact (lost acc).1

theorem Dev.missSync_shows {n : Nat} (hn : n < 4) : ((d.missSync n).port1 n).lastSync = none ∧ d.TdmLost (d.missSync n) n ∧
    (d.missSync n).fld (Fd.TDMn_ERR_CNT_MISSING n) = min 255 (d.fld (Fd.TDMn_ERR_CNT_MISSING n) + 1) := by
  have h6 : n < 6 := by omega
  have missing := (tdm_mem n hn).2.2.1
  have key : (d.missSync n).gauge n =
      (({ d.gauge n with sync := none } : Gauge).stepped (Fd.TDMn_ERR_CNT_MISSING n) 1).dropped n := by
    refine (Dev.gauge_drop h6).trans ?_
    rw [Dev.bump, Dev.gauge_stepOwn h6 missing rfl, Dev.gauge_modRun h6]
    rfl
  obtain ⟨lost, stepped, _⟩ := Dev.tdmLost_stepped (d := d) (x := { d.gauge n with sync := none }) hn missing
    (tdm_notLoss n hn).2.1 ⟨rfl, rfl⟩
    (congrArg Gauge.fld key) (congrArg Gauge.run key)
  have sync : ((d.missSync n).gauge n).sync = none := by
    rw [key]
    unfold Gauge.dropped
    split <;> rfl
  have same : ({ d.gauge n with sync := none } : Gauge).fld = (d.gauge n).fld := rfl
  rw [same, ← Dev.fld_of_gauge missing, addSat_byte rfl] at stepped
  exact ⟨Dev.sync_of_gauge.trans sync, lost, stepped⟩

section
variable (ha : s.dev.audioRuns s.env = true) (hs : s.dev.tdmSlave n.val = true)
include ha hs

theorem exec_tdmFrameSync : exec (.tdmFrameSync n sd qt) s = .next { s with dev := s.dev.tdmSync n.val qt sd } := by
  show execTdmFrameSync n sd qt s = _
  simp only [execTdmFrameSync, onDev, ha, hs, Bool.and_self, if_true]

theorem exec_tdmFrameSyncMissing : exec (.tdmFrameSyncMissing n ⟨bits, qt⟩) s =
    .next { s with dev := if s.dev.syncMissing n.val bits qt then s.dev.missSync n.val else s.dev } := by
  show execTdmFrameSyncMissing n ⟨bits, qt⟩ s = _
  simp only [execTdmFrameSyncMissing, onDev, ha, hs, Bool.true_and]
  rfl

end

theorem Dev.syncMissing_some (hq : (d.port1 n).lastSync = some q) : d.syncMissing n.val bits qt = true ↔
    d.fld (Fd.TDMn_CFG_FRAME_BITS n.val) < bits ∨ 3 * d.tdmNom n.val < 2 * (qt - q) := by
  simp only [Dev.syncMissing, hq, Bool.or_eq_true, decide_eq_true_eq, Dev.syncOverdue_tdm n.isLt]

theorem Dev.syncMissing_none (hq : (d.port1 n).lastSync = none) : d.syncMissing n.val bits qt = false := by
  simp only [Dev.syncMissing, hq]

end Sys2Proof.Machine
end

section
/-! Frames of the AES3 receivers (R127 to R133): what a frame shows of the clock, and what a loss discards. -/
namespace Sys2Proof.Machine
variable {d e : Dev} {x y : Gauge} {n qt len v : Nat} {f g : Fld} {rx : AesRx} {b : Bool}

/-! ### Channel status, substitution and mutes leave the gauges alone -/

theorem aes_apart : ∀ n < 2, ∀ g ∈ gauges (4 + n), (Fd.AESn_SUBST_CNT_PARITY n).apart g ∧ (Fd.AESn_SUBST_CNT_VALIDITY n).apart g ∧
    (Fd.AESn_ERR_CNT_BLOCK n).apart g ∧ (Fd.AESn_ERR_CNT_CRCC n).apart g ∧ (Fd.AESn_EVT_CS n).apart g ∧
    (Fd.AESn_EVT_DATA n).apart g := by decide

theorem aesStatus_apart : ∀ n < 2, ∀ g ∈ gauges (4 + n), (Fd.AESn_STATUS_CS_A n).apart g ∧ (Fd.AESn_STATUS_CS_B n).apart g ∧
    (Fd.AESn_STATUS_MUTE_A n).apart g ∧ (Fd.AESn_STATUS_MUTE_B n).apart g := by decide

section
variable (hn : n < 2)
include hn

theorem Dev.gauge_aesSample {w : BitVec 28} : (d.aesSample n b w).1.gauge (4 + n) = d.gauge (4 + n) := by
  have parity (d : Dev) (c : Bool) : (if c then d.bump (Fd.AESn_SUBST_CNT_PARITY n) else d).gauge (4 + n) = d.gauge (4 + n) := by
    split
    · exact Dev.gauge_putApart (of_decide_eq_true rfl) fun g hg => (aes_apart n hn g hg).1
    · rfl
  have validity (d : Dev) (c : Bool) : (if c then d.bump (Fd.AESn_SUBST_CNT_VALIDITY n) else d).gauge (4 + n) =
      d.gauge (4 + n) := by
    split
    · exact Dev.gauge_putApart (of_decide_eq_true rfl) fun g hg => (aes_apart n hn g hg).2.1
    · rfl
  unfold Dev.aesSample
  exact Dev.gauge_modAes.trans ((validity _ _).trans (parity _ _))

theorem Dev.gauge_showBlock {blk : Option (List Byte)} : (d.showBlock n b blk).gauge (4 + n) = d.gauge (4 + n) := by
  have word (d : Dev) (w : Nat) (x : Word) : (d.setReg (if b then Reg.AESn_CS_Bw n w else Reg.AESn_CS_Aw n w) x).gauge (4 + n) =
      d.gauge (4 + n) := Dev.gauge_setReg fun g hg => by
    have := gauges_addr (4 + n) (by omega) g hg
    simp only [Reg.AESn_CS_Bw, Reg.AESn_CS_Aw]
    split <;> omega
  have status : ∀ g ∈ gauges (4 + n), (if b then Fd.AESn_STATUS_CS_B n else Fd.AESn_STATUS_CS_A n).apart g := fun g hg => by
    obtain ⟨a, b', _⟩ := aesStatus_apart n hn g hg
    cases b
    · exact a
    · exact b'
  unfold Dev.showBlock
  refine (Dev.gauge_putApart (by cases b <;> exact of_decide_eq_true rfl) status).trans ?_
  exact Dev.gauge_foldl _ _ fun d w _ => word d w _

theorem Dev.gauge_commitBlock : (d.commitBlock n b).gauge (4 + n) = d.gauge (4 + n) := by
  have event (d : Dev) (c : Bool) : (d.evtIf c (Fd.AESn_EVT_CS n)).gauge (4 + n) = d.gauge (4 + n) := by
    unfold Dev.evtIf
    split
    · exact Dev.gauge_putApart (of_decide_eq_true rfl) fun g hg => (aes_apart n hn g hg).2.2.2.2.1
    · rfl
  unfold Dev.commitBlock
  dsimp only
  split
  · rfl
  · split
    · exact Dev.gauge_putApart (of_decide_eq_true rfl) fun g hg => (aes_apart n hn g hg).2.2.2.1
    · exact (event _ _).trans ((Dev.gauge_showBlock hn).trans Dev.gauge_modAes)

theorem Dev.gauge_blockError : (d.bump (Fd.AESn_ERR_CNT_BLOCK n)).gauge (4 + n) = d.gauge (4 + n) :=
  Dev.gauge_putApart (of_decide_eq_true rfl) fun g hg => (aes_apart n hn g hg).2.2.1

theorem Dev.gauge_aesBlock : (d.aesBlock n rx).gauge (4 + n) = d.gauge (4 + n) := by
  have caps (d : Dev) (u : Option (List Bool) → Bool → Option (List Bool)) (w : AesSt → AesSt) :
      ((d.setCaps n u).modAes n w).gauge (4 + n) = d.gauge (4 + n) := rfl
  have when (d : Dev) (c : Bool) : (d.when c (fun d => d.bump (Fd.AESn_ERR_CNT_BLOCK n))).gauge (4 + n) = d.gauge (4 + n) := by
    unfold Dev.when
    split
    · exact Dev.gauge_blockError hn
    · rfl
  unfold Dev.aesBlock
  lift_lets
  extract_lets c pos setPos e
  have he : e.gauge (4 + n) = d.gauge (4 + n) := by
    simp only [e, setPos]
    split
    · exact (when _ _).trans (caps _ _ _)
    · exact caps _ _ _
    · split
      · exact (Dev.gauge_blockError hn).trans (caps _ _ _)
      · exact caps _ _ _
    · rfl
  split
  · exact caps _ _ _
  · split
    · exact ((Dev.gauge_commitBlock hn).trans (Dev.gauge_commitBlock hn)).trans he
    · exact he

theorem Dev.gauge_showMute {m : Bool × Bool} : (d.showMute n b m).gauge (4 + n) = d.gauge (4 + n) := by
  have event (d : Dev) (c : Bool) : (d.evtIf c (Fd.AESn_EVT_DATA n)).gauge (4 + n) = d.gauge (4 + n) := by
    unfold Dev.evtIf
    split
    · exact Dev.gauge_putApart (of_decide_eq_true rfl) fun g hg => (aes_apart n hn g hg).2.2.2.2.2
    · rfl
  have status : ∀ g ∈ gauges (4 + n), (if b then Fd.AESn_STATUS_MUTE_B n else Fd.AESn_STATUS_MUTE_A n).apart g := fun g hg => by
    obtain ⟨_, _, a, b'⟩ := aesStatus_apart n hn g hg
    cases b
    · exact a
    · exact b'
  unfold Dev.showMute
  refine (event _ _).trans ?_
  exact Dev.gauge_putApart (by cases b <;> exact of_decide_eq_true rfl) status

theorem Dev.gauge_aesLoss : (d.aesLoss n).gauge (4 + n) = (d.gauge (4 + n)).lost (4 + n) := by
  unfold Dev.aesLoss
  dsimp only
  rw [Dev.gauge_showBlock hn, Dev.gauge_showBlock hn, Dev.gauge_modAes, Dev.gauge_portLoss (by omega)]

end

/-! ### The receiver beside its registers -/

@[simp] theorem Dev.showBlock_aes {blk : Option (List Byte)} : (d.showBlock n b blk).aes = d.aes :=
  foldl_same Dev.aes (fun _ _ => rfl) (upTo 6) d

@[simp] theorem Dev.showMute_aes {m : Bool × Bool} : (d.showMute n b m).aes = d.aes := by
  unfold Dev.showMute Dev.evtIf; dsimp only; split <;> rfl

/-- Neither subframe has a committed block. -/
def Dev.uncommitted (d : Dev) (n : Nat) : Prop := (d.aes1 n).a.committed = none ∧ (d.aes1 n).b.committed = none

/-- R129: a loss discards both committed blocks. -/
theorem Dev.aesLoss_uncommitted (hn : n < 2) : (d.aesLoss n).uncommitted n := by
  simp [Dev.uncommitted, Dev.aesLoss, Dev.aes1, hn]

/-! ### An AES3 frame -/

/-- Whether an AES3 frame counts as clean (R129). -/
def Dev.aesClean (d : Dev) (n : Nat) (rx : AesRx) : Bool :=
  rx.orderOk && rx.pre != .bad && rx.violations == 0 && d.lengthOk (4 + n) (rx.qtEnd - rx.qtStart)

/-- What a frame that is not clean, or a rate out of tolerance, does to an AES3 receiver. -/
def Dev.aesDrop (n : Nat) (acc : Bool) (d : Dev) : Dev := if acc then d.aesLoss n else d.runReset (4 + n)

/-- R130, R133: the samples of a clean frame are delivered, and its bits go to the block. -/
def Dev.aesTake (d : Dev) (n : Nat) (rx : AesRx) (take : Bool) : Dev :=
  (if take then
    let (d, a) := d.aesSample n false rx.s1
    let (d, b) := d.aesSample n true rx.s2
    d.deliver (4 + n) rx.qtStart [a, b]
  else d).aesBlock n rx

/-- The clock of the receiver is judged by the frame. -/
def Dev.aesJudge (d : Dev) (n : Nat) (rx : AesRx) (clean acc : Bool) : Dev :=
  if clean then d.judged (4 + n) (rx.qtEnd - rx.qtStart) rx.qtEnd acc (Dev.aesDrop n acc) else Dev.aesDrop n acc d

/-- What follows the judgement: the mutes are shown, and an accepted master dates its grid. -/
def Dev.aesShow (d : Dev) (n : Nat) (rx : AesRx) (ma mb : Bool × Bool) : Dev :=
  let d := (d.showMute n false ma).showMute n true mb
  if d.accepted (4 + n) && d.isMaster (4 + n) then d.gridPush (4 + n) rx.qtEnd else d

theorem Dev.aesFrame_eq : d.aesFrame n rx =
    let e := d.add (Fd.AESn_ERR_CNT_BIPHASE n) rx.violations
    ((e.aesTake n rx (e.aesClean n rx && e.accepted (4 + n))).aesJudge n rx (e.aesClean n rx) (e.accepted (4 + n))).aesShow n rx
      (d.mutesNow n false) (d.mutesNow n true) := by
  unfold Dev.aesFrame Dev.aesJudge Dev.aesDrop
  rfl

end Sys2Proof.Machine
end

section
/-! AES_FRAME (R128, R129): what a frame shows in the registers of its receiver. -/
namespace Sys2Proof.Machine
variable {d e : Dev} {x y : Gauge} {n qt len tot v : Nat} {f g : Fld} {rx : AesRx} {acc : Bool} {ma mb : Bool × Bool}

/-- The nominal length of a frame of AES3 receiver n. -/
def Dev.aesNom (d : Dev) (n : Nat) : Nat := 4 * (512 / 2 ^ d.fld (Fd.AESn_CFG_RATE n))

/-- The length of a run of 64 frames of AES3 receiver n is within tolerance (R129). -/
def Dev.AesInRate (d : Dev) (n tot : Nat) : Prop :=
  ((tot : Int) - (64 * d.aesNom n : Nat)).natAbs * 1000000 ≤ d.fld (Fd.AESn_CLKMON_TOL n) * (64 * d.aesNom n)

/-- The loss that an AES3 receiver shows (R129). -/
def Dev.AesLost (d e : Dev) (n : Nat) : Prop :=
  e.accepted (4 + n) = false ∧ e.fld (Fd.AESn_STATUS_CLEAN n) = 0 ∧
  (d.accepted (4 + n) = true → (e.aes1 n).a.committed = none ∧ (e.aes1 n).b.committed = none ∧
    e.bit (Fd.AESn_EVT_LOSS n) = true) ∧
  e.fld (Fd.AESn_ERR_CNT_LOSS n) = min 255 (d.fld (Fd.AESn_ERR_CNT_LOSS n) + if d.accepted (4 + n) then 1 else 0)

theorem fd_aes : fdClean (4 + n) = Fd.AESn_STATUS_CLEAN n ∧ fdPeriod (4 + n) = Fd.AESn_PERIOD_PERIOD n ∧
    fdTol (4 + n) = Fd.AESn_CLKMON_TOL n ∧ fdLoss (4 + n) = Fd.AESn_ERR_CNT_LOSS n ∧
    fdEvtLoss (4 + n) = Fd.AESn_EVT_LOSS n ∧ fdEvtLock (4 + n) = Fd.AESn_EVT_LOCK n ∧
    fdRate (4 + n) = Fd.AESn_CFG_RATE n := by
  simp [fdClean, fdPeriod, fdTol, fdLoss, fdEvtLoss, fdEvtLock, fdRate]

theorem biphase_apart : ∀ n < 2, Fd.AESn_ERR_CNT_BIPHASE n ∈ gauges (4 + n) ∧ Fd.AESn_ERR_CNT_BIPHASE n ∉ lossFds (4 + n) ∧
    Fd.AESn_ERR_CNT_BIPHASE n ≠ fdPeriod (4 + n) ∧ Fd.AESn_ERR_CNT_BIPHASE n ≠ fdEvtLock (4 + n) ∧
    fdRate (4 + n) ≠ Fd.AESn_ERR_CNT_BIPHASE n ∧ fdTol (4 + n) ≠ Fd.AESn_ERR_CNT_BIPHASE n ∧
    fdPeriod (4 + n) ∉ lossFds (4 + n) := by decide

section
variable (hn : n < 2)
include hn

/-! ### The parts of a frame -/

theorem Dev.gauge_aesTake {take : Bool} : (d.aesTake n rx take).gauge (4 + n) = d.gauge (4 + n) := by
  unfold Dev.aesTake
  refine (Dev.gauge_aesBlock hn).trans ?_
  split
  · exact Dev.gauge_deliver.trans ((Dev.gauge_aesSample hn).trans (Dev.gauge_aesSample hn))
  · rfl

theorem Dev.gauge_aesShow : (d.aesShow n rx ma mb).gauge (4 + n) = d.gauge (4 + n) := by
  unfold Dev.aesShow
  dsimp only
  split
  · exact Dev.gauge_gridPush.trans ((Dev.gauge_showMute hn).trans (Dev.gauge_showMute hn))
  · exact (Dev.gauge_showMute hn).trans (Dev.gauge_showMute hn)

omit hn in
theorem Dev.aesShow_aes : (d.aesShow n rx ma mb).aes = d.aes := by
  have push (d : Dev) : (d.gridPush (4 + n) rx.qtEnd).aes = d.aes := rfl
  unfold Dev.aesShow
  dsimp only
  split <;> simp [push]

theorem Dev.gauge_aesDrop (h : d.accepted (4 + n) = acc) : (d.aesDrop n acc).gauge (4 + n) = (d.gauge (4 + n)).dropped (4 + n) := by
  have accept := Dev.accepted_iff (d := d) (by omega : 4 + n < 6)
  unfold Dev.aesDrop Gauge.dropped
  simp only [← accept, h]
  split
  · exact Dev.gauge_aesLoss hn
  · exact Dev.gauge_runReset (by omega)

omit hn in
theorem Dev.inRate_aes (hn : n < 2) : (d.gauge (4 + n)).inRate (4 + n) tot = true ↔ d.AesInRate n tot := by
  obtain ⟨_, _, tol, _⟩ := fd_mem (4 + n) (by omega)
  obtain ⟨_, _, ftol, _, _, _, frate⟩ := fd_aes (n := n)
  rw [Gauge.inRate, Gauge.nominal, ← Dev.fld_of_gauge tol, ← Dev.fld_of_gauge (fdRate_mem _ (by omega)), ftol, frate,
    decide_eq_true_iff, Dev.AesInRate, Dev.aesNom]

omit hn in
theorem Dev.aesClean_iff : d.aesClean n rx = true ↔ rx.orderOk = true ∧ rx.pre ≠ .bad ∧ rx.violations = 0 ∧
    (((rx.qtEnd - rx.qtStart : Nat) : Int) - d.aesNom n).natAbs * 100 ≤ d.aesNom n := by
  have nominal : d.nominalQt (4 + n) = d.aesNom n := by simp [Dev.nominalQt, Dev.srcPeriod, Dev.aesNom]
  simp only [Dev.aesClean, Dev.lengthOk, nominal, Bool.and_eq_true, beq_iff_eq, bne_iff_ne, decide_eq_true_eq, and_assoc]

omit hn in
/-- What a dropped receiver shows, once its committed blocks are discarded. -/
theorem Dev.aesLost_of_dropped (h : d.Dropped e (4 + n)) (hu : d.accepted (4 + n) = true → e.uncommitted n) : d.AesLost e n := by
  obtain ⟨fclean, _, _, floss, fevt, _⟩ := fd_aes (n := n)
  obtain ⟨accept, clean, _, lost, kept⟩ := h
  rw [fclean] at clean
  rw [floss, fevt] at lost
  rw [floss] at kept
  refine ⟨accept, clean, fun ha => ⟨(hu ha).1, (hu ha).2, (lost ha).2⟩, ?_⟩
  cases ha : d.accepted (4 + n)
  · have bound : d.fld (Fd.AESn_ERR_CNT_LOSS n) < 2 ^ 8 := Dev.fld_lt
    rw [kept ha]
    simp only [Bool.false_eq_true, if_false]
    omega
  · exact (lost ha).1

/-! ### The frame as a whole -/

/-- R129: biphase violations are counted first. -/
theorem Dev.gauge_biphase : (d.add (Fd.AESn_ERR_CNT_BIPHASE n) v).gauge (4 + n) =
    (d.gauge (4 + n)).stepped (Fd.AESn_ERR_CNT_BIPHASE n) v :=
  Dev.gauge_stepOwn (by omega) (biphase_apart n hn).1 rfl

omit hn in
theorem Dev.port1_add {m : Nat} : (d.add f v).port1 m = d.port1 m := rfl

theorem Dev.biphase_same : let e := d.add (Fd.AESn_ERR_CNT_BIPHASE n) v
    e.accepted (4 + n) = d.accepted (4 + n) ∧ e.aesClean n rx = d.aesClean n rx ∧ e.port1 (4 + n) = d.port1 (4 + n) ∧
      (e.gauge (4 + n)).inRate (4 + n) tot = (d.gauge (4 + n)).inRate (4 + n) tot := by
  obtain ⟨own, loss, _, _, rate, tol, _⟩ := biphase_apart n hn
  have key := Dev.gauge_biphase (d := d) (v := v) hn
  have nominal : (((d.gauge (4 + n)).stepped (Fd.AESn_ERR_CNT_BIPHASE n) v)).nominal (4 + n) =
      (d.gauge (4 + n)).nominal (4 + n) := by rw [Gauge.nominal, Gauge.stepped_other rate, Gauge.nominal]
  refine ⟨Dev.accepted_stepOwn (by omega) own rfl loss, ?_, Dev.port1_add, ?_⟩
  · simp only [Dev.aesClean, Dev.lengthOk, Dev.nominalQt_eq (by omega : 4 + n < 6), key, nominal]
  · rw [Gauge.inRate, Gauge.inRate, key, nominal, Gauge.stepped_other tol]

/-- The receiver after BIPHASE was counted, and after the frame was taken in. -/
def Dev.aesTaken (d : Dev) (n : Nat) (rx : AesRx) : Dev :=
  (d.add (Fd.AESn_ERR_CNT_BIPHASE n) rx.violations).aesTake n rx (d.aesClean n rx && d.accepted (4 + n))

theorem Dev.gauge_aesTaken : (d.aesTaken n rx).gauge (4 + n) =
    (d.gauge (4 + n)).stepped (Fd.AESn_ERR_CNT_BIPHASE n) rx.violations :=
  (Dev.gauge_aesTake hn).trans (Dev.gauge_biphase hn)

theorem Dev.aesTaken_same : (d.aesTaken n rx).accepted (4 + n) = d.accepted (4 + n) ∧
    ((d.aesTaken n rx).port1 (4 + n)).runN = (d.port1 (4 + n)).runN ∧
    ((d.aesTaken n rx).port1 (4 + n)).runTot = (d.port1 (4 + n)).runTot ∧
    ((d.aesTaken n rx).gauge (4 + n)).inRate (4 + n) tot = (d.gauge (4 + n)).inRate (4 + n) tot := by
  have run := congrArg Gauge.run (Dev.gauge_aesTaken (d := d) (rx := rx) hn)
  obtain ⟨accept, _, _, rate⟩ := Dev.biphase_same (d := d) (v := rx.violations) (tot := tot) (rx := rx) hn
  have taken : (d.aesTaken n rx).gauge (4 + n) = (d.add (Fd.AESn_ERR_CNT_BIPHASE n) rx.violations).gauge (4 + n) :=
    Dev.gauge_aesTake hn
  refine ⟨(Dev.accepted_congr (by omega) (by rw [taken])).trans accept, Dev.runN_of_gauge.trans (congrArg Prod.fst run),
    Dev.runTot_of_gauge.trans (congrArg Prod.snd run), ?_⟩
  rw [taken, rate]

theorem Dev.aesFrame_stages : d.aesFrame n rx = ((d.aesTaken n rx).aesJudge n rx (d.aesClean n rx) (d.accepted (4 + n))).aesShow n rx
    (d.mutesNow n false) (d.mutesNow n true) := by
  obtain ⟨accept, clean, _⟩ := Dev.biphase_same (d := d) (v := rx.violations) (tot := 0) (rx := rx) hn
  rw [Dev.aesFrame_eq]
  dsimp only
  rw [accept, clean]
  rfl

/-- R129: violations are counted whatever becomes of the frame. -/
theorem Dev.biphase_counted (h : (e.gauge (4 + n)).fld (Fd.AESn_ERR_CNT_BIPHASE n) =
    ((d.gauge (4 + n)).stepped (Fd.AESn_ERR_CNT_BIPHASE n) v).fld (Fd.AESn_ERR_CNT_BIPHASE n)) :
    e.fld (Fd.AESn_ERR_CNT_BIPHASE n) = min 255 (d.fld (Fd.AESn_ERR_CNT_BIPHASE n) + v) := by
  have own := (biphase_apart n hn).1
  rw [Dev.fld_of_gauge own, h, Gauge.stepped, Gauge.set_same, Dev.fld_of_gauge own]
  rfl

/-- A receiver that was dropped: from the gauges before the drop. -/
theorem Dev.aesDrop_shows (ha : (e.gauge (4 + n)).fld (fdAccept (4 + n)) = (d.gauge (4 + n)).fld (fdAccept (4 + n)))
    (hl : (e.gauge (4 + n)).fld (fdLoss (4 + n)) = (d.gauge (4 + n)).fld (fdLoss (4 + n))) :
    let t := (e.aesDrop n (d.accepted (4 + n))).aesShow n rx ma mb
    d.AesLost t n ∧ t.gauge (4 + n) = (e.gauge (4 + n)).dropped (4 + n) := by
  have h6 : 4 + n < 6 := by omega
  have key := (Dev.gauge_aesShow (rx := rx) (ma := ma) (mb := mb) hn).trans
    (Dev.gauge_aesDrop hn (Dev.accepted_congr h6 ha))
  refine ⟨Dev.aesLost_of_dropped (Dev.dropped_of_gauge h6 (congrArg Gauge.fld key) (congrArg Gauge.run key) ha hl)
    fun h => ?_, key⟩
  unfold Dev.uncommitted Dev.aes1
  rw [Dev.aesShow_aes, h]
  exact Dev.aesLoss_uncommitted hn

/-- BIPHASE stands apart from what a loss is judged by. -/
theorem Gauge.biphase_other : let y := x.stepped (Fd.AESn_ERR_CNT_BIPHASE n) v
    y.fld (fdAccept (4 + n)) = x.fld (fdAccept (4 + n)) ∧ y.fld (fdLoss (4 + n)) = x.fld (fdLoss (4 + n)) ∧
      y.fld (fdClean (4 + n)) = x.fld (fdClean (4 + n)) := by
  have loss := (biphase_apart n hn).2.1
  have off (a : Fld) (ha : a ∈ lossFds (4 + n)) : a ≠ Fd.AESn_ERR_CNT_BIPHASE n := fun h => loss (h ▸ ha)
  exact ⟨Gauge.stepped_other (off _ (by simp [lossFds])), Gauge.stepped_other (off _ (by simp [lossFds])),
    Gauge.stepped_other (off _ (by simp [lossFds]))⟩

theorem Gauge.filled_biphase : (x.filled (4 + n) len).fld (Fd.AESn_ERR_CNT_BIPHASE n) = x.fld (Fd.AESn_ERR_CNT_BIPHASE n) := by
  obtain ⟨_, loss, period, _⟩ := biphase_apart n hn
  exact Gauge.filled_other (fun h => loss (h ▸ by simp [lossFds])) period

theorem Dev.aesFrame_unclean (h : d.aesClean n rx = false) : let t := d.aesFrame n rx
    t.fld (Fd.AESn_ERR_CNT_BIPHASE n) = min 255 (d.fld (Fd.AESn_ERR_CNT_BIPHASE n) + rx.violations) ∧ d.AesLost t n := by
  have taken := Dev.gauge_aesTaken (d := d) (rx := rx) hn
  obtain ⟨accept, loss, _⟩ := Gauge.biphase_other (x := d.gauge (4 + n)) (v := rx.violations) hn
  rw [← taken] at accept loss
  obtain ⟨lost, key⟩ := Dev.aesDrop_shows (rx := rx) (ma := d.mutesNow n false) (mb := d.mutesNow n true) hn accept loss
  have frame : d.aesFrame n rx = ((d.aesTaken n rx).aesDrop n (d.accepted (4 + n))).aesShow n rx (d.mutesNow n false)
      (d.mutesNow n true) := by
    rw [Dev.aesFrame_stages hn, h]
    rfl
  rw [frame]
  refine ⟨Dev.biphase_counted hn ?_, lost⟩
  rw [key, Gauge.dropped_other (biphase_apart n hn).2.1, taken]

section
variable (h : d.aesClean n rx = true)
include h

/-- A clean frame is judged by the clock of its receiver. -/
theorem Dev.gauge_aesFrame_clean : (d.aesFrame n rx).gauge (4 + n) = ((d.aesTaken n rx).judged (4 + n)
    (rx.qtEnd - rx.qtStart) rx.qtEnd (d.accepted (4 + n)) (Dev.aesDrop n (d.accepted (4 + n)))).gauge (4 + n) := by
  rw [Dev.aesFrame_stages hn, Dev.gauge_aesShow hn, h]
  rfl

theorem Dev.aesFrame_counted (hr : (d.port1 (4 + n)).runN < 63) : let t := d.aesFrame n rx
    t.fld (Fd.AESn_ERR_CNT_BIPHASE n) = min 255 (d.fld (Fd.AESn_ERR_CNT_BIPHASE n) + rx.violations) ∧
    t.fld (Fd.AESn_STATUS_CLEAN n) = min 64 (d.fld (Fd.AESn_STATUS_CLEAN n) + 1) ∧
    t.accepted (4 + n) = d.accepted (4 + n) ∧ (t.port1 (4 + n)).runN = (d.port1 (4 + n)).runN + 1 := by
  have h6 : 4 + n < 6 := by omega
  obtain ⟨_, run, _, _⟩ := Dev.aesTaken_same (d := d) (rx := rx) (tot := 0) hn
  obtain ⟨accept, _, clean⟩ := Gauge.biphase_other (x := d.gauge (4 + n)) (v := rx.violations) hn
  have distinct := (List.nodup_cons.1 (lossFds_nodup _ h6)).1
  have hclean := (fd_mem _ h6).2.1
  have key := (Dev.gauge_aesFrame_clean hn h).trans (Dev.judged_counted h6 (run.trans_lt hr))
  rw [Dev.gauge_aesTaken hn] at key
  refine ⟨Dev.biphase_counted hn ?_, ?_, Dev.accepted_congr h6 ?_, Dev.runN_of_gauge.trans (congrArg (fun x => x.run.1) key)⟩
  · rw [key]
    exact Gauge.set_other fun he => (biphase_apart n hn).2.1 (he ▸ by simp [lossFds])
  · rw [← (fd_aes (n := n)).1, Dev.fld_of_gauge hclean, key, Dev.fld_of_gauge hclean, ← clean]
    exact Gauge.set_same
  · rw [key, ← accept]
    exact Gauge.set_other fun he => distinct (he ▸ List.mem_cons_self)

section
variable (hr : 63 ≤ (d.port1 (4 + n)).runN)
include hr

theorem Dev.aesFrame_inRate
    (hi : (d.gauge (4 + n)).inRate (4 + n) ((d.port1 (4 + n)).runTot + (rx.qtEnd - rx.qtStart)) = true) :
    let t := d.aesFrame n rx
    t.fld (Fd.AESn_ERR_CNT_BIPHASE n) = min 255 (d.fld (Fd.AESn_ERR_CNT_BIPHASE n) + rx.violations) ∧
    t.fld (Fd.AESn_PERIOD_PERIOD n) = min (2 ^ 20 - 1) ((d.port1 (4 + n)).runTot + (rx.qtEnd - rx.qtStart)) ∧
    (t.port1 (4 + n)).runN = 0 ∧ t.accepted (4 + n) = true ∧
    (d.accepted (4 + n) = false → t.bit (Fd.AESn_EVT_LOCK n) = true) := by
  have h6 : 4 + n < 6 := by omega
  obtain ⟨_, run, tot, rate⟩ := Dev.aesTaken_same (d := d) (rx := rx)
    (tot := (d.port1 (4 + n)).runTot + (rx.qtEnd - rx.qtStart)) hn
  obtain ⟨accept, _, _⟩ := Gauge.biphase_other (x := d.gauge (4 + n)) (v := rx.violations) hn
  obtain ⟨_, loss, _, lock, _⟩ := biphase_apart n hn
  have key := (Dev.gauge_aesFrame_clean hn h).trans (Dev.judged_inRate h6 (hr.trans_eq run.symm) (by rw [tot, rate, hi]))
  rw [Dev.gauge_aesTaken hn] at key
  rw [← (fd_aes (n := n)).2.1, ← (fd_aes (n := n)).2.2.2.2.2.1]
  refine ⟨Dev.biphase_counted hn ?_, Dev.shows_inRate h6 accept (congrArg Gauge.fld key) (congrArg Gauge.run key)⟩
  rw [key]
  split
  · exact Gauge.filled_biphase hn
  · refine (Gauge.set_other lock).trans ((Gauge.set_other fun he => loss ?_).trans (Gauge.filled_biphase hn))
    rw [he]
    exact List.mem_cons_self

theorem Dev.aesFrame_outOfRate
    (hi : (d.gauge (4 + n)).inRate (4 + n) ((d.port1 (4 + n)).runTot + (rx.qtEnd - rx.qtStart)) = false) :
    let t := d.aesFrame n rx
    t.fld (Fd.AESn_ERR_CNT_BIPHASE n) = min 255 (d.fld (Fd.AESn_ERR_CNT_BIPHASE n) + rx.violations) ∧
    t.fld (Fd.AESn_PERIOD_PERIOD n) = min (2 ^ 20 - 1) ((d.port1 (4 + n)).runTot + (rx.qtEnd - rx.qtStart)) ∧
    (t.port1 (4 + n)).runN = 0 ∧ d.AesLost t n := by
  have h6 : 4 + n < 6 := by omega
  obtain ⟨_, run, tot, rate⟩ := Dev.aesTaken_same (d := d) (rx := rx)
    (tot := (d.port1 (4 + n)).runTot + (rx.qtEnd - rx.qtStart)) hn
  obtain ⟨accept, loss, _⟩ := Gauge.biphase_other (x := d.gauge (4 + n)) (v := rx.violations) hn
  obtain ⟨_, apart, _, _, _, _, period⟩ := biphase_apart n hn
  have hperiod := (fd_mem _ h6).2.2.2.1
  obtain ⟨e, he, hg⟩ := Dev.judged_outOfRate (qt := rx.qtEnd) (acc := d.accepted (4 + n))
    (drop := Dev.aesDrop n (d.accepted (4 + n))) h6 (hr.trans_eq run.symm) (by rw [tot, rate, hi])
  rw [Dev.gauge_aesTaken hn] at hg
  obtain ⟨lost, key⟩ := Dev.aesDrop_shows (d := d) (e := e) (rx := rx) (ma := d.mutesNow n false) (mb := d.mutesNow n true) hn
    (by rw [hg, (Gauge.filled_accept h6).1, accept]) (by rw [hg, (Gauge.filled_accept h6).2, loss])
  have frame : d.aesFrame n rx = (e.aesDrop n (d.accepted (4 + n))).aesShow n rx (d.mutesNow n false) (d.mutesNow n true) := by
    rw [Dev.aesFrame_stages hn, h, ← he]
    rfl
  rw [hg] at key
  dsimp only
  rw [frame, ← (fd_aes (n := n)).2.1, Dev.fld_of_gauge hperiod]
  refine ⟨Dev.biphase_counted hn ?_, ?_, (Dev.runN_of_gauge.trans (congrArg (fun x => x.run.1) key)).trans ?_, lost⟩
  · rw [key, Gauge.dropped_other apart, Gauge.filled_biphase hn]
  · rw [key, Gauge.dropped_other period]
    exact Gauge.set_same
  · exact congrArg Prod.fst (Gauge.dropped_shows h6).2.2.1

end
end

/-- Every frame of a receiver: its violations are counted, and it is judged (R129). -/
theorem Dev.aesFrame_shows :
    let t := d.aesFrame n rx
    let tot := (d.port1 (4 + n)).runTot + (rx.qtEnd - rx.qtStart)
    t.fld (Fd.AESn_ERR_CNT_BIPHASE n) = min 255 (d.fld (Fd.AESn_ERR_CNT_BIPHASE n) + rx.violations) ∧
    (d.aesClean n rx = false → d.AesLost t n) ∧
    (d.aesClean n rx = true → (d.port1 (4 + n)).runN < 63 →
      t.fld (Fd.AESn_STATUS_CLEAN n) = min 64 (d.fld (Fd.AESn_STATUS_CLEAN n) + 1) ∧
      t.accepted (4 + n) = d.accepted (4 + n) ∧ (t.port1 (4 + n)).runN = (d.port1 (4 + n)).runN + 1) ∧
    (d.aesClean n rx = true → 63 ≤ (d.port1 (4 + n)).runN →
      t.fld (Fd.AESn_PERIOD_PERIOD n) = min (2 ^ 20 - 1) tot ∧ (t.port1 (4 + n)).runN = 0 ∧
      (d.AesInRate n tot → t.accepted (4 + n) = true ∧ (d.accepted (4 + n) = false → t.bit (Fd.AESn_EVT_LOCK n) = true)) ∧
      (¬ d.AesInRate n tot → d.AesLost t n)) := by
  cases clean : d.aesClean n rx
  · obtain ⟨biphase, lost⟩ := Dev.aesFrame_unclean hn clean
    exact ⟨biphase, fun _ => lost, fun h => (nomatch h), fun h => (nomatch h)⟩
  · rcases Nat.lt_or_ge (d.port1 (4 + n)).runN 63 with few | full
    · obtain ⟨biphase, counted⟩ := Dev.aesFrame_counted hn clean few
      exact ⟨biphase, fun h => (nomatch h), fun _ _ => counted, fun _ full => absurd few (Nat.not_lt.2 full)⟩
    · have run {p : Prop} (few : (d.port1 (4 + n)).runN < 63) : p := absurd few (Nat.not_lt.2 full)
      cases rate : (d.gauge (4 + n)).inRate (4 + n) ((d.port1 (4 + n)).runTot + (rx.qtEnd - rx.qtStart))
      · obtain ⟨biphase, period, ended, lost⟩ := Dev.aesFrame_outOfRate hn clean full rate
        have outside : ¬ d.AesInRate n _ := fun within => Bool.false_ne_true (rate.symm.trans ((Dev.inRate_aes hn).2 within))
        exact ⟨biphase, fun h => (nomatch h), fun _ => run, fun _ _ =>
          ⟨period, ended, fun within => absurd within outside, fun _ => lost⟩⟩
      · obtain ⟨biphase, period, ended, accept⟩ := Dev.aesFrame_inRate hn clean full rate
        exact ⟨biphase, fun h => (nomatch h), fun _ => run, fun _ _ =>
          ⟨period, ended, fun _ => accept, fun outside => absurd ((Dev.inRate_aes hn).1 rate) outside⟩⟩

end
end Sys2Proof.Machine
end

section
/-! What the audio path of a sample stands on (R146 to R155): the settings it reads, the stores, the zones' own state and
the monitor samples. Sieve, Stockpot, stage 7, ports and converters leave it alone. -/
namespace Sys2Proof.Machine
variable {d e : Dev} {n k m s a : Nat} {f : Fld}

/-! ### The bench -/

/-- The registers that the audio path reads: what ports are used for, mix, mute and delay settings, the banks. -/
def pathReg (a : Nat) : Bool := decide ((0x3000 ≤ a ∧ a < 0x4800 ∧ a % 0x400 = 0) ∨ (0x5400 ≤ a ∧ a < 0x5620) ∨
  (0x5700 ≤ a ∧ a < 0x5720) ∨ (0x6120 ≤ a ∧ a < 0x6140))

/-- The registers of the path but for the banks. -/
def mixReg (a : Nat) : Bool := pathReg a && decide (a < 0x6000)

/-- What of a zone stage 7 does not touch: all but the equalised sample, the gain and the sample after it. -/
def ZoneSt.path (z : ZoneSt) : ZoneSt := { z with eq := 0, gFrom := 0, gTo := 0, gPos := 0, post := 0 }

/-- An entry of the list of wrong words that does not belong to the memory of the converters' histories. -/
def notConv (x : Nat × Nat) : Bool := x.1 / 2 ^ 20 != memConv

/-- What the audio path of a sample stands on. -/
structure Bench where
  reg : Nat → Word
  held : List HeldWrite
  pwr : Power
  img : ImgSt
  ecc : List (Nat × Nat)
  taken : Nat → Int
  mon : MonSet
  monPrev : MonSet
  dstore : List (Nat × Int)
  dsCnt : Nat
  firMem : List (Nat × Int)
  firCnt : Nat
  zone : Nat → ZoneSt

/-- The bench of a controller. -/
def Dev.bench (d : Dev) : Bench where
  reg a := if pathReg a then d.reg a else 0
  held := d.held
  pwr := d.pwr
  img := d.img
  ecc := d.ecc.filter notConv
  taken n := (vat d.sieve n).monTaken
  mon := d.mon
  monPrev := d.monPrev
  dstore := d.dstore
  dsCnt := d.dsCnt
  firMem := d.firMem
  firCnt := d.firCnt
  zone k := (d.zone1 k).path

theorem Dev.reg_of_benchReg (h : e.bench.reg = d.bench.reg) (ha : pathReg a = true) : e.reg a = d.reg a := by
  have := congrFun h a
  simpa [Dev.bench, ha] using this

theorem Dev.reg_of_bench (h : e.bench = d.bench) (ha : pathReg a = true) : e.reg a = d.reg a :=
  Dev.reg_of_benchReg (congrArg Bench.reg h) ha

/-! ### Registers beside the path -/

/-- Registers above the banks, and registers of a block of ports other than the first. -/
theorem not_pathReg_high (h : 0x6140 ≤ a) : pathReg a = false := by
  rw [pathReg, decide_eq_false_iff_not]; omega

theorem not_pathReg_far (h : 0x8000 ≤ a) : pathReg (a + m) = false := not_pathReg_high (by omega)

theorem not_pathReg_port {c : Nat} (hn : n < 6) (hc : 0x3000 < c ∧ c < 0x3400) : pathReg (c + 0x400 * n) = false := by
  rw [pathReg, decide_eq_false_iff_not]; omega

theorem not_pathReg_conv {c : Nat} (hn : n < 6) (hc : 0x5100 ≤ c ∧ c < 0x5110) : pathReg (c + 0x10 * n) = false := by
  rw [pathReg, decide_eq_false_iff_not]; omega

theorem Dev.bench_setReg {v : Word} (h : pathReg a = false) : (d.setReg a v).bench = d.bench := by
  have reg : (d.setReg a v).bench.reg = d.bench.reg := by
    funext b
    simp only [Dev.bench]
    split
    next hb => exact Dev.reg_setReg_other fun he => by simp [← he, hb] at h
    next => rfl
  have rest : (d.setReg a v).bench = { d.bench with reg := (d.setReg a v).bench.reg } := rfl
  rw [rest, reg]

theorem Dev.bench_put {v : Nat} (h : pathReg f.addr = false) : (d.put f v).bench = d.bench := Dev.bench_setReg h
theorem Dev.bench_putB {v : Bool} (h : pathReg f.addr = false) : (d.putB f v).bench = d.bench := Dev.bench_setReg h
theorem Dev.bench_putI {v : Int} (h : pathReg f.addr = false) : (d.putI f v).bench = d.bench := Dev.bench_setReg h
theorem Dev.bench_bump (h : pathReg f.addr = false) : (d.bump f).bench = d.bench := Dev.bench_setReg h
theorem Dev.bench_evt (h : pathReg f.addr = false) : (d.evt f).bench = d.bench := Dev.bench_setReg h
theorem Dev.bench_evtIf {c : Bool} (h : pathReg f.addr = false) : (d.evtIf c f).bench = d.bench := by
  unfold Dev.evtIf; split
  · exact Dev.bench_evt h
  · rfl

/-! ### Parts beside the path -/

@[simp] theorem Dev.bench_modPot {u : PotSt → PotSt} : (d.modPot u).bench = d.bench := rfl
@[simp] theorem Dev.bench_modLoad {u : LoadSt → LoadSt} : (d.modLoad k u).bench = d.bench := rfl
@[simp] theorem Dev.bench_modCtl {u : Ctl → Ctl} : (d.modCtl k u).bench = d.bench := rfl
@[simp] theorem Dev.bench_modConv {u : ConvSt → ConvSt} : (d.modConv n u).bench = d.bench := rfl
@[simp] theorem Dev.bench_modPort {u : PortSt → PortSt} : (d.modPort n u).bench = d.bench := rfl
@[simp] theorem Dev.bench_align {x : AlignSt} : ({ d with align := x } : Dev).bench = d.bench := rfl
theorem Dev.bench_fresh : d.fresh.2.bench = d.bench := rfl

/-- An entry that keeps a part keeps it whatever the change would make of others. -/
theorem vat_vmod_same_part {α β : Type} [Inhabited α] {n : Nat} {v : Vector α n} {i j : Nat} {u : α → α} (g : α → β)
    (h : g (u (vat v i)) = g (vat v i)) : g (vat (vmod v i u) j) = g (vat v j) := by
  by_cases hj : j = i
  · subst hj
    by_cases hn : j < n
    · rw [vat_vmod_same hn, h]
    · simp only [vat, vmod, Vector.getD, Vector.toArray_setIfInBounds, Array.getD_eq_getD_getElem?]
      rw [Array.setIfInBounds_eq_of_size_le (by simpa using hn)]
  · rw [vat_vmod_other hj]

theorem Dev.bench_modZone {u : ZoneSt → ZoneSt} (h : (u (d.zone1 k)).path = (d.zone1 k).path) :
    (d.modZone k u).bench = d.bench := by
  have zone : (d.modZone k u).bench.zone = d.bench.zone := funext fun j => vat_vmod_same_part ZoneSt.path h
  have rest : (d.modZone k u).bench = { d.bench with zone := (d.modZone k u).bench.zone } := rfl
  rw [rest, zone]

theorem Dev.bench_modSieve {u : SieveIn → SieveIn} (h : ∀ x, (u x).monTaken = x.monTaken) : (d.modSieve n u).bench = d.bench := by
  have taken : (d.modSieve n u).bench.taken = d.bench.taken := funext fun j => vat_vmod_part SieveIn.monTaken h
  have rest : (d.modSieve n u).bench = { d.bench with taken := (d.modSieve n u).bench.taken } := rfl
  rw [rest, taken]

/-- What a fold of operations that keep the bench keeps. -/
theorem Dev.bench_foldl {β : Type} {u : Dev → β → Dev} (l : List β) (d : Dev)
    (h : ∀ d, ∀ x ∈ l, (u d x).bench = d.bench) : (l.foldl u d).bench = d.bench := by
  induction l generalizing d with
  | nil => rfl
  | cons x l ih =>
    exact (ih (u d x) fun d y hy => h d y (List.mem_cons_of_mem _ hy)).trans (h d x List.mem_cons_self)

/-! ### Check bits of the converters' histories (R406) -/

theorem filter_clear {lo hi : Nat} (h : ∀ a, lo ≤ a → a < hi → a / 2 ^ 20 = memConv) (l : List (Nat × Nat)) :
    (Store.clear lo hi l).filter notConv = l.filter notConv := by
  induction l with
  | nil => rfl
  | cons x t ih =>
    obtain ⟨a, v⟩ := x
    unfold Store.clear
    split
    next hx =>
      simp only [Bool.and_eq_true, decide_eq_true_eq] at hx
      have drop : notConv (a, v) = false := bne_eq_false_iff_eq.2 (h a hx.1 hx.2)
      rw [ih, List.filter_cons_of_neg (by simp [drop])]
    next => simp only [List.filter_cons, ih]

theorem Dev.bench_histWrite {num : Int} (hn : n < 6) : (d.histWrite n num).bench = d.bench := by
  have width : chansOf n ≤ 32 := by unfold chansOf; split <;> decide
  have keys (a : Nat) (hl : eccKey memConv (2048 * n + chansOf n * num.toNat % 2048) ≤ a)
      (hh : a < eccKey memConv (2048 * n + chansOf n * num.toNat % 2048 + chansOf n)) : a / 2 ^ 20 = memConv := by
    simp only [eccKey, memConv] at hl hh ⊢
    omega
  have ecc : (d.histWrite n num).bench.ecc = d.bench.ecc := by
    have : (d.histWrite n num).ecc = Store.clear (eccKey memConv (2048 * n + chansOf n * num.toNat % 2048))
        (eccKey memConv (2048 * n + chansOf n * num.toNat % 2048 + chansOf n)) d.ecc := by
      unfold Dev.histWrite Dev.eccWriteRange
      dsimp only
      split <;> rfl
    exact (congrArg (List.filter notConv) this).trans (filter_clear keys d.ecc)
  have rest : (d.histWrite n num).bench = { d.bench with ecc := (d.histWrite n num).bench.ecc } := by
    unfold Dev.histWrite Dev.eccWriteRange
    dsimp only
    split <;> rfl
  rw [rest, ecc]

end Sys2Proof.Machine
end

section
/-! What the Sieve, the Stockpot, stage 7, the converters and the transmit ports do at a sample boundary leaves the bench
alone (R123 to R126, R137 to R145, R154, R171, R360). -/
namespace Sys2Proof.Machine
variable {d e : Dev} {n g k m s a : Nat} {f : Fld} {l : List AFrame}

/-! ### The Sieve and the Stockpot -/

theorem Dev.bench_countSat {x y : Int} (h : pathReg f.addr = false) : (d.countSat f x y).bench = d.bench := by
  unfold Dev.countSat
  split
  · rfl
  · exact (Dev.bench_evt (by decide)).trans (Dev.bench_bump h)

/-- R171: AUDIO takes up the monitor samples. -/
def Dev.takeMonitor (d : Dev) : Dev := d.each inputs20 (fun d n => d.modSieve n (fun x => { x with monTaken := x.mon }))

theorem Dev.bench_sieveMonitor : (d.sieveMonitor s).bench = d.takeMonitor.bench := by
  unfold Dev.sieveMonitor
  lift_lets
  extract_lets p h e1 e2
  have produced : e2.bench = e1.bench := Dev.bench_foldl _ _ fun d n _ => by
    rw [Dev.bench_countSat (by decide)]
    apply Dev.bench_modSieve
    exact fun _ => rfl
  split_ifs
  · exact ((Dev.bench_evt (by decide)).trans (Dev.bench_putB (by decide))).trans produced
  · exact produced
  · rfl

theorem Dev.monTaken_takeMonitor : (vat d.takeMonitor.sieve n).monTaken = (vat d.sieve n).mon := by
  by_cases hn : n < 20
  · unfold Dev.takeMonitor
    rw [inputs20, Dev.sieve_each_modSieve (fun _ x => { x with monTaken := x.mon }) hn, if_pos hn]
  · have out (v : Vector SieveIn 20) : vat v n = default := by simp [vat, Vector.getD, Nat.not_lt.1 hn]
    rw [out, out]
    rfl

theorem Dev.takeMonitor_eq : ∃ v, d.takeMonitor = { d with sieve := v } := by
  have each : ∀ (l : List Nat) (d : Dev),
      ∃ v, d.each l (fun d n => d.modSieve n (fun x => { x with monTaken := x.mon })) = { d with sieve := v } := by
    intro l
    induction l with
    | nil => exact fun d => ⟨_, rfl⟩
    | cons i l ih =>
      intro d
      obtain ⟨v, hv⟩ := ih (d.modSieve i (fun x => { x with monTaken := x.mon }))
      exact ⟨v, hv⟩
  exact each _ d

theorem Dev.bench_potPlayOne : d.potPlayOne.bench = d.bench := by
  unfold Dev.potPlayOne Dev.showBuf
  dsimp only
  split
  · rfl
  · rw [Dev.bench_put (by decide), Dev.bench_put (by decide), Dev.bench_modPot]

theorem Dev.bench_potRead : d.potRead.bench = d.bench := by unfold Dev.potRead; split <;> rfl

theorem Dev.bench_potBoundary : d.potBoundary.bench = d.bench := by
  unfold Dev.potBoundary
  dsimp only
  split_ifs <;> simp only [Dev.bench_potRead, Dev.bench_potPlayOne, Dev.bench_modPot]
  exact (Dev.bench_evt (by decide)).trans (Dev.bench_bump (by decide))

/-! ### Stage 7 -/

theorem Dev.bench_demand {ev : Fld} {b : Bool} (h : pathReg f.addr = false) (h' : pathReg ev.addr = false) :
    (d.demand f ev b).bench = d.bench := (Dev.bench_putB h).trans (Dev.bench_evtIf h')

theorem Dev.bench_floorShow : (d.floorShow k).bench = d.bench :=
  Dev.bench_demand (not_pathReg_far (of_decide_eq_true rfl)) (not_pathReg_far (of_decide_eq_true rfl))

theorem Dev.bench_flux {y : Int} : (d.flux k y).bench = d.bench := by
  unfold Dev.flux
  dsimp only
  rw [Dev.bench_floorShow, Dev.bench_demand (not_pathReg_far (of_decide_eq_true rfl)) (not_pathReg_far (of_decide_eq_true rfl)),
    Dev.bench_put (not_pathReg_far (of_decide_eq_true rfl)), Dev.bench_modLoad]

theorem Dev.bench_limiter {x : Int} : (d.limiter k s x).1.bench = d.bench := by
  unfold Dev.limiter
  dsimp only
  rw [Dev.bench_flux, Dev.bench_modLoad,
    Dev.bench_demand (not_pathReg_far (of_decide_eq_true rfl)) (not_pathReg_far (of_decide_eq_true rfl)),
    Dev.bench_put (not_pathReg_far (of_decide_eq_true rfl))]

theorem Dev.bench_probeSample : (d.probeSample k s).1.bench = d.bench := by
  unfold Dev.probeSample
  split
  · rfl
  · split <;> rfl

theorem Dev.bench_takeEqualised : (d.takeEqualised k s).bench = d.bench := by
  unfold Dev.takeEqualised
  split
  · exact Dev.bench_modZone rfl
  · rfl

theorem Dev.bench_gainMove : (d.gainMove k s).1.bench = d.bench := by
  unfold Dev.gainMove
  lift_lets
  extract_lets n z now target z' z''
  have moved : z'.path = z.path := by
    simp only [z']
    split <;> rfl
  have steps : z''.path = z'.path := rfl
  exact Dev.bench_modZone (steps.trans moved)

theorem Dev.bench_post {y : Int} : (d.modZone k (fun z => { z with post := y })).bench = d.bench := Dev.bench_modZone rfl

theorem Dev.bench_stage7 : (d.stage7 k s).bench = d.bench := by
  unfold Dev.stage7
  dsimp only
  rw [Dev.bench_modCtl, Dev.bench_post, Dev.bench_probeSample, Dev.bench_limiter,
    Dev.bench_put (not_pathReg_far (of_decide_eq_true rfl)), Dev.bench_putB (not_pathReg_far (of_decide_eq_true rfl)),
    Dev.bench_putB (not_pathReg_far (of_decide_eq_true rfl)), Dev.bench_gainMove, Dev.bench_takeEqualised]

/-! ### Reads of the FIFOs and converters -/

section
variable (hn : n < 6)
include hn

theorem Dev.bench_setFifo : (d.setFifo n l).bench = d.bench := by
  unfold Dev.setFifo
  dsimp only
  split
  · exact Dev.bench_put (not_pathReg_port hn (of_decide_eq_true rfl))
  · rfl

theorem Dev.bench_underflow : (d.underflow n).bench = d.bench := by
  unfold Dev.underflow
  split
  · exact (Dev.bench_evt (not_pathReg_port hn (of_decide_eq_true rfl))).trans
      (Dev.bench_bump (not_pathReg_port hn (of_decide_eq_true rfl)))
  · rfl

theorem Dev.bench_showConv : (d.showConv n).bench = d.bench := by
  unfold Dev.showConv
  dsimp only
  rw [Dev.bench_putB (not_pathReg_conv hn (of_decide_eq_true rfl)), Dev.bench_putB (not_pathReg_conv hn (of_decide_eq_true rfl)),
    Dev.bench_putB (not_pathReg_conv hn (of_decide_eq_true rfl)), Dev.bench_putI (not_pathReg_conv hn (of_decide_eq_true rfl)),
    Dev.bench_putI (not_pathReg_conv hn (of_decide_eq_true rfl))]

omit hn in
theorem Dev.bench_readMember {x : Option (List Int)} : (d.readMember n x).bench = d.bench := by
  have under : pathReg (fdUnder n).addr = false := by
    unfold fdUnder; split <;> exact of_decide_eq_true rfl
  unfold Dev.readMember
  dsimp only
  split
  · rw [Dev.bench_evt (by decide), Dev.bench_bump under, Dev.bench_modConv]
  · rfl

theorem Dev.bench_convMember {coefs : List Int} {x y : Int} : (d.convMember n coefs x y).bench = d.bench := by
  have underflow (d : Dev) (c : Bool) : (if c then d.underflow n else d).bench = d.bench := by
    split
    · exact Dev.bench_underflow hn
    · rfl
  unfold Dev.convMember
  dsimp only
  rw [Dev.bench_modConv, Dev.bench_readMember, underflow, Dev.bench_setFifo hn,
    Dev.bench_foldl _ _ fun d f _ => Dev.bench_histWrite hn, Dev.bench_modConv]

end

theorem ports6_lt (h : n ∈ ports6) : n < 6 := by
  have all : ∀ n ∈ ports6, n < 6 := by decide
  exact all n h

theorem Dev.bench_convBoundary (hg : g < 6) : (d.convBoundary g s).bench = d.bench := by
  unfold Dev.convBoundary
  dsimp only
  split
  · exact Dev.bench_foldl _ _ fun _ _ _ => rfl
  · rw [Dev.bench_showConv hg, Dev.bench_modConv]
    refine (Dev.bench_foldl _ _ fun d n hn => Dev.bench_convMember (ports6_lt (List.mem_filter.1 hn).1)).trans ?_
    rfl

/-- A member's read, and what the reference's own read notes. -/
theorem Dev.bench_member {x : Option (List Int)} (hn : n < 6) {c : Bool} {v : AlignSt} :
    ((if c then { (d.setFifo n l).readMember n x with align := v } else (d.setFifo n l).readMember n x).modConv n
      (fun c => { c with out := c.lastOut })).bench = d.bench := by
  have read : ((d.setFifo n l).readMember n x).bench = d.bench := Dev.bench_readMember.trans (Dev.bench_setFifo hn)
  split <;> exact read

theorem Dev.bench_readReference : (d.readReference s).bench = d.bench := by
  have under (d : Dev) (c : Bool) (n : Nat) (hn : n < 6) : (if c then d.underflow n else d).bench = d.bench := by
    split
    · exact Dev.bench_underflow hn
    · rfl
  unfold Dev.readReference
  lift_lets
  extract_lets ref target now
  clear_value now
  split
  · rfl
  · cases now with
    | none => rfl
    | some r =>
      refine Dev.bench_align.trans (Dev.bench_foldl _ _ fun d n hn => ?_)
      have h6 := ports6_lt (List.mem_filter.1 hn).1
      dsimp only
      split
      · split
        · exact (Dev.bench_member h6).trans (under _ _ _ h6)
        · exact (Dev.bench_member h6).trans (under _ _ _ h6)
      · exact (Dev.bench_member h6).trans (under _ _ _ h6)

/-! ### Transmit ports -/

theorem Dev.bench_takeSet (hn : n < 6) : (d.takeSet n).bench = d.bench := by
  have src (d : Dev) (j : Nat) (hj : j < 32) :
      (d.setReg (Reg.TDMn_LIVE_TXSRCj n j) (d.reg (Reg.TDMn_TXSRCj n j))).bench = d.bench := by
    refine Dev.bench_setReg ?_
    rw [pathReg, decide_eq_false_iff_not, Reg.TDMn_LIVE_TXSRCj]
    omega
  unfold Dev.takeSet
  dsimp only
  rw [Dev.bench_put (not_pathReg_port hn (of_decide_eq_true rfl)), Dev.bench_foldl _ _ fun d j hj => src d j (mem_upTo.1 hj),
    Dev.bench_setReg (a := Reg.TDMn_LIVE_MASK n) (not_pathReg_port hn (of_decide_eq_true rfl)),
    Dev.bench_setReg (a := Reg.TDMn_LIVE_FMT n) (not_pathReg_port hn (of_decide_eq_true rfl))]

theorem Dev.bench_syncSet (hn : n < 6) : (d.syncSet n s).bench = d.bench := by
  have taken (d : Dev) : ((((d.takeSet n).modPort n (fun p => { p with pendTick := none })).putB
      (Fd.TDMn_STATUS_UPDATE_PENDING n) false).evt (Fd.TDMn_EVT_UPDATE n)).bench = d.bench := by
    rw [Dev.bench_evt (not_pathReg_port hn (of_decide_eq_true rfl)), Dev.bench_putB (not_pathReg_port hn (of_decide_eq_true rfl)),
      Dev.bench_modPort, Dev.bench_takeSet hn]
  unfold Dev.syncSet
  dsimp only
  split
  · rfl
  · split
    · split
      · exact (taken _).trans Dev.bench_fresh
      · exact Dev.bench_fresh
    · exact taken d

theorem Dev.bench_sendFrameTdm {src : List Int} : (d.sendFrameTdm n src).bench = d.bench := rfl
theorem Dev.bench_sendSync : (d.sendSync n).bench = d.bench := rfl

theorem Dev.bench_transmitBoundary : (d.transmitBoundary s).bench = d.bench := by
  unfold Dev.transmitBoundary
  refine Dev.bench_foldl _ _ fun d n hn => ?_
  have h6 : n < 6 := ports6_lt (by revert hn; simp [ports6]; omega)
  dsimp only
  split
  · rw [Dev.bench_sendSync, Dev.bench_sendFrameTdm, Dev.bench_syncSet h6]
  · split
    · rw [Dev.bench_histWrite h6, Dev.bench_modConv]
    · rfl

end Sys2Proof.Machine
end

section
/-! Zone feeds at a sample boundary (R121, R146 to R149): what AUDIO forms from the sources of the boundary. -/
namespace Sys2Proof.Machine
variable {d e : Dev} {n g k m s a src : Nat} {f : Fld}

/-- What every step of the numbers of a list keeps. -/
theorem Dev.each_keeps_mem {P : Dev → Prop} {u : Dev → Nat → Dev} : ∀ (l : List Nat) (d : Dev),
    (∀ e j, j ∈ l → P e → P (u e j)) → P d → P (d.each l u) := by
  intro l
  induction l with
  | nil => exact fun d _ hd => hd
  | cons j l ih =>
    intro d h hd
    exact ih _ (fun e i hi => h e i (List.mem_cons_of_mem _ hi)) (h d j List.mem_cons_self hd)

/-- A fold over distinct numbers, by what the step of one of them finds, attains and leaves to the steps of the others. -/
theorem Dev.each_own {P Q : Dev → Prop} {u : Dev → Nat → Dev} : ∀ (l : List Nat) (d : Dev),
    (∀ e, ∀ j ∈ l, j ≠ k → P e → P (u e j)) → (∀ e, P e → Q (u e k)) → (∀ e, ∀ j ∈ l, j ≠ k → Q e → Q (u e j)) →
    l.Nodup → k ∈ l → P d → Q (d.each l u) := by
  intro l
  induction l with
  | nil => exact fun d _ _ _ _ hk => absurd hk List.not_mem_nil
  | cons j l ih =>
    intro d before own after hl hk hd
    rw [List.nodup_cons] at hl
    by_cases h : k = j
    · subst h
      exact Dev.each_keeps_mem l _
        (fun e i hi => after e i (List.mem_cons_of_mem _ hi) fun he => hl.1 (he ▸ hi)) (own d hd)
    · exact ih _ (fun e i hi => before e i (List.mem_cons_of_mem _ hi)) own
        (fun e i hi => after e i (List.mem_cons_of_mem _ hi)) hl.2 ((List.mem_cons.1 hk).resolve_left h)
        (before d j List.mem_cons_self (Ne.symm h) hd)

theorem Dev.strs_nodup : d.strs.Nodup := List.Nodup.filter _ (by decide)

/-! ### The sources of a boundary (R121) -/

/-- What the source channels are read from beside the ports' configuration. -/
def Dev.voices (d : Dev) : (Nat → List Int) × PotSt := (fun n => (d.conv1 n).out, d.pot)

theorem Dev.portRx_congr (h : ∀ a, mixReg a = true → e.reg a = d.reg a) (hn : n < 6) : e.portRx n = d.portRx n := by
  have tdm (h4 : n < 4) : e.reg (Reg.TDMn_CFG n) = d.reg (Reg.TDMn_CFG n) :=
    h _ (by rw [mixReg, pathReg, ← Bool.decide_and, decide_eq_true_iff, Reg.TDMn_CFG]; omega)
  have aes (h4 : ¬ n < 4) : e.reg (Reg.AESn_CFG (n - 4)) = d.reg (Reg.AESn_CFG (n - 4)) :=
    h _ (by rw [mixReg, pathReg, ← Bool.decide_and, decide_eq_true_iff, Reg.AESn_CFG]; omega)
  unfold Dev.portRx Dev.portUsed
  by_cases h4 : n < 4
  · rw [if_pos h4, if_pos h4, Dev.fld_congr (tdm h4), Dev.bit_congr (f := Fd.TDMn_CFG_ROLE n) (tdm h4)]
  · have high : 4 ≤ n := by omega
    rw [if_neg h4, if_neg h4, Dev.bit_congr (f := Fd.AESn_CFG_ENABLE (n - 4)) (aes h4)]
    simp [high]

theorem Dev.sourceChan_congr (h : ∀ a, mixReg a = true → e.reg a = d.reg a) (hv : e.voices = d.voices) :
    e.sourceChan src = d.sourceChan src := by
  obtain ⟨out, pot⟩ := Prod.ext_iff.1 hv
  have conv (n : Nat) : (e.conv1 n).out = (d.conv1 n).out := congrFun out n
  have hpot : e.pot = d.pot := pot
  unfold Dev.sourceChan
  by_cases h1 : src < 128
  · rw [if_pos h1, if_pos h1, Dev.portRx_congr h (by omega), conv]
  · rw [if_neg h1, if_neg h1]
    by_cases h2 : src < 132
    · rw [if_pos h2, if_pos h2, Dev.portRx_congr h (by omega), conv]
    · rw [if_neg h2, if_neg h2, hpot]

/-! ### Transmit ports leave them as they are -/

theorem Dev.voices_setReg {v : Word} : (d.setReg a v).voices = d.voices := rfl
theorem Dev.voices_put {v : Nat} : (d.put f v).voices = d.voices := rfl
theorem Dev.voices_putB {v : Bool} : (d.putB f v).voices = d.voices := rfl
theorem Dev.voices_evt : (d.evt f).voices = d.voices := rfl
theorem Dev.voices_modPort {u : PortSt → PortSt} : (d.modPort n u).voices = d.voices := rfl
theorem Dev.voices_fresh : d.fresh.2.voices = d.voices := rfl
theorem Dev.voices_sendFrameTdm {l : List Int} : (d.sendFrameTdm n l).voices = d.voices := rfl
theorem Dev.voices_sendSync : (d.sendSync n).voices = d.voices := rfl

theorem Dev.voices_takeSet : (d.takeSet n).voices = d.voices := by
  unfold Dev.takeSet
  dsimp only
  rw [Dev.voices_put, foldl_same Dev.voices fun _ _ => Dev.voices_setReg, Dev.voices_setReg, Dev.voices_setReg]

theorem Dev.voices_syncSet : (d.syncSet n s).voices = d.voices := by
  have taken (d : Dev) : ((((d.takeSet n).modPort n (fun p => { p with pendTick := none })).putB
      (Fd.TDMn_STATUS_UPDATE_PENDING n) false).evt (Fd.TDMn_EVT_UPDATE n)).voices = d.voices := by
    rw [Dev.voices_evt, Dev.voices_putB, Dev.voices_modPort, Dev.voices_takeSet]
  unfold Dev.syncSet
  dsimp only
  split
  · rfl
  · split
    · split
      · exact (taken _).trans Dev.voices_fresh
      · exact Dev.voices_fresh
    · exact taken d

theorem Dev.voices_histWrite {num : Int} : (d.histWrite n num).voices = d.voices := by
  unfold Dev.histWrite Dev.eccWriteRange; dsimp only; split <;> rfl

theorem Dev.voices_modConv {u : ConvSt → ConvSt} (h : ∀ c, (u c).out = c.out) : (d.modConv n u).voices = d.voices := by
  have out : (fun j => ((d.modConv n u).conv1 j).out) = fun j => (d.conv1 j).out := funext fun j => vat_vmod_part ConvSt.out h
  exact Prod.ext out rfl

theorem Dev.voices_transmitBoundary : (d.transmitBoundary s).voices = d.voices := by
  unfold Dev.transmitBoundary
  refine foldl_same Dev.voices (fun d n => ?_) _ d
  dsimp only
  split
  · rw [Dev.voices_sendSync, Dev.voices_sendFrameTdm, Dev.voices_syncSet]
  · split
    · refine Dev.voices_histWrite.trans ?_
      apply Dev.voices_modConv
      exact fun _ => rfl
    · rfl

/-! ### A zone feed (R146 to R149) -/

/-- A zone with its feed and the fades of it. -/
def ZoneSt.withFeed (z : ZoneSt) (mp op : Nat) (y : Int) : ZoneSt :=
  { z with mutePos := mp, ovrPos := op, feed := y, feedRep := false }

/-- Zone k once its feed of boundary s is formed. -/
def Dev.fed (d : Dev) (k s : Nat) : ZoneSt :=
  let n := d.fadeN
  let z := d.zone1 k
  let mp := fadeMove (!(tbit (d.eff s Fd.ROUTE_MUTE_MUTE) k)) n z.mutePos
  let op := fadeMove z.ovr n z.ovrPos
  let host := rsh (d.mix k s * fadeGain n mp) 15
  let a := fadeGain n op
  let lid := if a = 0 then 0 else d.sourceChan z.ovrSrc
  z.withFeed mp op (sat23 (rsh (host * (32768 - a) + lid * a) 15))

/-- Only the zone's own state and what stands beside the zones form its feed. -/
theorem Dev.fed_congr {z : Vector ZoneSt 8} (h : vat z k = d.zone1 k) : ({ d with zone := z } : Dev).fed k s = d.fed k s := by
  have own : ({ d with zone := z } : Dev).zone1 k = d.zone1 k := h
  unfold Dev.fed
  rw [own]
  rfl

/-- A step of the present strings that forms each zone from the zone's own state, and changes nothing else. -/
theorem Dev.each_modZone {w : Dev → Nat → ZoneSt}
    (hw : ∀ (d : Dev) k (z : Vector ZoneSt 8), vat z k = d.zone1 k → w { d with zone := z } k = w d k) (d : Dev) :
    ∃ z, d.each d.strs (fun d k => d.modZone k (fun _ => w d k)) = { d with zone := z } ∧ ∀ k ∈ d.strs, vat z k = w d k := by
  have zones : ∃ z, d.each d.strs (fun d k => d.modZone k (fun _ => w d k)) = { d with zone := z } := by
    refine Dev.each_keeps (P := fun e => ∃ z, e = { d with zone := z }) ?_ _ d ⟨d.zone, rfl⟩
    rintro e j ⟨z, rfl⟩
    exact ⟨_, rfl⟩
  obtain ⟨z, hz⟩ := zones
  refine ⟨z, hz, fun k hk => ?_⟩
  have hk8 : k < 8 := (Dev.mem_strs.1 hk).1
  have own : ∃ y, d.each d.strs (fun d k => d.modZone k (fun _ => w d k)) = { d with zone := y } ∧ vat y k = w d k := by
    refine Dev.each_own (P := fun e => ∃ z, e = { d with zone := z } ∧ vat z k = d.zone1 k)
      (Q := fun e => ∃ z, e = { d with zone := z } ∧ vat z k = w d k) _ d ?_ ?_ ?_ Dev.strs_nodup hk ⟨d.zone, rfl, rfl⟩
    · rintro e j - hj ⟨z, rfl, hz⟩
      exact ⟨_, rfl, (vat_vmod_other (Ne.symm hj)).trans hz⟩
    · rintro e ⟨z, rfl, hz⟩
      exact ⟨_, rfl, (vat_vmod_same hk8).trans (hw _ _ _ hz)⟩
    · rintro e j - hj ⟨z, rfl, hz⟩
      exact ⟨_, rfl, (vat_vmod_other (Ne.symm hj)).trans hz⟩
  obtain ⟨y, hy, hyk⟩ := own
  have same : z = y := congrArg Dev.zone (hz.symm.trans hy)
  rw [same, hyk]

/-- The feeds of all strings. -/
theorem Dev.feeds_spec : ∃ z, d.each d.strs (fun d k => d.feed k s) = { d with zone := z } ∧
    ∀ k ∈ d.strs, vat z k = d.fed k s := Dev.each_modZone (w := fun d k => d.fed k s) (fun _ _ _ => Dev.fed_congr) d

/-- R52: what a failed island should have renewed is marked repeated. -/
theorem Dev.repeats_spec {u : ZoneSt → ZoneSt} : ∃ z, d.each d.strs (fun d k => d.modZone k u) = { d with zone := z } ∧
    ∀ k ∈ d.strs, vat z k = u (d.zone1 k) :=
  Dev.each_modZone (w := fun d k => u (d.zone1 k)) (fun _ _ _ h => congrArg u h) d

end Sys2Proof.Machine
end

section
/-! AUDIO at a sample boundary (R50, R137 to R149): what stands once it has formed the zone feeds, or has failed to. -/
namespace Sys2Proof.Machine
variable {d e : Dev} {n g k m s a src : Nat} {f : Fld}

/-! ### Settings in force, by the bench -/

section
variable (hb : e.bench = d.bench)
include hb

theorem Dev.eff_of_bench (hf : pathReg f.addr = true) : e.eff s f = d.eff s f := by
  have held : e.held = d.held := congrArg Bench.held hb
  rw [Dev.eff, Dev.eff, Dev.effReg, Dev.effReg, held, Dev.reg_of_bench hb hf]

theorem Dev.effI_of_bench (hf : pathReg f.addr = true) : e.effI s f = d.effI s f := by
  rw [Dev.effI, Dev.effI, Dev.eff_of_bench hb hf]

theorem Dev.fadeN_of_bench : e.fadeN = d.fadeN := by
  have img : e.img = d.img := congrArg Bench.img hb
  rw [Dev.fadeN, Dev.fadeN, Dev.period, Dev.period, img]

theorem Dev.strs_of_bench : e.strs = d.strs := by
  have img : e.img = d.img := congrArg Bench.img hb
  unfold Dev.strs Dev.present
  rw [img]

end

/-- An island works by the power controller alone. -/
theorem Dev.islandOk_of_pwr {i : Nat} (h : e.pwr = d.pwr) : e.islandOk i = d.islandOk i := by
  simp only [Dev.islandOk, Dev.domRun, h]

theorem pathReg_mix {i : Nat} (hk : k < 8) (hi : i < 4) : pathReg (Reg.ROUTE_MIXk_i k i) = true := by
  rw [pathReg, decide_eq_true_iff, Reg.ROUTE_MIXk_i]; omega

theorem pathReg_delay (hk : k < 8) : pathReg (Reg.ROUTE_DELAYk k) = true := by
  rw [pathReg, decide_eq_true_iff, Reg.ROUTE_DELAYk]; omega

theorem pathReg_bank (hk : k < 8) : pathReg (Reg.FIR_BANKk k) = true := by
  rw [pathReg, decide_eq_true_iff, Reg.FIR_BANKk]; omega

/-- R146: the mix of a zone, by the sources of the boundary and the settings in force. -/
theorem Dev.mix_of_bench (hb : e.bench = d.bench) (hk : k < 8) : e.mix k s =
    sat 24 (rsh (sumI ([0, 1, 2, 3].map (fun i =>
      e.sourceChan (d.eff s (Fd.ROUTE_MIXk_i_SRC k i)) * d.effI s (Fd.ROUTE_MIXk_i_GAIN k i)))) 14) := by
  have term (i : Nat) (hi : i < 4) :
      e.sourceChan (e.eff s (Fd.ROUTE_MIXk_i_SRC k i)) * e.effI s (Fd.ROUTE_MIXk_i_GAIN k i) =
        e.sourceChan (d.eff s (Fd.ROUTE_MIXk_i_SRC k i)) * d.effI s (Fd.ROUTE_MIXk_i_GAIN k i) := by
    rw [Dev.eff_of_bench (f := Fd.ROUTE_MIXk_i_SRC k i) hb (pathReg_mix hk hi),
      Dev.effI_of_bench (f := Fd.ROUTE_MIXk_i_GAIN k i) hb (pathReg_mix hk hi)]
  unfold Dev.mix
  rw [sat23, List.map_congr_left fun i hi => term i (by revert hi; simp; omega)]

/-! ### The stage of AUDIO -/

/-- The sources of the boundary are read (R137 to R145). -/
def Dev.sourced (d : Dev) (s : Nat) : Dev :=
  (d.readReference s).each (ports6.filter (d.readReference s).convMaster) (fun d n => d.convBoundary n s)

/-- The values of the boundary become those of the transmit ports. -/
def Dev.noteMonitor (d : Dev) : Dev := { d with monPrev := d.mon, mon := d.monitorSet }

/-- What AUDIO does at a sample boundary. -/
def Dev.audioStage (d : Dev) (s : Nat) : Dev :=
  if d.islandOk islAudio then
    ((d.sourced s).each (d.sourced s).strs (fun d k => d.feed k s)).noteMonitor.transmitBoundary s
  else d.each d.strs (fun d k => d.modZone k (fun z => { z with feedRep := true }))

theorem Dev.bench_sourced : (d.sourced s).bench = d.bench :=
  (Dev.bench_foldl _ _ fun _ _ hn => Dev.bench_convBoundary (ports6_lt (List.mem_filter.1 hn).1)).trans Dev.bench_readReference

theorem Dev.audioStage_works (h : d.islandOk islAudio = true) : ∃ y z,
    (d.audioStage s).bench = { d.bench with monPrev := d.mon, mon := y, zone := z } ∧
    (d.audioStage s).voices = (d.sourced s).voices ∧ ∀ k ∈ d.strs, z k = ((d.sourced s).fed k s).path := by
  have hb := Dev.bench_sourced (d := d) (s := s)
  have hmon : (d.sourced s).mon = d.mon := congrArg Bench.mon hb
  obtain ⟨v, hv, own⟩ := Dev.feeds_spec (d := d.sourced s) (s := s)
  have stage : d.audioStage s = ({ d.sourced s with zone := v } : Dev).noteMonitor.transmitBoundary s := by
    rw [Dev.audioStage, if_pos h, hv]
  refine ⟨({ d.sourced s with zone := v } : Dev).monitorSet, fun k => (vat v k).path, ?_, ?_, fun k hk => ?_⟩
  · rw [stage, Dev.bench_transmitBoundary, ← hb, ← hmon]
    rfl
  · rw [stage, Dev.voices_transmitBoundary]
    rfl
  · exact congrArg ZoneSt.path (own k (by rwa [Dev.strs_of_bench hb]))

/-- R52: a failed AUDIO forms nothing. -/
theorem Dev.audioStage_failed (h : d.islandOk islAudio = false) : ∃ z, d.audioStage s = { d with zone := z } ∧
    ∀ k ∈ d.strs, vat z k = { d.zone1 k with feedRep := true } := by
  rw [Dev.audioStage, h, if_neg (by decide)]
  exact Dev.repeats_spec

end Sys2Proof.Machine
end

section
/-! The delay store at a sample boundary (R147, R151 to R153): the feed goes in, and the delayed sample comes out. -/
namespace Sys2Proof.Machine
variable {d e t : Dev} {n g j k m s a back : Nat} {f : Fld} {keep : ZoneSt → ZoneSt} {R : Nat → Bool}

/-! ### Steps of one zone -/

/-- A controller but for its registers and its zones. -/
def Dev.offZones (d : Dev) : Dev := { d with regs := [], zone := default }

/-- A step of zone k: it changes registers outside `R` and zone k, of which `keep` stands, and nothing else. -/
structure ZoneStep (k : Nat) (keep : ZoneSt → ZoneSt) (R : Nat → Bool) (d e : Dev) : Prop where
  rest : e.offZones = d.offZones
  reg : ∀ a, R a = true → e.reg a = d.reg a
  other : ∀ j, j ≠ k → e.zone1 j = d.zone1 j
  own : keep (e.zone1 k) = keep (d.zone1 k)

namespace ZoneStep

theorem refl : ZoneStep k keep R d d := ⟨rfl, fun _ _ => rfl, fun _ _ => rfl, rfl⟩

theorem trans (h : ZoneStep k keep R d e) (h' : ZoneStep k keep R e t) : ZoneStep k keep R d t :=
  ⟨h'.rest.trans h.rest, fun a ha => (h'.reg a ha).trans (h.reg a ha),
    fun j hj => (h'.other j hj).trans (h.other j hj), h'.own.trans h.own⟩

theorem ite {c : Prop} [Decidable c] (h : ZoneStep k keep R d e) (h' : ZoneStep k keep R d t) :
    ZoneStep k keep R d (if c then e else t) := by
  split
  · exact h
  · exact h'

theorem put {v : Nat} (h : R f.addr = false) : ZoneStep k keep R d (d.put f v) :=
  ⟨rfl, fun _ ha => Dev.reg_put_other fun he => by simp [← he, ha] at h, fun _ _ => rfl, rfl⟩

theorem putB {v : Bool} (h : R f.addr = false) : ZoneStep k keep R d (d.putB f v) := put h
theorem add {v : Nat} (h : R f.addr = false) : ZoneStep k keep R d (d.add f v) := put h
theorem event (h : R f.addr = false) : ZoneStep k keep R d (d.evt f) := put h

theorem modZone {u : ZoneSt → ZoneSt} (h : keep (u (d.zone1 k)) = keep (d.zone1 k)) : ZoneStep k keep R d (d.modZone k u) :=
  ⟨rfl, fun _ _ => rfl, fun _ hj => vat_vmod_other hj, vat_vmod_same_part keep h⟩

theorem dstore (h : ZoneStep k keep R d e) : e.dstore = d.dstore := (congrArg Dev.dstore h.rest :)
theorem firMem (h : ZoneStep k keep R d e) : e.firMem = d.firMem := (congrArg Dev.firMem h.rest :)

end ZoneStep

/-! ### The delay setting and the read (R147, R152, R153) -/

/-- What of a zone the delay store does not touch. -/
def ZoneSt.offDelay (z : ZoneSt) : ZoneSt :=
  { z with delaySeen := 0, delayDefer := none, delayOld := 0, delayNew := 0, delayPos := 0, delayed := 0, delayedRep := false }

theorem pathReg_dlive (hk : k < 8) : pathReg (Reg.ROUTE_DLIVEk k) = false := by
  rw [pathReg, decide_eq_false_iff_not, Reg.ROUTE_DLIVEk]; omega

theorem Dev.delaySet_step (hk : k < 8) : ZoneStep k ZoneSt.offDelay pathReg d (d.delaySet k s) := by
  have pending (d : Dev) (b : Bool) : ZoneStep k ZoneSt.offDelay pathReg d (d.putB (Fd.ROUTE_DLIVEk_PENDING k) b) :=
    ZoneStep.putB (pathReg_dlive hk)
  have fading (d : Dev) (b : Bool) : ZoneStep k ZoneSt.offDelay pathReg d (d.putB (Fd.ROUTE_DLIVEk_FADING k) b) :=
    ZoneStep.putB (pathReg_dlive hk)
  unfold Dev.delaySet
  lift_lets
  extract_lets want z e z' e'
  have noted : ZoneStep k ZoneSt.offDelay pathReg d e := ZoneStep.ite .refl ((ZoneStep.modZone rfl).trans (pending _ _))
  refine noted.trans (ZoneStep.ite (ZoneStep.modZone rfl) ?_)
  split
  · exact .refl
  · exact (pending e false).trans (ZoneStep.ite (ZoneStep.modZone rfl) ((ZoneStep.modZone rfl).trans (fading _ _)))

theorem Dev.dsRead_step : ZoneStep k ZoneSt.offDelay pathReg d (d.dsRead m back).1 := by
  have corr (d : Dev) : ZoneStep k ZoneSt.offDelay pathReg d (d.bump Fd.ROUTE_DS_ECC_CORR) := ZoneStep.add (by decide)
  have uncorr (d : Dev) : ZoneStep k ZoneSt.offDelay pathReg d ((d.bump Fd.ROUTE_DS_ECC_UNCORR).evt Fd.ROUTE_EVT_DS_ECC) :=
    (ZoneStep.add (by decide)).trans (ZoneStep.event (by decide))
  unfold Dev.dsRead
  lift_lets
  extract_lets word e
  clear_value e
  by_cases h0 : (e == 0) = true
  · simp only [h0, if_true]
    exact .refl
  · by_cases h1 : (e == 1) = true
    · simp only [h0, h1, if_true]
      exact corr d
    · simp only [h0, h1]
      exact uncorr d

/-- The word of zone k that the boundary writes. -/
def Dev.feedIn (d : Dev) (k : Nat) : Dev :=
  { d with dstore := Store.set zeroed d.dstore (regionWords * k + d.dsCnt) (d.zone1 k).feed }

/-- The read of the new setting in a cross-fade (R152). -/
def Dev.fadeRead (d : Dev) (k : Nat) (z : ZoneSt) (x : Int) : Dev × Int × Bool :=
  if z.delayPos == 0 then (d, x, false) else d.dsRead k z.delayNew

/-- The delayed sample of zone k, by the two reads `r` and `q` (R152). -/
def Dev.delayOut (k : Nat) (z : ZoneSt) (r q : Dev × Int × Bool) : Dev :=
  let a := if z.delayPos == 0 then 0 else fadeGain q.1.delayN z.delayPos
  q.1.modZone k (fun z => { z with
    delayed := rsh (r.2.1 * (32768 - a) + q.2.1 * a) 15, delayedRep := z.feedRep || r.2.2 || q.2.2 })

theorem Dev.delayZone_eq : d.delayZone k s =
    let e := (d.feedIn k).delaySet k s
    let z := e.zone1 k
    let r := e.dsRead k z.delayOld
    Dev.delayOut k z r (r.1.fadeRead k z r.2.1) := by
  unfold Dev.delayZone Dev.feedIn
  dsimp only
  generalize Dev.delaySet _ k s = e
  generalize e.dsRead k (e.zone1 k).delayOld = r
  rfl

theorem Dev.delayZone_step (hk : k < 8) : ZoneStep k ZoneSt.offDelay pathReg (d.feedIn k) (d.delayZone k s) := by
  have fade (d : Dev) (z : ZoneSt) (x : Int) : ZoneStep k ZoneSt.offDelay pathReg d (d.fadeRead k z x).1 := by
    unfold Dev.fadeRead
    split
    · exact .refl
    · exact Dev.dsRead_step
  have out (z : ZoneSt) (r q : Dev × Int × Bool) : ZoneStep k ZoneSt.offDelay pathReg q.1 (Dev.delayOut k z r q) :=
    ZoneStep.modZone rfl
  rw [Dev.delayZone_eq]
  exact (Dev.delaySet_step hk).trans (Dev.dsRead_step.trans ((fade _ _ _).trans (out _ _ _)))

/-! ### A setting that stands (R151) -/

/-- No word outside the converters' histories is wrong. -/
theorem Dev.eccAt_clean {mem word : Nat} (h : d.ecc.filter notConv = []) (hw : word < 2 ^ 20) (hm : mem ≠ memConv) :
    d.eccAt mem word = 0 := by
  have key := Store.get_filter (dflt := eccNone) (fun a => a / 2 ^ 20 == memConv) d.ecc (eccKey mem word)
  have apart : (eccKey mem word / 2 ^ 20 == memConv) = false := by
    rw [beq_eq_false_iff_ne, eccKey]
    omega
  have filtered : d.ecc.filter (fun x => !(x.1 / 2 ^ 20 == memConv)) = [] := h
  rw [filtered, apart, if_neg (by decide)] at key
  exact key.symm

theorem rsh_whole (x y : Int) : rsh (x * (32768 - 0) + y * 0) 15 = x := by
  simp only [rsh]
  omega

section
variable (hp : (d.zone1 k).delayPos = 0) (hd : (d.zone1 k).delayDefer = none)
  (hs : d.eff s (Fd.ROUTE_DELAYk_DELAY k) = (d.zone1 k).delaySeen)
include hp hd hs

theorem Dev.delaySet_stands : d.delaySet k s = d := by
  unfold Dev.delaySet
  simp [hs, hp, hd]

theorem Dev.delayZone_stands (hk : k < 8) (he : d.ecc.filter notConv = []) :
    ((d.delayZone k s).zone1 k).delayed = Store.get zeroed (d.delayZone k s).dstore
      (regionWords * k + (d.dsCnt + regionWords - (d.zone1 k).delayOld) % regionWords) := by
  have clean : (d.feedIn k).eccAt memDelay
      (regionWords * k + ((d.feedIn k).dsCnt + regionWords - (d.zone1 k).delayOld) % regionWords) = 0 :=
    Dev.eccAt_clean he (by simp only [regionWords]; omega) (by decide)
  have read : (d.feedIn k).dsRead k (d.zone1 k).delayOld = (d.feedIn k, Store.get zeroed (d.feedIn k).dstore
      (regionWords * k + (d.dsCnt + regionWords - (d.zone1 k).delayOld) % regionWords), false) := by
    unfold Dev.dsRead
    dsimp only
    rw [clean]
    split <;> rfl
  have stands : (d.feedIn k).delaySet k s = d.feedIn k := Dev.delaySet_stands hp hd hs
  have zone : (d.feedIn k).zone1 k = d.zone1 k := rfl
  have fade (x : Int) : (d.feedIn k).fadeRead k (d.zone1 k) x = (d.feedIn k, x, false) := if_pos (beq_iff_eq.2 hp)
  rw [Dev.delayZone_eq]
  dsimp only
  rw [stands, zone, read]
  dsimp only
  rw [fade, Dev.delayOut, if_pos (beq_iff_eq.2 hp)]
  exact (congrArg ZoneSt.delayed (vat_vmod_same hk)).trans (rsh_whole _ _)

end

end Sys2Proof.Machine
end

section
/-! MEM at a sample boundary (R50, R151 to R153): every zone's word, and no other. -/
namespace Sys2Proof.Machine
variable {d e : Dev} {n g j k m s a back : Nat}

/-- What MEM does at a sample boundary. -/
def Dev.memStage (d : Dev) (s : Nat) : Dev :=
  if d.islandOk islMem then
    let d := d.each d.strs (fun d k => d.delayZone k s)
    { d with dsCnt := (d.dsCnt + 1) % regionWords }
  else d.each d.strs (fun d k => d.modZone k (fun z => { z with delayedRep := true }))

/-- What MEM leaves alone: all but registers outside the path, the zones and the words of the delay store. -/
structure MemBeside (d e : Dev) : Prop where
  rest : { e.offZones with dstore := [] } = { d.offZones with dstore := [] }
  reg : ∀ a, pathReg a = true → e.reg a = d.reg a

theorem MemBeside.refl : MemBeside d d := ⟨rfl, fun _ _ => rfl⟩

/-- The words that a zone's boundary leaves: all but the one it writes. -/
theorem Dev.delayZone_word (hj : j < 8) (ha : a ≠ regionWords * j + d.dsCnt) :
    Store.get zeroed (d.delayZone j s).dstore a = Store.get zeroed d.dstore a := by
  rw [(Dev.delayZone_step (d := d) (s := s) hj).dstore]
  exact Store.get_set_other ha

theorem Dev.delayZone_written (hk : k < 8) :
    Store.get zeroed (d.delayZone k s).dstore (regionWords * k + d.dsCnt) = (d.zone1 k).feed := by
  rw [(Dev.delayZone_step (d := d) (s := s) hk).dstore]
  exact Store.get_set_same

theorem MemBeside.delayZone (h : MemBeside d e) (hj : j < 8) : MemBeside d (e.delayZone j s) := by
  have step := Dev.delayZone_step (d := e) (s := s) hj
  have rest : { (e.delayZone j s).offZones with dstore := [] } = ({ e.offZones with dstore := [] } : Dev) :=
    congrArg (fun x : Dev => { x with dstore := [] }) step.rest
  exact ⟨rest.trans h.rest, fun a ha => (step.reg a ha).trans (h.reg a ha)⟩

theorem MemBeside.dsCnt (h : MemBeside d e) : e.dsCnt = d.dsCnt := (congrArg Dev.dsCnt h.rest :)
theorem MemBeside.ecc (h : MemBeside d e) : e.ecc = d.ecc := (congrArg Dev.ecc h.rest :)
theorem MemBeside.held (h : MemBeside d e) : e.held = d.held := (congrArg Dev.held h.rest :)

theorem MemBeside.delaySetting (h : MemBeside d e) (hk : k < 8) :
    e.eff s (Fd.ROUTE_DELAYk_DELAY k) = d.eff s (Fd.ROUTE_DELAYk_DELAY k) := by
  rw [Dev.eff, Dev.eff, Dev.effReg, Dev.effReg, h.held, h.reg (Fd.ROUTE_DELAYk_DELAY k).addr (pathReg_delay hk)]

/-- The delay setting of zone k stands, and no word is wrong. -/
def Dev.DelayQuiet (d : Dev) (k s : Nat) : Prop :=
  (d.zone1 k).delayPos = 0 ∧ (d.zone1 k).delayDefer = none ∧
    d.eff s (Fd.ROUTE_DELAYk_DELAY k) = (d.zone1 k).delaySeen ∧ d.ecc.filter notConv = []

/-- What the boundary attains for zone k: its feed is in its word, and a setting that stands reads it back. -/
structure DelayDone (d : Dev) (k s : Nat) (e : Dev) : Prop where
  beside : MemBeside d e
  zone : (e.zone1 k).offDelay = (d.zone1 k).offDelay
  written : d.dsCnt < regionWords → Store.get zeroed e.dstore (regionWords * k + d.dsCnt) = (d.zone1 k).feed
  read : d.dsCnt < regionWords → d.DelayQuiet k s → (e.zone1 k).delayed =
    Store.get zeroed e.dstore (regionWords * k + (d.dsCnt + regionWords - (d.zone1 k).delayOld) % regionWords)

theorem DelayDone.own (h : MemBeside d e) (hz : e.zone1 k = d.zone1 k) (hk : k < 8) : DelayDone d k s (e.delayZone k s) where
  beside := h.delayZone hk
  zone := (Dev.delayZone_step (d := e) (s := s) hk).own.trans (congrArg ZoneSt.offDelay hz)
  written _ := by
    rw [← h.dsCnt, ← hz]
    exact Dev.delayZone_written hk
  read _ quiet := by
    obtain ⟨hp, hd, hs, hc⟩ := quiet
    rw [← hz] at hp hd hs
    rw [← h.delaySetting hk] at hs
    rw [← h.ecc] at hc
    rw [← h.dsCnt, ← hz]
    exact Dev.delayZone_stands hp hd hs hk hc

theorem DelayDone.other (h : DelayDone d k s e) (hj : j < 8) (hjk : j ≠ k) : DelayDone d k s (e.delayZone j s) := by
  have zone : (e.delayZone j s).zone1 k = e.zone1 k := (Dev.delayZone_step (d := e) (s := s) hj).other k hjk.symm
  have word (w : Nat) (hw : w < regionWords) (hc : d.dsCnt < regionWords) :
      Store.get zeroed (e.delayZone j s).dstore (regionWords * k + w) = Store.get zeroed e.dstore (regionWords * k + w) := by
    refine Dev.delayZone_word hj ?_
    rw [h.beside.dsCnt]
    simp only [regionWords] at *
    omega
  refine ⟨h.beside.delayZone hj, (congrArg ZoneSt.offDelay zone).trans h.zone, fun hc => ?_, fun hc quiet => ?_⟩
  · exact (word _ hc hc).trans (h.written hc)
  · rw [zone, word _ (Nat.mod_lt _ (by decide)) hc]
    exact h.read hc quiet

/-- A zone's feed goes into its word of the store and its delayed sample comes out (R151). -/
theorem Dev.delays_zone (hk : k ∈ d.strs) : DelayDone d k s (d.each d.strs (fun d k => d.delayZone k s)) := by
  have lt (j : Nat) (hj : j ∈ d.strs) : j < 8 := (Dev.mem_strs.1 hj).1
  refine Dev.each_own (P := fun e => MemBeside d e ∧ e.zone1 k = d.zone1 k) (Q := DelayDone d k s) _ d ?_ ?_ ?_
    Dev.strs_nodup hk ⟨.refl, rfl⟩
  · rintro e j hj hjk ⟨beside, zone⟩
    exact ⟨beside.delayZone (lt j hj), ((Dev.delayZone_step (lt j hj)).other k hjk.symm).trans zone⟩
  · rintro e ⟨beside, zone⟩
    exact .own beside zone (lt k hk)
  · exact fun e j hj hjk done => done.other (lt j hj) hjk

/-- What the zones' boundaries leave alone, whichever strings there are. -/
theorem Dev.delays_beside : MemBeside d (d.each d.strs (fun d k => d.delayZone k s)) :=
  Dev.each_keeps_mem _ d (fun _ _ hj beside => beside.delayZone (Dev.mem_strs.1 hj).1) .refl

theorem Dev.delays_word (ha : ∀ k ∈ d.strs, a ≠ regionWords * k + d.dsCnt) :
    Store.get zeroed (d.each d.strs (fun d k => d.delayZone k s)).dstore a = Store.get zeroed d.dstore a := by
  have kept := Dev.each_keeps_mem (P := fun e => MemBeside d e ∧ Store.get zeroed e.dstore a = Store.get zeroed d.dstore a)
    (u := fun d k => d.delayZone k s) d.strs d ?_ ⟨.refl, rfl⟩
  · exact kept.2
  · rintro e j hj ⟨beside, word⟩
    have h8 := (Dev.mem_strs.1 hj).1
    exact ⟨beside.delayZone h8, (Dev.delayZone_word h8 (beside.dsCnt ▸ ha j hj)).trans word⟩

end Sys2Proof.Machine
end

section
/-! The equaliser at a sample boundary (R155, R162 to R164): the delayed sample goes into the history, and the result over
the taps of the bank in use comes out. -/
namespace Sys2Proof.Machine
variable {α : Type} {dflt : Nat → α} {d e t : Dev} {n g j k m s a lo : Nat} {f : Fld}

/-! ### Runs of words of a store -/

theorem Store.filter_drop {p : Nat × α → Bool} (h : ∀ v, p (a, v) = false) (l : List (Nat × α)) :
    (Store.drop l a).filter p = l.filter p := by
  induction l with
  | nil => rfl
  | cons x l ih =>
    obtain ⟨b, w⟩ := x
    rw [Store.drop]
    split
    next hab =>
      subst hab
      rw [ih, List.filter_cons_of_neg (by simp [h])]
    next => simp only [List.filter_cons, ih]

theorem Store.filter_put {p : Nat × α → Bool} {v : α} (h : p (a, v) = false) (l : List (Nat × α)) :
    (Store.put l a v).filter p = l.filter p := by
  induction l with
  | nil => simp [Store.put, h]
  | cons x l ih =>
    obtain ⟨b, w⟩ := x
    rw [Store.put]
    split
    next => rw [List.filter_cons_of_neg (by simp [h])]
    next => simp only [List.filter_cons, ih]

theorem Store.slice_set_other [DecidableEq α] {v : α} {l : List (Nat × α)} (h : a < lo ∨ lo + n ≤ a) :
    Store.slice dflt (Store.set dflt l a v) lo n = Store.slice dflt l lo n := by
  have out (w : α) : (decide (lo ≤ (a, w).1) && decide ((a, w).1 < lo + n)) = false := by
    simp only [Bool.and_eq_false_iff, decide_eq_false_iff_not]
    omega
  have same : (Store.set dflt l a v).filter (fun e => decide (lo ≤ e.1) && decide (e.1 < lo + n)) =
      l.filter (fun e => decide (lo ≤ e.1) && decide (e.1 < lo + n)) := by
    unfold Store.set
    split
    · exact Store.filter_drop out l
    · exact (Store.filter_put (out v) _).trans (Store.filter_drop out l)
  rw [Store.slice, Store.slice, same]

/-! ### One zone -/

/-- What of a zone the equaliser does not touch. -/
def ZoneSt.offFir (z : ZoneSt) : ZoneSt := { z with firReq := [], firFade := none, eqNext := 0, eqNextRep := false }

/-- The registers of the path that the equaliser of zone k leaves: all but the bank in use. -/
def firReg (k a : Nat) : Bool := pathReg a && a != Reg.FIR_BANKk k

theorem firReg_bank : firReg k (Reg.FIR_BANKk k) = false := by simp [firReg]
theorem firReg_beside (h : pathReg a = false) : firReg k a = false := by simp [firReg, h]

/-- The word of zone k's history that the boundary writes. -/
def Dev.historyIn (d : Dev) (k : Nat) : Dev :=
  { d with firMem := Store.set firInit d.firMem (firWords * k + 768 + d.firCnt % 384) (d.zone1 k).delayed }

theorem Dev.firRequest_step : ZoneStep k ZoneSt.offFir (firReg k) d (d.firRequest k s) := by
  have defer (d : Dev) (x : Nat) : ZoneStep k ZoneSt.offFir (firReg k) d
      (((d.putB (Fd.FIR_BANKk_PENDING k) true).put (Fd.FIR_BANKk_PEND_TARGET k) x).evt Fd.FIR_EVT_DEFERRED) :=
    ((ZoneStep.putB firReg_bank).trans (ZoneStep.put firReg_bank)).trans (ZoneStep.event (firReg_beside (by decide)))
  unfold Dev.firRequest
  lift_lets
  extract_lets z due e target
  have noted : ZoneStep k ZoneSt.offFir (firReg k) d e := ZoneStep.modZone rfl
  refine ZoneStep.ite .refl (noted.trans ?_)
  split
  · exact defer e target
  · exact ZoneStep.ite .refl (ZoneStep.modZone rfl)

/-- The banks in use at boundary s and the step between them (R163). -/
def Dev.firBanks (d : Dev) (k s : Nat) : Dev × Nat × Nat × Nat :=
  let nf := 2 ^ d.fld Fd.FIR_CFG_FADE_LOG2
  let act := d.fld (Fd.FIR_BANKk_ACTIVE k)
  match (d.zone1 k).firFade with
  | some (i, t, from_) =>
    if !(decide (from_ < s)) then (d, act, act, 0)
    else if nf ≤ i then (d, t, t, 0)
    else
      (((d.modZone k (fun z => { z with firFade := some (i + 1, t, s) })).putB (Fd.FIR_BANKk_FADING k) true).put
        (Fd.FIR_BANKk_STEP k) (i + 1), act, t, i + 1)
  | none => (d, act, act, 0)

theorem Dev.firBanks_step : ZoneStep k ZoneSt.offFir (firReg k) d (d.firBanks k s).1 := by
  unfold Dev.firBanks
  dsimp only
  split
  · split
    · exact .refl
    · split
      · exact .refl
      · exact (ZoneStep.modZone rfl).trans ((ZoneStep.putB firReg_bank).trans (ZoneStep.put firReg_bank))
  · exact .refl

/-- The end of a boundary: the words that were wrong are counted and the result stands. -/
def Dev.firEnd (d : Dev) (k corr uncorr : Nat) (contained : Bool) (y : Int) : Dev :=
  (((d.add Fd.FIR_ECC_CORR corr).add Fd.FIR_ECC_UNCORR uncorr).evtIf contained Fd.FIR_EVT_ECC).modZone k
    (fun z => { z with eqNext := y, eqNextRep := z.delayedRep || contained })

theorem Dev.firEnd_step {x y : Nat} {c : Bool} {i : Int} : ZoneStep k ZoneSt.offFir (firReg k) d (d.firEnd k x y c i) := by
  have noted (d : Dev) : ZoneStep k ZoneSt.offFir (firReg k) d (d.evtIf c Fd.FIR_EVT_ECC) :=
    ZoneStep.ite (ZoneStep.event (firReg_beside (by decide))) .refl
  have counted (d : Dev) (m : Nat) (f : Fld) (h : pathReg f.addr = false) : ZoneStep k ZoneSt.offFir (firReg k) d (d.add f m) :=
    ZoneStep.add (firReg_beside h)
  exact (counted _ _ _ (by decide)).trans ((counted _ _ _ (by decide)).trans ((noted _).trans (ZoneStep.modZone rfl)))

/-- The words with wrong check bits that a boundary reads (R164). -/
def Dev.firWrong (d : Dev) (n k act new pos : Nat) : List (Nat × Nat) :=
  d.ecc.filter (fun e => eccKey (memFir k) 0 ≤ e.1 && e.1 < eccKey (memFir k) firWords &&
    e.1 != eccKey (memFir k) (768 + pos) && d.firReads n act new (e.1 - eccKey (memFir k) 0))

/-- The result of a boundary from the words that are read, the wrong ones contained (R155, R163, R164). -/
def Dev.firResult (d : Dev) (n k act new i nf pos : Nat) (bad : List (Nat × Nat)) : Int :=
  let base := firWords * k
  let double (w : Nat) : Bool := bad.any (fun e => e.2 != 1 && e.1 == eccKey (memFir k) w)
  let words (o : Nat) : List Int := Store.slice firInit d.firMem (base + o) 384
  let clean (o : Nat) : List Int :=
    if bad.isEmpty then words o else (upTo 384).map (fun j => if double (o + j) then 0 else lat (words o) j)
  let ho := (clean (384 * act)).take n
  let h := if i == 0 then ho
    else
      let hn := (clean (384 * new)).take n
      let a := fadeGain nf i
      (upTo n).map (fun j => rsh (lat ho j * (32768 - a) + lat hn j * a) 15)
  let hist := clean 768
  let x := ((hist.take (pos + 1)).reverse ++ (hist.drop (pos + 1)).reverse).take n
  sat23 (rsh (dot h x) 23)

theorem Dev.firZone_eq : d.firZone k s =
    let e := (d.historyIn k).firRequest k s
    let r := e.firBanks k s
    let pos := d.firCnt % 384
    let bad := r.1.firWrong d.firN k r.2.1 r.2.2.1 pos
    r.1.firEnd k (bad.filter (fun e => e.2 == 1)).length (bad.filter (fun e => e.2 != 1)).length
      (bad.any (fun e => e.2 != 1))
      (r.1.firResult d.firN k r.2.1 r.2.2.1 r.2.2.2 (2 ^ e.fld Fd.FIR_CFG_FADE_LOG2) pos bad) := by
  unfold Dev.firZone Dev.historyIn
  dsimp only
  generalize Dev.firRequest _ k s = e
  unfold Dev.firBanks
  rfl

theorem Dev.firZone_step : ZoneStep k ZoneSt.offFir (firReg k) (d.historyIn k) (d.firZone k s) := by
  rw [Dev.firZone_eq]
  exact (Dev.firRequest_step.trans Dev.firBanks_step).trans Dev.firEnd_step

/-! ### A bank that stands (R155) -/

/-- The result over the taps of bank `act` and the history whose newest sample is at `pos`. -/
def equalised (mem : List (Nat × Int)) (k act taps pos : Nat) : Int :=
  let hist := Store.slice firInit mem (firWords * k + 768) 384
  let h := Store.slice firInit mem (firWords * k + 384 * act) 384
  let newest := (hist.take (pos + 1)).reverse ++ (hist.drop (pos + 1)).reverse
  sat 24 (rsh (dot (h.take taps) (newest.take taps)) 23)

/-- No fade and no request is under way, and no word is wrong. -/
def Dev.FirQuiet (d : Dev) (k : Nat) : Prop :=
  (d.zone1 k).firFade = none ∧ (d.zone1 k).firReq = [] ∧ d.ecc.filter notConv = []

theorem Dev.firRequest_none (h : (d.zone1 k).firReq = []) : d.firRequest k s = d := by
  unfold Dev.firRequest
  simp [h]

theorem Dev.firBanks_none (h : (d.zone1 k).firFade = none) :
    d.firBanks k s = (d, d.fld (Fd.FIR_BANKk_ACTIVE k), d.fld (Fd.FIR_BANKk_ACTIVE k), 0) := by
  unfold Dev.firBanks
  rw [h]

/-- No word of a history or a bank is wrong when none outside the converters' memory is. -/
theorem Dev.firWrong_nil {i pos : Nat} (hk : k < 8) (h : d.ecc.filter notConv = []) : d.firWrong n k m i pos = [] := by
  refine List.filter_eq_nil_iff.2 fun x hx hin => ?_
  simp only [Bool.and_eq_true, eccKey, memFir, firWords] at hin
  obtain ⟨⟨⟨lo, hi⟩, -⟩, -⟩ := hin
  have low := of_decide_eq_true lo
  have high := of_decide_eq_true hi
  refine List.filter_eq_nil_iff.1 h x hx ?_
  rw [notConv, bne_iff_ne, memConv]
  omega

theorem Dev.firZone_stands (h : d.FirQuiet k) (hk : k < 8) : ((d.firZone k s).zone1 k).eqNext =
    equalised (d.firZone k s).firMem k (d.fld (Fd.FIR_BANKk_ACTIVE k)) d.firN (d.firCnt % 384) := by
  obtain ⟨hf, hr, he⟩ := h
  have mem : (d.firZone k s).firMem = (d.historyIn k).firMem := Dev.firZone_step.firMem
  have req : (d.historyIn k).firRequest k s = d.historyIn k := Dev.firRequest_none hr
  have banks : (d.historyIn k).firBanks k s =
      (d.historyIn k, d.fld (Fd.FIR_BANKk_ACTIVE k), d.fld (Fd.FIR_BANKk_ACTIVE k), 0) := Dev.firBanks_none hf
  have wrong (i j pos : Nat) : (d.historyIn k).firWrong d.firN k i j pos = [] := Dev.firWrong_nil hk he
  rw [mem, Dev.firZone_eq]
  dsimp only
  rw [req, banks]
  dsimp only
  rw [wrong]
  exact congrArg ZoneSt.eqNext (vat_vmod_same hk)

end Sys2Proof.Machine
end

section
/-! FIR at a sample boundary (R50, R155): every zone's word of its history, and no other. -/
namespace Sys2Proof.Machine
variable {d e : Dev} {n g j k m s a lo : Nat} {f : Fld}

/-- What FIR does at a sample boundary. -/
def Dev.firStage (d : Dev) (s : Nat) : Dev :=
  if d.islandOk islFir then
    let d := d.each d.strs (fun d k => d.firZone k s)
    { d with firCnt := d.firCnt + 1 }
  else d

theorem firReg_of_mixReg (h : mixReg a = true) : firReg k a = true := by
  simp only [mixReg, Bool.and_eq_true, decide_eq_true_eq] at h
  simp only [firReg, Bool.and_eq_true, bne_iff_ne, Reg.FIR_BANKk]
  exact ⟨h.1, by omega⟩

/-- What FIR leaves alone: all but registers, the zones and the words of the equaliser. -/
structure FirBeside (d e : Dev) : Prop where
  rest : { e.offZones with firMem := [] } = { d.offZones with firMem := [] }
  reg : ∀ a, mixReg a = true → e.reg a = d.reg a

theorem FirBeside.refl : FirBeside d d := ⟨rfl, fun _ _ => rfl⟩

theorem FirBeside.firCnt (h : FirBeside d e) : e.firCnt = d.firCnt := (congrArg Dev.firCnt h.rest :)
theorem FirBeside.ecc (h : FirBeside d e) : e.ecc = d.ecc := (congrArg Dev.ecc h.rest :)
theorem FirBeside.img (h : FirBeside d e) : e.img = d.img := (congrArg Dev.img h.rest :)

theorem FirBeside.firZone (h : FirBeside d e) : FirBeside d (e.firZone j s) := by
  have step := Dev.firZone_step (d := e) (k := j) (s := s)
  have rest : { (e.firZone j s).offZones with firMem := [] } = ({ e.offZones with firMem := [] } : Dev) :=
    congrArg (fun x : Dev => { x with firMem := [] }) step.rest
  exact ⟨rest.trans h.rest, fun a ha => (step.reg a (firReg_of_mixReg ha)).trans (h.reg a ha)⟩

/-- The words that a zone's boundary leaves: all but the one it writes. -/
theorem Dev.firZone_word (ha : a ≠ firWords * j + 768 + d.firCnt % 384) :
    Store.get firInit (d.firZone j s).firMem a = Store.get firInit d.firMem a := by
  rw [(Dev.firZone_step (d := d) (k := j) (s := s)).firMem]
  exact Store.get_set_other ha

theorem Dev.firZone_written :
    Store.get firInit (d.firZone k s).firMem (firWords * k + 768 + d.firCnt % 384) = (d.zone1 k).delayed := by
  rw [(Dev.firZone_step (d := d) (k := k) (s := s)).firMem]
  exact Store.get_set_same

/-- The words of string k's bank and history stand when another string writes its own. -/
theorem Dev.firZone_equalised {taps pos act : Nat} (hjk : j ≠ k) (hact : act < 2) :
    equalised (d.firZone j s).firMem k act taps pos = equalised d.firMem k act taps pos := by
  have words (o : Nat) (ho : o + 384 ≤ firWords) : Store.slice firInit (d.firZone j s).firMem (firWords * k + o) 384 =
      Store.slice firInit d.firMem (firWords * k + o) 384 := by
    rw [(Dev.firZone_step (d := d) (k := j) (s := s)).firMem]
    refine Store.slice_set_other ?_
    simp only [firWords] at *
    omega
  have bank : 384 * act + 384 ≤ firWords := by
    simp only [firWords]
    omega
  unfold equalised
  rw [words 768 (by decide), words _ bank]

/-- What the boundary attains for zone k: its delayed sample is in its word, and a bank that stands equalises. -/
structure FirDone (d : Dev) (k s : Nat) (e : Dev) : Prop where
  beside : FirBeside d e
  zone : (e.zone1 k).offFir = (d.zone1 k).offFir
  written : Store.get firInit e.firMem (firWords * k + 768 + d.firCnt % 384) = (d.zone1 k).delayed
  result : d.FirQuiet k → (e.zone1 k).eqNext =
    equalised e.firMem k (d.fld (Fd.FIR_BANKk_ACTIVE k)) d.firN (d.firCnt % 384)

theorem FirDone.own (h : FirBeside d e) (hz : e.zone1 k = d.zone1 k)
    (hb : e.reg (Reg.FIR_BANKk k) = d.reg (Reg.FIR_BANKk k)) (hk : k < 8) : FirDone d k s (e.firZone k s) where
  beside := h.firZone
  zone := (Dev.firZone_step (d := e) (s := s)).own.trans (congrArg ZoneSt.offFir hz)
  written := by
    rw [← h.firCnt, ← hz]
    exact Dev.firZone_written
  result quiet := by
    obtain ⟨hf, hr, hc⟩ := quiet
    rw [← hz] at hf hr
    rw [← h.ecc] at hc
    have taps : e.firN = d.firN := by rw [Dev.firN, Dev.firN, h.img]
    have act : e.fld (Fd.FIR_BANKk_ACTIVE k) = d.fld (Fd.FIR_BANKk_ACTIVE k) := Dev.fld_congr hb
    rw [← h.firCnt, ← taps, ← act]
    exact Dev.firZone_stands ⟨hf, hr, hc⟩ hk

theorem FirDone.other (h : FirDone d k s e) (hjk : j ≠ k) : FirDone d k s (e.firZone j s) := by
  have zone : (e.firZone j s).zone1 k = e.zone1 k := (Dev.firZone_step (d := e) (s := s)).other k hjk.symm
  refine ⟨h.beside.firZone, (congrArg ZoneSt.offFir zone).trans h.zone, ?_, fun quiet => ?_⟩
  · rw [← h.written]
    refine Dev.firZone_word ?_
    rw [h.beside.firCnt]
    simp only [firWords]
    omega
  · rw [zone, h.result quiet, Dev.firZone_equalised hjk (Dev.fld_lt (f := Fd.FIR_BANKk_ACTIVE k))]

/-- A zone's delayed sample goes into its history and its result comes out (R155). -/
theorem Dev.equals_zone (hk : k ∈ d.strs) : FirDone d k s (d.each d.strs (fun d k => d.firZone k s)) := by
  refine Dev.each_own (P := fun e => FirBeside d e ∧ e.zone1 k = d.zone1 k ∧ e.reg (Reg.FIR_BANKk k) = d.reg (Reg.FIR_BANKk k))
    (Q := FirDone d k s) _ d ?_ ?_ ?_ Dev.strs_nodup hk ⟨.refl, rfl, rfl⟩
  · rintro e j - hjk ⟨beside, zone, bank⟩
    have step := Dev.firZone_step (d := e) (k := j) (s := s)
    have kept : firReg j (Reg.FIR_BANKk k) = true := by
      have apart : Reg.FIR_BANKk k ≠ Reg.FIR_BANKk j := by
        simp only [Reg.FIR_BANKk]
        omega
      simp only [firReg, pathReg_bank (Dev.mem_strs.1 hk).1, Bool.true_and, bne_iff_ne]
      exact apart
    exact ⟨beside.firZone, (step.other k hjk.symm).trans zone, (step.reg _ kept).trans bank⟩
  · rintro e ⟨beside, zone, bank⟩
    exact .own beside zone bank (Dev.mem_strs.1 hk).1
  · exact fun e j _ hjk done => done.other hjk

/-- What the equaliser leaves alone, whichever strings there are. -/
theorem Dev.equals_beside : FirBeside d (d.each d.strs (fun d k => d.firZone k s)) :=
  Dev.each_keeps_mem _ d (fun _ _ _ beside => beside.firZone) .refl

theorem Dev.equals_word (ha : ∀ k ∈ d.strs, a ≠ firWords * k + 768 + d.firCnt % 384) :
    Store.get firInit (d.each d.strs (fun d k => d.firZone k s)).firMem a = Store.get firInit d.firMem a := by
  have kept := Dev.each_keeps_mem (P := fun e => FirBeside d e ∧ Store.get firInit e.firMem a = Store.get firInit d.firMem a)
    (u := fun d k => d.firZone k s) d.strs d ?_ ⟨.refl, rfl⟩
  · exact kept.2
  · rintro e j hj ⟨beside, word⟩
    exact ⟨beside.firZone, (Dev.firZone_word (beside.firCnt ▸ ha j hj)).trans word⟩

end Sys2Proof.Machine
end

section
/-! The audio path at a sample boundary (R50, R146 to R155): its stages one after another, on a bench that stands. -/
namespace Sys2Proof.Machine
variable {d e A : Dev} {n k s a i : Nat} {f : Fld}

/-! ### What MEM and FIR pass on -/

/-- A controller but for what MEM and FIR work on. -/
def Dev.offStores (d : Dev) : Dev := { d.offZones with dstore := [], dsCnt := 0, firMem := [], firCnt := 0 }

/-- A stage after AUDIO: registers but those of mixes, mutes and delays, zones, and the two stores. -/
structure Passed (d e : Dev) : Prop where
  rest : e.offStores = d.offStores
  reg : ∀ a, mixReg a = true → e.reg a = d.reg a

namespace Passed

theorem refl : Passed d d := ⟨rfl, fun _ _ => rfl⟩

theorem trans {t : Dev} (h : Passed d e) (h' : Passed e t) : Passed d t :=
  ⟨h'.rest.trans h.rest, fun a ha => (h'.reg a ha).trans (h.reg a ha)⟩

theorem pwr (h : Passed d e) : e.pwr = d.pwr := (congrArg Dev.pwr h.rest :)
theorem img (h : Passed d e) : e.img = d.img := (congrArg Dev.img h.rest :)
theorem ecc (h : Passed d e) : e.ecc = d.ecc := (congrArg Dev.ecc h.rest :)
theorem sieve (h : Passed d e) : e.sieve = d.sieve := (congrArg Dev.sieve h.rest :)
theorem monPrev (h : Passed d e) : e.monPrev = d.monPrev := (congrArg Dev.monPrev h.rest :)
theorem voices (h : Passed d e) : e.voices = d.voices := (congrArg Dev.voices h.rest :)

theorem strs (h : Passed d e) : e.strs = d.strs := by
  unfold Dev.strs Dev.present
  rw [h.img]

end Passed

theorem MemBeside.passed (h : MemBeside d e) : Passed d e where
  rest := congrArg (fun x : Dev => { x with dsCnt := 0, firMem := [], firCnt := 0 }) h.rest
  reg a ha := h.reg a (Bool.and_eq_true_iff.1 ha).1

theorem FirBeside.passed (h : FirBeside d e) : Passed d e where
  rest := congrArg (fun x : Dev => { x with dstore := [], dsCnt := 0, firCnt := 0 }) h.rest
  reg := h.reg

/-- The source channels are not read from anything that MEM and FIR work on (R121). -/
theorem Passed.sourceChan {src : Nat} (h : Passed d e) : e.sourceChan src = d.sourceChan src :=
  Dev.sourceChan_congr h.reg h.voices

/-! ### MEM -/

section
variable (h : d.islandOk islMem = true)
include h

theorem Dev.memStage_works : d.memStage s =
    { d.each d.strs (fun d k => d.delayZone k s) with
      dsCnt := ((d.each d.strs (fun d k => d.delayZone k s)).dsCnt + 1) % regionWords } := by
  rw [Dev.memStage, if_pos h]

end

theorem Dev.memStage_failed (h : d.islandOk islMem = false) : ∃ z, d.memStage s = { d with zone := z } ∧
    ∀ k ∈ d.strs, vat z k = { d.zone1 k with delayedRep := true } := by
  rw [Dev.memStage, h, if_neg (by decide)]
  exact Dev.repeats_spec

/-- What MEM leaves alone, and its count of samples. -/
theorem Dev.memStage_beside : Passed d (d.memStage s) ∧ (∀ a, pathReg a = true → (d.memStage s).reg a = d.reg a) ∧
    (d.memStage s).firMem = d.firMem ∧ (d.memStage s).firCnt = d.firCnt ∧
    (d.memStage s).dsCnt = if d.islandOk islMem then (d.dsCnt + 1) % regionWords else d.dsCnt := by
  cases h : d.islandOk islMem
  · obtain ⟨z, hz, -⟩ := Dev.memStage_failed (s := s) h
    rw [hz]
    exact ⟨⟨rfl, fun _ _ => rfl⟩, fun _ _ => rfl, rfl, rfl, rfl⟩
  · have beside := Dev.delays_beside (d := d) (s := s)
    rw [Dev.memStage_works h, beside.dsCnt]
    exact ⟨beside.passed.trans ⟨rfl, fun _ _ => rfl⟩, beside.reg, (congrArg Dev.firMem beside.rest :),
      (congrArg Dev.firCnt beside.rest :), rfl⟩

theorem Dev.memStage_zone (hk : k ∈ d.strs) : ((d.memStage s).zone1 k).offDelay = (d.zone1 k).offDelay := by
  cases h : d.islandOk islMem
  · obtain ⟨z, hz, own⟩ := Dev.memStage_failed (s := s) h
    rw [hz]
    exact (congrArg ZoneSt.offDelay (own k hk) :)
  · rw [Dev.memStage_works h]
    exact (Dev.delays_zone hk).zone

theorem Dev.memStage_word (ha : ∀ k ∈ d.strs, d.islandOk islMem = true → a ≠ regionWords * k + d.dsCnt) :
    Store.get zeroed (d.memStage s).dstore a = Store.get zeroed d.dstore a := by
  cases h : d.islandOk islMem
  · obtain ⟨z, hz, -⟩ := Dev.memStage_failed (s := s) h
    rw [hz]
  · rw [Dev.memStage_works h]
    exact Dev.delays_word fun k hk => ha k hk h

/-! ### FIR -/

theorem Dev.firStage_works (h : d.islandOk islFir = true) : d.firStage s =
    { d.each d.strs (fun d k => d.firZone k s) with firCnt := (d.each d.strs (fun d k => d.firZone k s)).firCnt + 1 } := by
  rw [Dev.firStage, if_pos h]

theorem Dev.firStage_failed (h : d.islandOk islFir = false) : d.firStage s = d := by
  rw [Dev.firStage, h, if_neg (by decide)]

/-- What FIR leaves alone, and its count of samples. -/
theorem Dev.firStage_beside : Passed d (d.firStage s) ∧ (d.firStage s).dstore = d.dstore ∧ (d.firStage s).dsCnt = d.dsCnt ∧
    (d.firStage s).firCnt = if d.islandOk islFir then d.firCnt + 1 else d.firCnt := by
  cases h : d.islandOk islFir
  · rw [Dev.firStage_failed h]
    exact ⟨.refl, rfl, rfl, rfl⟩
  · have beside := Dev.equals_beside (d := d) (s := s)
    rw [Dev.firStage_works h, beside.firCnt]
    exact ⟨beside.passed.trans ⟨rfl, fun _ _ => rfl⟩, (congrArg Dev.dstore beside.rest :),
      (congrArg Dev.dsCnt beside.rest :), rfl⟩

theorem Dev.firStage_zone (hk : k ∈ d.strs) : ((d.firStage s).zone1 k).offFir = (d.zone1 k).offFir := by
  cases h : d.islandOk islFir
  · rw [Dev.firStage_failed h]
  · rw [Dev.firStage_works h]
    exact (Dev.equals_zone hk).zone

theorem Dev.firStage_word (ha : ∀ k ∈ d.strs, d.islandOk islFir = true → a ≠ firWords * k + 768 + d.firCnt % 384) :
    Store.get firInit (d.firStage s).firMem a = Store.get firInit d.firMem a := by
  cases h : d.islandOk islFir
  · rw [Dev.firStage_failed h]
  · rw [Dev.firStage_works h]
    exact Dev.equals_word fun k hk => ha k hk h

end Sys2Proof.Machine
end

section
/-! PROGRAM_SAMPLE_BOUNDARY (R50, R146 to R155, R171): what stands after the boundary, by what stood before it. -/
namespace Sys2Proof.Machine
variable {d e : Dev} {n k s a i : Nat} {f : Fld} {src : Nat → Int}

/-! ### A feed by the settings of the boundary -/

/-- Zone k once its feed is formed from the settings of `d` and the source channels `src` (R146 to R149). -/
def Dev.fedBy (d : Dev) (src : Nat → Int) (k s : Nat) : ZoneSt :=
  let n := d.fadeN
  let z := d.zone1 k
  let mp := if tbit (d.eff s Fd.ROUTE_MUTE_MUTE) k then z.mutePos - 1 else min n (z.mutePos + 1)
  let op := if z.ovr then min n (z.ovrPos + 1) else z.ovrPos - 1
  let mix := sat 24 (rsh (sumI ([0, 1, 2, 3].map (fun i =>
    src (d.eff s (Fd.ROUTE_MIXk_i_SRC k i)) * d.effI s (Fd.ROUTE_MIXk_i_GAIN k i)))) 14)
  let host := rsh (mix * fadeGain n mp) 15
  let a := fadeGain n op
  let lid := if a = 0 then 0 else src z.ovrSrc
  z.withFeed mp op (sat 24 (rsh (host * (32768 - a) + lid * a) 15))

theorem fadeMove_not {up : Bool} : fadeMove (!up) n a = if up then a - 1 else min n (a + 1) := by
  cases up <;> rfl

theorem ZoneSt.path_withFeed {z y : ZoneSt} {mp op : Nat} {x : Int} (h : z.path = y.path) :
    (z.withFeed mp op x).path = (y.withFeed mp op x).path := (congrArg (fun z => z.withFeed mp op x) h :)

theorem Dev.fed_of_bench (hb : e.bench = d.bench) (hk : k < 8) : (e.fed k s).path = (d.fedBy e.sourceChan k s).path := by
  have zone : (e.zone1 k).path = (d.zone1 k).path := congrFun (congrArg Bench.zone hb) k
  have ovr : (e.zone1 k).ovr = (d.zone1 k).ovr := (congrArg ZoneSt.ovr zone :)
  have ovrPos : (e.zone1 k).ovrPos = (d.zone1 k).ovrPos := (congrArg ZoneSt.ovrPos zone :)
  have ovrSrc : (e.zone1 k).ovrSrc = (d.zone1 k).ovrSrc := (congrArg ZoneSt.ovrSrc zone :)
  have mutePos : (e.zone1 k).mutePos = (d.zone1 k).mutePos := (congrArg ZoneSt.mutePos zone :)
  unfold Dev.fed Dev.fedBy
  dsimp only
  rw [Dev.mix_of_bench hb hk, Dev.fadeN_of_bench hb, Dev.eff_of_bench (f := Fd.ROUTE_MUTE_MUTE) hb (by decide), fadeMove_not,
    ovr, ovrPos, ovrSrc, mutePos, fadeMove, sat23, ZoneSt.path_withFeed zone]

/-! ### The stages one after another -/

theorem Dev.bench_stages7 : (d.each d.liveStrs (fun d k => d.stage7 k s)).bench = d.bench :=
  Dev.bench_foldl _ _ fun _ _ _ => Dev.bench_stage7

/-- A sample boundary up to the stage of AUDIO: monitor samples, Stockpot, stage 7 and the zone feeds. -/
def Dev.fedSample (d : Dev) (s : Nat) : Dev :=
  let d := d.sieveMonitor s
  let d := if d.islandOk islLid then d.potBoundary else d
  (d.each d.liveStrs (fun d k => d.stage7 k s)).audioStage s

/-- What AUDIO leaves of a zone: all but the fades of its feed and the feed. -/
def ZoneSt.offFeed (z : ZoneSt) : ZoneSt := { z.path with mutePos := 0, ovrPos := 0, feed := 0, feedRep := false }

/-- What stands once AUDIO has worked, or has failed to. -/
structure AudioDone (d : Dev) (s : Nat) (e : Dev) : Prop where
  bench : ∃ x y z, e.bench = { d.bench with monPrev := x, mon := y, zone := z }
  monitors : d.islandOk islAudio = true → e.monPrev = d.mon
  zone : ∀ k ∈ d.strs, (e.zone1 k).offFeed = (d.zone1 k).offFeed
  fed : d.islandOk islAudio = true → ∀ k ∈ d.strs, (e.zone1 k).path = (d.fedBy e.sourceChan k s).path
  failed : d.islandOk islAudio = false → ∀ k ∈ d.strs, (e.zone1 k).path = { d.zone1 k with feedRep := true }.path

theorem Dev.audioStage_done (hb : e.bench = d.bench) : AudioDone d s (e.audioStage s) := by
  have pwr : e.pwr = d.pwr := congrArg Bench.pwr hb
  have mon : e.mon = d.mon := congrArg Bench.mon hb
  have strs : e.strs = d.strs := Dev.strs_of_bench hb
  have zone (k : Nat) : (e.zone1 k).path = (d.zone1 k).path := congrFun (congrArg Bench.zone hb) k
  have ok : e.islandOk islAudio = d.islandOk islAudio := Dev.islandOk_of_pwr pwr
  cases h : d.islandOk islAudio
  · obtain ⟨v, hv, own⟩ := Dev.audioStage_failed (s := s) (ok.trans h)
    have here (k : Nat) (hk : k ∈ d.strs) : ((e.audioStage s).zone1 k).path = { d.zone1 k with feedRep := true }.path := by
      have mine : (e.audioStage s).zone1 k = { e.zone1 k with feedRep := true } := by
        rw [hv]
        exact own k (strs ▸ hk)
      rw [mine]
      exact (congrArg (fun z : ZoneSt => { z with feedRep := true }) (zone k) :)
    refine ⟨⟨e.monPrev, e.mon, fun k => (vat v k).path, ?_⟩, fun w => ?_, fun k hk => ?_, fun w => ?_, fun _ => here⟩
    · rw [hv, ← hb]
      rfl
    · cases h.symm.trans w
    · exact (congrArg ZoneSt.offFeed (here k hk) :)
    · cases h.symm.trans w
  · obtain ⟨y, z, bench, voices, own⟩ := Dev.audioStage_works (s := s) (ok.trans h)
    have here (k : Nat) (hk : k ∈ d.strs) : ((e.audioStage s).zone1 k).path = (d.fedBy (e.audioStage s).sourceChan k s).path := by
      have sourced : (e.sourced s).bench = e.bench := Dev.bench_sourced
      have reg : (e.audioStage s).bench.reg = (e.sourced s).bench.reg :=
        (congrArg Bench.reg bench).trans (congrArg Bench.reg sourced).symm
      have chans : (e.audioStage s).sourceChan = (e.sourced s).sourceChan := funext fun _ =>
        Dev.sourceChan_congr (fun _ ha => Dev.reg_of_benchReg reg (Bool.and_eq_true_iff.1 ha).1) voices
      have mine : ((e.audioStage s).zone1 k).path = z k := congrFun (congrArg Bench.zone bench) k
      rw [mine, own k (strs ▸ hk), chans]
      exact Dev.fed_of_bench (sourced.trans hb) (Dev.mem_strs.1 hk).1
    refine ⟨⟨e.mon, y, z, ?_⟩, fun _ => ?_, fun k hk => ?_, fun _ => here, fun w => ?_⟩
    · rw [bench, hb]
    · exact (congrArg Bench.monPrev bench).trans mon
    · exact (congrArg ZoneSt.offFeed (here k hk) :)
    · cases h.symm.trans w

end Sys2Proof.Machine
end

section
/-! PROGRAM_SAMPLE_BOUNDARY after AUDIO: what MEM and FIR make of the zones' feeds (R50, R151, R155). -/
namespace Sys2Proof.Machine
variable {d F : Dev} {n k s a i : Nat} {f : Fld}

/-- MEM and FIR after AUDIO. -/
def Dev.stored (d : Dev) (s : Nat) : Dev := (d.memStage s).firStage s

/-! ### Parts of a zone -/

/-- What the feed of a zone shows: its fades, the sample and whether it is repeated. -/
def ZoneSt.heard (z : ZoneSt) : Nat × Nat × Int × Bool := (z.mutePos, z.ovrPos, z.feed, z.feedRep)

/-- What the delay store reads of a zone: where its fade is, and the settings. -/
def ZoneSt.setting (z : ZoneSt) : Nat × Option Nat × Nat × Nat := (z.delayPos, z.delayDefer, z.delaySeen, z.delayOld)

/-- What the equaliser reads of a zone, and its result. -/
def ZoneSt.banked (z : ZoneSt) : Option (Nat × Nat × Nat) × List Nat × Int := (z.firFade, z.firReq, z.eqNext)

/-- The delayed sample of a zone, and whether it is repeated. -/
def ZoneSt.late (z : ZoneSt) : Int × Bool := (z.delayed, z.delayedRep)

section
variable {z y : ZoneSt}

theorem ZoneSt.heard_of_path (h : z.path = y.path) : z.heard = y.heard := (congrArg ZoneSt.heard h :)
theorem ZoneSt.heard_of_offDelay (h : z.offDelay = y.offDelay) : z.heard = y.heard := (congrArg ZoneSt.heard h :)
theorem ZoneSt.heard_of_offFir (h : z.offFir = y.offFir) : z.heard = y.heard := (congrArg ZoneSt.heard h :)
theorem ZoneSt.late_of_offFir (h : z.offFir = y.offFir) : z.late = y.late := (congrArg ZoneSt.late h :)
theorem ZoneSt.late_of_offFeed (h : z.offFeed = y.offFeed) : z.late = y.late := (congrArg ZoneSt.late h :)
theorem ZoneSt.setting_of_offFeed (h : z.offFeed = y.offFeed) : z.setting = y.setting := (congrArg ZoneSt.setting h :)
theorem ZoneSt.banked_of_offFeed (h : z.offFeed = y.offFeed) : z.banked = y.banked := (congrArg ZoneSt.banked h :)
theorem ZoneSt.banked_of_offDelay (h : z.offDelay = y.offDelay) : z.banked = y.banked := (congrArg ZoneSt.banked h :)

theorem ZoneSt.heard_iff : z.heard = y.heard ↔
    z.mutePos = y.mutePos ∧ z.ovrPos = y.ovrPos ∧ z.feed = y.feed ∧ z.feedRep = y.feedRep := by
  simp only [ZoneSt.heard, Prod.mk.injEq]
theorem ZoneSt.setting_iff : z.setting = y.setting ↔ z.delayPos = y.delayPos ∧ z.delayDefer = y.delayDefer ∧
    z.delaySeen = y.delaySeen ∧ z.delayOld = y.delayOld := by
  simp only [ZoneSt.setting, Prod.mk.injEq]
theorem ZoneSt.banked_iff : z.banked = y.banked ↔
    z.firFade = y.firFade ∧ z.firReq = y.firReq ∧ z.eqNext = y.eqNext := by
  simp only [ZoneSt.banked, Prod.mk.injEq]
theorem ZoneSt.late_iff : z.late = y.late ↔ z.delayed = y.delayed ∧ z.delayedRep = y.delayedRep := by
  simp only [ZoneSt.late, Prod.mk.injEq]

end

/-! ### What AUDIO leaves of the bench -/

namespace AudioDone
section
variable (h : AudioDone d s F)
include h

theorem reg (ha : pathReg a = true) : F.reg a = d.reg a := by
  obtain ⟨_, _, _, hb⟩ := h.bench
  exact Dev.reg_of_benchReg (congrArg Bench.reg hb :) ha
theorem held : F.held = d.held := by
  obtain ⟨_, _, _, hb⟩ := h.bench
  exact (congrArg Bench.held hb :)
theorem pwr : F.pwr = d.pwr := by
  obtain ⟨_, _, _, hb⟩ := h.bench
  exact (congrArg Bench.pwr hb :)
theorem img : F.img = d.img := by
  obtain ⟨_, _, _, hb⟩ := h.bench
  exact (congrArg Bench.img hb :)
theorem ecc : F.ecc.filter notConv = d.ecc.filter notConv := by
  obtain ⟨_, _, _, hb⟩ := h.bench
  exact (congrArg Bench.ecc hb :)
theorem taken : (vat F.sieve n).monTaken = (vat d.sieve n).monTaken := by
  obtain ⟨_, _, _, hb⟩ := h.bench
  exact congrFun (congrArg Bench.taken hb :) n
theorem dstore : F.dstore = d.dstore := by
  obtain ⟨_, _, _, hb⟩ := h.bench
  exact (congrArg Bench.dstore hb :)
theorem dsCnt : F.dsCnt = d.dsCnt := by
  obtain ⟨_, _, _, hb⟩ := h.bench
  exact (congrArg Bench.dsCnt hb :)
theorem firMem : F.firMem = d.firMem := by
  obtain ⟨_, _, _, hb⟩ := h.bench
  exact (congrArg Bench.firMem hb :)
theorem firCnt : F.firCnt = d.firCnt := by
  obtain ⟨_, _, _, hb⟩ := h.bench
  exact (congrArg Bench.firCnt hb :)

theorem islandOk : F.islandOk i = d.islandOk i := Dev.islandOk_of_pwr h.pwr

theorem strs : F.strs = d.strs := by
  unfold Dev.strs Dev.present
  rw [h.img]

theorem memOk : (F.memStage s).islandOk i = d.islandOk i :=
  (Dev.islandOk_of_pwr Dev.memStage_beside.1.pwr).trans h.islandOk

theorem memStrs : (F.memStage s).strs = d.strs := Dev.memStage_beside.1.strs.trans h.strs

theorem memFirCnt : (F.memStage s).firCnt = d.firCnt := by
  obtain ⟨-, -, -, cnt, -⟩ := Dev.memStage_beside (d := F) (s := s)
  exact cnt.trans h.firCnt

/-! ### Beside the zones -/

omit h in
theorem passed : Passed F (F.stored s) := Dev.memStage_beside.1.trans Dev.firStage_beside.1

theorem stored_taken : (vat (F.stored s).sieve n).monTaken = (vat d.sieve n).monTaken := by
  rw [passed.sieve]
  exact h.taken

theorem stored_monPrev (ok : d.islandOk islAudio = true) : (F.stored s).monPrev = d.mon :=
  passed.monPrev.trans (h.monitors ok)

theorem stored_dsCnt : (F.stored s).dsCnt = if d.islandOk islMem then (d.dsCnt + 1) % regionWords else d.dsCnt := by
  obtain ⟨-, -, -, -, cnt⟩ := Dev.memStage_beside (d := F) (s := s)
  obtain ⟨-, -, kept, -⟩ := Dev.firStage_beside (d := F.memStage s) (s := s)
  rw [Dev.stored, kept, cnt, h.islandOk, h.dsCnt]

theorem stored_firCnt : (F.stored s).firCnt = if d.islandOk islFir then d.firCnt + 1 else d.firCnt := by
  obtain ⟨-, -, -, cnt⟩ := Dev.firStage_beside (d := F.memStage s) (s := s)
  rw [Dev.stored, cnt, h.memOk, h.memFirCnt]

omit h in
theorem stored_dstore : (F.stored s).dstore = (F.memStage s).dstore := Dev.firStage_beside.2.1

theorem stored_firMem_word (ha : ∀ k ∈ d.strs, d.islandOk islFir = true → a ≠ firWords * k + 768 + d.firCnt % 384) :
    Store.get firInit (F.stored s).firMem a = Store.get firInit d.firMem a := by
  obtain ⟨-, -, mem, -, -⟩ := Dev.memStage_beside (d := F) (s := s)
  rw [← h.firMem, ← mem]
  refine Dev.firStage_word fun k hk ok => ?_
  rw [h.memFirCnt]
  exact ha k (h.memStrs ▸ hk) (h.memOk ▸ ok)

theorem stored_dstore_word (ha : ∀ k ∈ d.strs, d.islandOk islMem = true → a ≠ regionWords * k + d.dsCnt) :
    Store.get zeroed (F.stored s).dstore a = Store.get zeroed d.dstore a := by
  rw [stored_dstore, ← h.dstore]
  refine Dev.memStage_word fun k hk ok => ?_
  rw [h.dsCnt]
  exact ha k (h.strs ▸ hk) (h.islandOk ▸ ok)

/-! ### A zone -/

section
variable (hk : k ∈ d.strs)
include hk

theorem memZone : ((F.memStage s).zone1 k).offDelay = (F.zone1 k).offDelay := Dev.memStage_zone (h.strs ▸ hk)

theorem firZone : ((F.stored s).zone1 k).offFir = ((F.memStage s).zone1 k).offFir := Dev.firStage_zone (h.memStrs ▸ hk)

/-- The feed of a zone and its fades stand after AUDIO. -/
theorem stored_heard : ((F.stored s).zone1 k).heard = (F.zone1 k).heard :=
  (ZoneSt.heard_of_offFir (h.firZone hk)).trans (ZoneSt.heard_of_offDelay (h.memZone hk))

theorem stored_fed (ok : d.islandOk islAudio = true) :
    ((F.stored s).zone1 k).heard = (d.fedBy (F.stored s).sourceChan k s).heard := by
  have chans : (F.stored s).sourceChan = F.sourceChan := funext fun _ => passed.sourceChan
  rw [chans]
  exact (h.stored_heard hk).trans (ZoneSt.heard_of_path (h.fed ok k hk))

theorem stored_unfed (ok : d.islandOk islAudio = false) :
    ((F.stored s).zone1 k).heard = ({ d.zone1 k with feedRep := true } : ZoneSt).heard :=
  (h.stored_heard hk).trans (ZoneSt.heard_of_path (h.failed ok k hk))

theorem stored_late : ((F.stored s).zone1 k).late = ((F.memStage s).zone1 k).late := ZoneSt.late_of_offFir (h.firZone hk)

theorem stored_delayed : ((F.stored s).zone1 k).delayed = ((F.memStage s).zone1 k).delayed :=
  (ZoneSt.late_iff.1 (h.stored_late hk)).1

theorem banked : (F.zone1 k).banked = (d.zone1 k).banked := ZoneSt.banked_of_offFeed (h.zone k hk)

theorem memBanked : ((F.memStage s).zone1 k).banked = (d.zone1 k).banked :=
  (ZoneSt.banked_of_offDelay (h.memZone hk)).trans (h.banked hk)

/-- R151: the feed is in its word of the store. -/
theorem stored_written (ok : d.islandOk islMem = true) (hc : d.dsCnt < regionWords) :
    Store.get zeroed (F.stored s).dstore (regionWords * k + d.dsCnt) = ((F.stored s).zone1 k).feed := by
  have done := Dev.delays_zone (s := s) (h.strs.symm ▸ hk)
  obtain ⟨-, -, feed, -⟩ := ZoneSt.heard_iff.1 (h.stored_heard hk)
  rw [stored_dstore, feed, Dev.memStage_works (h.islandOk.trans ok), ← h.dsCnt]
  exact done.written (h.dsCnt ▸ hc)

/-- R151: a setting that stands reads the store that many positions back. -/
theorem stored_read (ok : d.islandOk islMem = true) (hc : d.dsCnt < regionWords) (quiet : d.DelayQuiet k s) :
    ((F.stored s).zone1 k).delayed = Store.get zeroed (F.stored s).dstore
      (regionWords * k + (d.dsCnt + regionWords - (d.zone1 k).delayOld) % regionWords) := by
  have done := Dev.delays_zone (s := s) (h.strs.symm ▸ hk)
  obtain ⟨pos, defer, seen, old⟩ := ZoneSt.setting_iff.1 (ZoneSt.setting_of_offFeed (h.zone k hk))
  have still : F.DelayQuiet k s := by
    obtain ⟨hp, hd, hs, he⟩ := quiet
    refine ⟨pos.trans hp, defer.trans hd, ?_, h.ecc.trans he⟩
    have setting : F.reg (Fd.ROUTE_DELAYk_DELAY k).addr = d.reg (Fd.ROUTE_DELAYk_DELAY k).addr :=
      h.reg (pathReg_delay (Dev.mem_strs.1 hk).1)
    rw [seen, ← hs, Dev.eff, Dev.eff, Dev.effReg, Dev.effReg, h.held, setting]
  rw [stored_dstore, h.stored_delayed hk, Dev.memStage_works (h.islandOk.trans ok), ← h.dsCnt, ← old]
  exact done.read (h.dsCnt ▸ hc) still

theorem stored_undelayed (ok : d.islandOk islMem = false) :
    ((F.stored s).zone1 k).late = ({ d.zone1 k with delayedRep := true } : ZoneSt).late := by
  obtain ⟨z, hz, own⟩ := Dev.memStage_failed (s := s) (h.islandOk.trans ok)
  have mem : (F.memStage s).zone1 k = { F.zone1 k with delayedRep := true } := by
    rw [hz]
    exact own k (h.strs.symm ▸ hk)
  obtain ⟨stands, -⟩ := ZoneSt.late_iff.1 (ZoneSt.late_of_offFeed (h.zone k hk))
  rw [h.stored_late hk, mem]
  exact Prod.ext stands rfl

/-- R155: the delayed sample is in its word of the history. -/
theorem stored_history (ok : d.islandOk islFir = true) :
    Store.get firInit (F.stored s).firMem (firWords * k + 768 + d.firCnt % 384) = ((F.stored s).zone1 k).delayed := by
  have done := Dev.equals_zone (d := F.memStage s) (s := s) (h.memStrs.symm ▸ hk)
  rw [h.stored_delayed hk, Dev.stored, Dev.firStage_works (h.memOk.trans ok), ← h.memFirCnt]
  exact done.written

/-- R155: a bank that stands equalises the history. -/
theorem stored_result (ok : d.islandOk islFir = true) (quiet : d.FirQuiet k) : ((F.stored s).zone1 k).eqNext =
    equalised (F.stored s).firMem k (d.fld (Fd.FIR_BANKk_ACTIVE k)) d.firN (d.firCnt % 384) := by
  have done := Dev.equals_zone (d := F.memStage s) (s := s) (h.memStrs.symm ▸ hk)
  obtain ⟨beside, reg, -⟩ := Dev.memStage_beside (d := F) (s := s)
  have bank := pathReg_bank (Dev.mem_strs.1 hk).1
  obtain ⟨fade, req, -⟩ := ZoneSt.banked_iff.1 (h.memBanked hk)
  have still : (F.memStage s).FirQuiet k := by
    obtain ⟨hf, hr, he⟩ := quiet
    refine ⟨fade.trans hf, req.trans hr, ?_⟩
    rw [beside.ecc]
    exact h.ecc.trans he
  have act : (F.memStage s).fld (Fd.FIR_BANKk_ACTIVE k) = d.fld (Fd.FIR_BANKk_ACTIVE k) :=
    Dev.fld_congr ((reg _ bank).trans (h.reg bank))
  have taps : (F.memStage s).firN = d.firN := by rw [Dev.firN, Dev.firN, beside.img, h.img]
  rw [Dev.stored, Dev.firStage_works (h.memOk.trans ok), ← h.memFirCnt, ← act, ← taps]
  exact done.result still

theorem stored_unequalised (ok : d.islandOk islFir = false) : ((F.stored s).zone1 k).eqNext = (d.zone1 k).eqNext := by
  rw [Dev.stored, Dev.firStage_failed (h.memOk.trans ok)]
  obtain ⟨-, -, result⟩ := ZoneSt.banked_iff.1 (h.memBanked hk)
  exact result

end
end
end AudioDone

end Sys2Proof.Machine
end

section
/-! The commands of the audio ports and of the audio path as a whole (R50, R116 to R118, R128, R129, R146 to R155, R171). -/
namespace Sys2Proof.Machine
variable {d e : Dev} {n k q qt a i : Nat} {sd : List Bool} {rx : AesRx} {s : State}

/-! ### Frames -/

theorem Dev.tdmSync_lastSync (hn : n < 4) (hq : (d.port1 n).lastSync = some q) :
    ((d.tdmSync n qt sd).port1 n).lastSync = some qt :=
  Dev.sync_of_gauge.trans (congrArg Gauge.sync (Dev.gauge_tdmSync hn hq))

theorem exec_aesFrame {n : Fin 2} (ha : s.dev.audioRuns s.env = true) (hr : s.dev.portRx (4 + n.val) = true) :
    exec (.aesFrame n rx) s = .next { s with dev := s.dev.aesFrame n.val rx } := by
  show execAesFrame n rx s = _
  simp only [execAesFrame, onDev, ha, hr, Bool.and_self, if_true]

/-! ### A program sample boundary -/

theorem exec_programSample (hb : s.dev.sampleBoundary s.env = true) (hr : s.dev.aonRuns = true) :
    exec .programSampleBoundary s = .next { s with dev := (s.dev.fedSample s.env.tick).stored s.env.tick } := by
  show execProgramSampleBoundary s = _
  simp only [execProgramSampleBoundary, onDev, hb, hr, Bool.and_self, if_true]
  rfl

/-- The stages up to AUDIO stand on the controller that has taken up the monitor samples. -/
theorem Dev.fedSample_done : AudioDone d.takeMonitor a (d.fedSample a) := by
  have pot (e : Dev) : (if e.islandOk islLid then e.potBoundary else e).bench = e.bench := by
    split
    · exact Dev.bench_potBoundary
    · rfl
  exact Dev.audioStage_done (Dev.bench_stages7.trans ((pot _).trans Dev.bench_sieveMonitor))

/-- The delay setting and the bank of a zone stand, as the obligations put it. -/
theorem Dev.delayQuiet_of (hp : (d.zone1 k).delayPos = 0) (hd : (d.zone1 k).delayDefer = none)
    (hs : d.eff a (Fd.ROUTE_DELAYk_DELAY k) = (d.zone1 k).delaySeen) (he : d.ecc = []) : d.DelayQuiet k a :=
  ⟨hp, hd, hs, by rw [he]; rfl⟩

theorem Dev.firQuiet_of (hf : (d.zone1 k).firFade = none) (hr : (d.zone1 k).firReq = []) (he : d.ecc = []) : d.FirQuiet k :=
  ⟨hf, hr, by rw [he]; rfl⟩

theorem Dev.firN_eq : d.firN = if d.img.cfg.rate = 2 then 192 else 384 := by simp [Dev.firN]

/-- Settles O25: AUDIO's frames by the gauges of their port, a sample boundary by its stages one after another. -/
theorem audioFramesAndSamples : Obligations.AudioFramesAndSamples := by
  unfold Obligations.AudioFramesAndSamples
  refine ⟨⟨fun n sd q qt s ha hs hq => ?_, fun n bits qt s ha hs => ?_, fun n rx s ha hr => ?_⟩, fun s hb hr => ?_⟩
  · refine ⟨_, exec_tdmFrameSync ha hs, ⟨rfl, rfl, rfl⟩, Dev.tdmSync_lastSync n.isLt hq, ?_⟩
    exact ⟨Dev.tdmSync_missing n.isLt hq, Dev.tdmSync_early n.isLt hq, Dev.tdmSync_far n.isLt hq,
      Dev.tdmSync_counted n.isLt hq, Dev.tdmSync_filled n.isLt hq⟩
  · refine ⟨_, exec_tdmFrameSyncMissing ha hs, ⟨rfl, rfl, rfl⟩, fun q hq => ⟨fun late => ?_, fun inTime => ?_⟩, fun hq => ?_⟩
    · obtain ⟨sync, lost, missing⟩ := Dev.missSync_shows (d := s.dev) n.isLt
      rw [if_pos ((Dev.syncMissing_some hq).2 late)]
      exact ⟨sync, lost.1, lost.2.1, missing, lost.loss⟩
    · exact if_neg fun h => inTime ((Dev.syncMissing_some hq).1 h)
    · exact if_neg (by simp [Dev.syncMissing_none hq])
  · refine ⟨_, exec_aesFrame ha hr, ⟨rfl, rfl, rfl⟩, ?_⟩
    obtain ⟨biphase, unclean, counted, filled⟩ := Dev.aesFrame_shows (d := s.dev) (rx := rx) n.isLt
    exact ⟨biphase, fun h => unclean (Bool.eq_false_iff.2 fun clean => h (Dev.aesClean_iff.1 clean)),
      fun clean => counted (Dev.aesClean_iff.2 clean), fun clean => filled (Dev.aesClean_iff.2 clean)⟩
  · obtain ⟨v, hv⟩ := Dev.takeMonitor_eq (d := s.dev)
    have done := Dev.fedSample_done (d := s.dev) (a := s.env.tick)
    have taken (i : Nat) : (vat v i).monTaken = (vat s.dev.sieve i).mon := by
      rw [← Dev.monTaken_takeMonitor, hv]
    rw [hv] at done
    have next := exec_programSample hb hr
    generalize s.dev.fedSample s.env.tick = F at done next
    refine ⟨_, next, ⟨rfl, rfl, rfl⟩, fun i _ => done.stored_taken.trans (taken i), done.stored_monPrev,
      done.stored_dsCnt, done.stored_firCnt, fun k hk8 present => ?_, fun a apart => ?_, fun a apart => ?_⟩
    · have hk : k ∈ ({ s.dev with sieve := v } : Dev).strs := Dev.mem_strs.2 ⟨hk8, present⟩
      refine ⟨fun ok => ?_, fun failed => ?_, fun ok hc => ⟨done.stored_written hk ok hc, fun hp hd hs he =>
        done.stored_read hk ok hc (Dev.delayQuiet_of hp hd hs he)⟩, fun failed => ?_, fun ok => ⟨done.stored_history hk ok,
        fun hf hq he => ?_⟩, done.stored_unequalised hk⟩
      · exact ZoneSt.heard_iff.1 (done.stored_fed hk ok)
      · exact (ZoneSt.heard_iff.1 (done.stored_unfed hk failed)).2.2
      · exact ZoneSt.late_iff.1 (done.stored_undelayed hk failed)
      · have result := done.stored_result hk ok (Dev.firQuiet_of hf hq he)
        rw [Dev.firN_eq] at result
        exact result
    · refine done.stored_dstore_word fun k hk ok => ?_
      obtain ⟨hk8, present⟩ := Dev.mem_strs.1 hk
      exact apart k hk8 ok present
    · refine done.stored_firMem_word fun k hk ok => ?_
      obtain ⟨hk8, present⟩ := Dev.mem_strs.1 hk
      exact apart k hk8 ok present

end Sys2Proof.Machine
end

section
/-! Fades of the audio path that end (R149, R152, R162, R163): the new setting stands alone. -/
namespace Sys2Proof.Machine
variable {d : Dev} {j k : Nat}

/-! ### A zone -/

@[simp] theorem Dev.zone1_modZone_same {u : ZoneSt → ZoneSt} (hk : k < 8) : (d.modZone k u).zone1 k = u (d.zone1 k) :=
  vat_vmod_same hk

theorem Dev.zone1_modZone_other {u : ZoneSt → ZoneSt} (h : j ≠ k) : (d.modZone k u).zone1 j = d.zone1 j := vat_vmod_other h

theorem Dev.fld_modZone {u : ZoneSt → ZoneSt} {f : Fld} : (d.modZone k u).fld f = d.fld f := (rfl)
theorem Dev.bit_modZone {u : ZoneSt → ZoneSt} {f : Fld} : (d.modZone k u).bit f = d.bit f := (rfl)

/-! ### The delay (R152) -/

/-- R152: what the end of a delay fade leaves. -/
def Dev.delayFaded (d : Dev) (k : Nat) : Dev :=
  (((d.modZone k (fun z => { z with delayOld := z.delayNew, delayPos := 0 })).put (Fd.ROUTE_DLIVEk_LIVE k)
    (d.zone1 k).delayNew).putB (Fd.ROUTE_DLIVEk_FADING k) false).evt Fd.ROUTE_EVT_DELAY_DONE

theorem exec_delayFadeEnd {k : Fin 8} {s : State} (h : (s.dev.zone1 k.val).delayPos ≠ 0)
    (hn : (s.dev.zone1 k.val).delayPos = s.dev.delayN) :
    exec (.delayFadeEnd k) s = .next { s with dev := s.dev.delayFaded k.val } := by
  show execDelayFadeEnd k s = _
  simp [execDelayFadeEnd, onDev, Dev.delayFaded, h, ← hn]

/-- ROUTE_DLIVE lies above ROUTE_EVT. -/
theorem delayLive_evt : Reg.ROUTE_DLIVEk k ≠ Reg.ROUTE_EVT := addr_ne (of_decide_eq_true rfl)

theorem Dev.delayFaded_zone : (d.delayFaded k).zone =
    vmod d.zone k (fun z => { z with delayOld := z.delayNew, delayPos := 0 }) := by
  simp only [Dev.delayFaded, Dev.evt_zone, Dev.putB_zone, Dev.put_zone, Dev.modZone_zone]

theorem Dev.delayFaded_own (hk : k < 8) :
    (d.delayFaded k).zone1 k = { d.zone1 k with delayOld := (d.zone1 k).delayNew, delayPos := 0 } := by
  rw [Dev.zone1, Dev.delayFaded_zone, vat_vmod_same hk]
  rfl

theorem Dev.delayFaded_other (h : j ≠ k) : (d.delayFaded k).zone1 j = d.zone1 j := by
  rw [Dev.zone1, Dev.delayFaded_zone, vat_vmod_other h]
  rfl

theorem Dev.delayFaded_shows :
    (d.delayFaded k).fld (Fd.ROUTE_DLIVEk_LIVE k) = (d.zone1 k).delayNew % 2 ^ (Fd.ROUTE_DLIVEk_LIVE k).w ∧
    (d.delayFaded k).bit (Fd.ROUTE_DLIVEk_FADING k) = false ∧ (d.delayFaded k).bit Fd.ROUTE_EVT_DELAY_DONE = true := by
  unfold Dev.delayFaded
  refine ⟨?_, ?_, Dev.bit_evt_same (by decide) rfl⟩
  · rw [Dev.fld_congr (Dev.reg_evt_other delayLive_evt), Dev.fld_putB_other (fits_of rfl) (.inr (.inr (of_decide_eq_true rfl))),
      Dev.fld_put_same (fits_of rfl)]
  · rw [Dev.bit_congr (Dev.reg_evt_other delayLive_evt), Dev.bit_putB_same (fits_of rfl) rfl]

theorem Dev.delayFaded_fields : FieldsBut d (d.delayFaded k)
    [Fd.ROUTE_DLIVEk_LIVE k, Fd.ROUTE_DLIVEk_FADING k, Fd.ROUTE_EVT_DELAY_DONE] :=
  (((FieldsBut.of_regs rfl : FieldsBut d (d.modZone k _) []).andPut (fits_of rfl)).andPut (fits_of rfl)).andPut (by decide)

theorem Dev.delayFaded_frame : d.delayFaded k = { d with regs := (d.delayFaded k).regs, zone := (d.delayFaded k).zone } := by
  have shown : OnlyRegs (d.modZone k (fun z => { z with delayOld := z.delayNew, delayPos := 0 })) (d.delayFaded k) :=
    (OnlyRegs.put.trans OnlyRegs.put).trans OnlyRegs.put
  generalize d.delayFaded k = e at shown ⊢
  rw [shown]
  rfl

/-! ### The banks (R162, R163) -/

/-- R163: what the end of a fade of banks leaves in the registers. -/
def Dev.bankShown (d : Dev) (k b : Nat) : Dev :=
  ((((d.put (Fd.FIR_BANKk_ACTIVE k) b).putB (Fd.FIR_BANKk_FADING k) false).put (Fd.FIR_BANKk_STEP k) 0).putB
    (Fd.FIR_BANKk_PENDING k) false).evt Fd.FIR_EVT_FADE_DONE

/-- R162: the fade that a deferred request begins at boundary s, once bank b is active. -/
def Dev.deferredFade (d : Dev) (k b s : Nat) : Option (Nat × Nat × Nat) :=
  if d.bit (Fd.FIR_BANKk_PENDING k) = true ∧ d.fld (Fd.FIR_BANKk_PEND_TARGET k) ≠ b then
    some (0, d.fld (Fd.FIR_BANKk_PEND_TARGET k), s)
  else none

/-- R162, R163: what the end of a fade to bank b leaves. -/
def Dev.firFaded (d : Dev) (k b s : Nat) : Dev :=
  (d.bankShown k b).modZone k (fun z => { z with firFade := d.deferredFade k b s })

theorem exec_firFadeEnd {k : Fin 8} {i b w : Nat} {s : State} (hf : (s.dev.zone1 k.val).firFade = some (i, b, w))
    (hi : i = 2 ^ s.dev.fld Fd.FIR_CFG_FADE_LOG2) (hw : w < s.env.tick) (ht : s.env.tick % s.dev.period = 0) :
    exec (.firFadeEnd k) s = .next { s with dev := s.dev.firFaded k.val b s.env.tick } := by
  show execFirFadeEnd k s = _
  simp [execFirFadeEnd, onDev, hf, hi, hw, ht, Dev.firFaded, Dev.bankShown, Dev.deferredFade]

/-- FIR_BANK lies above FIR_EVT. -/
theorem bank_evt : Reg.FIR_BANKk k ≠ Reg.FIR_EVT := addr_ne (of_decide_eq_true rfl)

theorem Dev.bankShown_shows {b : Nat} : (d.bankShown k b).fld (Fd.FIR_BANKk_ACTIVE k) = b % 2 ∧
    (d.bankShown k b).bit (Fd.FIR_BANKk_FADING k) = false ∧ (d.bankShown k b).bit (Fd.FIR_BANKk_PENDING k) = false ∧
    (d.bankShown k b).fld (Fd.FIR_BANKk_STEP k) = 0 ∧ (d.bankShown k b).bit Fd.FIR_EVT_FADE_DONE = true := by
  unfold Dev.bankShown
  refine ⟨?_, ?_, ?_, ?_, Dev.bit_evt_same (by decide) rfl⟩
  · rw [Dev.fld_congr (Dev.reg_evt_other bank_evt), Dev.fld_putB_other (fits_of rfl) (.inr (.inr (of_decide_eq_true rfl))),
      Dev.fld_put_other (fits_of rfl) (.inr (.inl (of_decide_eq_true rfl))),
      Dev.fld_putB_other (fits_of rfl) (.inr (.inr (of_decide_eq_true rfl))), Dev.fld_put_same (fits_of rfl)]
    rfl
  · rw [Dev.bit_congr (Dev.reg_evt_other bank_evt), Dev.bit_putB_other (fits_of rfl) rfl (.inr (.inl (of_decide_eq_true rfl))),
      Dev.bit_put_other (fits_of rfl) rfl (.inr (.inl (of_decide_eq_true rfl))), Dev.bit_putB_same (fits_of rfl) rfl]
  · rw [Dev.bit_congr (Dev.reg_evt_other bank_evt), Dev.bit_putB_same (fits_of rfl) rfl]
  · rw [Dev.fld_congr (Dev.reg_evt_other bank_evt), Dev.fld_putB_other (fits_of rfl) (.inr (.inr (of_decide_eq_true rfl))),
      Dev.fld_put_same (fits_of rfl)]
    rfl

theorem Dev.firFaded_shows {b s : Nat} : (d.firFaded k b s).fld (Fd.FIR_BANKk_ACTIVE k) = b % 2 ∧
    (d.firFaded k b s).bit (Fd.FIR_BANKk_FADING k) = false ∧ (d.firFaded k b s).bit (Fd.FIR_BANKk_PENDING k) = false ∧
    (d.firFaded k b s).fld (Fd.FIR_BANKk_STEP k) = 0 ∧ (d.firFaded k b s).bit Fd.FIR_EVT_FADE_DONE = true := by
  simp only [Dev.firFaded, Dev.fld_modZone, Dev.bit_modZone]
  exact Dev.bankShown_shows

theorem Dev.bankShown_zone {b : Nat} : (d.bankShown k b).zone = d.zone := by
  simp only [Dev.bankShown, Dev.evt_zone, Dev.putB_zone, Dev.put_zone]

theorem Dev.firFaded_own {b s : Nat} (hk : k < 8) : ((d.firFaded k b s).zone1 k).firFade = d.deferredFade k b s := by
  rw [Dev.firFaded, Dev.zone1_modZone_same hk]

theorem Dev.firFaded_other {b s : Nat} (h : j ≠ k) : (d.firFaded k b s).zone1 j = d.zone1 j := by
  rw [Dev.firFaded, Dev.zone1_modZone_other h, Dev.zone1, Dev.bankShown_zone]
  rfl

theorem Dev.firFaded_frame {b s : Nat} : d.firFaded k b s =
    { d with regs := (d.firFaded k b s).regs, zone := (d.firFaded k b s).zone } := by
  have shown : OnlyRegs d (d.bankShown k b) :=
    (((OnlyRegs.put.trans OnlyRegs.put).trans OnlyRegs.put).trans OnlyRegs.put).trans OnlyRegs.put
  unfold Dev.firFaded
  generalize d.bankShown k b = e at shown ⊢
  rw [shown]
  rfl

/-! ### The override (R149) -/

/-- R149: what the end of a fade to or from an override leaves. -/
def Dev.overrideFaded (d : Dev) (k : Nat) : Dev :=
  if (d.zone1 k).ovr then d.putB (Fd.ROUTE_OVRk_FADING k) false
  else ((d.putB (Fd.ROUTE_OVRk_FADING k) false).put (Fd.ROUTE_OVRk_SRC k) 0xFF).put (Fd.ROUTE_OVRk_GAIN k) 0

theorem exec_overrideFadeEnd {k : Fin 8} {s : State}
    (h : (s.dev.zone1 k.val).ovrPos = if (s.dev.zone1 k.val).ovr then s.dev.fadeN else 0) :
    exec (.overrideFadeEnd k) s = .next { s with dev := s.dev.overrideFaded k.val } := by
  show execOverrideFadeEnd k s = _
  simp only [execOverrideFadeEnd, onDev, beq_iff_eq.2 h, if_true, Dev.overrideFaded]

theorem Dev.overrideFaded_fading : (d.overrideFaded k).bit (Fd.ROUTE_OVRk_FADING k) = false := by
  unfold Dev.overrideFaded
  split
  · exact Dev.bit_putB_same (fits_of rfl) rfl
  · rw [Dev.bit_put_other (fits_of rfl) rfl (.inr (.inl (of_decide_eq_true rfl))),
      Dev.bit_put_other (fits_of rfl) rfl (.inr (.inl (of_decide_eq_true rfl))), Dev.bit_putB_same (fits_of rfl) rfl]

theorem Dev.overrideFaded_none (h : (d.zone1 k).ovr = false) : (d.overrideFaded k).fld (Fd.ROUTE_OVRk_SRC k) = 0xFF ∧
    (d.overrideFaded k).fld (Fd.ROUTE_OVRk_GAIN k) = 0 := by
  rw [Dev.overrideFaded, h, if_neg (by decide)]
  refine ⟨?_, ?_⟩
  · rw [Dev.fld_put_other (fits_of rfl) (.inr (.inl (of_decide_eq_true rfl))), Dev.fld_put_same (fits_of rfl)]
    rfl
  · rw [Dev.fld_put_same (fits_of rfl)]
    rfl

theorem Dev.overrideFaded_fields : OnlyFields d (d.overrideFaded k) ([Fd.ROUTE_OVRk_FADING k] ++
    if (d.zone1 k).ovr then [] else [Fd.ROUTE_OVRk_SRC k, Fd.ROUTE_OVRk_GAIN k]) := by
  unfold Dev.overrideFaded
  split
  · exact OnlyFields.put (fits_of rfl)
  · exact ((OnlyFields.put (fits_of rfl)).andPut (fits_of rfl)).andPut (fits_of rfl)

/-! ### The commands -/

/-- Settles O28: each command is the step of its fade's end, and no step reaches another zone. -/
theorem fadesEnd : Obligations.FadesEnd := by
  refine ⟨fun k s hp hn => ?_, fun k i b w s hf hi hw ht => ?_, fun k s h => ?_⟩
  · have zone := Dev.delayFaded_own (d := s.dev) k.isLt
    obtain ⟨live, fading, done⟩ := Dev.delayFaded_shows (d := s.dev) (k := k.val)
    exact ⟨_, exec_delayFadeEnd hp hn, ⟨rfl, rfl, rfl⟩, congrArg ZoneSt.delayOld zone, congrArg ZoneSt.delayPos zone, live,
      fading, done, fun _ => Dev.delayFaded_other, Dev.delayFaded_fields, Dev.delayFaded_frame⟩
  · obtain ⟨active, fading, pending, step, done⟩ := Dev.firFaded_shows (d := s.dev) (k := k.val) (b := b) (s := s.env.tick)
    exact ⟨_, exec_firFadeEnd hf hi hw ht, ⟨rfl, rfl, rfl⟩, active, fading, pending, step, done,
      Dev.firFaded_own k.isLt, fun _ => Dev.firFaded_other, Dev.firFaded_frame⟩
  · exact ⟨_, exec_overrideFadeEnd h, ⟨rfl, rfl, rfl⟩, Dev.overrideFaded_fading, Dev.overrideFaded_none,
      Dev.overrideFaded_fields⟩

end Sys2Proof.Machine
end

section
/-! Hold times that run out (R142, R143, R205, R206): a converter and a Mortar start afresh. -/
namespace Sys2Proof.Machine
variable {d : Dev} {j k n : Nat}

/-! ### A converter (R142, R143) -/

/-- R142: a converter that has unlocked, before its registers follow. -/
def Dev.convDropped (d : Dev) (n : Nat) : Dev :=
  (d.modConv n (fun c => { c with lock := false, acq := false, lockRun := 0, hold := none })).evtIf (d.conv1 n).lock
    Fd.ROUTE_EVT_ASRC_UNLOCK

theorem Dev.convUnlock_eq : d.convUnlock n = (d.convDropped n).showConv n := (rfl)

theorem OnlyRegs.showConv : OnlyRegs d (d.showConv n) :=
  (((OnlyRegs.put.trans OnlyRegs.put).trans OnlyRegs.put).trans OnlyRegs.put).trans OnlyRegs.put

theorem OnlyRegs.conv {e : Dev} (h : OnlyRegs d e) : e.conv = d.conv := (congrArg Dev.conv h :)

theorem Dev.convDropped_only : OnlyRegs (d.modConv n (fun c => { c with lock := false, acq := false, lockRun := 0, hold := none }))
    (d.convDropped n) := .evtIf

theorem Dev.convUnlock_conv : (d.convUnlock n).conv =
    vmod d.conv n (fun c => { c with lock := false, acq := false, lockRun := 0, hold := none }) :=
  OnlyRegs.showConv.conv.trans Dev.convDropped_only.conv

theorem Dev.convUnlock_frame : d.convUnlock n = { d with regs := (d.convUnlock n).regs, conv := (d.convUnlock n).conv } := by
  have shown := (Dev.convDropped_only (d := d) (n := n)).trans (OnlyRegs.showConv (n := n))
  rw [← Dev.convUnlock_eq] at shown
  generalize d.convUnlock n = e at shown ⊢
  rw [shown]
  rfl

theorem Dev.showConv_shows : (d.showConv n).bit (Fd.ASRCn_STATUS_LOCK n) = (d.conv1 n).lock ∧
    (d.showConv n).bit (Fd.ASRCn_STATUS_HOLD n) = (d.conv1 n).hold.isSome := by
  unfold Dev.showConv
  refine ⟨?_, Dev.bit_putB_same (fits_of rfl) rfl⟩
  rw [Dev.bit_putB_other (fits_of rfl) rfl (.inr (.inl (of_decide_eq_true rfl))),
    Dev.bit_putB_other (fits_of rfl) rfl (.inr (.inl (of_decide_eq_true rfl))), Dev.bit_putB_same (fits_of rfl) rfl]

theorem Dev.reg_showConv_evt : (d.showConv n).reg Reg.ROUTE_EVT = d.reg Reg.ROUTE_EVT := by
  unfold Dev.showConv
  simp (disch := with_unfolding_all exact id (addr_ne (of_decide_eq_true rfl)).symm) only
    [Dev.reg_putB_other, Dev.reg_putI_other]

theorem Dev.convUnlock_shows (hn : n < 6) : (d.convUnlock n).bit (Fd.ASRCn_STATUS_LOCK n) = false ∧
    (d.convUnlock n).bit (Fd.ASRCn_STATUS_HOLD n) = false ∧
    ((d.conv1 n).lock = true → (d.convUnlock n).bit Fd.ROUTE_EVT_ASRC_UNLOCK = true) := by
  obtain ⟨lock, hold⟩ := Dev.showConv_shows (d := d.convDropped n) (n := n)
  have own : (d.convDropped n).conv1 n = { d.conv1 n with lock := false, acq := false, lockRun := 0, hold := none } := by
    rw [Dev.conv1, Dev.convDropped_only.conv]
    exact vat_vmod_same hn
  rw [own] at lock hold
  rw [Dev.convUnlock_eq]
  refine ⟨lock, hold, fun was => ?_⟩
  rw [Dev.bit_congr Dev.reg_showConv_evt, Dev.convDropped, was]
  exact Dev.bit_evt_same (by decide) rfl

/-- R143: a converter whose master has not come back. -/
def Dev.convLost (d : Dev) (n : Nat) : Dev := (d.convUnlock n).gridClear n

theorem exec_asrcHoldTimeout {n : Fin 6} {h : Nat} {s : State} (hh : (s.dev.conv1 n.val).hold = some h)
    (hc : s.dev.fld Fd.ASRC_CFG_HOLD ≤ h) :
    exec (.asrcHoldTimeout n) s = .next { s with dev := s.dev.convLost n.val } := by
  show execAsrcHoldTimeout n s = _
  simp [execAsrcHoldTimeout, onDev, hh, hc, Dev.convLost]

theorem Dev.convLost_own (hn : n < 6) : (d.convLost n).conv1 n = { d.conv1 n with
    lock := false, acq := false, lockRun := 0, hold := none, grid := [], gridOn := false, nextNum := 0 } := by
  rw [Dev.conv1, Dev.convLost, Dev.gridClear, Dev.modConv_conv, vat_vmod_same hn, Dev.convUnlock_conv, vat_vmod_same hn]
  rfl

theorem Dev.convLost_other (h : j ≠ n) : (d.convLost n).conv1 j = d.conv1 j := by
  rw [Dev.conv1, Dev.convLost, Dev.gridClear, Dev.modConv_conv, vat_vmod_other h, Dev.convUnlock_conv, vat_vmod_other h]
  rfl

theorem Dev.convLost_frame : d.convLost n = { d with regs := (d.convLost n).regs, conv := (d.convLost n).conv } := by
  have unlocked := Dev.convUnlock_frame (d := d) (n := n)
  unfold Dev.convLost
  generalize d.convUnlock n = e at unlocked ⊢
  rw [unlocked]
  rfl

theorem Dev.bit_gridClear {f : Fld} : (d.gridClear n).bit f = d.bit f := (rfl)

/-! ### A Mortar (R205, R206) -/

theorem Dev.mortar_eccWriteRange {m lo hi : Nat} : (d.eccWriteRange m lo hi).mortar = d.mortar := by
  unfold Dev.eccWriteRange
  dsimp only
  split <;> rfl

theorem Dev.regs_eccWriteRange {m lo hi : Nat} : (d.eccWriteRange m lo hi).regs = d.regs := by
  unfold Dev.eccWriteRange
  dsimp only
  split <;> rfl

theorem Dev.morClear_mortar : (d.morClear k).mortar = Store.clear (1024 * k) (1024 * (k + 1)) d.mortar := by
  rw [Dev.morClear, Dev.bump_mortar, Dev.mortar_eccWriteRange]

theorem Dev.morClear_fields : FieldsBut d (d.morClear k) [Fd.CHk_MOR_CNT_CLEAR k] := by
  have regs : (({ d with mortar := Store.clear (1024 * k) (1024 * (k + 1)) d.mortar } : Dev).eccWriteRange k 0 1024).regs =
      d.regs := Dev.regs_eccWriteRange
  exact (FieldsBut.of_regs (l := []) regs).andPut (fits_of rfl)

theorem Dev.morClear_count : (d.morClear k).fld (Fd.CHk_MOR_CNT_CLEAR k) =
    addSat (Fd.CHk_MOR_CNT_CLEAR k).w (d.fld (Fd.CHk_MOR_CNT_CLEAR k)) 1 := by
  rw [Dev.morClear, Dev.fld_bump_same (fits_of rfl), Dev.fld_congr (Dev.reg_congr Dev.regs_eccWriteRange)]
  rfl

theorem Dev.morSet_mortar {st step g : Nat} : (d.morSet k st step g).mortar = d.mortar := by
  simp only [Dev.morSet, Dev.put_mortar, Dev.modMor_mortar]

theorem Dev.morSet_fields {st step g : Nat} : FieldsBut d (d.morSet k st step g)
    [Fd.CHk_MOR_STATUS_STATE k, Fd.CHk_MOR_STATUS_STEP k, Fd.CHk_MOR_STATUS_G k] :=
  (((FieldsBut.of_regs rfl : FieldsBut d (d.modMor k _) []).andPut (fits_of rfl)).andPut (fits_of rfl)).andPut (fits_of rfl)

theorem Dev.morSet_state {st step g : Nat} : (d.morSet k st step g).morState k = st % 8 := by
  unfold Dev.morSet Dev.morState
  rw [Dev.fld_put_other (fits_of rfl) (.inr (.inl (of_decide_eq_true rfl))),
    Dev.fld_put_other (fits_of rfl) (.inr (.inl (of_decide_eq_true rfl))), Dev.fld_put_same (fits_of rfl)]
  rfl

/-- R205: a Mortar that seeks again. -/
def Dev.morLapsed (d : Dev) (k : Nat) : Dev := (d.morClear k).morSet k morSeek 0 0

theorem exec_mortarHoldTimeout {k : Fin 8} {s : State} (hm : s.dev.morState k.val = morHold)
    (hw : s.dev.fld (Fd.CHk_MOR_LIM_HOLD k.val) ≤ (s.dev.st k.val).mor.wraps) :
    exec (.mortarHoldTimeout k) s = .next { s with dev := s.dev.morLapsed k.val } := by
  show execMortarHoldTimeout k s = _
  simp [execMortarHoldTimeout, onDev, hm, hw, Dev.morLapsed]

theorem Dev.morLapsed_mortar {a : Nat} : Store.get zeroed (d.morLapsed k).mortar a =
    if 1024 * k ≤ a ∧ a < 1024 * (k + 1) then 0 else Store.get zeroed d.mortar a := by
  rw [Dev.morLapsed, Dev.morSet_mortar, Dev.morClear_mortar, Store.get_clear]
  rfl

theorem Dev.morLapsed_count : (d.morLapsed k).fld (Fd.CHk_MOR_CNT_CLEAR k) =
    min (2 ^ (Fd.CHk_MOR_CNT_CLEAR k).w - 1) (d.fld (Fd.CHk_MOR_CNT_CLEAR k) + 1) := by
  have apart : ∀ f ∈ [Fd.CHk_MOR_STATUS_STATE k, Fd.CHk_MOR_STATUS_STEP k, Fd.CHk_MOR_STATUS_G k],
      f.apart (Fd.CHk_MOR_CNT_CLEAR k) := by
    simp only [List.mem_cons, List.not_mem_nil, or_false, forall_eq_or_imp, forall_eq]
    exact ⟨.inl (off_ne (of_decide_eq_true rfl)), .inl (off_ne (of_decide_eq_true rfl)), .inl (off_ne (of_decide_eq_true rfl))⟩
  rw [Dev.morLapsed, Dev.morSet_fields _ apart, Dev.morClear_count]
  rfl

/-! ### The commands -/

/-- Settles O30: the converter's state and the Mortar's table are each cleared for the one that is held. -/
theorem holdTimesRunOut : Obligations.HoldTimesRunOut := by
  refine ⟨fun n h s hh hc => ?_, fun k s hm hw => ?_⟩
  · have own := Dev.convLost_own (d := s.dev) n.isLt
    obtain ⟨lock, hold, evt⟩ := Dev.convUnlock_shows (d := s.dev) n.isLt
    exact ⟨_, exec_asrcHoldTimeout hh hc, ⟨rfl, rfl, rfl⟩, congrArg ConvSt.acq own, congrArg ConvSt.lock own,
      congrArg ConvSt.hold own, congrArg ConvSt.grid own, congrArg ConvSt.nextNum own, (congrArg ConvSt.fade own :),
      fun _ => Dev.convLost_other, Dev.bit_gridClear.trans lock, Dev.bit_gridClear.trans hold,
      fun was => Dev.bit_gridClear.trans (evt was), Dev.convLost_frame⟩
  · refine ⟨_, exec_mortarHoldTimeout hm hw, ⟨rfl, rfl, rfl⟩, Dev.morSet_state, fun n hn => ?_, fun a ha => ?_,
      Dev.morLapsed_count, ?_⟩
    · exact Dev.morLapsed_mortar.trans (if_pos (by omega))
    · exact Dev.morLapsed_mortar.trans (if_neg (by omega))
    · refine (Dev.morClear_fields.trans Dev.morSet_fields).mono fun f hf => ?_
      simp only [List.cons_append, List.nil_append, List.mem_cons, List.not_mem_nil, or_false] at hf ⊢
      tauto

end Sys2Proof.Machine
end

section
/-! What the operations of the strings leave of the load models of a string (spec file 13): the words of its LM block from
CFG to CNT, its load state, its precise samples, and whether its island works. -/
namespace Sys2Proof.Machine
variable {d : Dev} {j k p t b n a : Nat} {f : Fld}

/-- The precise samples of a string (R53). -/
def Str.precise (s : Str) : Int × Int := (s.pv, s.pi)

/-- What the load models of a string read and hold, whether the string is present and its island works, and the island's
copy of the tick number. -/
structure Rig where
  reg : Nat → Word
  load : LoadSt
  precise : Int × Int
  live : Bool
  copied : Nat

def Dev.rig (d : Dev) (j : Nat) : Rig :=
  ⟨fun a => if 0x8600 + 0x1000 * j ≤ a ∧ a < 0x8628 + 0x1000 * j ∧ a < 0x10000 then d.reg a else 0,
    vat d.load j, (d.st j).precise, d.present j && d.islandOk (islCh j), vat d.pwr.tickCopy (islCh j)⟩

/-- An address that holds none of the words that the load models of string j read. -/
def offRig (j a : Nat) : Prop := a < 0x8600 + 0x1000 * j ∨ 0x8628 + 0x1000 * j ≤ a ∨ 0x10000 ≤ a

/-! ### Registers -/

/-- A word of a string's block that lies outside its LM block from CFG to CNT. -/
theorem off_ch (h : (0x8000 ≤ a ∧ a < 0x8600) ∨ (0x8628 ≤ a ∧ a < 0x9000)) : offRig j (a + 0x1000 * k) := by
  unfold offRig; omega

/-- A word of an array of seven within a string's block. -/
theorem off_cell (hp : p < 7) (h : 0x8000 ≤ a ∧ a < 0x8500) : offRig j (a + 0x1000 * k + 4 * p) := by
  unfold offRig; omega

theorem lt_of_mem_positions (hp : p ∈ positions) : p < 7 := by
  simp only [positions, List.mem_cons, List.not_mem_nil, or_false] at hp
  omega

theorem off_low (h : a < 0x8000) : offRig j a := by unfold offRig; omega

theorem off_far (h : 0x10000 ≤ a) : offRig j a := by unfold offRig; omega

theorem off_high (h : 0x10000 ≤ a) : offRig j (a + b) := by unfold offRig; omega

theorem Dev.rig_setReg {v : Word} (h : offRig j a) : (d.setReg a v).rig j = d.rig j := by
  have regs : (fun b => if 0x8600 + 0x1000 * j ≤ b ∧ b < 0x8628 + 0x1000 * j ∧ b < 0x10000 then (d.setReg a v).reg b else 0) =
      fun b => if 0x8600 + 0x1000 * j ≤ b ∧ b < 0x8628 + 0x1000 * j ∧ b < 0x10000 then d.reg b else 0 := by
    funext b
    split
    · exact Dev.reg_setReg_other (by unfold offRig at h; omega)
    · rfl
  simp only [Dev.rig, regs]
  rfl

theorem Dev.rig_put {v : Nat} (h : offRig j f.addr) : (d.put f v).rig j = d.rig j := Dev.rig_setReg h
theorem Dev.rig_putB {v : Bool} (h : offRig j f.addr) : (d.putB f v).rig j = d.rig j := Dev.rig_put h
theorem Dev.rig_putI {v : Int} (h : offRig j f.addr) : (d.putI f v).rig j = d.rig j := Dev.rig_put h
theorem Dev.rig_putE {i : Nat} {v : Bool} (h : offRig j f.addr) : (d.putE f i v).rig j = d.rig j := Dev.rig_put h
theorem Dev.rig_bump (h : offRig j f.addr) : (d.bump f).rig j = d.rig j := Dev.rig_put h
theorem Dev.rig_evt (h : offRig j f.addr) : (d.evt f).rig j = d.rig j := Dev.rig_put h
theorem Dev.rig_evtIf {c : Bool} (h : offRig j f.addr) : (d.evtIf c f).rig j = d.rig j := by
  unfold Dev.evtIf; split
  · exact Dev.rig_evt h
  · rfl

/-- The states of the strings lie in a register of SYS. -/
@[simp] theorem Dev.rig_setPhase {ph : Nat} : (d.setPhase k ph).rig j = d.rig j :=
  Dev.rig_setReg (off_low (of_decide_eq_true rfl))

/-- What each branch keeps, the choice keeps. -/
theorem Dev.rig_ite {c : Prop} [Decidable c] {x y : Dev} {r : Rig} (hx : x.rig j = r) (hy : y.rig j = r) :
    (if c then x else y).rig j = r := by
  split
  · exact hx
  · exact hy

/-! ### Parts of the state -/

theorem Dev.rig_modStr {u : Str → Str} (h : ∀ s, (u s).precise = s.precise) : (d.modStr k u).rig j = d.rig j := by
  have precise : ((d.modStr k u).st j).precise = (d.st j).precise := vat_vmod_part Str.precise h
  simp only [Dev.rig, precise]
  rfl

@[simp] theorem Dev.rig_modCtl {u : Ctl → Ctl} : (d.modCtl k u).rig j = d.rig j := Dev.rig_modStr fun _ => rfl
@[simp] theorem Dev.rig_modMor {u : MortarSt → MortarSt} : (d.modMor k u).rig j = d.rig j := Dev.rig_modStr fun _ => rfl
@[simp] theorem Dev.rig_modFb {u : FbSt → FbSt} : (d.modFb k u).rig j = d.rig j := Dev.rig_modStr fun _ => rfl
@[simp] theorem Dev.rig_modWh {u : WhiskSt → WhiskSt} : (d.modWh k u).rig j = d.rig j := Dev.rig_modStr fun _ => rfl
@[simp] theorem Dev.rig_modPr {u : ProtSt → ProtSt} : (d.modPr k u).rig j = d.rig j := Dev.rig_modStr fun _ => rfl
@[simp] theorem Dev.rig_modCell {u : CellC → CellC} : (d.modCell k p u).rig j = d.rig j := Dev.rig_modStr fun _ => rfl
@[simp] theorem Dev.rig_modTest {u : TestSt → TestSt} : (d.modTest k u).rig j = d.rig j := (rfl)
@[simp] theorem Dev.rig_modLid {u : LidSt → LidSt} : (d.modLid u).rig j = d.rig j := (rfl)
@[simp] theorem Dev.rig_modPot {u : PotSt → PotSt} : (d.modPot u).rig j = d.rig j := (rfl)
@[simp] theorem Dev.rig_modSvc {u : SvcSt → SvcSt} : (d.modSvc u).rig j = d.rig j := (rfl)
@[simp] theorem Dev.rig_modBg {u : BgSt → BgSt} : (d.modBg u).rig j = d.rig j := (rfl)
@[simp] theorem Dev.rig_modZone {u : ZoneSt → ZoneSt} : (d.modZone k u).rig j = d.rig j := (rfl)
@[simp] theorem Dev.rig_modConv {u : ConvSt → ConvSt} : (d.modConv n u).rig j = d.rig j := (rfl)
@[simp] theorem Dev.rig_modSieve {u : SieveIn → SieveIn} : (d.modSieve n u).rig j = d.rig j := (rfl)
theorem Dev.rig_mortar {m : List (Nat × Int)} : ({ d with mortar := m } : Dev).rig j = d.rig j := (rfl)

@[simp] theorem Dev.rig_eccWriteRange {m lo hi : Nat} : (d.eccWriteRange m lo hi).rig j = d.rig j := by
  unfold Dev.eccWriteRange; dsimp only; split <;> rfl

/-- What a fold of operations that keep the rig keeps. -/
theorem Dev.rig_each {g : Dev → Nat → Dev} (h : ∀ d i, (g d i).rig j = d.rig j) (l : List Nat) :
    (d.each l g).rig j = d.rig j := Dev.each_same (Dev.rig · j) h l d

/-! ### Leaving RUN, windows and trips (R306, R315 to R320) -/

@[simp] theorem Dev.rig_injStop : (d.injStop k).rig j = d.rig j := by
  unfold Dev.injStop
  rw [Dev.rig_putB (off_ch (of_decide_eq_true rfl)), Dev.rig_modCtl]

@[simp] theorem Dev.rig_capEnd : (d.capEnd k).rig j = d.rig j := by
  unfold Dev.capEnd
  split
  · simp (disch := with_unfolding_all exact id (off_ch (of_decide_eq_true rfl))) only
      [Dev.rig_evt, Dev.rig_putB, Dev.rig_modCtl]
  · rfl

@[simp] theorem Dev.rig_morSet {st step g : Nat} : (d.morSet k st step g).rig j = d.rig j := by
  unfold Dev.morSet
  simp (disch := with_unfolding_all exact id (off_ch (of_decide_eq_true rfl))) only [Dev.rig_put, Dev.rig_modMor]

@[simp] theorem Dev.rig_leaveRun : (d.leaveRun k).rig j = d.rig j := by
  have good : (if d.inFallback k then d.put (Fd.CHk_FB_STATUS_GOOD k) 0 else d).rig j = d.rig j := by
    split
    · exact Dev.rig_put (off_ch (of_decide_eq_true rfl))
    · rfl
  unfold Dev.leaveRun
  simp (disch := with_unfolding_all exact id (off_ch (of_decide_eq_true rfl))) only
    [Dev.rig_modPr, Dev.rig_modWh, Dev.rig_modCtl, Dev.rig_put, Dev.rig_putB, Dev.rig_morSet, Dev.rig_capEnd,
      Dev.rig_injStop, good]

@[simp] theorem Dev.rig_winShow {i n : Nat} : (d.winShow k i n).rig j = d.rig j := by
  unfold Dev.winShow
  split_ifs <;> simp (disch := with_unfolding_all exact id (off_ch (of_decide_eq_true rfl))) only [Dev.rig_put]

@[simp] theorem Dev.rig_winPut {i : Nat} {w : Option Win} : (d.winPut k i w).rig j = d.rig j := by
  simp [Dev.winPut]

@[simp] theorem Dev.rig_winEvent {i : Nat} : (d.winEvent k i t).1.rig j = d.rig j := Dev.rig_winPut

theorem Dev.rig_winClear : (d.winClear k).rig j = d.rig j := Dev.rig_each (fun _ _ => Dev.rig_winPut) _

@[simp] theorem Dev.rig_merge {c : Nat} : (d.merge k c t).rig j = d.rig j := by
  unfold Dev.merge
  simp (disch := with_unfolding_all exact id (off_ch (of_decide_eq_true rfl))) only [Dev.rig_evt, Dev.rig_put, Dev.rig_bump]

@[simp] theorem Dev.rig_tripSet {c : Nat} : (d.tripSet k c t).rig j = d.rig j := by
  unfold Dev.tripSet
  simp (disch := with_unfolding_all exact id (off_ch (of_decide_eq_true rfl))) only
    [Dev.rig_modPr, Dev.rig_putB, Dev.rig_put]

@[simp] theorem Dev.rig_tripCount : (d.tripCount k).rig j = d.rig j := by
  unfold Dev.tripCount
  simp (disch := with_unfolding_all exact id (off_ch (of_decide_eq_true rfl))) only [Dev.rig_evt, Dev.rig_bump]

@[simp] theorem Dev.rig_prPhase {v : Nat} : (d.put (Fd.CHk_PR_STATUS_PHASE k) v).rig j = d.rig j :=
  Dev.rig_put (off_ch (of_decide_eq_true rfl))

@[simp] theorem Dev.rig_startForcing : (d.startForcing k).rig j = d.rig j := by simp [Dev.startForcing]

@[simp] theorem Dev.rig_latchStr : (d.latchStr k).rig j = d.rig j := by
  unfold Dev.latchStr
  rw [Dev.rig_evt (off_ch (of_decide_eq_true rfl)), Dev.rig_modPr, Dev.rig_prPhase, Dev.rig_setPhase]

@[simp] theorem Dev.rig_tripInSafe {c b : Nat} : (d.tripInSafe k c t b).rig j = d.rig j := by
  unfold Dev.tripInSafe
  dsimp only
  split_ifs <;> simp

@[simp] theorem Dev.rig_trip {c : Nat} : (d.trip k c t).rig j = d.rig j := by
  unfold Dev.trip
  dsimp only
  split_ifs <;> simp

@[simp] theorem Dev.rig_count {i : Nat} : (d.count k i t).rig j = d.rig j := by
  unfold Dev.count
  dsimp only
  split_ifs <;> simp

/-! ### Cells (R222, R226, R232 to R239) -/

@[simp] theorem Dev.rig_markBypassed : (d.markBypassed k p).rig j = d.rig j :=
  Dev.rig_put (off_ch (of_decide_eq_true rfl))

@[simp] theorem Dev.rig_resetZf : (d.resetZf k).rig j = d.rig j :=
  Dev.each_keeps_mem (P := fun e => e.rig j = d.rig j) _ _
    (fun _ _ hp he => (Dev.rig_putB (off_cell (lt_of_mem_positions hp) (of_decide_eq_true rfl))).trans he) rfl

@[simp] theorem Dev.rig_headroom {fell : Bool} : (d.headroom k fell).1.rig j = d.rig j := by
  unfold Dev.headroom
  simp (disch := with_unfolding_all exact id (off_ch (of_decide_eq_true rfl))) only [Dev.rig_modWh, Dev.rig_evtIf]

@[simp] theorem Dev.rig_joinOne : (d.joinOne k).rig j = d.rig j := by
  unfold Dev.joinOne
  split
  · rfl
  · simp (disch := with_unfolding_all exact id (off_ch (of_decide_eq_true rfl))) only
      [Dev.rig_evt, Dev.rig_bump, Dev.rig_modWh]

@[simp] theorem Dev.rig_demote : (d.demote k p).rig j = d.rig j := by
  unfold Dev.demote
  rw [Dev.rig_bump (off_ch (of_decide_eq_true rfl)), Dev.rig_modWh]

@[simp] theorem Dev.rig_rotate : (d.rotate k).rig j = d.rig j := by
  unfold Dev.rotate
  dsimp only
  split
  · split_ifs
    · simp (disch := with_unfolding_all exact id (off_ch (of_decide_eq_true rfl))) only
        [Dev.rig_evt, Dev.rig_bump, Dev.rig_modCell, Dev.rig_modWh]
    · rfl
  · rfl

theorem Dev.rig_freqAvg (hp : p < 7) : (d.freqAvg k b p).rig j = d.rig j := by
  unfold Dev.freqAvg
  dsimp only
  rw [Dev.rig_put (off_cell hp (of_decide_eq_true rfl)), Dev.rig_modCell]

/-! ### The Mortar (R201 to R207, R217) -/

@[simp] theorem Dev.rig_morClear : (d.morClear k).rig j = d.rig j := by
  unfold Dev.morClear
  rw [Dev.rig_bump (off_ch (of_decide_eq_true rfl)), Dev.rig_eccWriteRange, Dev.rig_mortar]

@[simp] theorem Dev.rig_morSuspendNow : (d.morSuspendNow k).rig j = d.rig j := by
  unfold Dev.morSuspendNow; split <;> simp

@[simp] theorem Dev.rig_morWrap {w : Bool} : (d.morWrap k b w).rig j = d.rig j := by
  unfold Dev.morWrap
  dsimp only
  split_ifs <;> simp

@[simp] theorem Dev.rig_morLock {l : Bool} : (d.morLock k l).rig j = d.rig j := by
  have lock (d : Dev) : (d.putB (Fd.CHk_MOR_STATUS_LOCK k) l).rig j = d.rig j :=
    Dev.rig_putB (off_ch (of_decide_eq_true rfl))
  have found (d : Dev) : (d.evt (Fd.CHk_FB_EVT_MOR_LOCK k)).rig j = d.rig j :=
    Dev.rig_evt (off_ch (of_decide_eq_true rfl))
  have lost (d : Dev) : ((d.evt (Fd.CHk_FB_EVT_MOR_LOST k)).bump (Fd.CHk_MOR_CNT_LOST k)).rig j = d.rig j := by
    rw [Dev.rig_bump (off_ch (of_decide_eq_true rfl)), Dev.rig_evt (off_ch (of_decide_eq_true rfl))]
  unfold Dev.morLock
  dsimp only
  split_ifs <;> simp [lock, found, lost]

@[simp] theorem Dev.rig_track {x : Int} : (d.track k x).rig j = d.rig j := by
  unfold Dev.track
  dsimp only
  rw [Dev.rig_put (off_ch (of_decide_eq_true rfl)), Dev.rig_morLock, Dev.rig_modMor]

@[simp] theorem Dev.rig_morAdvance {x : Int} : (d.morAdvance k x).rig j = d.rig j := by
  unfold Dev.morAdvance
  dsimp only
  split
  · exact Dev.rig_track
  · rw [Dev.rig_put (off_ch (of_decide_eq_true rfl)), Dev.rig_modMor]

@[simp] theorem Dev.rig_morRead {bin : Nat} : (d.morRead k bin t).1.rig j = d.rig j := by
  unfold Dev.morRead
  dsimp only
  split_ifs
  · rfl
  · exact Dev.rig_bump (off_ch (of_decide_eq_true rfl))
  · rw [Dev.rig_count, Dev.rig_bump (off_ch (of_decide_eq_true rfl))]

@[simp] theorem Dev.rig_morCorrect : (d.morCorrect k b).1.rig j = d.rig j := by
  unfold Dev.morCorrect
  dsimp only
  split
  · exact Dev.rig_morRead
  · rfl

/-! ### Feedback loss (R208 to R219) -/

@[simp] theorem Dev.rig_detect : (d.detect k b).rig j = d.rig j := by
  unfold Dev.detect
  dsimp only
  simp (disch := with_unfolding_all exact id (off_ch (of_decide_eq_true rfl))) only
    [Dev.rig_putI, Dev.rig_put, Dev.rig_modFb]

@[simp] theorem Dev.rig_enterFallback : (d.enterFallback k t).rig j = d.rig j := by
  unfold Dev.enterFallback
  dsimp only
  split <;> simp (disch := with_unfolding_all exact id (off_ch (of_decide_eq_true rfl))) only
    [Dev.rig_evt, Dev.rig_putB, Dev.rig_winEvent, Dev.rig_morSuspendNow, Dev.rig_injStop, Dev.rig_modWh,
      Dev.rig_modCtl, Dev.rig_bump, Dev.rig_put]

@[simp] theorem Dev.rig_formMi {v : Int} : (d.formMi k b v).rig j = d.rig j := Dev.rig_modCtl

@[simp] theorem Dev.rig_noteV : (d.noteV k t).rig j = d.rig j := by
  unfold Dev.noteV
  dsimp only
  split <;> simp

/-! ### Capture and injection (R195 to R199) -/

@[simp] theorem Dev.rig_injForm {inner : Bool} : (d.injForm k t inner).1.rig j = d.rig j := by
  have form (on : Bool) (f : Ctl → Ctl) (x : Nat × Int × Bool) : (if on then
      ((d.modCtl k f).putB (Fd.CHk_CL_STATUS_INJ k) true, x) else (d, 0, 0, false)).1.rig j = d.rig j := by
    split
    · rw [Dev.rig_putB (off_ch (of_decide_eq_true rfl)), Dev.rig_modCtl]
    · rfl
  unfold Dev.injForm
  split
  · rfl
  · exact form _ _ _

@[simp] theorem Dev.rig_capTrigger {c : Nat} : (d.capTrigger k t c).rig j = d.rig j := by
  unfold Dev.capTrigger
  dsimp only
  split
  · rw [Dev.rig_putB (off_ch (of_decide_eq_true rfl)), Dev.rig_modCtl]
  · rfl

@[simp] theorem Dev.rig_capPut {x y : Int} : (d.capPut k x y).rig j = d.rig j := by
  unfold Dev.capPut
  dsimp only
  split
  · rfl
  · simp (disch := with_unfolding_all exact id (off_ch (of_decide_eq_true rfl))) only [Dev.rig_put, Dev.rig_modCtl]

@[simp] theorem Dev.rig_capBoundary : (d.capBoundary k b).rig j = d.rig j := by
  unfold Dev.capBoundary
  dsimp only
  split_ifs <;> simp

/-! ### Membership and records (R235 to R239, R307) -/

@[simp] theorem Dev.rig_safeHeadroom : (d.safeHeadroom k b).rig j = d.rig j := by
  unfold Dev.safeHeadroom
  dsimp only
  split
  · rw [Dev.rig_trip, Dev.rig_evt (off_ch (of_decide_eq_true rfl))]
  · rfl

@[simp] theorem Dev.rig_membership : (d.membership k b).rig j = d.rig j := by
  have joins (l : List Nat) (d : Dev) : (d.each l (fun d _ => d.joinOne k)).rig j = d.rig j :=
    Dev.rig_each (fun _ _ => Dev.rig_joinOne) l
  have freqs (d : Dev) : (d.each positions (fun d p => d.freqAvg k b p)).rig j = d.rig j :=
    Dev.each_keeps_mem (P := fun e => e.rig j = d.rig j) _ _
      (fun _ _ hp he => (Dev.rig_freqAvg (lt_of_mem_positions hp)).trans he) rfl
  have stay (d : Dev) (c : Bool) : (if c then d.safeHeadroom k b else d).rig j = d.rig j := by
    split
    · exact Dev.rig_safeHeadroom
    · rfl
  have join (d : Dev) (c : Bool) (l : List Nat) : (if c then d.each l (fun d _ => d.joinOne k) else d).rig j = d.rig j := by
    split
    · exact joins l d
    · rfl
  have lose (d : Dev) (c fell : Bool) : (if c then
      (match d.headroom k fell with | (d, lost) => if lost then d.trip k causeHeadroom b else d) else d).rig j = d.rig j := by
    split
    · dsimp only
      split <;> simp
    · rfl
  have turn (d : Dev) : (if d.inRun k then
      (match (d.st k).wh.rot, (sorted7 (d.aq k)).find? (fun p => d.slow k p && !(d.failed k p)), d.parkedFit k with
        | none, some p, some _ => d.demote k p
        | _, _, _ => d).rotate k else d).rig j = d.rig j := by
    split
    · rw [Dev.rig_rotate]
      split <;> simp
    · rfl
  unfold Dev.membership
  dsimp only
  rw [Dev.rig_modWh, freqs]
  refine (turn _).trans ((lose _ _ _).trans ?_)
  rw [Dev.rig_modWh]
  exact (join _ _ _).trans (stay _ _)

@[simp] theorem Dev.rig_cellRecords : (d.cellRecords k b).rig j = d.rig j := by
  have corrected (l : List (Nat × Nat)) (d : Dev) :
      (l.foldl (fun d e => if e.2 == 1 then d.bump (Fd.CHk_PR_ECC_CORR k) else d) d).rig j = d.rig j := by
    induction l generalizing d with
    | nil => rfl
    | cons x l ih =>
      refine (ih _).trans ?_
      dsimp only
      split
      · exact Dev.rig_bump (off_ch (of_decide_eq_true rfl))
      · rfl
  unfold Dev.cellRecords
  dsimp only
  split_ifs
  · rfl
  · rw [Dev.rig_trip, corrected, Dev.rig_eccWriteRange]
  · rw [corrected, Dev.rig_eccWriteRange]

/-! ### The loops (R180, R191, R195 to R199) -/

@[simp] theorem Dev.rig_endPeriod : (d.endPeriod k).rig j = d.rig j := by
  have bump (d : Dev) (c : Bool) (f : Fld) (hf : offRig j f.addr) : (if c then d.bump f else d).rig j = d.rig j := by
    split
    · exact Dev.rig_bump hf
    · rfl
  unfold Dev.endPeriod
  dsimp only
  rw [Dev.rig_modCtl, Dev.rig_evtIf (off_ch (of_decide_eq_true rfl)), bump _ _ _ (off_ch (of_decide_eq_true rfl)),
    bump _ _ _ (off_ch (of_decide_eq_true rfl)), bump _ _ _ (off_ch (of_decide_eq_true rfl))]

@[simp] theorem Dev.rig_swapBank : (d.swapBank k b).1.rig j = d.rig j := by
  unfold Dev.swapBank
  dsimp only
  split
  · rfl
  · simp (disch := with_unfolding_all exact id (off_ch (of_decide_eq_true rfl))) only [Dev.rig_bump, Dev.rig_put]

@[simp] theorem Dev.rig_swapSat : (d.swapSat k).rig j = d.rig j := by
  unfold Dev.swapSat
  simp (disch := with_unfolding_all exact id (off_ch (of_decide_eq_true rfl))) only [Dev.rig_bump, Dev.rig_evt]

@[simp] theorem Dev.rig_putOuter {q : Bank} {o : Outer} {c : Bool} : (d.putOuter k b q o c).rig j = d.rig j := by
  unfold Dev.putOuter
  simp (disch := with_unfolding_all exact id (off_ch (of_decide_eq_true rfl))) only [Dev.rig_putB, Dev.rig_modCtl]

@[simp] theorem Dev.rig_runLoops {swap : Bool} {x m : Int} : (d.runLoops k b swap x m).1.rig j = d.rig j := by
  have enter (d : Dev) (c : Bool) : (if c then d.enterFallback k b else d).rig j = d.rig j := by split <;> simp
  have trig (d : Dev) (c : Bool) (n : Nat) : (if c then d.capTrigger k b n else d).rig j = d.rig j := by split <;> simp
  have sat (d : Dev) (c : Bool) : (if c then d.swapSat k else d).rig j = d.rig j := by split <;> simp
  unfold Dev.runLoops
  dsimp only
  generalize hd : (if d.closed k && (d.st k).fb.lostNow && (d.st k).pr.entry == b then d.enterFallback k b else d) = e
  have he : e.rig j = d.rig j := by rw [← hd]; exact enter _ _
  rw [← he]
  split
  · split
    · simp only [Dev.rig_formMi, Dev.rig_modCtl, trig, Dev.rig_modMor, Dev.rig_putOuter, sat, Dev.rig_injForm]
    · simp only [trig, Dev.rig_modMor, Dev.rig_modCtl, Dev.rig_putOuter, sat, Dev.rig_injForm]
  · split
    · simp only [trig, Dev.rig_modMor, Dev.rig_modCtl, Dev.rig_putOuter]
    · simp only [Dev.rig_modCtl, Dev.rig_formMi]

/-! ### Detectors, demands and measurements (R297, R300, R311, R323, R331, R334, R335) -/

@[simp] theorem Dev.rig_lineDetect {v : Int} : (d.lineDetect k b v).rig j = d.rig j := Dev.rig_modPr
@[simp] theorem Dev.rig_probeSum : (d.probeSum k b).rig j = d.rig j := Dev.rig_modPr

@[simp] theorem Dev.rig_auxDetect : (d.auxDetect k b).rig j = d.rig j := by
  unfold Dev.auxDetect
  simp (disch := with_unfolding_all exact id (off_ch (of_decide_eq_true rfl))) only [Dev.rig_modPr, Dev.rig_evtIf]

theorem Dev.rig_demand {f g : Fld} {c : Bool} (hf : offRig j f.addr) (hg : offRig j g.addr) :
    (d.demand f g c).rig j = d.rig j := by
  unfold Dev.demand
  rw [Dev.rig_putB hf, Dev.rig_evtIf hg]

@[simp] theorem Dev.rig_testBoundary : (d.testBoundary k b).rig j = d.rig j := by
  have cut (d : Dev) (c : Bool) (f : TestSt → TestSt) : (if c then
      (d.modTest k f).putB (Fd.CHk_DT_STATUS_ABORT k) true else d).rig j = d.rig j := by
    split
    · rw [Dev.rig_putB (off_ch (of_decide_eq_true rfl)), Dev.rig_modTest]
    · rfl
  unfold Dev.testBoundary
  refine (cut _ _ _).trans ?_
  split <;> simp

@[simp] theorem Dev.rig_diagAccumulate {ok run : Bool} : (d.diagAccumulate k b ok run).rig j = d.rig j := (rfl)
end Sys2Proof.Machine
end

section
/-! The Lid, the Stockpot and the outer loop leave the load models of the strings alone, but for the power averages. -/
namespace Sys2Proof.Machine
variable {d : Dev} {j k p t b e n a : Nat} {f : Fld}

/-! What the Lid and the Stockpot do at a boundary leaves the floor alone (R346 to R368). -/

theorem Dev.rig_cinSettle : (d.cinSettle b).rig j = d.rig j := by
  refine Dev.rig_each (fun d i => ?_) _
  dsimp only
  split
  · split <;> simp
  · rfl

/-! ### The mailbox (R367, R368) -/

theorem Dev.rig_mbEffect {code arg : Nat} : (d.mbEffect p code arg).rig j = d.rig j := by
  unfold Dev.mbEffect
  split_ifs <;> simp (disch := with_unfolding_all exact id (off_far (of_decide_eq_true rfl))) only
    [Dev.rig_putE, Dev.rig_put, Dev.rig_modLid]

theorem Dev.rig_mailbox {code arg tag : Nat} : (d.mailbox p code arg tag).rig j = d.rig j := by
  have effect (d : Dev) (c : Bool) : (if c then d.mbEffect p code arg else d).rig j = d.rig j := by
    split
    · exact Dev.rig_mbEffect
    · rfl
  unfold Dev.mailbox
  rw [Dev.rig_evt (off_far (of_decide_eq_true rfl))]
  simp (disch := with_unfolding_all exact id (off_high (of_decide_eq_true rfl))) only
    [Dev.rig_put, Dev.rig_putB, Dev.rig_modLid, effect]

theorem Dev.rig_mailboxDue : (d.mailboxDue b).rig j = d.rig j := by
  refine Dev.rig_each (fun d p => ?_) _
  split
  · split
    · exact Dev.rig_mailbox
    · rfl
  · rfl

/-! ### Entries and zones (R351 to R354) -/

theorem Dev.rig_entryStep : (d.entryStep e).rig j = d.rig j := by
  unfold Dev.entryStep
  simp (disch := with_unfolding_all exact id (off_far (of_decide_eq_true rfl))) only [Dev.rig_evtIf, Dev.rig_putE, Dev.rig_modLid]

theorem Dev.rig_lidEntries : (d.lidEntries b).1.rig j = d.rig j := by
  unfold Dev.lidEntries
  rw [Dev.rig_modLid, Dev.rig_each fun _ _ => Dev.rig_entryStep, Dev.rig_mailboxDue, Dev.rig_cinSettle]

theorem Dev.rig_zoneWinner : (d.zoneWinner k).1.rig j = d.rig j := by
  have clear (d : Dev) (c : Bool) : (if c then (d.putE Fd.LID_STOP_STOP k false).bump Fd.LID_STOP_CLEARED else d).rig j =
      d.rig j := by
    split
    · rw [Dev.rig_bump (off_far (of_decide_eq_true rfl)), Dev.rig_putE (off_far (of_decide_eq_true rfl))]
    · rfl
  have win (d : Dev) (n : Nat) : (d.put (Fd.LID_WIN_WIN k) n).rig j = d.rig j := by
    exact Dev.rig_put (off_far (of_decide_eq_true rfl))
  unfold Dev.zoneWinner
  dsimp only
  split <;> simp (disch := with_unfolding_all exact id (off_far (of_decide_eq_true rfl))) only [win, Dev.rig_putE, clear]

theorem Dev.rig_lidOutputs : (d.lidOutputs b).rig j = d.rig j := by
  have zones (l : List Nat) (x : Dev × Vector (Option (Nat × Nat)) 8) :
      (l.foldl (fun (x : Dev × Vector (Option (Nat × Nat)) 8) k =>
        if x.1.present k then
          let (d, o) := x.1.zoneWinner k
          (d.put (Fd.LID_SUPk_VERD_DC k) (d.copyOf k).dc, vset x.2 k o)
        else x) x).1.rig j = x.1.rig j := by
    induction l generalizing x with
    | nil => rfl
    | cons k l ih =>
      refine (ih _).trans ?_
      dsimp only
      split
      · rw [Dev.rig_put (off_high (of_decide_eq_true rfl)), Dev.rig_zoneWinner]
      · rfl
  unfold Dev.lidOutputs
  dsimp only
  rw [Dev.rig_modLid]
  exact zones _ _

/-! ### The message owner (R352, R359, R361) -/

theorem Dev.rig_potSet {st : Nat} : (d.potSet st).rig j = d.rig j := Dev.rig_put (off_far (of_decide_eq_true rfl))

theorem Dev.rig_potRead : d.potRead.rig j = d.rig j := by
  unfold Dev.potRead; split <;> simp

theorem Dev.rig_startFill {i : Nat} : (d.startFill i b).rig j = d.rig j := by
  unfold Dev.startFill Dev.showBuf
  simp (disch := with_unfolding_all exact id (off_far (of_decide_eq_true rfl))) only
    [Dev.rig_potRead, Dev.rig_put, Dev.rig_potSet, Dev.rig_modPot]

theorem Dev.rig_noteOwner {o : Option Nat} : (d.noteOwner o).rig j = d.rig j := by
  unfold Dev.noteOwner
  dsimp only
  split
  · rw [Dev.rig_put (off_far (of_decide_eq_true rfl)), Dev.rig_modLid]
  · rw [Dev.rig_modPot, Dev.rig_put (off_far (of_decide_eq_true rfl)), Dev.rig_modLid]

theorem Dev.rig_followOwner {want : Option Nat} : (d.followOwner b want).rig j = d.rig j := by
  unfold Dev.followOwner
  split_ifs
  · rfl
  · exact Dev.rig_modPot
  · split
    · exact Dev.rig_startFill
    · rfl
    · exact Dev.rig_startFill
    · rw [Dev.rig_potSet, Dev.rig_modPot]

theorem Dev.rig_setOwner {o : Option Nat} : (d.setOwner b o).rig j = d.rig j := by
  rw [Dev.setOwner_eq, Dev.rig_followOwner, Dev.rig_noteOwner]

theorem Dev.rig_lidBoundary : (d.lidBoundary b).rig j = d.rig j := by
  unfold Dev.lidBoundary
  dsimp only
  rw [Dev.rig_lidOutputs, Dev.rig_setOwner, Dev.rig_lidEntries]

/-! ### A string at a boundary (R180, R323) -/

/-- R180 to R311: what a boundary does to a string before its power average. -/
def Dev.boundaryHead (d : Dev) (k b : Nat) : Dev :=
  let (d, swap) := ((d.endPeriod k).cellRecords k b |>.membership k b).swapBank k b
  let ph := d.phase k
  let (d, m) := (d.morWrap k b (d.st k).mor.wrap).morCorrect k b
  let d := if ph == phArmed || ph == phRun || ph == phSafe then d.detect k b
    else d.modFb k (fun f => { f with neutral := false })
  let run := d.inRun k
  let (d, vr) := if run then d.runLoops k b swap (d.pilot k) m
    else (d.modCtl k (fun c => { c with ran := false, sig := [0, narrow23 (d.st k).pv] ++ (c.sig.drop 2).take 5 ++ [0, 0] }), 0)
  let d := if swap then d.capTrigger k b 2 else d
  (if run then (d.lineDetect k b vr).probeSum k b else d).auxDetect k b

theorem Dev.rig_boundaryHead : (d.boundaryHead k b).rig j = d.rig j := by
  have detect (d : Dev) (c : Bool) : (if c then d.detect k b else d.modFb k (fun f => { f with neutral := false })).rig j =
      d.rig j := Dev.rig_ite Dev.rig_detect Dev.rig_modFb
  have loops (d : Dev) (c swap : Bool) (x m : Int) (f : Ctl → Ctl) : (if c then d.runLoops k b swap x m
      else (d.modCtl k f, 0)).1.rig j = d.rig j := by split <;> simp
  have trig (d : Dev) (c : Bool) : (if c then d.capTrigger k b 2 else d).rig j = d.rig j := Dev.rig_ite Dev.rig_capTrigger rfl
  have line (d : Dev) (c : Bool) (v : Int) : (if c then (d.lineDetect k b v).probeSum k b else d).rig j = d.rig j :=
    Dev.rig_ite (Dev.rig_probeSum.trans Dev.rig_lineDetect) rfl
  unfold Dev.boundaryHead
  simp only [Dev.rig_auxDetect, line, trig, loops, detect, Dev.rig_morCorrect, Dev.rig_morWrap, Dev.rig_swapBank,
    Dev.rig_membership, Dev.rig_cellRecords, Dev.rig_endPeriod]

/-- R323, R334: what follows the power average of a boundary, up to the advance of the pilot. -/
def Dev.boundaryTail (d : Dev) (k b : Nat) (im : Int) (test run : Bool) : Dev :=
  let d := if test then d.testBoundary k b else d
  let d := if d.bit (Fd.CHk_DT_CFG_CLASS k) then
      let s := d.st k
      let ok := run && s.pr.probe.isNone && s.ctl.inj.isNone && !s.preciseRep && d.bit Fd.SIEVE_VALID_PRECISE
      d.diagAccumulate k b ok run
    else d
  let d := d.modCtl k (fun c => { c with sig := c.sig.take 9 ++ [d.level k, im] })
  let d := (d.capTrigger k b 0).capBoundary k b
  d.morAdvance k (vat (d.st k).aux 0)

theorem Dev.rig_boundaryTail {im : Int} {c run : Bool} : (d.boundaryTail k b im c run).rig j = d.rig j := by
  have test (d : Dev) (c : Bool) : (if c then d.testBoundary k b else d).rig j = d.rig j := Dev.rig_ite Dev.rig_testBoundary rfl
  have diag (d : Dev) (c ok run : Bool) : (if c then d.diagAccumulate k b ok run else d).rig j = d.rig j :=
    Dev.rig_ite Dev.rig_diagAccumulate rfl
  unfold Dev.boundaryTail
  simp only [Dev.rig_morAdvance, Dev.rig_capBoundary, Dev.rig_capTrigger, Dev.rig_modCtl, diag, test]

/-- R323, R334: a boundary is a power average and an advance of the pilot among operations that leave the load models alone. -/
theorem Dev.boundaryStr_eq {im : Int} : ∃ test run, d.boundaryStr k b im =
    ((((d.boundaryHead k b).powerAvg k).boundaryTail k b im test run).pilotAdvance k).noteV k b := ⟨_, _, rfl⟩

/-! ### The boundary before the strings (R44, R53, R167) -/

theorem Dev.rig_countSat {f : Fld} {x y : Int} (h : offRig j f.addr) : (d.countSat f x y).rig j = d.rig j :=
  Dev.rig_ite rfl ((Dev.rig_evt (off_low (of_decide_eq_true rfl))).trans (Dev.rig_bump h))

theorem Dev.rig_inputBoundary {h : List Int} (hn : n < 20) : (d.inputBoundary h b n).rig j = d.rig j := by
  have act (d : Dev) (x y : Nat) : ((d.put (Fd.SIEVE_ACTn_ONES n) x).put (Fd.SIEVE_ACTn_TRANS n) y).rig j = d.rig j := by
    have off : offRig j (0x7180 + 4 * n) := off_low (by omega)
    rw [Dev.rig_put off, Dev.rig_put off]
  unfold Dev.inputBoundary Dev.thresholds Dev.activity Dev.stage2
  dsimp only
  rw [Dev.rig_evtIf (off_low (of_decide_eq_true rfl)), Dev.rig_put (off_low (of_decide_eq_true rfl)),
    Dev.rig_put (off_low (of_decide_eq_true rfl)), Dev.rig_modSieve, act, Dev.rig_modSieve,
    Dev.rig_countSat (off_low (of_decide_eq_true rfl)), Dev.rig_modSieve]

theorem Dev.rig_sieveBoundary : (d.sieveBoundary b).rig j = d.rig j := by
  have valid : (if 448 ≤ b then d.putB Fd.SIEVE_VALID_PRECISE true else d).rig j = d.rig j :=
    Dev.rig_ite (Dev.rig_putB (off_low (of_decide_eq_true rfl))) rfl
  refine Dev.rig_ite (Eq.trans ?_ valid) rfl
  exact Dev.each_keeps_mem (P := fun e => e.rig j = _) _ _
    (fun _ _ hn he => (Dev.rig_inputBoundary (mem_upTo.1 hn)).trans he) rfl

theorem Dev.rig_boundaryBase : (d.boundaryBase b).rig j = d.rig j := by
  unfold Dev.boundaryBase Dev.steer
  rw [Dev.rig_sieveBoundary, Dev.rig_evtIf (off_low (of_decide_eq_true rfl)), Dev.rig_putI (off_low (of_decide_eq_true rfl))]
  rfl

end Sys2Proof.Machine
end

section
/-! What a Rack frame start does to a string and to the Lid leaves the load models alone. -/
namespace Sys2Proof.Machine
variable {d : Dev} {j k p t b e n a f : Nat}

/-! ### Links and cells (R232, R242, R251, R264) -/

@[simp] theorem Dev.rig_failCell {src : FailSrc} : (d.failCell k p src).rig j = d.rig j := by
  have marked (d : Dev) (c : Bool) : (if c then d.markBypassed k p else d).rig j = d.rig j := by split <;> simp
  have restart (d : Dev) (c : Bool) (g : TestSt → TestSt) : (if c then d.modTest k g else d).rig j = d.rig j := by
    split <;> simp
  unfold Dev.failCell
  split
  · split <;> simp
  · simp (disch := with_unfolding_all exact id (off_ch (of_decide_eq_true rfl))) only
      [restart, Dev.rig_modCell, Dev.rig_modWh, marked, Dev.rig_evt, Dev.rig_put]

@[simp] theorem Dev.rig_rejectLink {n : Nat} : (d.rejectLink k p n).rig j = d.rig j := by
  unfold Dev.rejectLink Dev.enumDone
  rw [Dev.rig_evtIf (off_ch (of_decide_eq_true rfl)), Dev.rig_put (off_high (of_decide_eq_true rfl)),
    Dev.rig_put (off_high (of_decide_eq_true rfl))]

@[simp] theorem Dev.rig_enumLink : (d.enumLink k p).rig j = d.rig j := by
  unfold Dev.enumLink
  dsimp only
  split
  · simp (disch := with_unfolding_all exact id (off_high (of_decide_eq_true rfl))) only
      [Dev.rig_put, Dev.rig_putB, Dev.rig_modCell]
  · exact Dev.rig_modCell

theorem Dev.rig_endLinks : (d.endLinks k).rig j = d.rig j := by
  have failStart (d : Dev) (bad : Nat → Bool) : (d.failStart k bad).rig j = d.rig j := by
    refine Dev.rig_each (fun d p => ?_) _
    split <;> simp
  unfold Dev.endLinks
  dsimp only
  rw [failStart]
  refine Dev.rig_each (fun d p => ?_) _
  split_ifs <;> simp

theorem Dev.rig_slowFrame : (d.slowFrame k).rig j = d.rig j := by
  have clear (d : Dev) (c : Bool) (n : Nat) : (if c then d.put (Fd.CHk_WH_MARKS_SLOW k) n else d).rig j = d.rig j := by
    split
    · exact Dev.rig_put (off_ch (of_decide_eq_true rfl))
    · rfl
  refine Dev.rig_each (fun d p => ?_) _
  dsimp only
  rw [Dev.rig_modCell, clear]

theorem Dev.rig_rotFrame : (d.rotFrame k).rig j = d.rig j := by
  unfold Dev.rotFrame
  dsimp only
  split <;> simp

/-! ### The start test and the load (R324, R326, R329) -/

theorem Dev.rig_testStart : (d.testStart k f p).rig j = d.rig j := by
  unfold Dev.testStart
  rw [Dev.rig_put (off_ch (of_decide_eq_true rfl)), Dev.rig_modTest]

theorem Dev.rig_testStep {v : Nat} : (d.put (Fd.CHk_DT_STATUS_STEP k) v).rig j = d.rig j :=
  Dev.rig_put (off_ch (of_decide_eq_true rfl))

/-! ### The Lid and the service (R340, R369, R370, R399) -/

theorem Dev.rig_supStale : (d.supStale k).rig j = d.rig j := by
  unfold Dev.supStale
  split
  · dsimp only
    rw [Dev.rig_putB (off_high (of_decide_eq_true rfl)), Dev.rig_modLid]
  · rfl

theorem Dev.rig_formConditions : d.formConditions.rig j = d.rig j := by
  unfold Dev.formConditions
  simp (disch := with_unfolding_all exact id (off_far (of_decide_eq_true rfl))) only [Dev.rig_evtIf, Dev.rig_put]

theorem Dev.rig_relayFrame {ran : Bool} {r : Nat} : (Dev.relayFrame ran d r).rig j = d.rig j := by
  unfold Dev.relayFrame
  split
  · exact Dev.rig_modLid
  · dsimp only
    split
    · rw [Dev.rig_evt (off_far (of_decide_eq_true rfl)), Dev.rig_putE (off_far (of_decide_eq_true rfl)), Dev.rig_modLid]
    · exact Dev.rig_modLid

theorem Dev.rig_lidFrame {ran : Bool} : (d.lidFrame ran).rig j = d.rig j := by
  unfold Dev.lidFrame
  dsimp only
  rw [Dev.rig_each fun _ _ => Dev.rig_relayFrame, Dev.rig_formConditions, Dev.rig_each fun _ _ => Dev.rig_supStale,
    Dev.rig_modLid]

theorem Dev.rig_svcFrame : d.svcFrame.rig j = d.rig j := Dev.rig_modSvc

end Sys2Proof.Machine
end

section
/-! What a Rack frame start does before the thermal models take their step leaves the load models of the strings alone
(R48, R60, R99 to R103, R138, R143, R312, R404). -/
namespace Sys2Proof.Machine
variable {d : Dev} {j k n p t w a b f i : Nat}

/-! ### The power controller (R47, R49, R57) -/

theorem Dev.rig_withPwr {p : Power} (hd : vat p.dom (islCh j + 1) = vat d.pwr.dom (islCh j + 1))
    (hb : vat p.islandBad (islCh j) = vat d.pwr.islandBad (islCh j)) (hc : p.tickCopy = d.pwr.tickCopy) :
    ({ d with pwr := p } : Dev).rig j = d.rig j := by
  have mem : (islCh j == islMem) = false := by simp [islCh, islMem]; omega
  have own : ¬ islCh j < 6 := by unfold islCh; omega
  have ok : ({ d with pwr := p } : Dev).islandOk (islCh j) = d.islandOk (islCh j) := by
    simp [Dev.islandOk, Dev.domRun, mem, own, hd, hb]
  unfold Dev.rig
  rw [ok, hc]
  rfl

@[simp] theorem Dev.rig_strEn {c : Bool} : (d.strEn k c).rig j = d.rig j := by
  have level (x) : ({ d with pwr := { d.pwr with strEn := x } } : Dev).rig j = d.rig j := Dev.rig_withPwr rfl rfl rfl
  unfold Dev.strEn
  dsimp only
  split
  · exact level _
  · exact (Dev.rig_each (fun _ _ => Dev.rig_modCell) _).trans (level _)

@[simp] theorem Dev.rig_strHalt : (d.strHalt k).rig j = d.rig j := by
  unfold Dev.strHalt
  dsimp only
  rw [Dev.rig_prPhase, Dev.rig_modPr, Dev.rig_strEn]
  exact Dev.rig_ite Dev.rig_leaveRun rfl

theorem Dev.rig_releaseRelays : d.releaseRelays.rig j = d.rig j := by
  have relays (d : Dev) : (d.each [0, 1, 2, 3] (fun d r => if d.ebit Fd.LID_RLY_ENERGISED r then
      (d.putE Fd.LID_RLY_ENERGISED r false).evt Fd.LID_EVT_RELAY else d)).rig j = d.rig j :=
    Dev.rig_each (fun _ _ => Dev.rig_ite ((Dev.rig_evt (off_far (of_decide_eq_true rfl))).trans
      (Dev.rig_putE (off_far (of_decide_eq_true rfl)))) rfl) _
  exact (Dev.rig_withPwr rfl rfl rfl).trans (relays d)

theorem Dev.rig_snapLost : d.snapLost.rig j = d.rig j := by
  unfold Dev.snapLost
  exact Dev.rig_ite ((Dev.rig_evt (off_far (of_decide_eq_true rfl))).trans Dev.rig_modBg) rfl

theorem Dev.rig_domFault (hi : islCh j + 1 ≠ i) : (d.domFault i).rig j = d.rig j := by
  have dom : (d.setDom i .faultOff).rig j = d.rig j := Dev.rig_withPwr (vat_vset_other hi) rfl rfl
  unfold Dev.domFault Dev.domOff
  rw [Dev.rig_evt (off_low (of_decide_eq_true rfl))]
  dsimp only
  rw [if_pos (rfl : DomSt.faultOff = .faultOff)]
  have pads : (if i == domLid then (d.setDom i .faultOff).releaseRelays else if i == domHost then
      (d.setDom i .faultOff).snapLost else d.setDom i .faultOff).rig j = d.rig j :=
    Dev.rig_ite (Dev.rig_releaseRelays.trans dom) (Dev.rig_ite (Dev.rig_snapLost.trans dom) dom)
  exact Dev.rig_ite (Dev.rig_strHalt.trans pads) pads

/-- R48: a string whose island's copy agrees stays as it is while another island fails. -/
theorem Dev.rig_islandReact (hi : islCh j ≠ i) : (d.islandReact t i).rig j = d.rig j := by
  have fail : (d.islandFail t i).rig j = d.rig j := by
    unfold Dev.islandFail
    rw [Dev.rig_evt (off_low (of_decide_eq_true rfl))]
    exact Dev.rig_withPwr rfl (vat_vset_other hi) rfl
  unfold Dev.islandReact
  split
  · exact (Dev.rig_domFault (by unfold islCh domLid; omega)).trans fail
  · exact Dev.rig_ite ((Dev.rig_domFault (by omega)).trans fail) fail

theorem Dev.rig_copyCheck (hc : (d.rig j).copied = t) : (d.copyCheck t i).rig j = d.rig j := by
  unfold Dev.copyCheck
  by_cases hi : islCh j = i
  · have agree : vat d.pwr.tickCopy i = t := by rw [← hi]; exact hc
    simp [agree]
  · exact Dev.rig_ite (Dev.rig_islandReact hi) rfl

theorem Dev.rig_copyChecks (hc : (d.rig j).copied = t) (l : List Nat) :
    (d.each l (fun d i => d.copyCheck t i)).rig j = d.rig j :=
  Dev.each_keeps (P := fun e => e.rig j = d.rig j) (fun _ _ he => (Dev.rig_copyCheck (by rw [he]; exact hc)).trans he) l d rfl

/-! ### The Rack's tables (R60, R70) -/

theorem Dev.rig_swapWord (hw : w < 128) : (d.swapWord w).rig j = d.rig j :=
  (Dev.rig_setReg (off_low (show 0x2600 + 4 * w < 0x8000 by omega))).trans
    (Dev.rig_setReg (off_low (show 0x2400 + 4 * w < 0x8000 by omega)))

theorem Dev.rig_rackFrame : (d.rackFrame f).rig j = d.rig j := by
  have words (d : Dev) : ((upTo 128).foldl Dev.swapWord d).rig j = d.rig j := by
    have word (w) (hw : w ∈ upTo 128) (e : Dev) : (e.swapWord w).rig j = e.rig j := Dev.rig_swapWord (mem_upTo.1 hw)
    generalize upTo 128 = l at word
    exact Dev.each_keeps_mem (P := fun e => e.rig j = d.rig j) l d (fun e w hw he => (word w hw e).trans he) rfl
  unfold Dev.rackFrame Dev.rackSettle
  rw [Dev.rig_put (off_low (of_decide_eq_true rfl))]
  refine Dev.rig_ite ?_ rfl
  have taken : (d.putB Fd.RACK_STATUS_SWAP_PENDING false).rig j = d.rig j := Dev.rig_putB (off_low (of_decide_eq_true rfl))
  exact Dev.rig_ite (((Dev.rig_evt (off_low (of_decide_eq_true rfl))).trans (words _)).trans taken)
    ((Dev.rig_evt (off_low (of_decide_eq_true rfl))).trans taken)

/-! ### AUDIO's loops (R138, R143) -/

theorem Dev.rig_align {x : AlignSt} : ({ d with align := x } : Dev).rig j = d.rig j := (rfl)

theorem Dev.rig_refUnlock : d.refUnlock.rig j = d.rig j := by
  unfold Dev.refUnlock
  dsimp only
  refine Dev.rig_ite ?_ Dev.rig_align
  rw [Dev.rig_evt (off_low (of_decide_eq_true rfl)), Dev.rig_putB (off_low (of_decide_eq_true rfl)), Dev.rig_align]

theorem Dev.rig_steerFrame : d.steerFrame.rig j = d.rig j := by
  unfold Dev.steerFrame
  dsimp only
  have shown (d : Dev) (e r : Int) : (((d.putB Fd.ALIGN_STATUS_HOLD false).putI Fd.ALIGN_STATUS_ERR e).putI
      Fd.ALIGN_REQ_REQ r).rig j = d.rig j := by
    rw [Dev.rig_putI (off_low (of_decide_eq_true rfl)), Dev.rig_putI (off_low (of_decide_eq_true rfl)),
      Dev.rig_putB (off_low (of_decide_eq_true rfl))]
  have locked (d : Dev) : ((d.putB Fd.ALIGN_STATUS_REF_LOCK true).evt Fd.ROUTE_EVT_REF_LOCK).rig j = d.rig j := by
    rw [Dev.rig_evt (off_low (of_decide_eq_true rfl)), Dev.rig_putB (off_low (of_decide_eq_true rfl))]
  refine Dev.rig_ite rfl (Dev.rig_ite ?_ (Dev.rig_ite ?_ (Dev.rig_ite ?_ ?_)))
  · rw [Dev.rig_putB (off_low (of_decide_eq_true rfl)), Dev.rig_align, Dev.rig_align]
  · rw [Dev.rig_refUnlock, shown, Dev.rig_align, Dev.rig_align]
  · rw [locked, shown, Dev.rig_align, Dev.rig_align]
  · rw [shown, Dev.rig_align, Dev.rig_align]

section
variable (hn : n < 6)
include hn

/-- The status registers of the converters lie below the strings. -/
theorem off_conv (ha : a < 0x7000) : offRig j (a + 0x10 * n) := off_low (by omega)

theorem Dev.rig_showConv : (d.showConv n).rig j = d.rig j := by
  unfold Dev.showConv
  simp (disch := with_unfolding_all exact id (off_conv hn (of_decide_eq_true rfl))) only
    [Dev.rig_putB, Dev.rig_putI]

theorem Dev.rig_convUnlock : (d.convUnlock n).rig j = d.rig j := by
  unfold Dev.convUnlock
  dsimp only
  rw [Dev.rig_showConv hn, Dev.rig_evtIf (off_low (of_decide_eq_true rfl)), Dev.rig_modConv]

theorem Dev.rig_convFrame : (d.convFrame n).rig j = d.rig j := by
  have err (d : Dev) (x : Int) : (d.putI (Fd.ASRCn_STATUS_ERR n) x).rig j = d.rig j :=
    Dev.rig_putI (off_conv hn (of_decide_eq_true rfl))
  unfold Dev.convFrame
  dsimp only
  refine Dev.rig_ite Dev.rig_modConv (Dev.rig_ite ?_ (Dev.rig_ite ?_ ?_))
  · rw [Dev.rig_convUnlock hn, err, Dev.rig_modConv, Dev.rig_modConv]
  · rw [Dev.rig_showConv hn, Dev.rig_evt (off_low (of_decide_eq_true rfl)), Dev.rig_modConv, err, Dev.rig_modConv,
      Dev.rig_modConv]
  · rw [Dev.rig_showConv hn, err, Dev.rig_modConv, Dev.rig_modConv]

end

theorem Dev.rig_frameRefs : d.frameRefs.rig j = d.rig j := by
  unfold Dev.frameRefs
  refine Dev.rig_ite ?_ rfl
  exact (Dev.each_keeps_mem (P := fun e => e.rig j = d.steerFrame.rig j) _ _
    (fun _ _ hn he => (Dev.rig_convFrame (ports6_lt (List.mem_filter.1 hn).1)).trans he) rfl).trans Dev.rig_steerFrame

/-! ### The phases of a string (R99 to R103, R312) -/

theorem Dev.rig_startWait {failed : Bool} : (d.startWait k f failed).rig j = d.rig j := by
  have out (p : ProtSt → ProtSt) : ((((d.setPhase k phStartWait).strEn k false).evt Fd.SYS_EVT_START_FAIL).modPr k p).rig j =
      d.rig j := by
    rw [Dev.rig_modPr, Dev.rig_evt (off_low (of_decide_eq_true rfl)), Dev.rig_strEn, Dev.rig_setPhase]
  unfold Dev.startWait
  dsimp only
  exact Dev.rig_ite Dev.rig_latchStr (Dev.rig_ite (Dev.rig_winEvent.trans (out _)) (out _))

theorem Dev.rig_startFail : (d.startFail k).rig j = d.rig j := by
  unfold Dev.startFail
  rw [Dev.rig_evt (off_low (of_decide_eq_true rfl)), Dev.rig_setPhase, Dev.rig_strHalt]

theorem Dev.rig_enterEnum : (d.enterEnum k f).rig j = d.rig j := by
  have marks (d : Dev) : ((d.put (Fd.CHk_WH_MARKS_FAILED k) 0).put (Fd.CHk_WH_MARKS_BYPASSED k) 0).rig j = d.rig j := by
    rw [Dev.rig_put (off_ch (of_decide_eq_true rfl)), Dev.rig_put (off_ch (of_decide_eq_true rfl))]
  have links (d : Dev) : ((d.setReg (Reg.CHk_LK_STATUS k) 0).each positions (fun d p => d.enumLink k p)).rig j = d.rig j :=
    (Dev.rig_each (fun _ _ => Dev.rig_enumLink) _).trans (Dev.rig_setReg (off_ch (of_decide_eq_true rfl)))
  unfold Dev.enterEnum
  dsimp only
  rw [Dev.rig_modPr, Dev.rig_put (off_high (of_decide_eq_true rfl)), Dev.rig_prPhase, links, marks, Dev.rig_strEn,
    Dev.rig_setPhase]

theorem Dev.rig_restartEnum : (d.restartEnum k f).rig j = d.rig j := Dev.rig_enterEnum.trans Dev.rig_winClear

theorem Dev.rig_endEnum : (d.endEnum k f).rig j = d.rig j :=
  Dev.rig_ite (Dev.rig_modPr.trans Dev.rig_setPhase) Dev.rig_startWait

theorem Dev.rig_enumFrame : (d.enumFrame k f).rig j = d.rig j :=
  Dev.rig_ite (Dev.rig_startFail.trans Dev.rig_endLinks) (Dev.rig_ite rfl (Dev.rig_ite Dev.rig_endEnum rfl))

theorem Dev.rig_enterTest : (d.enterTest k f).rig j = d.rig j := by
  unfold Dev.enterTest
  split
  · exact Dev.rig_testStart.trans (Dev.rig_modPr.trans Dev.rig_setPhase)
  · exact Dev.rig_startWait

theorem Dev.rig_prechargeFrame : (d.prechargeFrame k f).rig j = d.rig j :=
  Dev.rig_ite (Dev.rig_ite (Dev.rig_enterTest.trans Dev.rig_modPr) Dev.rig_modPr) Dev.rig_startWait

theorem Dev.rig_testRestart : (d.testRestart k f).rig j = d.rig j := by
  unfold Dev.testRestart
  split
  · exact (Dev.rig_bump (off_ch (of_decide_eq_true rfl))).trans Dev.rig_testStart
  · exact Dev.rig_startWait.trans Dev.rig_testStep

theorem Dev.rig_testFrame : (d.testFrame k f).rig j = d.rig j :=
  Dev.rig_ite (Dev.rig_ite Dev.rig_testRestart rfl) (Dev.rig_startWait.trans Dev.rig_testStep)

theorem Dev.rig_phaseFrame {fresh : Bool} : (d.phaseFrame k f fresh).rig j = d.rig j := by
  unfold Dev.phaseFrame
  lift_lets
  extract_lets e ph
  have counted : e.rig j = d.rig j := Dev.rig_slowFrame.trans Dev.rig_modPr
  refine Eq.trans ?_ counted
  exact Dev.rig_ite Dev.rig_enumFrame (Dev.rig_ite Dev.rig_prechargeFrame (Dev.rig_ite Dev.rig_testFrame
    (Dev.rig_ite (Dev.rig_ite rfl Dev.rig_startWait) (Dev.rig_ite Dev.rig_rotFrame (Dev.rig_ite Dev.rig_restartEnum rfl)))))

/-! ### Pin tests and the fall of STR_EN (R312, R404, R405) -/

theorem Dev.rig_dropEn : (d.dropEn k).rig j = d.rig j :=
  Dev.rig_ite (Dev.rig_strEn.trans Dev.rig_modPr) Dev.rig_modPr

theorem Dev.rig_pinOff : (d.pinOff k).rig j = d.rig j :=
  Dev.rig_ite (Dev.rig_ite ((Dev.rig_latchStr.trans Dev.rig_endLinks).trans
    (Dev.rig_modSvc.trans (Dev.rig_modPr.trans Dev.rig_modSvc))) (Dev.rig_modSvc.trans (Dev.rig_modPr.trans Dev.rig_modSvc)))
    Dev.rig_modSvc

theorem Dev.rig_pinOn : (d.pinOn f k).rig j = d.rig j := by
  unfold Dev.pinOn
  split
  · exact Dev.rig_ite rfl (Dev.rig_ite (Dev.rig_restartEnum.trans (Dev.rig_modSvc.trans (Dev.rig_modPr.trans Dev.rig_modSvc)))
      Dev.rig_modSvc)
  · rfl

theorem Dev.rig_framePins : (d.framePins f).rig j = d.rig j :=
  (Dev.rig_each (fun _ _ => Dev.rig_dropEn) _).trans ((Dev.rig_each (fun _ _ => Dev.rig_pinOn) _).trans
    (Dev.rig_each (fun _ _ => Dev.rig_pinOff) _))

theorem Dev.rig_frameLost : d.frameLost.rig j = d.rig j := Dev.rig_each (fun _ _ => Dev.rig_startFail) _

theorem Dev.rig_sysRunCheck : (d.sysRunCheck t).rig j = d.rig j :=
  Dev.rig_ite ((Dev.rig_evt (off_low (of_decide_eq_true rfl))).trans (Dev.rig_put (off_low (of_decide_eq_true rfl)))) rfl

end Sys2Proof.Machine
end

section
/-! The load models of a string take their steps (R323, R324, R326, R327). -/
namespace Sys2Proof.Machine
variable {d e : Dev} {j k a t : Nat} {f g : Fld}

/-! ### Fields of one string's block -/

/-- `f` fits its register and shares no bit with `g`. -/
def Fld.clear (f g : Fld) : Prop := f.fits ∧ f.apart g ∧ 0 < g.w

theorem clear_at {a b x l w m v : Nat} (h : decide (l + w ≤ 32 ∧ (a ≠ b ∨ l + w ≤ m ∨ m + v ≤ l) ∧ 0 < v) = true) :
    Fld.clear ⟨a + x, l, w⟩ ⟨b + x, m, v⟩ := by
  obtain ⟨hf, hg, hv⟩ := of_decide_eq_true h
  exact ⟨hf, hg.imp_left fun hne => off_ne hne, hv⟩

section
variable (h : f.clear g)
include h

theorem Dev.fld_put_clear {v : Nat} : (d.put f v).fld g = d.fld g := Dev.fld_put_other h.1 h.2.1

theorem Dev.bit_put_clear {v : Nat} : (d.put f v).bit g = d.bit g := by
  obtain ⟨hf, hg, hw⟩ := h
  exact Dev.bit_put_other (g := ⟨g.addr, g.lo, 1⟩) hf rfl (hg.imp_right fun hlo => hlo.imp_right (Nat.add_le_add_left hw _).trans)

theorem Dev.fld_putB_clear {v : Bool} : (d.putB f v).fld g = d.fld g := Dev.fld_put_clear h
theorem Dev.bit_putB_clear {v : Bool} : (d.putB f v).bit g = d.bit g := Dev.bit_put_clear h
theorem Dev.fld_bump_clear : (d.bump f).fld g = d.fld g := Dev.fld_put_clear h
theorem Dev.bit_bump_clear : (d.bump f).bit g = d.bit g := Dev.bit_put_clear h

theorem Dev.fld_evtIf_clear {c : Bool} : (d.evtIf c f).fld g = d.fld g := by
  unfold Dev.evtIf; split
  · exact Dev.fld_putB_clear h
  · rfl

theorem Dev.bit_evtIf_clear {c : Bool} : (d.evtIf c f).bit g = d.bit g := by
  unfold Dev.evtIf; split
  · exact Dev.bit_putB_clear h
  · rfl

end

theorem Dev.fld_modLoad {u : LoadSt → LoadSt} : (d.modLoad k u).fld f = d.fld f := (rfl)
theorem Dev.bit_modLoad {u : LoadSt → LoadSt} : (d.modLoad k u).bit f = d.bit f := (rfl)

/-! ### Demand flags and FLOOR (R326) -/

theorem Dev.fld_demand {ev : Fld} {c : Bool} (h : f.clear g) (he : ev.clear g) : (d.demand f ev c).fld g = d.fld g :=
  (Dev.fld_putB_clear h).trans (Dev.fld_evtIf_clear he)

theorem Dev.bit_demand {ev : Fld} {c : Bool} (h : f.clear g) (he : ev.clear g) : (d.demand f ev c).bit g = d.bit g :=
  (Dev.bit_putB_clear h).trans (Dev.bit_evtIf_clear he)

theorem Dev.bit_demand_same {ev : Fld} {c : Bool} (h : f.fits) (hw : f.w = 1) : (d.demand f ev c).bit f = c :=
  Dev.bit_putB_same h hw

theorem Dev.demand_only {ev : Fld} {c : Bool} : OnlyRegs d (d.demand f ev c) := OnlyRegs.evtIf.trans OnlyRegs.put

theorem OnlyRegs.load (h : OnlyRegs d e) : e.load = d.load := (congrArg Dev.load h :)
theorem OnlyRegs.str (h : OnlyRegs d e) : e.str = d.str := (congrArg Dev.str h :)
theorem OnlyRegs.zone (h : OnlyRegs d e) : e.zone = d.zone := (congrArg Dev.zone h :)

theorem Dev.floorShow_only : OnlyRegs d (d.floorShow k) := Dev.demand_only

/-- FLOOR is shown and the fields that it depends on stay. -/
theorem Dev.fld_floorShow (h : (Fd.CHk_LM_STATUS_FLOOR k).clear g) (he : (Fd.CHk_LM_EVT_FLOOR k).clear g) :
    (d.floorShow k).fld g = d.fld g := Dev.fld_demand h he

theorem Dev.bit_floorShow (h : (Fd.CHk_LM_STATUS_FLOOR k).clear g) (he : (Fd.CHk_LM_EVT_FLOOR k).clear g) :
    (d.floorShow k).bit g = d.bit g := Dev.bit_demand h he

theorem Dev.floorShow_floor : (d.floorShow k).bit (Fd.CHk_LM_STATUS_FLOOR k) = true ↔
    d.fld (Fd.CHk_LM_STATUS_GL k) = d.fld (Fd.CHk_LM_PLIM_GMIN k) ∧ (d.bit (Fd.CHk_LM_STATUS_POVER k) = true ∨
      d.bit (Fd.CHk_LM_STATUS_TOVER k) = true ∨ d.bit (Fd.CHk_LM_STATUS_FOVER k) = true) := by
  unfold Dev.floorShow
  rw [Dev.bit_demand_same (fits_of rfl) rfl]
  simp [or_assoc]

/-! ### What the rig reads -/

/-- A field of the words that the load models read and write. -/
def Rig.fld (r : Rig) (f : Fld) : Nat := bits (r.reg f.addr).toNat f.lo f.w

/-- A bit of the words that the load models read and write. -/
def Rig.bit (r : Rig) (f : Fld) : Bool := tbit (r.reg f.addr).toNat f.lo

/-- An address of the words that the load models of string k read. -/
def onRig (k a : Nat) : Prop := 0x8600 + 0x1000 * k ≤ a ∧ a < 0x8628 + 0x1000 * k ∧ a < 0x10000

theorem on_lm (hk : k < 8) (h : 0x8600 ≤ a ∧ a < 0x8628) : onRig k (a + 0x1000 * k) := by unfold onRig; omega

theorem Dev.rig_reg (h : onRig k a) : (d.rig k).reg a = d.reg a := if_pos h
theorem Dev.rig_fld (h : onRig k f.addr) : (d.rig k).fld f = d.fld f := by rw [Rig.fld, Dev.rig_reg h]; rfl
theorem Dev.rig_bit (h : onRig k f.addr) : (d.rig k).bit f = d.bit f := by rw [Rig.bit, Dev.rig_reg h]; rfl

/-! ### Another string's words -/

theorem off_other (h : j ≠ k) (ha : 0x8000 ≤ a ∧ a < 0x9000) : offRig j (a + 0x1000 * k) := by unfold offRig; omega

section
variable (h : j ≠ k)
include h

theorem Dev.rig_modLoad_other {u : LoadSt → LoadSt} : (d.modLoad k u).rig j = d.rig j := by
  have other : vat (d.modLoad k u).load j = vat d.load j := vat_vmod_other h
  simp only [Dev.rig, other]
  rfl

theorem Dev.rig_floorShow_other : (d.floorShow k).rig j = d.rig j :=
  Dev.rig_demand (off_other h (of_decide_eq_true rfl)) (off_other h (of_decide_eq_true rfl))

theorem Dev.rig_powerAvg_other : (d.powerAvg k).rig j = d.rig j := by
  unfold Dev.powerAvg
  dsimp only
  rw [Dev.rig_floorShow_other h, Dev.rig_demand (off_other h (of_decide_eq_true rfl)) (off_other h (of_decide_eq_true rfl)),
    Dev.rig_put (off_other h (of_decide_eq_true rfl)), Dev.rig_modLoad_other h]

theorem Dev.rig_thermal_other : (d.thermal k t).rig j = d.rig j := by
  unfold Dev.thermal
  dsimp only
  rw [Dev.rig_floorShow_other h, Dev.rig_demand (off_other h (of_decide_eq_true rfl)) (off_other h (of_decide_eq_true rfl)),
    Dev.rig_put (off_other h (of_decide_eq_true rfl)), Dev.rig_put (off_other h (of_decide_eq_true rfl)),
    Dev.rig_modLoad_other h]

theorem Dev.rig_demandCounts_other : (d.demandCounts k).rig j = d.rig j := by
  have count (d : Dev) (c : Bool) (f : Fld) (hf : offRig j f.addr) : (if c then d.bump f else d).rig j = d.rig j :=
    Dev.rig_ite (Dev.rig_bump hf) rfl
  unfold Dev.demandCounts
  dsimp only
  rw [Dev.rig_modLoad_other h, count _ _ _ (off_other h (of_decide_eq_true rfl)),
    count _ _ _ (off_other h (of_decide_eq_true rfl)), count _ _ _ (off_other h (of_decide_eq_true rfl))]

end

/-! ### The power average (R323) -/

/-- R323: from `r` to `s` the power average of string k has taken in the product of the precise samples. -/
def PowerTaken (k : Nat) (r s : Rig) : Prop :=
  let q := rsh (s.precise.1 * 2 ^ 7 * (s.precise.2 * 2 ^ 7)) 30
  let pa := sat 40 (r.load.pa + rsh (q - r.load.pa) (r.fld (Fd.CHk_LM_CFG_PSH k)))
  s.load.pa = pa ∧ s.load.pfSum = r.load.pfSum + q ∧
  s.load.pover = decide ((r.fld (Fd.CHk_LM_PLIM_PLIM k) : Int) * 2 ^ 15 < pa) ∧
  s.bit (Fd.CHk_LM_STATUS_POVER k) = s.load.pover ∧ s.fld (Fd.CHk_LM_PA_PA k) = (satU 16 (flsh pa 15)).toNat ∧
  (s.bit (Fd.CHk_LM_STATUS_FLOOR k) = true ↔
    r.fld (Fd.CHk_LM_STATUS_GL k) = r.fld (Fd.CHk_LM_PLIM_GMIN k) ∧ (s.load.pover = true ∨
      r.bit (Fd.CHk_LM_STATUS_TOVER k) = true ∨ r.bit (Fd.CHk_LM_STATUS_FOVER k) = true))

theorem field16_lt {x : Int} : (satU 16 x).toNat % 2 ^ 16 = (satU 16 x).toNat := by
  refine Nat.mod_eq_of_lt ?_
  unfold satU clampI
  split_ifs <;> omega

/-- R323: the load state once the power average has taken in the product of the precise samples. -/
def Dev.powerLoad (d : Dev) (k : Nat) (l : LoadSt) : LoadSt :=
  let q := rsh (s23to30 (d.st k).pv * s23to30 (d.st k).pi) 30
  let m := vat d.load k
  let pa := sat40 (m.pa + rsh (q - m.pa) (d.fld (Fd.CHk_LM_CFG_PSH k)))
  { l with pa := pa, pover := decide (s15to30 (d.fld (Fd.CHk_LM_PLIM_PLIM k)) < pa), pfSum := l.pfSum + q }

theorem Dev.powerAvg_eq : d.powerAvg k =
    ((((d.modLoad k (d.powerLoad k)).put (Fd.CHk_LM_PA_PA k)
      (field16 (flsh (d.powerLoad k (vat d.load k)).pa 15))).demand (Fd.CHk_LM_STATUS_POVER k) (Fd.CHk_LM_EVT_POWER k)
      (d.powerLoad k (vat d.load k)).pover).floorShow k) := (rfl)

theorem Dev.powerAvg_only : OnlyRegs (d.modLoad k (d.powerLoad k)) (d.powerAvg k) :=
  (OnlyRegs.put.trans Dev.demand_only).trans Dev.floorShow_only

theorem Dev.powerAvg_taken (hk : k < 8) : PowerTaken k (d.rig k) ((d.powerAvg k).rig k) := by
  have load : vat (d.powerAvg k).load k = d.powerLoad k (vat d.load k) := by
    rw [Dev.powerAvg_only.load]; exact vat_vmod_same hk
  have precise : ((d.powerAvg k).rig k).precise = (d.st k).precise := congrArg (fun x => (vat x k).precise) Dev.powerAvg_only.str
  have own : ((d.powerAvg k).rig k).load = d.powerLoad k (vat d.load k) := load
  unfold PowerTaken
  rw [precise, own]
  simp (disch := with_unfolding_all exact id (on_lm hk (of_decide_eq_true rfl))) only [Dev.rig_fld, Dev.rig_bit]
  refine ⟨rfl, rfl, rfl, ?_, ?_, ?_⟩ <;> rw [Dev.powerAvg_eq]
  · simp (disch := with_unfolding_all exact id (clear_at rfl)) only [Dev.bit_floorShow]
    exact Dev.bit_demand_same (fits_of rfl) rfl
  · simp (disch := with_unfolding_all exact id (clear_at rfl)) only [Dev.fld_floorShow, Dev.fld_demand]
    exact (Dev.fld_put_same (fits_of rfl)).trans field16_lt
  · rw [Dev.floorShow_floor, Dev.bit_demand_same (fits_of rfl) rfl]
    simp (disch := with_unfolding_all exact id (clear_at rfl)) only [Dev.fld_demand, Dev.bit_demand,
      Dev.fld_put_clear, Dev.bit_put_clear, Dev.fld_modLoad, Dev.bit_modLoad]

/-! ### The counts of a Rack frame (R326) -/

/-- R326: what is counted of a demand. -/
def counted (on : Bool) (n : Nat) : Nat := if on then min 255 (n + 1) else n

/-- R326: a count of a demand that was over. -/
def Dev.countIf (d : Dev) (c : Bool) (f : Fld) : Dev := if c then d.bump f else d

theorem Dev.countIf_load {c : Bool} : (d.countIf c f).load = d.load := by unfold Dev.countIf; split <;> rfl

theorem Dev.fld_countIf {c : Bool} (h : f.clear g) : (d.countIf c f).fld g = d.fld g := by
  unfold Dev.countIf; split
  · exact Dev.fld_bump_clear h
  · rfl

theorem Dev.bit_countIf {c : Bool} (h : f.clear g) : (d.countIf c f).bit g = d.bit g := by
  unfold Dev.countIf; split
  · exact Dev.bit_bump_clear h
  · rfl

theorem Dev.fld_countIf_same {c : Bool} (h : f.fits) (hw : f.w = 8) : (d.countIf c f).fld f = counted c (d.fld f) := by
  unfold Dev.countIf counted; split
  · rw [Dev.fld_bump_same h, hw]; rfl
  · rfl

/-- R326: the demands of a frame are forgotten once they are counted. -/
def LoadSt.unseen (l : LoadSt) : LoadSt := { l with seen := Vector.replicate 3 false }

theorem Dev.demandCounts_eq : d.demandCounts k =
    (((d.countIf (vat (vat d.load k).seen 0) (Fd.CHk_LM_CNT_POWER k)).countIf (vat (vat d.load k).seen 1)
      (Fd.CHk_LM_CNT_THERM k)).countIf (vat (vat d.load k).seen 2) (Fd.CHk_LM_CNT_FLUX k)).modLoad k LoadSt.unseen := (rfl)

theorem Dev.demandCounts_load (hk : k < 8) : vat (d.demandCounts k).load k = (vat d.load k).unseen := by
  rw [Dev.demandCounts_eq]
  simp only [Dev.modLoad_load, Dev.countIf_load]
  exact vat_vmod_same hk

theorem Dev.fld_demandCounts (hp : (Fd.CHk_LM_CNT_POWER k).clear g) (ht : (Fd.CHk_LM_CNT_THERM k).clear g)
    (hf : (Fd.CHk_LM_CNT_FLUX k).clear g) : (d.demandCounts k).fld g = d.fld g := by
  rw [Dev.demandCounts_eq, Dev.fld_modLoad, Dev.fld_countIf hf, Dev.fld_countIf ht, Dev.fld_countIf hp]

theorem Dev.bit_demandCounts (hp : (Fd.CHk_LM_CNT_POWER k).clear g) (ht : (Fd.CHk_LM_CNT_THERM k).clear g)
    (hf : (Fd.CHk_LM_CNT_FLUX k).clear g) : (d.demandCounts k).bit g = d.bit g := by
  rw [Dev.demandCounts_eq, Dev.bit_modLoad, Dev.bit_countIf hf, Dev.bit_countIf ht, Dev.bit_countIf hp]

theorem Dev.demandCounts_shows :
    (d.demandCounts k).fld (Fd.CHk_LM_CNT_POWER k) = counted (vat (vat d.load k).seen 0) (d.fld (Fd.CHk_LM_CNT_POWER k)) ∧
    (d.demandCounts k).fld (Fd.CHk_LM_CNT_THERM k) = counted (vat (vat d.load k).seen 1) (d.fld (Fd.CHk_LM_CNT_THERM k)) ∧
    (d.demandCounts k).fld (Fd.CHk_LM_CNT_FLUX k) = counted (vat (vat d.load k).seen 2) (d.fld (Fd.CHk_LM_CNT_FLUX k)) := by
  rw [Dev.demandCounts_eq]
  simp (disch := with_unfolding_all exact id (clear_at rfl)) only [Dev.fld_modLoad, Dev.fld_countIf]
  rw [Dev.fld_countIf_same (fits_of rfl) rfl, Dev.fld_countIf_same (fits_of rfl) rfl, Dev.fld_countIf_same (fits_of rfl) rfl]
  simp (disch := with_unfolding_all exact id (clear_at rfl)) only [Dev.fld_countIf, and_self]

/-! ### The thermal model (R324) -/

/-- R324: the load state once the thermal model has taken in the power of the frame that ends at t. -/
def Dev.thermalLoad (d : Dev) (k t : Nat) (l : LoadSt) : LoadSt :=
  let m := vat d.load k
  let pf := rsh m.pfSum 10
  let h := max (rsh (pf * (d.fld (Fd.CHk_LM_TH0_KH k) : Int)) 4) 0
  let tc := sat40 (m.tc + rsh (h - (m.tc - m.tm)) (d.fld (Fd.CHk_LM_TH1_CSH k)))
  let tm := sat40 (m.tm + rsh (rsh ((m.tc - m.tm) * (d.fld (Fd.CHk_LM_TH0_KM k) : Int)) 8 - m.tm) (d.fld (Fd.CHk_LM_TH1_MSH k)))
  { l with tc := tc, tm := tm, pfSum := 0, toverOld := l.tover,
           tover := decide ((d.fld (Fd.CHk_LM_TH1_TLIM k) : Int) * 2 ^ 23 < tc), toverAt := t }

theorem Dev.thermal_eq : d.thermal k t =
    ((((d.modLoad k (d.thermalLoad k t)).put (Fd.CHk_LM_TEMP_TC k) (field16 (flsh (d.thermalLoad k t (vat d.load k)).tc 23))).put
      (Fd.CHk_LM_TEMP_TM k) (field16 (flsh (d.thermalLoad k t (vat d.load k)).tm 23))).demand (Fd.CHk_LM_STATUS_TOVER k)
      (Fd.CHk_LM_EVT_THERM k) (d.thermalLoad k t (vat d.load k)).tover).floorShow k := (rfl)

theorem Dev.thermal_only : OnlyRegs (d.modLoad k (d.thermalLoad k t)) (d.thermal k t) :=
  ((OnlyRegs.put.trans OnlyRegs.put).trans Dev.demand_only).trans Dev.floorShow_only

theorem Dev.thermal_load (hk : k < 8) : vat (d.thermal k t).load k = d.thermalLoad k t (vat d.load k) := by
  rw [Dev.thermal_only.load]; exact vat_vmod_same hk

theorem Dev.thermal_shows :
    let l := d.thermalLoad k t (vat d.load k)
    (d.thermal k t).bit (Fd.CHk_LM_STATUS_TOVER k) = l.tover ∧
    (d.thermal k t).fld (Fd.CHk_LM_TEMP_TC k) = field16 (flsh l.tc 23) ∧
    (d.thermal k t).fld (Fd.CHk_LM_TEMP_TM k) = field16 (flsh l.tm 23) ∧
    ((d.thermal k t).bit (Fd.CHk_LM_STATUS_FLOOR k) = true ↔
      d.fld (Fd.CHk_LM_STATUS_GL k) = d.fld (Fd.CHk_LM_PLIM_GMIN k) ∧ (d.bit (Fd.CHk_LM_STATUS_POVER k) = true ∨
        l.tover = true ∨ d.bit (Fd.CHk_LM_STATUS_FOVER k) = true)) := by
  intro l
  rw [Dev.thermal_eq]
  refine ⟨?_, ?_, ?_, ?_⟩
  · simp (disch := with_unfolding_all exact id (clear_at rfl)) only [Dev.bit_floorShow]
    exact Dev.bit_demand_same (fits_of rfl) rfl
  · simp (disch := with_unfolding_all exact id (clear_at rfl)) only [Dev.fld_floorShow, Dev.fld_demand, Dev.fld_put_clear]
    exact (Dev.fld_put_same (fits_of rfl)).trans field16_lt
  · simp (disch := with_unfolding_all exact id (clear_at rfl)) only [Dev.fld_floorShow, Dev.fld_demand]
    exact (Dev.fld_put_same (fits_of rfl)).trans field16_lt
  · rw [Dev.floorShow_floor, Dev.bit_demand_same (fits_of rfl) rfl]
    simp (disch := with_unfolding_all exact id (clear_at rfl)) only [Dev.fld_demand, Dev.bit_demand,
      Dev.fld_put_clear, Dev.bit_put_clear, Dev.fld_modLoad, Dev.bit_modLoad]
    rfl

theorem Dev.fld_thermal (h : (Fd.CHk_LM_TEMP_TC k).clear g) (h' : (Fd.CHk_LM_TEMP_TM k).clear g)
    (ht : (Fd.CHk_LM_STATUS_TOVER k).clear g) (hte : (Fd.CHk_LM_EVT_THERM k).clear g)
    (hf : (Fd.CHk_LM_STATUS_FLOOR k).clear g) (hfe : (Fd.CHk_LM_EVT_FLOOR k).clear g) : (d.thermal k t).fld g = d.fld g := by
  rw [Dev.thermal_eq, Dev.fld_floorShow hf hfe, Dev.fld_demand ht hte, Dev.fld_put_clear h', Dev.fld_put_clear h,
    Dev.fld_modLoad]

/-- R324, R326: from `r` to `s` the demands of the frame that ends at t are counted and its power has gone into the thermal
model of string k. -/
def HeatTaken (k t : Nat) (r s : Rig) : Prop :=
  let l := r.load
  let m := s.load
  let pf := rsh l.pfSum 10
  let heat := max (rsh (pf * r.fld (Fd.CHk_LM_TH0_KH k)) 4) 0
  let tc := sat 40 (l.tc + rsh (heat - (l.tc - l.tm)) (r.fld (Fd.CHk_LM_TH1_CSH k)))
  let tm := sat 40 (l.tm + rsh (rsh ((l.tc - l.tm) * r.fld (Fd.CHk_LM_TH0_KM k)) 8 - l.tm) (r.fld (Fd.CHk_LM_TH1_MSH k)))
  m.tc = tc ∧ m.tm = tm ∧ m.pfSum = 0 ∧ m.toverOld = l.tover ∧ m.toverAt = t ∧
  m.tover = decide ((r.fld (Fd.CHk_LM_TH1_TLIM k) : Int) * 2 ^ 23 < tc) ∧
  s.bit (Fd.CHk_LM_STATUS_TOVER k) = m.tover ∧
  s.fld (Fd.CHk_LM_TEMP_TC k) = (satU 16 (flsh tc 23)).toNat ∧ s.fld (Fd.CHk_LM_TEMP_TM k) = (satU 16 (flsh tm 23)).toNat ∧
  s.fld (Fd.CHk_LM_CNT_POWER k) = counted (vat l.seen 0) (r.fld (Fd.CHk_LM_CNT_POWER k)) ∧
  s.fld (Fd.CHk_LM_CNT_THERM k) = counted (vat l.seen 1) (r.fld (Fd.CHk_LM_CNT_THERM k)) ∧
  s.fld (Fd.CHk_LM_CNT_FLUX k) = counted (vat l.seen 2) (r.fld (Fd.CHk_LM_CNT_FLUX k)) ∧
  m.seen = Vector.replicate 3 false ∧
  (s.bit (Fd.CHk_LM_STATUS_FLOOR k) = true ↔
    r.fld (Fd.CHk_LM_STATUS_GL k) = r.fld (Fd.CHk_LM_PLIM_GMIN k) ∧
      (r.bit (Fd.CHk_LM_STATUS_POVER k) = true ∨ m.tover = true ∨ r.bit (Fd.CHk_LM_STATUS_FOVER k) = true))

theorem Dev.heatTaken (hk : k < 8) : HeatTaken k t (d.rig k) (((d.demandCounts k).thermal k t).rig k) := by
  obtain ⟨hot, cell, magnet, floor⟩ := Dev.thermal_shows (d := d.demandCounts k) (k := k) (t := t)
  obtain ⟨power, therm, flux⟩ := Dev.demandCounts_shows (d := d) (k := k)
  have own : (((d.demandCounts k).thermal k t).rig k).load = (d.demandCounts k).thermalLoad k t (vat d.load k).unseen := by
    rw [← Dev.demandCounts_load hk]
    exact Dev.thermal_load hk
  unfold HeatTaken
  rw [own]
  rw [Dev.demandCounts_load hk] at hot cell magnet floor
  simp (disch := with_unfolding_all exact id (on_lm hk (of_decide_eq_true rfl))) only [Dev.rig_fld, Dev.rig_bit]
  simp (disch := with_unfolding_all exact id (clear_at rfl)) only [Dev.fld_thermal, Dev.fld_demandCounts,
    Dev.bit_demandCounts, Dev.thermalLoad] at hot cell magnet floor ⊢
  rw [hot, cell, magnet, power, therm, flux, floor, Dev.demandCounts_load hk]
  exact ⟨rfl, rfl, trivial, rfl, trivial, rfl, rfl, rfl, rfl, rfl, rfl, rfl, rfl, Iff.rfl⟩

/-! ### The pilot (R334) -/

theorem Dev.rig_pilotAdvance_other (h : j ≠ k) : (d.pilotAdvance k).rig j = d.rig j := Dev.rig_modLoad_other h

/-- R334: the pilot's phase is no part of what the power average takes in. -/
theorem PowerTaken.pilotAdvance {r : Rig} (hk : k < 8) (h : PowerTaken k r (d.rig k)) : PowerTaken k r ((d.pilotAdvance k).rig k) := by
  have load : ((d.pilotAdvance k).rig k).load =
      { (d.rig k).load with theta := ((d.rig k).load.theta + d.fld (Fd.CHk_LM_PDPH_DPH k)) % 2 ^ 32 } := vat_vmod_same hk
  unfold PowerTaken at h ⊢
  rw [load]
  exact h

/-! ### An entry into RUN (R327) -/

/-- R327: power, flux and gain start afresh. -/
def LoadSt.fresh (l : LoadSt) : LoadSt := { l with pa := 0, phi := 0, pover := false, fover := false }

/-- R327: from `r` to `s` power, flux and gain of string k have started afresh. -/
def RigFresh (k : Nat) (r s : Rig) : Prop :=
  s.load = r.load.fresh ∧ s.fld (Fd.CHk_LM_STATUS_GL k) = 32768 ∧ s.bit (Fd.CHk_LM_STATUS_POVER k) = false ∧
    s.bit (Fd.CHk_LM_STATUS_FOVER k) = false ∧ s.fld (Fd.CHk_LM_PA_PA k) = 0

theorem Dev.loadEnterRun_eq : d.loadEnterRun k =
    ((((((d.modLoad k LoadSt.fresh).put (Fd.CHk_LM_STATUS_GL k) 32768).putB (Fd.CHk_LM_STATUS_POVER k) false).putB
      (Fd.CHk_LM_STATUS_FOVER k) false).put (Fd.CHk_LM_PA_PA k) 0).put (Fd.CHk_LM_PA_FLUX k) 0).floorShow k := (rfl)

theorem Dev.loadEnterRun_fresh (hk : k < 8) : RigFresh k (d.rig k) ((d.loadEnterRun k).rig k) := by
  have only : OnlyRegs (d.modLoad k LoadSt.fresh) (d.loadEnterRun k) :=
    ((((OnlyRegs.put.trans OnlyRegs.put).trans OnlyRegs.put).trans OnlyRegs.put).trans OnlyRegs.put).trans Dev.floorShow_only
  have load : ((d.loadEnterRun k).rig k).load = (d.rig k).load.fresh :=
    (congrArg (fun x => vat x k) only.load).trans (vat_vmod_same hk)
  refine ⟨load, ?_⟩
  simp (disch := with_unfolding_all exact id (on_lm hk (of_decide_eq_true rfl))) only [Dev.rig_fld, Dev.rig_bit]
  rw [Dev.loadEnterRun_eq]
  simp (disch := with_unfolding_all exact id (clear_at rfl)) only [Dev.fld_floorShow, Dev.bit_floorShow, Dev.fld_put_clear,
    Dev.bit_put_clear, Dev.fld_putB_clear, Dev.bit_putB_clear]
  exact ⟨Dev.fld_put_same (fits_of rfl), Dev.bit_putB_same (fits_of rfl) rfl, Dev.bit_putB_same (fits_of rfl) rfl,
    Dev.fld_put_same (fits_of rfl)⟩

end Sys2Proof.Machine
end

section
/-! OUTER_LOOP_BOUNDARY and RACK_FRAME_START bring the load models of a live string forward by one step (R323, R324, R326). -/
namespace Sys2Proof.Machine
variable {d e : Dev} {b f j k : Nat} {r r' s : Rig}

theorem Dev.live_of_rig (h : (d.rig k).live = true) (hk : k < 8) : k ∈ d.liveStrs := by
  obtain ⟨hp, hi⟩ := Bool.and_eq_true_iff.1 (h : (d.present k && d.islandOk (islCh k)) = true)
  exact Dev.mem_liveStrs.2 ⟨hk, hp, hi⟩

theorem LiveStr.rig {s : State} (h : LiveStr s k) : (s.dev.rig k).live = true :=
  Bool.and_eq_true_iff.2 ⟨h.2.1, h.2.2⟩

theorem Dev.liveStrs_nodup : d.liveStrs.Nodup := Dev.strs_nodup.filter _

/-! ### A boundary (R323) -/

/-- The power average reads the words and the load state; the precise samples are those it finds. -/
theorem PowerTaken.congr (h : PowerTaken k r s) (hr : r.reg = r'.reg) (hl : r.load = r'.load) : PowerTaken k r' s := by
  unfold PowerTaken Rig.fld Rig.bit at h ⊢
  rw [← hr, ← hl]
  exact h

theorem Dev.rig_takePrecise_other (h : j ≠ k) : (d.takePrecise k).rig j = d.rig j := by
  have other (u : Str → Str) : (d.modStr k u).rig j = d.rig j := by
    have same : (d.modStr k u).st j = d.st j := vat_vmod_other h
    simp only [Dev.rig, same]
    rfl
  exact Dev.rig_ite (other _) (other _)

theorem Dev.rig_takePrecise : ((d.takePrecise k).rig k).reg = (d.rig k).reg ∧ ((d.takePrecise k).rig k).load = (d.rig k).load := by
  unfold Dev.takePrecise
  dsimp only
  split <;> exact ⟨rfl, rfl⟩

theorem Dev.rig_stringBoundary_other (h : j ≠ k) : (d.stringBoundary b k).rig j = d.rig j := by
  unfold Dev.stringBoundary
  dsimp only
  generalize (if d.produced islSieve (b - 2) then (vat d.sieve (8 + k)).fast else (d.st k).fi) = im
  obtain ⟨test, run, parts⟩ := Dev.boundaryStr_eq (d := d.takePrecise k) (k := k) (b := b) (im := im)
  rw [parts, Dev.rig_noteV, Dev.rig_pilotAdvance_other h, Dev.rig_boundaryTail, Dev.rig_powerAvg_other h, Dev.rig_boundaryHead,
    Dev.rig_takePrecise_other h]

theorem Dev.stringBoundary_taken (hk : k < 8) : PowerTaken k (d.rig k) ((d.stringBoundary b k).rig k) := by
  obtain ⟨reg, load⟩ := Dev.rig_takePrecise (d := d) (k := k)
  unfold Dev.stringBoundary
  dsimp only
  generalize (if d.produced islSieve (b - 2) then (vat d.sieve (8 + k)).fast else (d.st k).fi) = im
  obtain ⟨test, run, parts⟩ := Dev.boundaryStr_eq (d := d.takePrecise k) (k := k) (b := b) (im := im)
  have taken := Dev.powerAvg_taken (d := (d.takePrecise k).boundaryHead k b) hk
  rw [Dev.rig_boundaryHead] at taken
  rw [parts, Dev.rig_noteV]
  refine PowerTaken.pilotAdvance hk ?_
  rw [Dev.rig_boundaryTail]
  exact taken.congr reg load

/-- R323: a boundary brings the power average of a live string forward. -/
theorem Dev.outerLoop_taken (hk : k < 8) (h : (d.rig k).live = true) : PowerTaken k (d.rig k) ((d.outerLoop b).rig k) := by
  have base : (d.boundaryBase b).rig k = d.rig k := Dev.rig_boundaryBase
  have lid (e : Dev) (c : Bool) : (if c then e.lidBoundary b else e).rig k = e.rig k := Dev.rig_ite Dev.rig_lidBoundary rfl
  have strings : PowerTaken k (d.rig k)
      (((d.boundaryBase b).each (d.boundaryBase b).liveStrs (fun d k => d.stringBoundary b k)).rig k) :=
    Dev.each_own (P := fun e => e.rig k = d.rig k) (Q := fun e => PowerTaken k (d.rig k) (e.rig k)) _ _
      (fun _ _ _ hj he => (Dev.rig_stringBoundary_other hj.symm).trans he)
      (fun e he => by have own := Dev.stringBoundary_taken (d := e) (b := b) hk; rwa [he] at own)
      (fun e _ _ hj he => by rw [Dev.rig_stringBoundary_other hj.symm]; exact he)
      Dev.liveStrs_nodup (Dev.live_of_rig (by rw [base]; exact h) hk) base
  have out : (d.outerLoop b).rig k =
      ((d.boundaryBase b).each (d.boundaryBase b).liveStrs (fun d k => d.stringBoundary b k)).rig k :=
    (Dev.rig_each (fun _ _ => Dev.rig_modLid) _).trans (lid _ _)
  rw [out]
  exact strings

theorem execOuterLoopBoundary_eq {s : State} (hs : s.env.started = true) (ht : s.env.tick % 64 = 0) (hr : s.dev.aonRuns = true) :
    exec .outerLoopBoundary s = .next { s with dev := s.dev.outerLoop s.env.tick } := by
  show execOuterLoopBoundary s = _
  simp [execOuterLoopBoundary, onDev, hs, ht, hr]

/-! ### A Rack frame start (R324, R326) -/

theorem Dev.rig_stringFrame_other {low : List Nat} (h : j ≠ k) : (d.stringFrame f low k).rig j = d.rig j := by
  unfold Dev.stringFrame
  rw [Dev.rig_thermal_other h, Dev.rig_demandCounts_other h, Dev.rig_phaseFrame]

theorem Dev.stringFrame_taken {low : List Nat} (hk : k < 8) : HeatTaken k f (d.rig k) ((d.stringFrame f low k).rig k) := by
  have taken := Dev.heatTaken (d := d.phaseFrame k f (low.contains k)) (t := f) hk
  rwa [Dev.rig_phaseFrame] at taken

/-- R324, R326: a frame start takes a frame's power and demands into the models of a live string whose island's copy of the
tick number agrees. -/
theorem Dev.frameStart_taken (hk : k < 8) (h : (d.rig k).live = true) (hc : (d.rig k).copied = f) :
    HeatTaken k f (d.rig k) ((d.frameStart f).rig k) := by
  rw [Dev.frameStart_eq]
  generalize (d.frameHead f).frameRefs.enFalls = low
  have head : ((d.frameHead f).frameRefs.framePins f).frameLost.rig k = d.rig k := by
    rw [Dev.rig_frameLost, Dev.rig_framePins, Dev.rig_frameRefs, Dev.frameHead, Dev.rig_rackFrame, Dev.rig_copyChecks hc]
  generalize ((d.frameHead f).frameRefs.framePins f).frameLost = e at head ⊢
  have strings : HeatTaken k f (d.rig k) ((e.each e.liveStrs (fun d k => d.stringFrame f low k)).rig k) :=
    Dev.each_own (P := fun e => e.rig k = d.rig k) (Q := fun e => HeatTaken k f (d.rig k) (e.rig k)) _ _
      (fun _ _ _ hj he => (Dev.rig_stringFrame_other hj.symm).trans he)
      (fun e he => by have own := Dev.stringFrame_taken (d := e) (f := f) (low := low) hk; rwa [he] at own)
      (fun e _ _ hj he => by rw [Dev.rig_stringFrame_other hj.symm]; exact he)
      Dev.liveStrs_nodup (Dev.live_of_rig (by rw [head]; exact h) hk) head
  have tail (x : Dev) (c : Bool) : (if (x.svcFrame.sysRunCheck f).islandOk islLid then (x.svcFrame.sysRunCheck f).lidFrame c
      else x.svcFrame.sysRunCheck f).rig k = x.rig k := by
    have run : (x.svcFrame.sysRunCheck f).rig k = x.rig k := Dev.rig_sysRunCheck.trans Dev.rig_svcFrame
    exact Dev.rig_ite (Dev.rig_lidFrame.trans run) run
  unfold Dev.frameTail
  dsimp only
  rw [tail]
  exact strings

end Sys2Proof.Machine
end

section
/-! RELEASE_TICK starts the load models of every present string (R107, R324). -/
namespace Sys2Proof.Machine
variable {d e : Dev} {a j k n p : Nat} {r s : Rig}

/-! ### Counters, ports and the Sieve -/

/-- An address at whose place in a block no load model's word lies. -/
theorem off_place (h : a % 0x1000 < 0x600 ∨ 0x628 ≤ a % 0x1000) : offRig j a := by unfold offRig; omega

theorem Dev.rig_startMapLoad : d.startMapLoad.rig j = d.rig j := Dev.rig_ite Dev.rig_modPot rfl

theorem Dev.rig_svcClosing : d.svcClosing.rig j = d.rig j := by
  have injections (d : Dev) : (d.each strings8 (fun d k => if (d.st k).ctl.inj.isSome then d.injStop k else d)).rig j = d.rig j :=
    Dev.rig_each (fun _ _ => Dev.rig_ite Dev.rig_injStop rfl) _
  have session (d : Dev) : (if d.bit Fd.SVC_FL_STATUS_SESSION then (d.putB Fd.SVC_FL_STATUS_SESSION false).startMapLoad
      else d).rig j = d.rig j :=
    Dev.rig_ite (Dev.rig_startMapLoad.trans (Dev.rig_putB (off_far (of_decide_eq_true rfl)))) rfl
  have standby (d : Dev) (x : ImgSt) (h : x.cfg = d.img.cfg) : ({ d with img := x } : Dev).rig j = d.rig j := by
    simp only [Dev.rig, Dev.present, h]
    rfl
  unfold Dev.svcClosing
  dsimp only
  refine Dev.rig_ite ?_ rfl
  rw [Dev.rig_evt (off_far (of_decide_eq_true rfl)), Dev.rig_modSvc]
  split
  · exact (standby _ _ rfl).trans ((session _).trans (injections d))
  · exact (session _).trans (injections d)

/-- The event registers hold none of the load models' words. -/
theorem off_evt : ∀ a ∈ (evtRows95 ++ strings8.flatMap evtRowsCh).map (·.evt), offRig j a := by
  have place : ∀ a ∈ (evtRows95 ++ strings8.flatMap evtRowsCh).map (·.evt), a % 0x1000 < 0x600 ∨ 0x628 ≤ a % 0x1000 := by
    decide
  exact fun a ha => off_place (place a ha)

theorem Dev.rig_releasePage : (d.releasePage p).rig j = d.rig j := by
  unfold Dev.releasePage
  simp only [Dev.each, List.foldl_cons, List.foldl_nil]
  simp (disch := with_unfolding_all exact id (off_high (of_decide_eq_true rfl))) only [Dev.rig_setReg]

theorem Dev.rig_releaseCounts : d.releaseCounts.rig j = d.rig j := by
  have events (d : Dev) : (d.each ((evtRows95 ++ strings8.flatMap evtRowsCh).map (·.evt)) (fun d a => d.setReg a 0)).rig j =
      d.rig j := Dev.each_keeps_mem (P := fun e => e.rig j = d.rig j) _ _
    (fun _ _ ha he => (Dev.rig_setReg (off_evt _ ha)).trans he) rfl
  have unlocked (d : Dev) : ({ d with lock := default } : Dev).rig j = d.rig j := rfl
  unfold Dev.releaseCounts
  dsimp only
  rw [Dev.rig_setReg (off_low (of_decide_eq_true rfl)), Dev.rig_each (fun _ _ => Dev.rig_releasePage), events, Dev.rig_modSvc,
    unlocked, Dev.rig_svcClosing]

/-- The registers of the ports lie below the strings. -/
theorem off_port (hn : n < 8) (h : a < 0x6000) : offRig j (a + 0x400 * n) := off_low (by omega)

theorem Dev.rig_takeSet (hn : n < 4) : (d.takeSet n).rig j = d.rig j := by
  have sources (d : Dev) : ((upTo 32).foldl (fun d i => d.setReg (Reg.TDMn_LIVE_TXSRCj n i) (d.reg (Reg.TDMn_TXSRCj n i))) d).rig j =
      d.rig j := by
    have source (i) (hi : i ∈ upTo 32) (e : Dev) (w : Word) : (e.setReg (Reg.TDMn_LIVE_TXSRCj n i) w).rig j = e.rig j :=
      Dev.rig_setReg (off_low (by have := mem_upTo.1 hi; unfold Reg.TDMn_LIVE_TXSRCj; omega))
    generalize upTo 32 = l at source
    exact Dev.each_keeps_mem (P := fun e => e.rig j = d.rig j) l d (fun e i hi he => (source i hi e _).trans he) rfl
  have small : n < 8 := by omega
  unfold Dev.takeSet
  rw [Dev.rig_put (off_port small (of_decide_eq_true rfl)), sources]
  simp (disch := with_unfolding_all exact id (off_port small (of_decide_eq_true rfl))) only [Dev.rig_setReg]

theorem Dev.rig_releasePort (hn : n < 6) : (d.releasePort n).rig j = d.rig j := by
  have set : (if decide (n < 4) && d.portUsed n then d.takeSet n else d).rig j = d.rig j := by
    split
    next h => exact Dev.rig_takeSet (of_decide_eq_true (Bool.and_eq_true_iff.1 h).1)
    next => rfl
  have accept (d : Dev) : (d.putB (fdAccept n) true).rig j = d.rig j := by
    refine Dev.rig_putB (off_low ?_)
    unfold fdAccept
    split
    · show 0x3014 + 0x400 * n < 0x8000; omega
    · show 0x4004 + 0x400 * (n - 4) < 0x8000; omega
  unfold Dev.releasePort
  rw [Dev.rig_putB (off_conv hn (of_decide_eq_true rfl))]
  exact (Dev.rig_ite (accept _) rfl).trans set

theorem Dev.rig_groupDelay : d.groupDelay.rig j = d.rig j :=
  (Dev.rig_put (off_low (of_decide_eq_true rfl))).trans (Dev.rig_put (off_low (of_decide_eq_true rfl)))

/-! ### The strings (R107, R148, R154, R324) -/

/-- The audio path's registers of a zone lie below the strings. -/
theorem off_zone (hk : k < 8) (h : a < 0x7000) : offRig j (a + 4 * k) := off_low (by omega)

/-- R324: the load models of string k start from their settings. -/
def RigStarted (k : Nat) (r s : Rig) : Prop :=
  s.load.tc = r.fld (Fd.CHk_LM_TH2_TC0 k) * 2 ^ 23 ∧ s.load.tm = r.fld (Fd.CHk_LM_TH2_TM0 k) * 2 ^ 23 ∧
    s.fld (Fd.CHk_LM_STATUS_GL k) = 32768

/-- R107, R191: the audio path and the banks of string k start. -/
def Dev.releasePath (d : Dev) (k : Nat) : Dev :=
  ((d.releaseZone k).put (Fd.FIR_BANKk_ACTIVE k) (d.fld (Fd.FIR_REQk_TARGET k))).put (Fd.CHk_CL_STATUS_ACTIVE k)
    (d.fld (Fd.CHk_OL_SEL_TARGET k))

/-- R107, R324: the load models of string k start. -/
def Dev.releaseLoad (d : Dev) (k : Nat) : Dev :=
  let tc := d.fld (Fd.CHk_LM_TH2_TC0 k)
  let tm := d.fld (Fd.CHk_LM_TH2_TM0 k)
  (((d.modLoad k (fun l => { l with tc := tc * 2 ^ 23, tm := tm * 2 ^ 23 })).put (Fd.CHk_LM_TEMP_TC k) tc).put
    (Fd.CHk_LM_TEMP_TM k) tm).put (Fd.CHk_LM_STATUS_GL k) 32768

/-- R341, R99: the supervision and the first phase of string k start. -/
def Dev.releasePhase (d : Dev) (k : Nat) : Dev :=
  let d := (d.supModes k).each positions (fun d p => d.modCell k p (fun c => { c with dwellFrom := -65535 }))
  if d.islandOk (islCh k) then d.enterEnum k 0 else if d.lostDomain k then d.startFail k else d

theorem Dev.releaseStr_parts : d.releaseStr k = ((d.releasePath k).releaseLoad k).releasePhase k := (rfl)

theorem Dev.rig_releasePath (hk : k < 8) : (d.releasePath k).rig j = d.rig j := by
  unfold Dev.releasePath Dev.releaseZone
  dsimp only
  rw [Dev.rig_put (off_ch (of_decide_eq_true rfl)), Dev.rig_put (off_zone hk (of_decide_eq_true rfl)),
    Dev.rig_put (off_zone hk (of_decide_eq_true rfl)), Dev.rig_modZone]

theorem Dev.rig_releasePhase : (d.releasePhase k).rig j = d.rig j := by
  have dwell (d : Dev) : (d.each positions (fun d p => d.modCell k p (fun c => { c with dwellFrom := -65535 }))).rig j = d.rig j :=
    Dev.rig_each (fun _ _ => Dev.rig_modCell) _
  have modes : (d.supModes k).rig j = d.rig j :=
    (Dev.rig_putB (off_high (of_decide_eq_true rfl))).trans (Dev.rig_putB (off_high (of_decide_eq_true rfl)))
  refine Eq.trans ?_ ((dwell _).trans modes)
  exact Dev.rig_ite Dev.rig_enterEnum (Dev.rig_ite Dev.rig_startFail rfl)

theorem Dev.rig_releaseLoad_other (h : j ≠ k) : (d.releaseLoad k).rig j = d.rig j := by
  unfold Dev.releaseLoad
  dsimp only
  rw [Dev.rig_put (off_other h (of_decide_eq_true rfl)), Dev.rig_put (off_other h (of_decide_eq_true rfl)),
    Dev.rig_put (off_other h (of_decide_eq_true rfl)), Dev.rig_modLoad_other h]

theorem Dev.releaseLoad_started (hk : k < 8) : RigStarted k (d.rig k) ((d.releaseLoad k).rig k) := by
  have load : ((d.releaseLoad k).rig k).load = { vat d.load k with
      tc := d.fld (Fd.CHk_LM_TH2_TC0 k) * 2 ^ 23, tm := d.fld (Fd.CHk_LM_TH2_TM0 k) * 2 ^ 23 } := vat_vmod_same hk
  unfold RigStarted
  rw [load]
  simp (disch := with_unfolding_all exact id (on_lm hk (of_decide_eq_true rfl))) only [Dev.rig_fld]
  exact ⟨trivial, trivial, Dev.fld_put_same (fits_of rfl)⟩

theorem Dev.rig_releaseStr_other (hk : k < 8) (h : j ≠ k) : (d.releaseStr k).rig j = d.rig j := by
  rw [Dev.releaseStr_parts, Dev.rig_releasePhase, Dev.rig_releaseLoad_other h, Dev.rig_releasePath hk]

theorem Dev.releaseStr_started (hk : k < 8) : RigStarted k (d.rig k) ((d.releaseStr k).rig k) := by
  have started := Dev.releaseLoad_started (d := d.releasePath k) hk
  rw [Dev.rig_releasePath hk] at started
  rwa [Dev.releaseStr_parts, Dev.rig_releasePhase]

/-! ### The release (R75) -/

/-- R48: the islands' copies of the tick number are 0. -/
def Dev.zeroCopies (d : Dev) : Dev := { d with pwr := { d.pwr with tickCopy := Vector.replicate 15 0 } }

/-- R75, R107: what the release does before the strings start. -/
def Dev.releaseBase (d : Dev) : Dev := (d.releaseCounts.zeroCopies.each ports6 Dev.releasePort).groupDelay

theorem Dev.release_eq : d.release =
    let x := (((d.releaseBase.each d.releaseBase.strs Dev.releaseStr).startMapLoad.put Fd.SYS_STATE_STATE 1).rackFrame 0).sysRunCheck 0
    if x.islandOk islLid then x.formConditions else x := (rfl)

theorem Dev.zeroCopies_reg : (d.zeroCopies.rig k).reg = (d.rig k).reg := (rfl)

theorem Dev.releaseBase_reg : (d.releaseBase.rig k).reg = (d.rig k).reg := by
  have ports (d : Dev) : (d.each ports6 Dev.releasePort).rig k = d.rig k :=
    Dev.each_keeps_mem (P := fun e => e.rig k = d.rig k) _ _ (fun _ _ hn he => (Dev.rig_releasePort (ports6_lt hn)).trans he)
      rfl
  rw [Dev.releaseBase, Dev.rig_groupDelay, ports, Dev.zeroCopies_reg, Dev.rig_releaseCounts]

theorem Dev.releaseBase_strs : d.releaseBase.strs = d.strs := by
  refine Dev.strs_of_footing ?_
  unfold Dev.releaseBase Dev.groupDelay
  rw [Dev.footing_put, Dev.footing_put, Dev.each_same Dev.footing (fun _ _ => Dev.footing_releasePort), Dev.zeroCopies,
    Dev.footing_tickCopy, Dev.footing_releaseCounts]

/-- R324: at the release the load models of a present string start from their settings. -/
theorem Dev.release_started (hk : k < 8) (hp : d.present k = true) : RigStarted k (d.rig k) (d.release.rig k) := by
  have strings : RigStarted k (d.releaseBase.rig k) ((d.releaseBase.each d.releaseBase.strs Dev.releaseStr).rig k) :=
    Dev.each_own (P := fun e => e.rig k = d.releaseBase.rig k) (Q := fun e => RigStarted k (d.releaseBase.rig k) (e.rig k)) _ _
      (fun _ i hi hki he => (Dev.rig_releaseStr_other (Dev.mem_strs.1 hi).1 hki.symm).trans he)
      (fun e he => by have own := Dev.releaseStr_started (d := e) hk; rwa [he] at own)
      (fun e i hi hki he => by rw [Dev.rig_releaseStr_other (Dev.mem_strs.1 hi).1 hki.symm]; exact he)
      Dev.strs_nodup (by rw [Dev.releaseBase_strs]; exact Dev.mem_strs.2 ⟨hk, hp⟩) rfl
  have after (x : Dev) : (((x.startMapLoad.put Fd.SYS_STATE_STATE 1).rackFrame 0).sysRunCheck 0).rig k = x.rig k := by
    rw [Dev.rig_sysRunCheck, Dev.rig_rackFrame, Dev.rig_put (off_low (of_decide_eq_true rfl)), Dev.rig_startMapLoad]
  have release : d.release.rig k = (d.releaseBase.each d.releaseBase.strs Dev.releaseStr).rig k := by
    rw [Dev.release_eq]
    exact Dev.rig_ite (Dev.rig_formConditions.trans (after _)) (after _)
  rw [release]
  unfold RigStarted Rig.fld at strings ⊢
  rwa [Dev.releaseBase_reg] at strings

end Sys2Proof.Machine
end

section
/-! ARM_COMPLETE into RUN: power, flux and gain start afresh (R327). -/
namespace Sys2Proof.Machine
variable {d : Dev} {j k f t : Nat}

theorem Dev.rig_runFresh : (d.runFresh k f).rig j = d.rig j := by
  have cells (d : Dev) (u : Dev → Nat → CellC → CellC) : (d.each positions (fun d p =>
      (d.modCell k p (u d p)).put (Fd.CHk_WH_FAVGp_FAVG k p) 0)).rig j = d.rig j :=
    Dev.each_keeps_mem (P := fun e => e.rig j = d.rig j) _ _ (fun _ _ hp he =>
      ((Dev.rig_put (off_cell (lt_of_mem_positions hp) (of_decide_eq_true rfl))).trans Dev.rig_modCell).trans he) rfl
  unfold Dev.runFresh
  dsimp only
  rw [Dev.rig_modPr, Dev.rig_put (off_ch (of_decide_eq_true rfl)), Dev.rig_modCtl, Dev.rig_modWh,
    Dev.rig_put (off_ch (of_decide_eq_true rfl)), cells]

theorem Dev.rig_morEnterRun : (d.morEnterRun k).rig j = d.rig j := by
  unfold Dev.morEnterRun
  dsimp only
  split_ifs <;> simp only [Dev.rig_morSet, Dev.rig_modMor, Dev.rig_morClear]

theorem Dev.rig_placeInRun : (d.placeInRun k f).rig j = d.rig j := by
  unfold Dev.placeInRun
  rw [Dev.rig_evt (off_low (of_decide_eq_true rfl)), Dev.rig_put (off_ch (of_decide_eq_true rfl)), Dev.rig_resetZf,
    Dev.rig_runFresh, Dev.rig_setPhase]

theorem Dev.rig_settled : (d.settled t).rig j = d.rig j := by
  rcases Dev.settled_cases (d := d) (t := t) with h | h <;> rw [h]
  · exact Dev.rig_sysRunCheck
  · exact Dev.rig_formConditions.trans Dev.rig_sysRunCheck

theorem Dev.releaseRun_fresh (hk : k < 8) : RigFresh k (d.rig k) ((d.releaseRun k f).rig k) := by
  unfold Dev.releaseRun
  rw [Dev.rig_modPr, Dev.rig_prPhase, Dev.rig_putB (off_ch (of_decide_eq_true rfl)), Dev.rig_morEnterRun]
  exact Dev.loadEnterRun_fresh hk

/-- R327: a string that ends ARMED with cells enough enters RUN with its load models afresh. -/
theorem Dev.armComplete_fresh (hk : k < 8) (hp : d.phase k = phArmed) (hf : d.fld Fd.SYS_START0_ARM_FRAMES ≤ (d.st k).pr.frames)
    (hl : inFrameBefore f (d.st k).fb.lostAt = false) (hs : (d.st k).pr.stop = false)
    (hn : d.fld (Fd.CHk_WH_CFG_NMIN k) ≤ (d.formRoles k).nact k) :
    RigFresh k (d.rig k) (((d.armComplete k f).settled t).rig k) := by
  have roles : (((d.formRoles k).headroom k true).1).rig k = d.rig k := Dev.rig_headroom.trans Dev.rig_modWh
  have fresh := Dev.releaseRun_fresh (d := (((d.formRoles k).headroom k true).1).placeInRun k f) (f := f) hk
  rw [Dev.rig_placeInRun, roles] at fresh
  rw [Dev.rig_settled, Dev.armComplete_eq hp hf, if_neg (by simp [hl]), if_neg (by simp [hs]), Dev.enterRun_release,
    if_neg (Nat.not_lt.2 hn)]
  exact fresh

end Sys2Proof.Machine
end

section
/-! What stage 7 of a string stands on beside the bench (R154, R310, R322): its block, the words of SYS, its load state, its
state, and of its zone the gain and the sample before and after it. The rest of a sample boundary leaves it alone. -/
namespace Sys2Proof.Machine
variable {d e : Dev} {n g j k m s a b : Nat} {f : Fld} {l : List AFrame}

/-- What of a zone stage 7 forms: the equalised sample, the gain and the sample after it. -/
def ZoneSt.front (z : ZoneSt) : Int × Nat × Nat × Nat × Int := (z.eq, z.gFrom, z.gTo, z.gPos, z.post)

/-- What stage 7 of a string reads and forms beside the bench. -/
structure Seat where
  reg : Nat → Word
  load : LoadSt
  str : Str
  front : Int × Nat × Nat × Nat × Int

/-- The seat of string j. -/
def Dev.seat (d : Dev) (j : Nat) : Seat :=
  ⟨fun a => if a < 0x1000 ∨ 0x8000 + 0x1000 * j ≤ a ∧ a < 0x9000 + 0x1000 * j ∧ a < 0x10000 then d.reg a else 0,
    vat d.load j, d.st j, (d.zone1 j).front⟩

/-- A register that is neither of SYS nor of string j. -/
def offSeat (j a : Nat) : Prop := 0x1000 ≤ a ∧ (a < 0x8000 + 0x1000 * j ∨ 0x9000 + 0x1000 * j ≤ a ∨ 0x10000 ≤ a)

/-! ### Registers -/

theorem seat_mid (h : 0x1000 ≤ a ∧ a < 0x8000) : offSeat j a := by unfold offSeat; omega
theorem seat_far (h : 0x10000 ≤ a) : offSeat j a := by unfold offSeat; omega

theorem seat_other (h : j ≠ k) (ha : 0x8000 ≤ a ∧ a < 0x9000) : offSeat j (a + 0x1000 * k) := by unfold offSeat; omega

theorem seat_port {c : Nat} (hn : n < 6) (hc : 0x3000 < c ∧ c < 0x3400) : offSeat j (c + 0x400 * n) := seat_mid (by omega)

theorem seat_conv {c : Nat} (hn : n < 6) (hc : 0x5100 ≤ c ∧ c < 0x5110) : offSeat j (c + 0x10 * n) := seat_mid (by omega)

theorem seat_zone (hk : k < 8) (h : 0x1000 ≤ a ∧ a < 0x7000) : offSeat j (a + 4 * k) := seat_mid (by omega)

theorem Dev.seat_setReg {v : Word} (h : offSeat j a) : (d.setReg a v).seat j = d.seat j := by
  have regs : (fun b => if b < 0x1000 ∨ 0x8000 + 0x1000 * j ≤ b ∧ b < 0x9000 + 0x1000 * j ∧ b < 0x10000 then
      (d.setReg a v).reg b else 0) =
      fun b => if b < 0x1000 ∨ 0x8000 + 0x1000 * j ≤ b ∧ b < 0x9000 + 0x1000 * j ∧ b < 0x10000 then d.reg b else 0 := by
    funext b
    split
    · exact Dev.reg_setReg_other (by unfold offSeat at h; omega)
    · rfl
  simp only [Dev.seat, regs]
  rfl

theorem Dev.seat_put {v : Nat} (h : offSeat j f.addr) : (d.put f v).seat j = d.seat j := Dev.seat_setReg h
theorem Dev.seat_putB {v : Bool} (h : offSeat j f.addr) : (d.putB f v).seat j = d.seat j := Dev.seat_put h
theorem Dev.seat_putI {v : Int} (h : offSeat j f.addr) : (d.putI f v).seat j = d.seat j := Dev.seat_put h
theorem Dev.seat_bump (h : offSeat j f.addr) : (d.bump f).seat j = d.seat j := Dev.seat_put h
theorem Dev.seat_add {v : Nat} (h : offSeat j f.addr) : (d.add f v).seat j = d.seat j := Dev.seat_put h
theorem Dev.seat_evt (h : offSeat j f.addr) : (d.evt f).seat j = d.seat j := Dev.seat_put h
theorem Dev.seat_evtIf {c : Bool} (h : offSeat j f.addr) : (d.evtIf c f).seat j = d.seat j := by
  unfold Dev.evtIf; split
  · exact Dev.seat_evt h
  · rfl

theorem Dev.seat_ite {c : Prop} [Decidable c] {x y : Dev} {r : Seat} (hx : x.seat j = r) (hy : y.seat j = r) :
    (if c then x else y).seat j = r := by
  split
  · exact hx
  · exact hy

/-! ### Parts beside the seat -/

theorem Dev.seat_modPot {u : PotSt → PotSt} : (d.modPot u).seat j = d.seat j := (rfl)
theorem Dev.seat_modConv {u : ConvSt → ConvSt} : (d.modConv n u).seat j = d.seat j := (rfl)
theorem Dev.seat_modPort {u : PortSt → PortSt} : (d.modPort n u).seat j = d.seat j := (rfl)
theorem Dev.seat_modSieve {u : SieveIn → SieveIn} : (d.modSieve n u).seat j = d.seat j := (rfl)
theorem Dev.seat_align {x : AlignSt} : ({ d with align := x } : Dev).seat j = d.seat j := (rfl)
theorem Dev.seat_fresh : d.fresh.2.seat j = d.seat j := (rfl)
theorem Dev.seat_dstore {x : List (Nat × Int)} : ({ d with dstore := x } : Dev).seat j = d.seat j := (rfl)

theorem Dev.seat_modZone {u : ZoneSt → ZoneSt} (h : (u (d.zone1 k)).front = (d.zone1 k).front) :
    (d.modZone k u).seat j = d.seat j := by
  have front : ((d.modZone k u).zone1 j).front = (d.zone1 j).front := vat_vmod_same_part ZoneSt.front h
  simp only [Dev.seat, front]
  rfl

/-- What a fold of operations that keep the seat keeps. -/
theorem Dev.seat_foldl {β : Type} {u : Dev → β → Dev} (l : List β) (d : Dev)
    (h : ∀ d, ∀ x ∈ l, (u d x).seat j = d.seat j) : (l.foldl u d).seat j = d.seat j := by
  induction l generalizing d with
  | nil => rfl
  | cons x l ih =>
    exact (ih (u d x) fun d y hy => h d y (List.mem_cons_of_mem _ hy)).trans (h d x List.mem_cons_self)

theorem Dev.seat_histWrite {num : Int} : (d.histWrite n num).seat j = d.seat j := by
  unfold Dev.histWrite Dev.eccWriteRange; dsimp only; split <;> rfl

/-! ### The Sieve and the Stockpot -/

theorem Dev.seat_countSat {x y : Int} (h : offSeat j f.addr) : (d.countSat f x y).seat j = d.seat j :=
  Dev.seat_ite rfl ((Dev.seat_evt (seat_mid (of_decide_eq_true rfl))).trans (Dev.seat_bump h))

theorem Dev.seat_sieveMonitor : (d.sieveMonitor s).seat j = d.seat j := by
  unfold Dev.sieveMonitor
  lift_lets
  extract_lets p h e1 e2
  have taken : e1.seat j = d.seat j := Dev.seat_foldl _ _ fun _ _ _ => Dev.seat_modSieve
  have produced : e2.seat j = d.seat j := (Dev.seat_foldl _ _ fun _ _ _ =>
    (Dev.seat_countSat (seat_mid (of_decide_eq_true rfl))).trans Dev.seat_modSieve).trans taken
  exact Dev.seat_ite (Dev.seat_ite (((Dev.seat_evt (seat_mid (of_decide_eq_true rfl))).trans
    (Dev.seat_putB (seat_mid (of_decide_eq_true rfl)))).trans produced) produced) taken

theorem Dev.seat_potPlayOne : d.potPlayOne.seat j = d.seat j :=
  Dev.seat_ite Dev.seat_modPot ((Dev.seat_put (seat_far (of_decide_eq_true rfl))).trans
    ((Dev.seat_put (seat_far (of_decide_eq_true rfl))).trans Dev.seat_modPot))

theorem Dev.seat_potRead : d.potRead.seat j = d.seat j := Dev.seat_ite Dev.seat_modPot rfl

theorem Dev.seat_potBoundary : d.potBoundary.seat j = d.seat j := by
  unfold Dev.potBoundary
  dsimp only
  split_ifs <;> simp only [Dev.seat_potRead, Dev.seat_potPlayOne, Dev.seat_modPot]
  exact (Dev.seat_evt (seat_far (of_decide_eq_true rfl))).trans (Dev.seat_bump (seat_far (of_decide_eq_true rfl)))

/-! ### Reads of the FIFOs and converters -/

section
variable (hn : n < 6)
include hn

theorem Dev.seat_setFifo : (d.setFifo n l).seat j = d.seat j := by
  unfold Dev.setFifo
  dsimp only
  split
  · exact Dev.seat_put (seat_port hn (of_decide_eq_true rfl))
  · rfl

theorem Dev.seat_underflow : (d.underflow n).seat j = d.seat j := by
  unfold Dev.underflow
  split
  · exact (Dev.seat_evt (seat_port hn (of_decide_eq_true rfl))).trans
      (Dev.seat_bump (seat_port hn (of_decide_eq_true rfl)))
  · rfl

theorem Dev.seat_showConv : (d.showConv n).seat j = d.seat j := by
  unfold Dev.showConv
  dsimp only
  rw [Dev.seat_putB (seat_conv hn (of_decide_eq_true rfl)), Dev.seat_putB (seat_conv hn (of_decide_eq_true rfl)),
    Dev.seat_putB (seat_conv hn (of_decide_eq_true rfl)), Dev.seat_putI (seat_conv hn (of_decide_eq_true rfl)),
    Dev.seat_putI (seat_conv hn (of_decide_eq_true rfl))]

omit hn in
theorem Dev.seat_readMember {x : Option (List Int)} : (d.readMember n x).seat j = d.seat j := by
  have under : offSeat j (fdUnder n).addr := by
    unfold fdUnder; split <;> exact seat_mid (of_decide_eq_true rfl)
  unfold Dev.readMember
  dsimp only
  split
  · rw [Dev.seat_evt (seat_mid (of_decide_eq_true rfl)), Dev.seat_bump under, Dev.seat_modConv]
  · rfl

theorem Dev.seat_convMember {coefs : List Int} {x y : Int} : (d.convMember n coefs x y).seat j = d.seat j := by
  have underflow (d : Dev) (c : Bool) : (if c then d.underflow n else d).seat j = d.seat j := by
    split
    · exact Dev.seat_underflow hn
    · rfl
  unfold Dev.convMember
  dsimp only
  rw [Dev.seat_modConv, Dev.seat_readMember, underflow, Dev.seat_setFifo hn,
    Dev.seat_foldl _ _ fun d f _ => Dev.seat_histWrite, Dev.seat_modConv]

end

theorem Dev.seat_convBoundary (hg : g < 6) : (d.convBoundary g s).seat j = d.seat j := by
  unfold Dev.convBoundary
  dsimp only
  split
  · exact Dev.seat_foldl _ _ fun _ _ _ => rfl
  · rw [Dev.seat_showConv hg, Dev.seat_modConv]
    refine (Dev.seat_foldl _ _ fun d n hn => Dev.seat_convMember (ports6_lt (List.mem_filter.1 hn).1)).trans ?_
    rfl

/-- A member's read, and what the reference's own read notes. -/
theorem Dev.seat_member {x : Option (List Int)} (hn : n < 6) {c : Bool} {v : AlignSt} :
    ((if c then { (d.setFifo n l).readMember n x with align := v } else (d.setFifo n l).readMember n x).modConv n
      (fun c => { c with out := c.lastOut })).seat j = d.seat j := by
  have read : ((d.setFifo n l).readMember n x).seat j = d.seat j := Dev.seat_readMember.trans (Dev.seat_setFifo hn)
  split <;> exact read

theorem Dev.seat_readReference : (d.readReference s).seat j = d.seat j := by
  have under (d : Dev) (c : Bool) (n : Nat) (hn : n < 6) : (if c then d.underflow n else d).seat j = d.seat j := by
    split
    · exact Dev.seat_underflow hn
    · rfl
  unfold Dev.readReference
  lift_lets
  extract_lets ref target now
  clear_value now
  split
  · rfl
  · cases now with
    | none => rfl
    | some r =>
      refine Dev.seat_align.trans (Dev.seat_foldl _ _ fun d n hn => ?_)
      have h6 := ports6_lt (List.mem_filter.1 hn).1
      dsimp only
      split
      · split
        · exact (Dev.seat_member h6).trans (under _ _ _ h6)
        · exact (Dev.seat_member h6).trans (under _ _ _ h6)
      · exact (Dev.seat_member h6).trans (under _ _ _ h6)

/-! ### Transmit ports -/

theorem Dev.seat_takeSet (hn : n < 6) : (d.takeSet n).seat j = d.seat j := by
  have src (d : Dev) (i : Nat) (hi : i < 32) :
      (d.setReg (Reg.TDMn_LIVE_TXSRCj n i) (d.reg (Reg.TDMn_TXSRCj n i))).seat j = d.seat j :=
    Dev.seat_setReg (seat_mid (by unfold Reg.TDMn_LIVE_TXSRCj; omega))
  unfold Dev.takeSet
  dsimp only
  rw [Dev.seat_put (seat_port hn (of_decide_eq_true rfl)), Dev.seat_foldl _ _ fun d i hi => src d i (mem_upTo.1 hi),
    Dev.seat_setReg (a := Reg.TDMn_LIVE_MASK n) (seat_port hn (of_decide_eq_true rfl)),
    Dev.seat_setReg (a := Reg.TDMn_LIVE_FMT n) (seat_port hn (of_decide_eq_true rfl))]

theorem Dev.seat_syncSet (hn : n < 6) : (d.syncSet n s).seat j = d.seat j := by
  have taken (d : Dev) : ((((d.takeSet n).modPort n (fun p => { p with pendTick := none })).putB
      (Fd.TDMn_STATUS_UPDATE_PENDING n) false).evt (Fd.TDMn_EVT_UPDATE n)).seat j = d.seat j := by
    rw [Dev.seat_evt (seat_port hn (of_decide_eq_true rfl)), Dev.seat_putB (seat_port hn (of_decide_eq_true rfl)),
      Dev.seat_modPort, Dev.seat_takeSet hn]
  unfold Dev.syncSet
  dsimp only
  split
  · rfl
  · split
    · split
      · exact (taken _).trans Dev.seat_fresh
      · exact Dev.seat_fresh
    · exact taken d

theorem Dev.seat_sendFrameTdm {src : List Int} : (d.sendFrameTdm n src).seat j = d.seat j := rfl
theorem Dev.seat_sendSync : (d.sendSync n).seat j = d.seat j := rfl

theorem Dev.seat_transmitBoundary : (d.transmitBoundary s).seat j = d.seat j := by
  unfold Dev.transmitBoundary
  refine Dev.seat_foldl _ _ fun d n hn => ?_
  have h6 : n < 6 := ports6_lt (by revert hn; simp [ports6]; omega)
  dsimp only
  split
  · rw [Dev.seat_sendSync, Dev.seat_sendFrameTdm, Dev.seat_syncSet h6]
  · split
    · rw [Dev.seat_histWrite, Dev.seat_modConv]
    · rfl

end Sys2Proof.Machine
end

section
/-! The stages after stage 7 leave the seats of the strings: AUDIO, the delay store and the equaliser (R146 to R164). -/
namespace Sys2Proof.Machine
variable {d e : Dev} {n g j k m s a b : Nat} {f : Fld}

/-! ### AUDIO -/

theorem Dev.seat_feed : (d.feed k s).seat j = d.seat j := Dev.seat_modZone rfl

theorem Dev.seat_sourced : (d.sourced s).seat j = d.seat j :=
  (Dev.seat_foldl _ _ fun _ _ hn => Dev.seat_convBoundary (ports6_lt (List.mem_filter.1 hn).1)).trans Dev.seat_readReference

theorem Dev.seat_noteMonitor : d.noteMonitor.seat j = d.seat j := (rfl)

theorem Dev.seat_audioStage : (d.audioStage s).seat j = d.seat j :=
  Dev.seat_ite (Dev.seat_transmitBoundary.trans (Dev.seat_noteMonitor.trans
      ((Dev.seat_foldl _ _ fun _ _ _ => Dev.seat_feed).trans Dev.seat_sourced)))
    (Dev.seat_foldl _ _ fun _ _ _ => Dev.seat_modZone rfl)

/-! ### The delay store -/

theorem Dev.seat_delaySet (hk : k < 8) : (d.delaySet k s).seat j = d.seat j := by
  have shown (d : Dev) (f : Fld) (h : f.addr = Reg.ROUTE_DLIVEk k) (b : Bool) : (d.putB f b).seat j = d.seat j :=
    Dev.seat_putB (h ▸ seat_zone hk (of_decide_eq_true rfl))
  unfold Dev.delaySet
  lift_lets
  extract_lets want z e z' e'
  have noted : e.seat j = d.seat j := Dev.seat_ite rfl ((shown _ _ rfl _).trans (Dev.seat_modZone rfl))
  refine Dev.seat_ite ((Dev.seat_modZone rfl).trans noted) ?_
  split
  · exact noted
  · exact (Dev.seat_ite (Dev.seat_modZone rfl) ((shown _ _ rfl _).trans (Dev.seat_modZone rfl))).trans
      ((shown e _ rfl false).trans noted)

theorem Dev.seat_dsRead : (d.dsRead m a).1.seat j = d.seat j := by
  have corr : (d.bump Fd.ROUTE_DS_ECC_CORR).seat j = d.seat j := Dev.seat_bump (seat_mid (of_decide_eq_true rfl))
  have uncorr : ((d.bump Fd.ROUTE_DS_ECC_UNCORR).evt Fd.ROUTE_EVT_DS_ECC).seat j = d.seat j :=
    (Dev.seat_evt (seat_mid (of_decide_eq_true rfl))).trans (Dev.seat_bump (seat_mid (of_decide_eq_true rfl)))
  unfold Dev.dsRead
  lift_lets
  extract_lets word e
  clear_value e
  split_ifs
  · rfl
  · exact corr
  · exact uncorr

theorem Dev.seat_fadeRead {z : ZoneSt} {x : Int} : (d.fadeRead k z x).1.seat j = d.seat j := by
  unfold Dev.fadeRead
  split
  · rfl
  · exact Dev.seat_dsRead

theorem Dev.seat_delayOut {z : ZoneSt} {r q : Dev × Int × Bool} : (Dev.delayOut k z r q).seat j = q.1.seat j :=
  Dev.seat_modZone rfl

theorem Dev.seat_delayZone (hk : k < 8) : (d.delayZone k s).seat j = d.seat j := by
  rw [Dev.delayZone_eq]
  exact Dev.seat_delayOut.trans (Dev.seat_fadeRead.trans (Dev.seat_dsRead.trans ((Dev.seat_delaySet hk).trans Dev.seat_dstore)))

theorem Dev.seat_memStage : (d.memStage s).seat j = d.seat j :=
  Dev.seat_ite (Dev.seat_foldl _ _ fun _ _ hk => Dev.seat_delayZone (Dev.mem_strs.1 hk).1)
    (Dev.seat_foldl _ _ fun _ _ _ => Dev.seat_modZone rfl)

/-! ### The equaliser -/

theorem Dev.seat_firRequest (hk : k < 8) : (d.firRequest k s).seat j = d.seat j := by
  unfold Dev.firRequest
  lift_lets
  extract_lets z due e target
  have noted : e.seat j = d.seat j := Dev.seat_modZone rfl
  have deferred : (((e.putB (Fd.FIR_BANKk_PENDING k) true).put (Fd.FIR_BANKk_PEND_TARGET k) target).evt
      Fd.FIR_EVT_DEFERRED).seat j = e.seat j :=
    (Dev.seat_evt (seat_mid (of_decide_eq_true rfl))).trans ((Dev.seat_put (seat_zone hk (of_decide_eq_true rfl))).trans
      (Dev.seat_putB (seat_zone hk (of_decide_eq_true rfl))))
  refine Dev.seat_ite rfl ?_
  split
  · exact deferred.trans noted
  · exact Dev.seat_ite noted ((Dev.seat_modZone rfl).trans noted)

theorem Dev.seat_firBanks (hk : k < 8) : (d.firBanks k s).1.seat j = d.seat j := by
  unfold Dev.firBanks
  dsimp only
  split
  · split_ifs
    · rfl
    · rfl
    · exact (Dev.seat_put (seat_zone hk (of_decide_eq_true rfl))).trans
        ((Dev.seat_putB (seat_zone hk (of_decide_eq_true rfl))).trans (Dev.seat_modZone rfl))
  · rfl

theorem Dev.seat_firEnd {x y : Nat} {c : Bool} {i : Int} : (d.firEnd k x y c i).seat j = d.seat j :=
  (Dev.seat_modZone rfl).trans ((Dev.seat_evtIf (seat_mid (of_decide_eq_true rfl))).trans
    ((Dev.seat_add (seat_mid (of_decide_eq_true rfl))).trans (Dev.seat_add (seat_mid (of_decide_eq_true rfl)))))

theorem Dev.seat_historyIn : (d.historyIn k).seat j = d.seat j := (rfl)

theorem Dev.seat_firZone (hk : k < 8) : (d.firZone k s).seat j = d.seat j := by
  rw [Dev.firZone_eq]
  exact Dev.seat_firEnd.trans ((Dev.seat_firBanks hk).trans ((Dev.seat_firRequest hk).trans Dev.seat_historyIn))

theorem Dev.seat_firStage : (d.firStage s).seat j = d.seat j :=
  Dev.seat_ite (Dev.seat_foldl _ _ fun _ _ hk => Dev.seat_firZone (Dev.mem_strs.1 hk).1) rfl

theorem Dev.seat_stored : (d.stored s).seat j = d.seat j := Dev.seat_firStage.trans Dev.seat_memStage

end Sys2Proof.Machine
end

section
/-! A program sample through stage 7 of its string (R154, R310, R322, R325, R326). -/
namespace Sys2Proof.Machine
variable {d e t : Dev} {b j k a : Nat} {f g : Fld} {x y : Int}

/-! ### The values of a sample -/

/-- R50, R52: the equalised sample that string k takes up for boundary b. -/
def Dev.eqTaken (d : Dev) (k b : Nat) : Int :=
  let z := d.zone1 k
  if d.produced islFir (b - d.period) then z.eqNext else z.eq

/-- R154: the gain that zone k moves to. -/
def Dev.gainWant (d : Dev) (k b : Nat) : Nat :=
  let z := d.zone1 k
  if z.ovr then z.ovrGain else d.eff b (Fd.CHk_GAIN_GAIN k)

/-- R154: the gain after `pos` of `n` steps of a linear move. -/
def gainAt (n fr goal pos : Nat) : Nat := (fr + rdiv (((goal : Int) - fr) * pos) n).toNat

/-- R154: where the move of zone k's gain starts. -/
def Dev.gainFrom (d : Dev) (k b : Nat) : Nat :=
  let z := d.zone1 k
  if d.gainWant k b = z.gTo then z.gFrom else gainAt (24576 / d.period) z.gFrom z.gTo z.gPos

/-- R154: the steps of the move of zone k's gain. -/
def Dev.gainPos (d : Dev) (k b : Nat) : Nat :=
  let z := d.zone1 k
  min (24576 / d.period) ((if d.gainWant k b = z.gTo then z.gPos else 0) + 1)

/-- R154: the start ramp of string k. -/
def Dev.rampAt (d : Dev) (k b : Nat) : Nat :=
  match (d.st k).pr.release with
  | some r => if d.inRun k = true ∧ r ≤ b then min 32768 (32768 * ((b - r) / 64) / d.fld Fd.SYS_START1_RAMP) else 0
  | none => 0

/-- R154: the zone gain under the start ramp. -/
def Dev.gainEff (d : Dev) (k b : Nat) : Int :=
  rsh ((gainAt (24576 / d.period) (d.gainFrom k b) (d.gainWant k b) (d.gainPos k b) * d.rampAt k b : Nat) : Int) 15

/-- R324: the thermal demand that a boundary sees. -/
def Dev.toverAt (d : Dev) (k b : Nat) : Bool :=
  let l := vat d.load k
  if l.toverAt < b then l.tover else l.toverOld

/-- R326: the limiter's gain. -/
def Dev.limitGain (d : Dev) (k b : Nat) : Nat :=
  let l := vat d.load k
  nextGain (d.fld (Fd.CHk_LM_STATUS_GL k)) (d.fld (Fd.CHk_LM_PLIM_GMIN k)) l.pover (d.toverAt k b) l.fover
    (d.fld (Fd.CHk_LM_CFG_PATK k)) (d.fld (Fd.CHk_LM_CFG_TATK k)) (d.fld (Fd.CHk_LM_CFG_FATK k)) (d.fld (Fd.CHk_LM_CFG_REL k))

/-- R322: the sample after zone gain and limiter. -/
def Dev.limited (d : Dev) (k b : Nat) : Int :=
  sat 24 (rsh (sat 24 (rsh (d.eqTaken k b * d.gainEff k b) 15) * d.limitGain k b) 15)

/-- R310: the probe tone's sample. -/
def Dev.probeTone (d : Dev) (k b : Nat) : Int :=
  match (d.st k).pr.probe with
  | some r => if r.start ≤ b ∧ b < r.start + d.fld (Fd.CHk_PR_PROBE0_LEN k) * 64 then
      rsh (d.sfld (Fd.CHk_PR_PROBE0_AMP k) * sinTab (r.phi / 2 ^ 22)) 7 else 0
  | none => 0

/-- R325: the flux after sample y. -/
def Dev.fluxAfter (d : Dev) (k : Nat) (y : Int) : Int :=
  let l := vat d.load k
  let ri := d.img.cfg.rate
  sat 40 (l.phi - rsh l.phi (d.fld (Fd.CHk_LM_FLUX_FLK k) + ri) + y * 2 ^ (3 - ri))

/-- R325: whether the flux is over after sample y. -/
def Dev.fluxOver (d : Dev) (k : Nat) (y : Int) : Bool :=
  d.bit (Fd.CHk_LM_FLUX_FEN k) && decide (d.fld (Fd.CHk_LM_FLUX_FLIM k) * 2 ^ 22 < (d.fluxAfter k y).natAbs)

/-- R326: the demands seen in the frame, with those of this boundary. -/
def Dev.seenWith (d : Dev) (k b : Nat) : Vector Bool 3 :=
  let l := vat d.load k
  #v[vat l.seen 0 || l.pover, vat l.seen 1 || d.toverAt k b, vat l.seen 2 || l.fover]

/-- R154, R310, R322, R325, R326: from `d` to `t` a program sample has passed stage 7 of string k at boundary b. -/
def Sampled (k b : Nat) (d t : Dev) : Prop :=
  let m := vat t.load k
  let y := d.limited k b
  (t.zone1 k).eq = d.eqTaken k b ∧ (t.zone1 k).gFrom = d.gainFrom k b ∧ (t.zone1 k).gTo = d.gainWant k b ∧
  (t.zone1 k).gPos = d.gainPos k b ∧
  t.fld (Fd.CHk_GAIN_LIVE_EFF k) = (d.gainEff k b).toNat % 2 ^ (Fd.CHk_GAIN_LIVE_EFF k).w ∧
  t.fld (Fd.CHk_LM_STATUS_GL k) = d.limitGain k b ∧ (t.zone1 k).post = y ∧
  (t.st k).ctl.z.head? = some (b, sat 24 (y + d.probeTone k b)) ∧
  m.phi = d.fluxAfter k y ∧ m.fover = d.fluxOver k y ∧ t.bit (Fd.CHk_LM_STATUS_FOVER k) = m.fover ∧
  m.seen = d.seenWith k b ∧
  (t.bit (Fd.CHk_LM_STATUS_FLOOR k) = true ↔ d.limitGain k b = d.fld (Fd.CHk_LM_PLIM_GMIN k) ∧
    (t.bit (Fd.CHk_LM_STATUS_POVER k) = true ∨ t.bit (Fd.CHk_LM_STATUS_TOVER k) = true ∨ m.fover = true))

/-! ### The gain (R154) -/

/-- A controller whose zones are `v`. -/
def Dev.zoned (d : Dev) (v : Vector ZoneSt 8) : Dev := { d with zone := v }

/-- R50: string k takes up the equalised sample; nothing but its zone changes. -/
theorem Dev.takeEqualised_eq (hk : k < 8) : ∃ v, d.takeEqualised k b = d.zoned v ∧
    vat v k = { d.zone1 k with eq := d.eqTaken k b } := by
  unfold Dev.takeEqualised Dev.eqTaken
  cases d.produced islFir (b - d.period)
  · exact ⟨d.zone, rfl, rfl⟩
  · exact ⟨_, rfl, vat_vmod_same hk⟩

/-- R154: zone k's gain moves on by a step, and is the second value. -/
theorem Dev.gainMove_eq (hk : k < 8) : ∃ v, d.gainMove k b = (d.zoned v,
    gainAt (24576 / d.period) (d.gainFrom k b) (d.gainWant k b) (d.gainPos k b)) ∧
    vat v k = { d.zone1 k with gFrom := d.gainFrom k b, gTo := d.gainWant k b, gPos := d.gainPos k b } := by
  unfold Dev.gainMove
  lift_lets
  extract_lets n z now target z' z''
  have moved : z'' = { z with gFrom := d.gainFrom k b, gTo := d.gainWant k b, gPos := d.gainPos k b } := by
    have want : target = d.gainWant k b := rfl
    unfold Dev.gainFrom Dev.gainPos
    rw [← want]
    simp only [z'', z', now, n, Dev.fadeN, gainAt, beq_iff_eq]
    split
    next h => rw [h]
    next h => rfl
  exact ⟨_, Prod.ext rfl (by rw [moved]; rfl), (vat_vmod_same hk).trans moved⟩

/-- R154: zone k once its sample is taken up and its gain has moved. -/
def Dev.moved (d : Dev) (k b : Nat) : ZoneSt :=
  { d.zone1 k with eq := d.eqTaken k b, gFrom := d.gainFrom k b, gTo := d.gainWant k b, gPos := d.gainPos k b }

theorem Dev.zone_moved (hk : k < 8) : ∃ v, (d.takeEqualised k b).gainMove k b = (d.zoned v,
    gainAt (24576 / d.period) (d.gainFrom k b) (d.gainWant k b) (d.gainPos k b)) ∧ vat v k = d.moved k b := by
  obtain ⟨v, he, hv⟩ := Dev.takeEqualised_eq (d := d) (b := b) hk
  obtain ⟨w, hm, hw⟩ := Dev.gainMove_eq (d := d.takeEqualised k b) (b := b) hk
  have zone : (d.zoned v).zone1 k = { d.zone1 k with eq := d.eqTaken k b } := hv
  have period : (d.zoned v).period = d.period := rfl
  have want : (d.zoned v).gainWant k b = d.gainWant k b := by
    unfold Dev.gainWant
    rw [zone]
    rfl
  have start : (d.zoned v).gainFrom k b = d.gainFrom k b := by
    unfold Dev.gainFrom
    rw [want, zone, period]
  have pos : (d.zoned v).gainPos k b = d.gainPos k b := by
    unfold Dev.gainPos
    rw [want, zone, period]
  rw [he, want, start, pos, period] at hm
  rw [he, want, start, pos, zone] at hw
  rw [he]
  exact ⟨w, hm, hw⟩

/-! ### Flux and limiter (R322, R325, R326) -/

theorem Dev.flux_eq : d.flux k y =
    ((((d.modLoad k (fun l => { l with phi := d.fluxAfter k y, fover := d.fluxOver k y })).put (Fd.CHk_LM_PA_FLUX k)
      (field16 (flsh ((d.fluxAfter k y).natAbs : Int) 22))).demand (Fd.CHk_LM_STATUS_FOVER k) (Fd.CHk_LM_EVT_FLUX k)
      (d.fluxOver k y)).floorShow k) := by
  have isOver : d.fluxOver k y = (d.bit (Fd.CHk_LM_FLUX_FEN k) &&
      decide ((d.fld (Fd.CHk_LM_FLUX_FLIM k) : Int) * 2 ^ 22 < ((d.fluxAfter k y).natAbs : Int))) := by
    unfold Dev.fluxOver
    norm_cast
  rw [isOver]
  rfl

/-- The load state, with the flux after sample y. -/
theorem Dev.flux_only : OnlyRegs (d.modLoad k (fun l => { l with phi := d.fluxAfter k y, fover := d.fluxOver k y }))
    (d.flux k y) := by
  rw [Dev.flux_eq]
  exact (OnlyRegs.put.trans Dev.demand_only).trans Dev.floorShow_only

theorem Dev.flux_load (hk : k < 8) :
    vat (d.flux k y).load k = { vat d.load k with phi := d.fluxAfter k y, fover := d.fluxOver k y } := by
  rw [Dev.flux_only.load]
  exact vat_vmod_same hk

theorem Dev.fld_flux (h : (Fd.CHk_LM_PA_FLUX k).clear g) (hf : (Fd.CHk_LM_STATUS_FOVER k).clear g)
    (he : (Fd.CHk_LM_EVT_FLUX k).clear g) (hs : (Fd.CHk_LM_STATUS_FLOOR k).clear g) (hse : (Fd.CHk_LM_EVT_FLOOR k).clear g) :
    (d.flux k y).fld g = d.fld g := by
  rw [Dev.flux_eq, Dev.fld_floorShow hs hse, Dev.fld_demand hf he, Dev.fld_put_clear h, Dev.fld_modLoad]

theorem Dev.flux_shows : (d.flux k y).bit (Fd.CHk_LM_STATUS_FOVER k) = d.fluxOver k y ∧
    ((d.flux k y).bit (Fd.CHk_LM_STATUS_FLOOR k) = true ↔
      d.fld (Fd.CHk_LM_STATUS_GL k) = d.fld (Fd.CHk_LM_PLIM_GMIN k) ∧
        ((d.flux k y).bit (Fd.CHk_LM_STATUS_POVER k) = true ∨ (d.flux k y).bit (Fd.CHk_LM_STATUS_TOVER k) = true ∨
          d.fluxOver k y = true)) := by
  rw [Dev.flux_eq]
  simp (disch := with_unfolding_all exact id (clear_at rfl)) only [Dev.bit_floorShow]
  rw [Dev.floorShow_floor, Dev.bit_demand_same (fits_of rfl) rfl]
  simp (disch := with_unfolding_all exact id (clear_at rfl)) only [Dev.fld_demand, Dev.fld_put_clear, Dev.fld_modLoad,
    true_and]

theorem nextGain_lt {gl gmin patk tatk fatk rel : Nat} {p t f : Bool} (hg : gl < 2 ^ 16) (hm : gmin < 2 ^ 16) :
    nextGain gl gmin p t f patk tatk fatk rel < 2 ^ 16 := by
  unfold nextGain
  split
  · exact max_lt (by omega) hm
  · split
    · exact lt_of_le_of_lt (min_le_right _ _) (by decide)
    · exact hg

/-- R322, R326: the limiter's gain is shown, with whether it is at its floor. -/
def Dev.limitShown (d : Dev) (k b : Nat) : Dev :=
  let l := vat d.load k
  (d.put (Fd.CHk_LM_STATUS_GL k) (d.limitGain k b)).demand (Fd.CHk_LM_STATUS_FLOOR k) (Fd.CHk_LM_EVT_FLOOR k)
    (d.limitGain k b == d.fld (Fd.CHk_LM_PLIM_GMIN k) && (l.pover || d.toverAt k b || l.fover))

theorem Dev.limitShown_only : OnlyRegs d (d.limitShown k b) := OnlyRegs.put.trans Dev.demand_only

/-- R322: the limiter's own part, before the flux takes in the result. -/
def Dev.limitHead (d : Dev) (k b : Nat) : Dev :=
  (d.limitShown k b).modLoad k (fun l =>
    { l with seen := #v[vat l.seen 0 || l.pover, vat l.seen 1 || d.toverAt k b, vat l.seen 2 || l.fover] })

/-- The load state once the limiter has seen the demands. -/
theorem Dev.limitHead_load (hk : k < 8) :
    vat (d.limitHead k b).load k = { vat d.load k with seen := d.seenWith k b } := by
  unfold Dev.limitHead
  rw [Dev.modLoad_load, Dev.limitShown_only.load]
  exact vat_vmod_same hk

theorem Dev.limitHead_zone : (d.limitHead k b).zone = d.zone := Dev.limitShown_only.zone
theorem Dev.limitHead_str : (d.limitHead k b).str = d.str := Dev.limitShown_only.str
theorem Dev.limitHead_img : (d.limitHead k b).img = d.img := (congrArg Dev.img Dev.limitShown_only :)

theorem Dev.fld_limitHead (h : (Fd.CHk_LM_STATUS_GL k).clear g) (hs : (Fd.CHk_LM_STATUS_FLOOR k).clear g)
    (hse : (Fd.CHk_LM_EVT_FLOOR k).clear g) : (d.limitHead k b).fld g = d.fld g := by
  unfold Dev.limitHead Dev.limitShown
  rw [Dev.fld_modLoad, Dev.fld_demand hs hse, Dev.fld_put_clear h]

theorem Dev.limitHead_gain : (d.limitHead k b).fld (Fd.CHk_LM_STATUS_GL k) = d.limitGain k b := by
  unfold Dev.limitHead Dev.limitShown
  simp (disch := with_unfolding_all exact id (clear_at rfl)) only [Dev.fld_modLoad, Dev.fld_demand]
  exact (Dev.fld_put_same (fits_of rfl)).trans (Nat.mod_eq_of_lt (nextGain_lt Dev.fld_lt Dev.fld_lt))

theorem Dev.bit_limitHead (h : (Fd.CHk_LM_STATUS_GL k).clear g) (hs : (Fd.CHk_LM_STATUS_FLOOR k).clear g)
    (hse : (Fd.CHk_LM_EVT_FLOOR k).clear g) : (d.limitHead k b).bit g = d.bit g := by
  unfold Dev.limitHead Dev.limitShown
  rw [Dev.bit_modLoad, Dev.bit_demand hs hse, Dev.bit_put_clear h]

theorem Dev.fluxAfter_limitHead (hk : k < 8) : (d.limitHead k b).fluxAfter k y = d.fluxAfter k y := by
  unfold Dev.fluxAfter
  rw [Dev.limitHead_load hk, Dev.limitHead_img]
  simp (disch := with_unfolding_all exact id (clear_at rfl)) only [Dev.fld_limitHead]

theorem Dev.fluxOver_limitHead (hk : k < 8) : (d.limitHead k b).fluxOver k y = d.fluxOver k y := by
  unfold Dev.fluxOver
  rw [Dev.fluxAfter_limitHead hk]
  simp (disch := with_unfolding_all exact id (clear_at rfl)) only [Dev.fld_limitHead, Dev.bit_limitHead]

/-- R322, R325, R326: string k once the limiter has let sample y through and the flux model has taken it in. -/
def Dev.limitedBy (d : Dev) (k b : Nat) (y : Int) : Dev := (d.limitHead k b).flux k y

theorem Dev.limiter_eq : d.limiter k b x = (d.limitedBy k b (sat 24 (rsh (x * d.limitGain k b) 15)),
    sat 24 (rsh (x * d.limitGain k b) 15)) := (rfl)

theorem Dev.limitedBy_load (hk : k < 8) : vat (d.limitedBy k b y).load k =
    { vat d.load k with seen := d.seenWith k b, phi := d.fluxAfter k y, fover := d.fluxOver k y } := by
  have load := Dev.flux_load (d := d.limitHead k b) (y := y) hk
  rwa [Dev.fluxOver_limitHead hk, Dev.fluxAfter_limitHead hk, Dev.limitHead_load hk] at load

theorem Dev.flux_zone : (d.flux k y).zone = d.zone := Dev.flux_only.zone
theorem Dev.flux_str : (d.flux k y).str = d.str := Dev.flux_only.str
theorem Dev.limitedBy_zone : (d.limitedBy k b y).zone = d.zone := Dev.flux_zone.trans Dev.limitHead_zone
theorem Dev.limitedBy_str : (d.limitedBy k b y).str = d.str := Dev.flux_str.trans Dev.limitHead_str

theorem Dev.fld_limitedBy (h : (Fd.CHk_LM_PA_FLUX k).clear g) (hf : (Fd.CHk_LM_STATUS_FOVER k).clear g)
    (he : (Fd.CHk_LM_EVT_FLUX k).clear g) (hs : (Fd.CHk_LM_STATUS_FLOOR k).clear g) (hse : (Fd.CHk_LM_EVT_FLOOR k).clear g)
    (hg : (Fd.CHk_LM_STATUS_GL k).clear g) : (d.limitedBy k b y).fld g = d.fld g :=
  (Dev.fld_flux h hf he hs hse).trans (Dev.fld_limitHead hg hs hse)

theorem Dev.limitedBy_gain : (d.limitedBy k b y).fld (Fd.CHk_LM_STATUS_GL k) = d.limitGain k b := by
  unfold Dev.limitedBy
  simp (disch := with_unfolding_all exact id (clear_at rfl)) only [Dev.fld_flux]
  exact Dev.limitHead_gain

theorem Dev.limitedBy_demands (hk : k < 8) : (d.limitedBy k b y).bit (Fd.CHk_LM_STATUS_FOVER k) = d.fluxOver k y ∧
    ((d.limitedBy k b y).bit (Fd.CHk_LM_STATUS_FLOOR k) = true ↔ d.limitGain k b = d.fld (Fd.CHk_LM_PLIM_GMIN k) ∧
      ((d.limitedBy k b y).bit (Fd.CHk_LM_STATUS_POVER k) = true ∨
        (d.limitedBy k b y).bit (Fd.CHk_LM_STATUS_TOVER k) = true ∨ d.fluxOver k y = true)) := by
  have gmin : (d.limitHead k b).fld (Fd.CHk_LM_PLIM_GMIN k) = d.fld (Fd.CHk_LM_PLIM_GMIN k) := by
    simp (disch := with_unfolding_all exact id (clear_at rfl)) only [Dev.fld_limitHead]
  have shows := Dev.flux_shows (d := d.limitHead k b) (k := k) (y := y)
  rwa [Dev.fluxOver_limitHead hk, Dev.limitHead_gain, gmin] at shows

/-! ### The probe tone (R310) -/

theorem Dev.probeSample_eq : ∃ v, d.probeSample k b = ({ d with str := v }, d.probeTone k b) := by
  unfold Dev.probeSample Dev.probeTone
  cases (d.st k).pr.probe with
  | none => exact ⟨d.str, rfl⟩
  | some r =>
    simp only [Bool.and_eq_true, decide_eq_true_eq]
    split
    · exact ⟨_, rfl⟩
    · exact ⟨d.str, rfl⟩

/-! ### Stage 7 as a whole -/

theorem Dev.startRamp_eq : d.startRamp k b = d.rampAt k b := by
  unfold Dev.startRamp Dev.rampAt
  cases (d.st k).pr.release with
  | none => rfl
  | some r => simp only [Bool.and_eq_true, decide_eq_true_eq]

/-- R154: the gain of zone k in force is shown. -/
def Dev.showGain (d : Dev) (k : Nat) (ovr moving : Bool) (eff : Nat) : Dev :=
  ((d.putB (Fd.CHk_GAIN_LIVE_OVR k) ovr).putB (Fd.CHk_GAIN_LIVE_RAMPING k) moving).put (Fd.CHk_GAIN_LIVE_EFF k) eff

/-- R154: whether the gain of zone k in force is moving. -/
def Dev.gainMoving (d : Dev) (k b : Nat) : Bool :=
  decide (d.gainPos k b < d.fadeN && d.gainFrom k b != d.gainWant k b) ||
    (d.inRun k && (d.st k).pr.release.isSome && decide (d.rampAt k b < 32768))

/-- The last part of stage 7: sample y goes to the zone and, with the probe tone, to the control engine. -/
def Dev.posted (d : Dev) (k b : Nat) (y : Int) : Dev :=
  let p := d.probeSample k b
  (p.1.modZone k (fun z => { z with post := y })).modCtl k (fun c => { c with z := ((b, sat 24 (y + p.2)) :: c.z).take 3 })

/-- R154: string k once its sample is taken up and its gain has moved and is shown. -/
def Dev.gained (d : Dev) (k b : Nat) (v : Vector ZoneSt 8) : Dev :=
  (d.zoned v).showGain k (d.zone1 k).ovr (d.gainMoving k b) (d.gainEff k b).toNat

theorem Dev.stage7_eq (hk : k < 8) : ∃ v, vat v k = d.moved k b ∧
    d.stage7 k b = ((d.gained k b v).limitedBy k b (sat 24 (rsh (sat 24 (rsh (d.eqTaken k b * d.gainEff k b) 15) *
      (d.gained k b v).limitGain k b) 15))).posted k b
      (sat 24 (rsh (sat 24 (rsh (d.eqTaken k b * d.gainEff k b) 15) * (d.gained k b v).limitGain k b) 15)) := by
  obtain ⟨v, he, hv⟩ := Dev.zone_moved (d := d) (b := b) hk
  have ramp : (d.zoned v).startRamp k b = d.rampAt k b := Dev.startRamp_eq
  have zone : (d.zoned v).zone1 k = d.moved k b := hv
  refine ⟨v, hv, ?_⟩
  unfold Dev.stage7
  dsimp only
  rw [he]
  dsimp only
  rw [ramp, zone, Dev.limiter_eq]
  rfl

end Sys2Proof.Machine
end

section
/-! Stage 7 of a string gives what the obligation asks for (R154, R310, R322, R325, R326). -/
namespace Sys2Proof.Machine
variable {d e t : Dev} {b j k a : Nat} {f g : Fld} {x y : Int}

/-! ### After the limiter -/

theorem Dev.posted_eq : ∃ v, d.posted k b y = ((({ d with str := v } : Dev).modZone k (fun z => { z with post := y })).modCtl k
    (fun c => { c with z := ((b, sat 24 (y + d.probeTone k b)) :: c.z).take 3 })) := by
  obtain ⟨v, he⟩ := Dev.probeSample_eq (d := d) (k := k) (b := b)
  refine ⟨v, ?_⟩
  unfold Dev.posted
  rw [he]

theorem Dev.fld_posted : (d.posted k b y).fld f = d.fld f := by
  obtain ⟨v, he⟩ := Dev.posted_eq (d := d) (k := k) (b := b) (y := y)
  rw [he]
  rfl

theorem Dev.bit_posted : (d.posted k b y).bit f = d.bit f := by
  obtain ⟨v, he⟩ := Dev.posted_eq (d := d) (k := k) (b := b) (y := y)
  rw [he]
  rfl

theorem Dev.posted_load : (d.posted k b y).load = d.load := by
  obtain ⟨v, he⟩ := Dev.posted_eq (d := d) (k := k) (b := b) (y := y)
  rw [he]
  rfl

theorem Dev.posted_zone (hk : k < 8) : (d.posted k b y).zone1 k = { d.zone1 k with post := y } := by
  obtain ⟨v, he⟩ := Dev.posted_eq (d := d) (k := k) (b := b) (y := y)
  rw [he]
  exact vat_vmod_same hk

theorem Dev.posted_samples (hk : k < 8) :
    ((d.posted k b y).st k).ctl.z.head? = some (b, sat 24 (y + d.probeTone k b)) := by
  obtain ⟨v, he⟩ := Dev.posted_eq (d := d) (k := k) (b := b) (y := y)
  rw [he]
  exact congrArg (fun s : Str => s.ctl.z.head?) (vat_vmod_same hk)

theorem Dev.probeTone_limitedBy : (d.limitedBy k b y).probeTone k b = d.probeTone k b := by
  unfold Dev.probeTone Dev.sfld Dev.st
  rw [Dev.limitedBy_str]
  simp (disch := with_unfolding_all exact id (clear_at rfl)) only [Dev.fld_limitedBy]

/-! ### What the limiter, the flux model and the probe tone read -/

/-- An address of the words of string k that the limiter, the flux model and the probe tone read. -/
def onDrive (k a : Nat) : Prop := 0x8500 + 0x1000 * k ≤ a ∧ a < 0x8700 + 0x1000 * k

theorem on_drive (h : 0x8500 ≤ a ∧ a < 0x8700) : onDrive k (a + 0x1000 * k) := by unfold onDrive; omega

/-- What the limiter, the flux model and the probe tone read of string k stands. -/
structure Drive (k : Nat) (d e : Dev) : Prop where
  load : vat e.load k = vat d.load k
  str : e.st k = d.st k
  img : e.img = d.img
  reg : ∀ a, onDrive k a → e.reg a = d.reg a

namespace Drive
variable (h : Drive k d e)
include h

theorem fld (hf : onDrive k f.addr) : e.fld f = d.fld f := by rw [Dev.fld, Dev.fld, h.reg _ hf]
theorem bit (hf : onDrive k f.addr) : e.bit f = d.bit f := by rw [Dev.bit, Dev.bit, h.reg _ hf]

theorem toverAt : e.toverAt k b = d.toverAt k b := by rw [Dev.toverAt, h.load]; rfl

theorem seenWith : e.seenWith k b = d.seenWith k b := by rw [Dev.seenWith, h.load, h.toverAt]; rfl

theorem limitGain : e.limitGain k b = d.limitGain k b := by
  unfold Dev.limitGain
  rw [h.load, h.toverAt]
  simp (disch := with_unfolding_all exact id (on_drive (of_decide_eq_true rfl))) only [h.fld]

theorem fluxAfter : e.fluxAfter k y = d.fluxAfter k y := by
  unfold Dev.fluxAfter
  rw [h.load, h.img]
  simp (disch := with_unfolding_all exact id (on_drive (of_decide_eq_true rfl))) only [h.fld]

theorem fluxOver : e.fluxOver k y = d.fluxOver k y := by
  unfold Dev.fluxOver
  rw [h.fluxAfter]
  simp (disch := with_unfolding_all exact id (on_drive (of_decide_eq_true rfl))) only [h.fld, h.bit]

theorem probeTone : e.probeTone k b = d.probeTone k b := by
  unfold Dev.probeTone Dev.sfld
  rw [h.str]
  simp (disch := with_unfolding_all exact id (on_drive (of_decide_eq_true rfl))) only [h.fld]

theorem gmin : e.fld (Fd.CHk_LM_PLIM_GMIN k) = d.fld (Fd.CHk_LM_PLIM_GMIN k) :=
  h.fld (on_drive (of_decide_eq_true rfl))

end Drive

/-! ### Before the limiter -/

theorem Dev.showGain_only {ovr moving : Bool} {eff : Nat} : OnlyRegs d (d.showGain k ovr moving eff) :=
  (OnlyRegs.put.trans OnlyRegs.put).trans OnlyRegs.put

theorem Dev.showGain_reg {ovr moving : Bool} {eff : Nat} (ha : onDrive k a) : (d.showGain k ovr moving eff).reg a = d.reg a := by
  have off : a ≠ 0x8084 + 0x1000 * k := by unfold onDrive at ha; omega
  exact (Dev.reg_put_other off).trans ((Dev.reg_put_other off).trans (Dev.reg_put_other off))

theorem Drive.showGain {ovr moving : Bool} {eff : Nat} (h : Drive k d e) : Drive k d (e.showGain k ovr moving eff) := by
  have only : OnlyRegs e (e.showGain k ovr moving eff) := Dev.showGain_only
  exact ⟨(congrArg (fun v => vat v k) only.load).trans h.load, (congrArg (fun v => vat v k) only.str).trans h.str,
    (congrArg Dev.img only :).trans h.img, fun a ha => (Dev.showGain_reg ha).trans (h.reg a ha)⟩

theorem Drive.zoned {v : Vector ZoneSt 8} : Drive k d (d.zoned v) := ⟨rfl, rfl, rfl, fun _ _ => rfl⟩

theorem Dev.gained_drive {v : Vector ZoneSt 8} : Drive k d (d.gained k b v) := Drive.zoned.showGain

theorem Dev.gained_eff {v : Vector ZoneSt 8} : (d.gained k b v).fld (Fd.CHk_GAIN_LIVE_EFF k) =
    (d.gainEff k b).toNat % 2 ^ (Fd.CHk_GAIN_LIVE_EFF k).w := Dev.fld_put_same (fits_of rfl)

/-- R154, R310, R322, R325, R326: a boundary takes the sample of string k through stage 7. -/
theorem Dev.stage7_sampled (hk : k < 8) : Sampled k b d (d.stage7 k b) := by
  obtain ⟨v, hv, he⟩ := Dev.stage7_eq (d := d) (b := b) hk
  have drive := Dev.gained_drive (d := d) (k := k) (b := b) (v := v)
  have y : sat 24 (rsh (sat 24 (rsh (d.eqTaken k b * d.gainEff k b) 15) * (d.gained k b v).limitGain k b) 15) =
      d.limited k b := by rw [drive.limitGain]; rfl
  rw [y] at he
  obtain ⟨fover, floor⟩ := Dev.limitedBy_demands (d := d.gained k b v) (b := b) (y := d.limited k b) hk
  have zone : ((d.gained k b v).limitedBy k b (d.limited k b)).zone1 k = d.moved k b :=
    (congrArg (fun v => vat v k) Dev.limitedBy_zone).trans hv
  have eff : ((d.gained k b v).limitedBy k b (d.limited k b)).fld (Fd.CHk_GAIN_LIVE_EFF k) =
      (d.gainEff k b).toNat % 2 ^ (Fd.CHk_GAIN_LIVE_EFF k).w := by
    simp (disch := with_unfolding_all exact id (clear_at rfl)) only [Dev.fld_limitedBy]
    exact Dev.gained_eff
  rw [drive.fluxOver, drive.limitGain, drive.gmin] at floor
  unfold Sampled
  rw [he, Dev.posted_zone hk, zone, Dev.fld_posted, Dev.fld_posted, Dev.posted_samples hk, Dev.posted_load,
    Dev.limitedBy_load hk, Dev.limitedBy_gain, Dev.probeTone_limitedBy, drive.limitGain, drive.fluxAfter, drive.fluxOver,
    drive.seenWith, drive.probeTone, eff]
  rw [Dev.bit_posted, Dev.bit_posted, Dev.bit_posted, Dev.bit_posted, fover, drive.fluxOver]
  exact ⟨rfl, rfl, rfl, rfl, rfl, rfl, rfl, rfl, rfl, rfl, rfl, rfl, floor⟩

end Sys2Proof.Machine
end

section
/-! PROGRAM_SAMPLE_BOUNDARY takes a sample of every live string through stage 7 (R154, R310, R322, R325, R326). -/
namespace Sys2Proof.Machine
variable {d e t u : Dev} {b j k a : Nat} {f g : Fld} {x y : Int}

/-! ### Stage 7 of another string -/

section
variable (h : j ≠ k)
include h

theorem Dev.seat_modLoad_other {u : LoadSt → LoadSt} : (d.modLoad k u).seat j = d.seat j := by
  have other : vat (d.modLoad k u).load j = vat d.load j := vat_vmod_other h
  simp only [Dev.seat, other]
  rfl

theorem Dev.seat_modStr_other {u : Str → Str} : (d.modStr k u).seat j = d.seat j := by
  have other : (d.modStr k u).st j = d.st j := vat_vmod_other h
  simp only [Dev.seat, other]
  rfl

theorem Dev.seat_modZone_other {u : ZoneSt → ZoneSt} : (d.modZone k u).seat j = d.seat j := by
  have other : (d.modZone k u).zone1 j = d.zone1 j := vat_vmod_other h
  simp only [Dev.seat, other]
  rfl

theorem Dev.seat_demand_other {l m w v : Nat} {c : Bool} (ha : 0x8000 ≤ a ∧ a < 0x9000) (hb : 0x8000 ≤ b ∧ b < 0x9000) :
    (d.demand ⟨a + 0x1000 * k, l, w⟩ ⟨b + 0x1000 * k, m, v⟩ c).seat j = d.seat j :=
  (Dev.seat_putB (seat_other h ha)).trans (Dev.seat_evtIf (seat_other h hb))

theorem Dev.seat_floorShow_other : (d.floorShow k).seat j = d.seat j :=
  Dev.seat_demand_other h (of_decide_eq_true rfl) (of_decide_eq_true rfl)

theorem Dev.seat_flux_other : (d.flux k y).seat j = d.seat j := by
  rw [Dev.flux_eq, Dev.seat_floorShow_other h]
  refine (Dev.seat_demand_other h (of_decide_eq_true rfl) (of_decide_eq_true rfl)).trans ?_
  rw [Dev.seat_put (seat_other h (of_decide_eq_true rfl)), Dev.seat_modLoad_other h]

theorem Dev.seat_limitedBy_other : (d.limitedBy k b y).seat j = d.seat j := by
  have shown : (d.limitShown k b).seat j = d.seat j :=
    (Dev.seat_demand_other h (of_decide_eq_true rfl) (of_decide_eq_true rfl)).trans
      (Dev.seat_put (seat_other h (of_decide_eq_true rfl)))
  rw [Dev.limitedBy, Dev.seat_flux_other h, Dev.limitHead, Dev.seat_modLoad_other h, shown]

theorem Dev.seat_probeSample_other : (d.probeSample k b).1.seat j = d.seat j := by
  unfold Dev.probeSample
  split
  · rfl
  · split
    · exact Dev.seat_modStr_other h
    · rfl

theorem Dev.seat_takeEqualised_other : (d.takeEqualised k b).seat j = d.seat j := Dev.seat_ite (Dev.seat_modZone_other h) rfl

theorem Dev.seat_gainMove_other : (d.gainMove k b).1.seat j = d.seat j := Dev.seat_modZone_other h

theorem Dev.seat_stage7_other : (d.stage7 k b).seat j = d.seat j := by
  unfold Dev.stage7
  dsimp only
  rw [Dev.modCtl, Dev.seat_modStr_other h, Dev.seat_modZone_other h, Dev.seat_probeSample_other h, Dev.limiter_eq,
    Dev.seat_limitedBy_other h, Dev.seat_put (seat_other h (of_decide_eq_true rfl)),
    Dev.seat_putB (seat_other h (of_decide_eq_true rfl)), Dev.seat_putB (seat_other h (of_decide_eq_true rfl)),
    Dev.seat_gainMove_other h, Dev.seat_takeEqualised_other h]

end

/-! ### What stage 7 of a string finds -/

/-- An address whose register the seat of string k holds. -/
def onSeat (k a : Nat) : Prop := a < 0x1000 ∨ 0x8000 + 0x1000 * k ≤ a ∧ a < 0x9000 + 0x1000 * k ∧ a < 0x10000

theorem on_ch (hk : k < 8) (h : 0x8000 ≤ a ∧ a < 0x9000) : onSeat k (a + 0x1000 * k) := by unfold onSeat; omega

theorem onSeat_of_onDrive (hk : k < 8) (h : onDrive k a) : onSeat k a := by unfold onDrive at h; unfold onSeat; omega

theorem Dev.reg_of_seat (hs : e.seat k = d.seat k) (h : onSeat k a) : e.reg a = d.reg a := by
  have reg : ∀ d : Dev, (d.seat k).reg a = d.reg a := fun d => if_pos h
  rw [← reg, ← reg, hs]

/-- A zone is what stage 7 forms of it and the rest. -/
theorem ZoneSt.eq_of_parts {z y : ZoneSt} (hp : z.path = y.path) (hf : z.front = y.front) : z = y := by
  cases z
  cases y
  simp only [ZoneSt.path, ZoneSt.front, ZoneSt.mk.injEq, Prod.mk.injEq] at hp hf ⊢
  simp only [hp, hf, and_self]

/-- What stage 7 of string k reads stands. -/
structure Stands (k : Nat) (d e : Dev) : Prop where
  drive : Drive k d e
  zone : e.zone1 k = d.zone1 k
  pwr : e.pwr = d.pwr
  held : e.held = d.held
  reg : ∀ a, onSeat k a → e.reg a = d.reg a

theorem Stands.of_seat (hk : k < 8) (hs : e.seat k = d.seat k) (hb : e.bench = d.takeMonitor.bench) : Stands k d e := by
  obtain ⟨v, hv⟩ := Dev.takeMonitor_eq (d := d)
  rw [hv] at hb
  have path : (e.zone1 k).path = (d.zone1 k).path := congrFun (congrArg Bench.zone hb) k
  exact ⟨⟨congrArg Seat.load hs, congrArg Seat.str hs, congrArg Bench.img hb,
      fun a ha => Dev.reg_of_seat hs (onSeat_of_onDrive hk ha)⟩,
    ZoneSt.eq_of_parts path (congrArg Seat.front hs), congrArg Bench.pwr hb, congrArg Bench.held hb,
    fun a ha => Dev.reg_of_seat hs ha⟩

namespace Stands
variable (h : Stands k d e)
include h

theorem period : e.period = d.period := by rw [Dev.period, h.drive.img]; rfl

theorem eqTaken : e.eqTaken k b = d.eqTaken k b := by
  unfold Dev.eqTaken Dev.produced
  rw [h.zone, h.period, h.pwr, Dev.islandOk_of_pwr h.pwr]

theorem gainWant (hk : k < 8) : e.gainWant k b = d.gainWant k b := by
  unfold Dev.gainWant Dev.eff Dev.effReg
  rw [h.zone, h.held, h.reg (Fd.CHk_GAIN_GAIN k).addr (on_ch hk (of_decide_eq_true rfl))]

theorem gainFrom (hk : k < 8) : e.gainFrom k b = d.gainFrom k b := by
  unfold Dev.gainFrom
  rw [h.zone, h.period, h.gainWant hk]

theorem gainPos (hk : k < 8) : e.gainPos k b = d.gainPos k b := by
  unfold Dev.gainPos
  rw [h.zone, h.period, h.gainWant hk]

theorem rampAt : e.rampAt k b = d.rampAt k b := by
  unfold Dev.rampAt Dev.inRun Dev.phase Dev.fld
  rw [h.drive.str, h.reg _ (Or.inl (of_decide_eq_true rfl)), h.reg _ (Or.inl (of_decide_eq_true rfl))]

theorem gainEff (hk : k < 8) : e.gainEff k b = d.gainEff k b := by
  unfold Dev.gainEff
  rw [h.gainFrom hk, h.gainWant hk, h.gainPos hk, h.period, h.rampAt]

theorem limited (hk : k < 8) : e.limited k b = d.limited k b := by
  unfold Dev.limited
  rw [h.eqTaken, h.gainEff hk, h.drive.limitGain]

/-- What stage 7 attains from a controller that agrees, it attains from this one. -/
theorem sampled (hk : k < 8) (hs : Sampled k b e t) : Sampled k b d t := by
  unfold Sampled at hs ⊢
  dsimp only at hs ⊢
  rwa [h.limited hk, h.eqTaken, h.gainFrom hk, h.gainWant hk, h.gainPos hk, h.gainEff hk, h.drive.limitGain,
    h.drive.fluxAfter, h.drive.fluxOver, h.drive.seenWith, h.drive.probeTone, h.drive.gmin] at hs

end Stands

/-! ### The whole boundary -/

/-- What stage 7 has attained lies in the seat of the string. -/
theorem Sampled.of_seat (hk : k < 8) (h : Sampled k b d t) (hs : u.seat k = t.seat k) : Sampled k b d u := by
  have load : vat u.load k = vat t.load k := congrArg Seat.load hs
  have str : u.st k = t.st k := congrArg Seat.str hs
  have front : (u.zone1 k).front = (t.zone1 k).front := congrArg Seat.front hs
  simp only [ZoneSt.front, Prod.mk.injEq] at front
  obtain ⟨eq, start, goal, pos, post⟩ := front
  have fld (f : Fld) (hf : onSeat k f.addr) : u.fld f = t.fld f := by rw [Dev.fld, Dev.fld, Dev.reg_of_seat hs hf]
  have bit (f : Fld) (hf : onSeat k f.addr) : u.bit f = t.bit f := by rw [Dev.bit, Dev.bit, Dev.reg_of_seat hs hf]
  unfold Sampled
  simp (disch := with_unfolding_all exact id (on_ch hk (of_decide_eq_true rfl))) only [load, str, eq, start, goal, pos, post,
    fld, bit]
  exact h

/-- R154, R310, R322, R325, R326: stage 7 of all live strings takes the sample of string k through. -/
theorem Dev.stages7_sampled (hk : k < 8) (hl : k ∈ e.liveStrs) (hs : e.seat k = d.seat k) (hb : e.bench = d.takeMonitor.bench) :
    Sampled k b d (e.each e.liveStrs (fun d k => d.stage7 k b)) :=
  Dev.each_own (P := fun e => e.seat k = d.seat k ∧ e.bench = d.takeMonitor.bench) (Q := Sampled k b d) _ _
    (fun _ _ _ hj he => ⟨(Dev.seat_stage7_other hj.symm).trans he.1, Dev.bench_stage7.trans he.2⟩)
    (fun _ he => (Stands.of_seat hk he.1 he.2).sampled hk (Dev.stage7_sampled hk))
    (fun _ _ _ hj he => he.of_seat hk (Dev.seat_stage7_other hj.symm)) Dev.liveStrs_nodup hl ⟨hs, hb⟩

/-- The Sieve's monitor samples and the Stockpot, before stage 7. -/
def Dev.fedBase (d : Dev) (b : Nat) : Dev :=
  let d := d.sieveMonitor b
  if d.islandOk islLid then d.potBoundary else d

theorem Dev.fedSample_eq :
    d.fedSample b = ((d.fedBase b).each (d.fedBase b).liveStrs (fun d k => d.stage7 k b)).audioStage b := (rfl)

theorem Dev.seat_fedBase : (d.fedBase b).seat j = d.seat j :=
  Dev.seat_ite (Dev.seat_potBoundary.trans Dev.seat_sieveMonitor) Dev.seat_sieveMonitor

theorem Dev.bench_fedBase : (d.fedBase b).bench = d.takeMonitor.bench := by
  unfold Dev.fedBase
  dsimp only
  split
  · exact Dev.bench_potBoundary.trans Dev.bench_sieveMonitor
  · exact Dev.bench_sieveMonitor

theorem Dev.liveStrs_of_bench (h : e.bench = d.bench) : e.liveStrs = d.liveStrs := by
  have pwr : e.pwr = d.pwr := congrArg Bench.pwr h
  simp only [Dev.liveStrs, Dev.strs_of_bench h, Dev.islandOk_of_pwr pwr]

theorem Dev.liveStrs_takeMonitor : d.takeMonitor.liveStrs = d.liveStrs := by
  obtain ⟨v, hv⟩ := Dev.takeMonitor_eq (d := d)
  rw [hv]
  rfl

theorem Dev.liveStrs_fedBase : (d.fedBase b).liveStrs = d.liveStrs :=
  (Dev.liveStrs_of_bench Dev.bench_fedBase).trans Dev.liveStrs_takeMonitor

/-- R154, R310, R322, R325, R326: a boundary takes the sample of a live string through stage 7. -/
theorem Dev.boundary_sampled (hk : k < 8) (hl : k ∈ d.liveStrs) : Sampled k b d ((d.fedSample b).stored b) := by
  have stages := Dev.stages7_sampled (d := d) (e := d.fedBase b) (b := b) hk (by rwa [Dev.liveStrs_fedBase])
    Dev.seat_fedBase Dev.bench_fedBase
  rw [Dev.fedSample_eq]
  exact stages.of_seat hk (Dev.seat_stored.trans Dev.seat_audioStage)

end Sys2Proof.Machine
end

section
/-! The programme passes its gain, ramp and limiter, and the models set the demands (R154, R310, R322 to R327). -/
namespace Sys2Proof.Machine
variable {k : Nat} {s : State}

theorem live_of_liveStr (h : LiveStr s k) : k ∈ s.dev.liveStrs := Dev.live_of_rig h.rig h.1

/-- R154, R310, R322, R325, R326: PROGRAM_SAMPLE_BOUNDARY takes a sample of a live string through stage 7. -/
theorem programSample_sampled (hs : LiveStr s k) (hb : s.dev.sampleBoundary s.env = true) (hr : s.dev.aonRuns = true) :
    ∃ t, exec .programSampleBoundary s = .next t ∧ OnlyDev s t ∧ Sampled k s.env.tick s.dev t.dev := by
  have he := exec_programSample hb hr
  have sampled := Dev.boundary_sampled (b := s.env.tick) hs.1 (live_of_liveStr hs)
  generalize (s.dev.fedSample s.env.tick).stored s.env.tick = d at he sampled
  exact ⟨_, he, ⟨rfl, rfl, rfl⟩, sampled⟩

/-- R324: at the release the thermal model of a present string starts from its settings and its gain is 1. -/
theorem releaseTick_started (hdue : s.dev.releaseDue s.env = true) (hk : k < 8) (hp : s.dev.present k = true) :
    ∃ t, exec .releaseTick s = .next t ∧ t.pending = s.pending ∧ t.comps = s.comps ∧
      (vat t.dev.load k).tc = s.dev.fld (Fd.CHk_LM_TH2_TC0 k) * 2 ^ 23 ∧
      (vat t.dev.load k).tm = s.dev.fld (Fd.CHk_LM_TH2_TM0 k) * 2 ^ 23 ∧ t.dev.fld (Fd.CHk_LM_STATUS_GL k) = 32768 := by
  have started := Dev.release_started hk hp
  unfold RigStarted at started
  simp (disch := with_unfolding_all exact id (on_lm hk (of_decide_eq_true rfl))) only [Dev.rig_fld] at started
  refine ⟨{ s with env := { s.env with tick := 0, started := true }, dev := s.dev.release }, ?_, rfl, rfl, started⟩
  show execReleaseTick s = _
  simp [execReleaseTick, onEnvDev, hdue]

/-- Settles O14: each command brings the models of a string forward as its rules say, and the rest of the command leaves
what the models hold. -/
theorem loadModelsLimitTheProgramme : Obligations.LoadModelsLimitTheProgramme := by
  unfold Obligations.LoadModelsLimitTheProgramme
  refine ⟨fun k s hs hb hr => ?_, fun k s hs hst ht hr => ?_, fun k s hs hf ht hr hc => ?_,
    fun k s hdue hk hp => releaseTick_started hdue hk hp, fun k s hf hi hp hfr hl hst hn => ?_⟩
  · obtain ⟨t, he, only, sampled⟩ := programSample_sampled hs hb hr
    exact ⟨t, he, only, sampled⟩
  · have taken := Dev.outerLoop_taken (b := s.env.tick) hs.1 hs.rig
    unfold PowerTaken at taken
    simp (disch := with_unfolding_all exact id (on_lm hs.1 (of_decide_eq_true rfl))) only [Dev.rig_fld, Dev.rig_bit] at taken
    exact ⟨_, execOuterLoopBoundary_eq hst ht hr, ⟨rfl, rfl, rfl⟩, taken⟩
  · have taken := Dev.frameStart_taken hs.1 hs.rig hc
    unfold HeatTaken at taken
    simp (disch := with_unfolding_all exact id (on_lm hs.1 (of_decide_eq_true rfl))) only [Dev.rig_fld, Dev.rig_bit] at taken
    obtain ⟨tc, tm, sum, old, at_, hot, shown, cell, magnet, power, therm, flux, seen, floor⟩ := taken
    refine ⟨_, execRackFrameStart_eq hf ht hr, ⟨rfl, rfl, rfl⟩, tc, tm, sum, old, at_, hot, shown, cell, magnet, power, therm,
      flux, fun i hi => ?_, floor⟩
    refine (congrArg (fun v => vat v i) seen).trans ?_
    simp [vat, Vector.getD, hi]
  · have fresh := Dev.armComplete_fresh (f := s.env.tick) (t := s.env.tick) k.isLt hp hfr hl hst hn
    unfold RigFresh at fresh
    simp (disch := with_unfolding_all exact id (on_lm k.isLt (of_decide_eq_true rfl))) only [Dev.rig_fld, Dev.rig_bit] at fresh
    exact ⟨_, exec_armComplete hf hi, ⟨rfl, rfl, rfl⟩, fresh⟩

end Sys2Proof.Machine
end
